-- ==== Sys2Proof/Word.lean ====
section
/-! DEFINITION. The word types of the device (R10) and the sparse list every addressed storage is kept in. -/

namespace Sys2Proof

/-- A word is 32 bits (R10). -/
abbrev Word := BitVec 32

/-- A byte. -/
abbrev Byte := BitVec 8

/-- Sparse contents by key: keys strictly rising, no entry equal to what an unlisted key reads as. -/
abbrev Map (α : Type) := List (Nat × α)

/-- A frame as it travels on a link: its words in order (R174, R352, R416). -/
abbrev Frame := List Word

end Sys2Proof
end

