-- ==== Sys2Proof/Syntax.lean ====
section
/-! DEFINITION. The commands of spec/opcode_table.json, one constructor per row, and the types of their operands.
An operand carries what the environment decides: a written value, a received frame, a pin level, a measurement, an upset
of a memory codeword. -/

namespace Sys2Proof

/-- What a read of an RS(38,32) codeword meets (R41). Positions are those of the erroneous symbols. -/
inductive Ecc where
  /-- no erroneous symbol -/
  | clean
  /-- one or two erroneous symbols, corrected -/
  | corrected (sym : Fin 38) (second : Option (Fin 38))
  /-- three or four erroneous symbols, or more that are detected -/
  | uncorrectable
  /-- five or more erroneous symbols that are not detected: the data read is wrong -/
  | undetected
deriving DecidableEq, Repr

/-- A codeword met by the drain: physical slice 0-16 (16 = S) and codeword 0 or 1 of the row (R66, R213). -/
structure DrainEcc where
  slice : Fin 17
  cw : Fin 2
  ecc : Ecc
deriving DecidableEq, Repr

/-- What one slot tick meets: codewords of the drained row that are not clean, physical slices whose drain of the
tick before is still unfinished, and the time from tick to completion in ticks (R66, R72). -/
structure DrainIn where
  eccs : List DrainEcc
  unfinished : BitVec 17
  ticks : BitVec 16
deriving DecidableEq, Repr

/-- A work SRAM codeword (R228): region and number within it. -/
inductive WsLoc where
  /-- four ticket records of the primary (0) or mirror (1) half -/
  | ticket (half : Fin 2) (cw : Fin 8192)
  /-- eight columns of the delay table in force -/
  | delay (cw : Fin 256)
  /-- eight columns of the retained delay table -/
  | delayRetained (cw : Fin 256)
  /-- eight classes of one copy of the class table -/
  | cls (copy : Fin 2) (cw : Fin 2)
  /-- a descriptor in staging, by its place in the waiting order -/
  | descStaging (i : Fin 4096)
  /-- an event entry in staging, by its place in the waiting order -/
  | evtStaging (i : Fin 2048)
  /-- statistics accumulators: increments copy (false) or totals copy (true) -/
  | stats (totals : Bool) (cw : Fin 2048)
  /-- a codeword of a reserved region, by its number in work SRAM -/
  | reserved (cw : BitVec 15)
deriving DecidableEq, Repr

/-- The eight words of a submission entry read from host memory (R120). -/
structure RawDesc where
  w0 : Word
  w1 : Word
  w2 : Word
  w3 : Word
  w4 : Word
  w5 : Word
  w6 : Word
  w7 : Word
deriving DecidableEq, Repr

/-- Where a host request of one DW goes: a BAR, configuration space, or no BAR (R80, R84, R85). -/
inductive HostSpace where
  | bar0 | bar2 | config | noBar
deriving DecidableEq, Repr

/-- Host requests that break R85 or R105. -/
inductive TlpKind where
  /-- a read of more than one DW to BAR0 or BAR2 -/
  | longRead
  /-- a write of more than one DW to BAR0 or BAR2 -/
  | longWrite
  /-- a 1-DW write with a byte enable clear -/
  | partialWrite
  /-- any write to BAR4 -/
  | bar4Write
  /-- a poisoned write -/
  | poisoned
  /-- a malformed TLP, an unexpected completion, an ECRC error (R105) -/
  | malformed
  | unexpectedCpl
  | ecrc
  /-- an AtomicOp request (R79) -/
  | atomicOp
deriving DecidableEq, Repr

/-- Outcome of a converter calibration (R452-R455): measured offset and gain, or that it gave no measurement. -/
structure CalResult where
  offset : Int
  gain : Int
deriving DecidableEq, Repr

/-- Outcome of the Boot self-tests (R521, R212, R488). A 1 bit is a failure. -/
structure SelfTests where
  /-- lanes A, B, C -/
  lanes : BitVec 3
  /-- known answers of comparators X and Y -/
  cmp : BitVec 2
  /-- physical slices -/
  slices : BitVec 17
  /-- march test of work SRAM, or the descriptor check-value unit -/
  workSram : Bool
  /-- field die -/
  field : Bool
  /-- lane, FDL and image check-value units -/
  units : Bool
  /-- calibrations of ADC-P and ADC-Q -/
  calP : CalResult
  calQ : CalResult
  /-- valve ports -/
  ports : BitVec 16
  /-- Osrin links E, W -/
  osrin : BitVec 2
  /-- network ports -/
  net : BitVec 2
deriving DecidableEq, Repr

/-- An upset of a lane's copy of one input map entry: bit entry or word entry (R241, R242). -/
structure InFlip where
  lane : Fin 3
  word : Bool
  index : Nat
  value : Word
deriving DecidableEq, Repr

/-- What an exchange of input copies meets (R241, R242): upsets of copies, lanes whose copy is absent, and lane links that fail,
bit 3 × sender + receiver. -/
structure Exchange where
  flips : List InFlip
  absent : BitVec 3
  cut : BitVec 9
deriving DecidableEq, Repr

/-- What a scan boundary meets (R236-R244, R256, R270): the exchange of input copies, the ring period measured in each lane in ps,
gated domains whose supply has stayed within limits for 10 ms, and slices that fail the TEST of a restart (R526). -/
structure ScanIn where
  ex : Exchange
  ring : Vector Nat 3
  recovered : BitVec 9
  testFail : BitVec 17
deriving DecidableEq, Repr

/-- An upset of a lane during evaluation (R243-R246): a byte of its variables takes a value. -/
structure LaneUpset where
  lane : Fin 3
  addr : BitVec 14
  value : Byte
deriving DecidableEq, Repr

/-- What the evaluation phase meets: upsets, lanes that do not finish within the window, lanes that halt, lanes that
read an uncorrectable codeword (R239, R258, R43). -/
structure EvalIn where
  upsets : List LaneUpset
  late : BitVec 3
  halted : BitVec 3
  eccU : BitVec 3
deriving DecidableEq, Repr

/-- An upset of the result that a lane delivers to the comparators (R246): bits inverted in its four parts. -/
structure ResultUpset where
  lane : Fin 3
  cmds : BitVec 21
  holds : BitVec 16
  crc : Word
  digest : BitVec 64
deriving DecidableEq, Repr

/-- What the comparison phase meets (R246-R250, R265): upsets of delivered results; positions of the result in which comparator X or
Y sees no difference; bits of the verdict word that a fault of it inverts, and whether its known answers fail otherwise. -/
structure CmpIn where
  results : List ResultUpset
  blindX : BitVec 192
  blindY : BitVec 192
  xorX : BitVec 8
  xorY : BitVec 8
  kaFailX : Bool
  kaFailY : Bool
deriving DecidableEq, Repr

/-- What the field die meets at one sample instant (R351-R377): the comparators of its inputs and readback stages, the
current senses of SL12-SL15, the conduction senses of the three legs of every output, thermal shutdowns, and the two field
supplies in units of 10 mV. Output t is SO0-SO15 for 0-15 and SL12-SL15 for 16-19. -/
structure FieldIn where
  /-- inputs at or above V_ON -/
  atOn : BitVec 32
  /-- inputs at or below V_OFF -/
  atOff : BitVec 32
  /-- SO pins at or above 15.0 V, at or above 11.0 V, at or below 5.0 V -/
  so15 : BitVec 16
  so11 : BitVec 16
  so5 : BitVec 16
  /-- SL switches that carry more than 20 mA -/
  sl20 : BitVec 4
  /-- legs that conduct -/
  legAB : BitVec 20
  legBC : BitVec 20
  legCA : BitVec 20
  /-- switches in thermal shutdown -/
  thermal : BitVec 20
  fsA : BitVec 16
  fsB : BitVec 16
deriving DecidableEq, Repr

/-- An Ethernet frame as the MAC receives it (R390): a line violation inside it, the addresses, an optional tag, the type, the
payload bytes and the frame check sequence. -/
structure EthFrame where
  violation : Bool
  dst : BitVec 48
  src : BitVec 48
  tag : Option (BitVec 16)
  etype : BitVec 16
  payload : List Byte
  fcs : Word
deriving DecidableEq, Repr

/-- One edge of TCK: the levels of TRST_N, TMS and TDI, and whether the edge rises (R585). -/
structure TapIn where
  trstN : Bool
  tms : Bool
  tdi : Bool
  rising : Bool
deriving DecidableEq, Repr

/-- The commands: one constructor per row of spec/opcode_table.json, in its order. -/
inductive Instr where
  /-- REGISTER_WRITE (R13): host 1-DW write, to BAR0 unless another space is named. -/
  | registerWrite (off : BitVec 20) (val : BitVec 32) (space : HostSpace := .bar0)
  /-- REGISTER_RC_READ (R13): host 1-DW read; byte enables; the word a coinciding hardware event gives from the reset values (R14); of BAR0
  unless another space is named. -/
  | registerRcRead (off : BitVec 20) (be : BitVec 4) (event : Option (BitVec 32)) (space : HostSpace := .bar0)
  /-- POWER_UP (R517): pin levels at the moment VDD_AO enters its limits; field supplies that have stood above 19.2 V for 100 ms by then. -/
  | powerUp (rstN testMode : Bool) (ringId : BitVec 3) (fsHigh : BitVec 2)
  /-- REF100_ACCEPT (R25): measured deviation. -/
  | ref100Accept (dev : BitVec 16)
  /-- REF100_LOST (R26). -/
  | ref100Lost
  /-- POWERUP_SEQ_STEP (R37): supplies within limits at the step. -/
  | powerupSeqStep (inLimits : BitVec 12)
  /-- DOMAIN_LATE_OPEN (R37): gated domain. -/
  | domainLateOpen (d : Fin 9)
  /-- DOMAIN_OPEN_TIMEOUT (R37). -/
  | domainOpenTimeout (d : Fin 9)
  /-- DOMAIN_TRIP (R32): gated domain, 9 = VDD_AO, whose under-voltage is VDD_AO_LOSS; over or under voltage. -/
  | domainTrip (d : Fin 10) (high : Bool)
  /-- LANE_GATE_REOPEN (R33). -/
  | laneGateReopen (l : Fin 3)
  /-- VDD_AO_LOSS (R39). -/
  | vddAoLoss
  /-- TEST_MODE_RISE (R603). -/
  | testModeRise
  /-- RST_N_ASSERT (R517). -/
  | rstNAssert
  /-- RST_N_RELEASE (R517). -/
  | rstNRelease (ringId : BitVec 3) (testMode : Bool)
  /-- BOOT_SELFTEST_DONE (R521): outcome of every Boot self-test. -/
  | bootSelftestDone (r : SelfTests)
  /-- BOOT_CONFIG_READ_DONE (R540): codewords of each bank that do not read clean, by page, with the symbol position corrected, none
  where uncorrectable; the three seal reads. -/
  | bootConfigReadDone (hits0 hits1 : List (BitVec 6 × Option (BitVec 6))) (seal0 seal1 seal2 : BitVec 8)
  /-- BOOT_LOAD_DONE (R541): lanes that refuse by a fault of their own. -/
  | bootLoadDone (refuse : BitVec 3)
  /-- SUMP_RESTORE (R560): codewords that do not read clean, by page, with the symbol position corrected, none where
  uncorrectable. -/
  | sumpRestore (hits : List (BitVec 5 × Option (BitVec 6)))
  /-- PARTNER_WAIT_EXPIRE (R525). -/
  | partnerWaitExpire
  /-- SLOT_TICK (R66): ECC outcomes met by the drain, unfinished drains, time the drain took. -/
  | slotTick (io : DrainIn)
  /-- FIRE_LAUNCH (R187): logical slices whose fire bits have not reached their port. -/
  | fireLaunch (late : BitVec 16)
  /-- SLICE_RMW (R140): ECC outcome of the codeword read. -/
  | sliceRmw (p : Fin 17) (ecc : Ecc)
  /-- CE_INTERVAL (R226). -/
  | ceInterval
  /-- WORK_SRAM_SCRUB (R44): codeword met. -/
  | workSramScrub (loc : WsLoc) (ecc : Ecc)
  /-- LANE_SRAM_SCRUB (R44). -/
  | laneSramScrub (l : Fin 3) (ecc : Ecc)
  /-- RING_FETCH (R142). -/
  | ringFetch
  /-- FETCH_COMPLETION (R124): entries read from host memory. -/
  | fetchCompletion (ds : List RawDesc)
  /-- FETCH_ERROR (R103): the k-th oldest outstanding read request of ring 0 fails. -/
  | fetchError (k : BitVec 6 := 0)
  /-- DMA_RESUME (R103). -/
  | dmaResume
  /-- ADMIT_NOP (R125). -/
  | admitNop
  /-- ADMIT_MARK (R125). -/
  | admitMark
  /-- ADMIT_MARK_SPEC (R157). -/
  | admitMarkSpec
  /-- ADMIT_CONFIRM (R159). -/
  | admitConfirm
  /-- ADMIT_REVOKE (R159). -/
  | admitRevoke
  /-- ADMIT_FENCE (R138). -/
  | admitFence
  /-- ADMIT_INVALID_OPCODE (R121). -/
  | admitInvalidOpcode
  /-- DESC_COMPLETE (R134). -/
  | descComplete
  /-- NOTICE_WRITE (R149). -/
  | noticeWrite
  /-- EVENT_WRITE (R144). -/
  | eventWrite
  /-- TELEMETRY_RECORD (R145). -/
  | telemetryRecord
  /-- IRQ_HOLD_EXPIRE (R148). -/
  | irqHoldExpire (n : Fin 4)
  /-- TICKET_DEADLINE (R161). -/
  | ticketDeadline (t : BitVec 15)
  /-- BOOKED_WRITE (R165): next booked write of the ticket. -/
  | bookedWrite (t : BitVec 15) (ecc : Ecc)
  /-- RESOLUTION_DONE (R161). -/
  | resolutionDone (t : BitVec 15)
  /-- PERST_N_ASSERT (R106). -/
  | perstNAssert
  /-- PERST_N_RELEASE (R81). -/
  | perstNRelease
  /-- CONFIG_RESPONSE_READY (R81). -/
  | configResponseReady
  /-- LINK_RETRAIN (R82). -/
  | linkRetrain (width : BitVec 3) (speed : BitVec 4)
  /-- DATA_LINK_DOWN (R106). -/
  | dataLinkDown
  /-- FLR (R106). -/
  | flr
  /-- FLR_DONE (R106). -/
  | flrDone
  /-- D3HOT_ENTRY (R106). -/
  | d3hotEntry
  /-- D3HOT_EXIT (R106). -/
  | d3hotExit
  /-- BUS_MASTER_DISABLE (R104). -/
  | busMasterDisable
  /-- BUS_MASTER_ENABLE (R104). -/
  | busMasterEnable
  /-- TLP_VIOLATION (R105). -/
  | tlpViolation (kind : TlpKind) (addr : BitVec 32)
  /-- DIAG_READ (R86): offset, length in bytes, codewords (offset / 32) that do not read clean, with their outcomes. -/
  | diagRead (addr : BitVec 20) (len : Nat) (hits : List (Nat × Ecc))
  /-- DB_SUB_TAIL (R89). -/
  | dbSubTail (val : BitVec 32)
  /-- DB_CPL_HEAD (R114). -/
  | dbCplHead (val : BitVec 32)
  /-- DB_EVT_HEAD (R114). -/
  | dbEvtHead (val : BitVec 32)
  /-- DB_TEL_HEAD (R114). -/
  | dbTelHead (val : BitVec 32)
  /-- HEARTBEAT (R91). -/
  | heartbeat (val : BitVec 32)
  /-- HB_TIMEOUT (R93). -/
  | hbTimeout
  /-- NMT_RELEASE (R101). -/
  | nmtRelease
  /-- RING_ENABLE (R117): HIF_RING_CFG[n] write with ENABLE = 1. -/
  | ringEnable (n : Fin 4) (val : BitVec 32)
  /-- RING_DISABLE (R119): HIF_RING_CFG[n] write with ENABLE = 0. -/
  | ringDisable (n : Fin 4) (val : BitVec 32)
  /-- RING_DISABLE_DONE (R119). -/
  | ringDisableDone (n : Fin 4)
  /-- DISCOVER_SEND (R182). -/
  | discoverSend (n : Fin 16)
  /-- IDENT_RECEIVE (R183): frame words; round trip in tenths of ns. -/
  | identReceive (n : Fin 16) (f : Frame) (rtt : Nat)
  /-- CONFIG_ACK_RECEIVE (R185). -/
  | configAckReceive (n : Fin 16) (f : Frame)
  /-- CONFIG_ACK_TIMEOUT (R185). -/
  | configAckTimeout (n : Fin 16)
  /-- STATUS_RECEIVE (R187). -/
  | statusReceive (n : Fin 16) (f : Frame)
  /-- STATUS_DEADLINE (R202). -/
  | statusDeadline (n : Fin 16)
  /-- BURST_RECEIVE (R200). -/
  | burstReceive (n : Fin 16) (f : Frame)
  /-- BURST_GO (R199). -/
  | burstGo (val : BitVec 32)
  /-- BURST_TIMEOUT (R200). -/
  | burstTimeout
  /-- VP_FRAME_DROP (R201): drop for CRC, or for another cause. -/
  | vpFrameDrop (n : Fin 16) (crc : Bool)
  /-- VP_SYNC_LOSS (R173). -/
  | vpSyncLoss (n : Fin 16)
  /-- HALT_SEND (R196). -/
  | haltSend
  /-- SLICE_TEST (R232): CIS_SLC_CTRL write. -/
  | sliceTest (val : BitVec 32)
  /-- SLICE_MIGRATE (R232). -/
  | sliceMigrate (val : BitVec 32)
  /-- SLICE_RESTORE (R232). -/
  | sliceRestore (val : BitVec 32)
  /-- SLICE_OP_DONE (R232). -/
  | sliceOpDone (pass : Bool)
  /-- SAMPLE_FRAME_RECEIVE (R240). -/
  | sampleFrameReceive (l : Fin 3) (f : Frame)
  /-- SCAN_BOUNDARY (R238). -/
  | scanBoundary (io : ScanIn)
  /-- EVAL_PHASE (R295). -/
  | evalPhase (io : EvalIn)
  /-- RSW_SEND (R431). -/
  | rswSend
  /-- RING_AGREE (R434): the exchange of the ring words between the lanes, undisturbed unless said. -/
  | ringAgree (ex : Exchange := ⟨[], 0, 0⟩)
  /-- COMPARE_PHASE (R250). -/
  | comparePhase (io : CmpIn)
  /-- DRIVE_PHASE (R251). -/
  | drivePhase
  /-- REPAIR_TIMER_EXPIRE (R260). -/
  | repairTimerExpire
  /-- RECUR_CLEAR (R266). -/
  | recurClear
  /-- LANE_READMIT_REQ (R269). -/
  | laneReadmitReq (bits : BitVec 3)
  /-- LANE_TEST_REQ (R269). -/
  | laneTestReq (bits : BitVec 3)
  /-- LANE_SELFTEST_DONE (R270): self-test outcome; the reloaded image is refused. -/
  | laneSelftestDone (pass refuse : Bool)
  /-- AUTO_READMIT (R274). -/
  | autoReadmit (l : Fin 3)
  /-- FIELD_SAMPLE (R351). -/
  | fieldSample (io : FieldIn)
  /-- TP_PULSE (R361). -/
  | tpPulse (g : Fin 8)
  /-- TP_CHECK (R363): inputs at or below V_OFF at the check instant. -/
  | tpCheck (g : Fin 8) (low : BitVec 32)
  /-- DRIVE_FRAME_RECEIVE (R354). -/
  | driveFrameReceive (l : Fin 3) (f : Frame)
  /-- OFF_PULSE_END (R374): the next end of an off-pulse in the group. -/
  | offPulseEnd (grp : Fin 2)
  /-- ISLAND_TIMEOUT (R354). -/
  | islandTimeout (l : Fin 3)
  /-- FDL_LINK_SILENT (R21). -/
  | fdlLinkSilent (l : Fin 3)
  /-- FIELD_CONFIG_RECEIVE (R355): the configuration frames that the links delivered. -/
  | fieldConfigReceive (frames : Vector (Option Frame) 3)
  /-- FIELD_RESET_FRAME (R528): links that delivered it. -/
  | fieldResetFrame (links : BitVec 3)
  /-- WATCHDOG_EXPIRE (R381). -/
  | watchdogExpire
  /-- STUCK_TIMER_EXPIRE (R370). -/
  | stuckTimerExpire (t : Fin 20)
  /-- OUTPUT_OVL_TIMER (R371). -/
  | outputOvlTimer (t : Fin 20)
  /-- GROUP_OVL_TIMER (R371). -/
  | groupOvlTimer (g : Fin 2)
  /-- TP_OVL_TIMER (R365). -/
  | tpOvlTimer (g : Fin 8)
  /-- FS_LOW_ENTER (R377). -/
  | fsLowEnter (g : Fin 2)
  /-- FS_LOW_LEAVE (R377). -/
  | fsLowLeave (g : Fin 2)
  /-- FS_SAG (R377). -/
  | fsSag (g : Fin 2)
  /-- FS_MISSING (R377). -/
  | fsMissing (g : Fin 2)
  /-- NET_LINK_UP (R408). -/
  | netLinkUp (p : Fin 2) (fullDuplex : Bool)
  /-- NET_LINK_DOWN (R408). -/
  | netLinkDown (p : Fin 2)
  /-- ETH_FRAME_RECEIVE (R390). -/
  | ethFrameReceive (p : Fin 2) (e : EthFrame)
  /-- NET_QUAL_DONE (R408). -/
  | netQualDone (p : Fin 2)
  /-- NET_LOST_RECOVER (R408). -/
  | netLostRecover (p : Fin 2)
  /-- NET_PATH_SILENCE (R408). -/
  | netPathSilence (p : Fin 2) (n : Fin 32)
  /-- CONN_WATCHDOG_EXPIRE (R405). -/
  | connWatchdogExpire (n : Fin 32)
  /-- MDIO_GO (R387). -/
  | mdioGo (val : BitVec 32)
  /-- MDIO_DONE (R387). -/
  | mdioDone (data : BitVec 16)
  /-- OSR_SYNC_GAIN (R417). -/
  | osrSyncGain (p : Fin 2)
  /-- OSR_SYNC_LOSS (R418). -/
  | osrSyncLoss (p : Fin 2)
  /-- HELLO_SEND (R417). -/
  | helloSend (p : Fin 2)
  /-- HELLO_RECEIVE (R417). -/
  | helloReceive (p : Fin 2) (f : Frame) (rtt : Nat)
  /-- OSR_RTT_MEASURE (R417). -/
  | osrRttMeasure (p : Fin 2) (rtt : Nat)
  /-- OSR_LOST_EXPIRE (R418). -/
  | osrLostExpire (p : Fin 2)
  /-- OSR_FRAME_DROP (R418). -/
  | osrFrameDrop (p : Fin 2) (crc : Bool)
  /-- TIME_SEND (R419). -/
  | timeSend
  /-- TIME_RECEIVE (R420). -/
  | timeReceive (p : Fin 2) (f : Frame)
  /-- TIME_LOCK_TIMEOUT (R422). -/
  | timeLockTimeout
  /-- RING_SYNC_MARK (R423). -/
  | ringSyncMark
  /-- RING_SYNC_EDGE (R423): instant of the edge in ns after the present tick; none = no edge came for a mark. -/
  | ringSyncEdge (edge : Option (Fin 10))
  /-- FWD_RECEIVE (R427). -/
  | fwdReceive (p : Fin 2) (f : Frame)
  /-- ANS_RECEIVE (R427). -/
  | ansReceive (p : Fin 2) (f : Frame)
  /-- FWD_ANS_TIMEOUT (R428). -/
  | fwdAnsTimeout (fseq : BitVec 16)
  /-- RSW_RECEIVE (R433). -/
  | rswReceive (p : Fin 2) (f : Frame)
  /-- ADC_RESULT (R445): the calibrated count before clamping. -/
  | adcResult (c : Fin 2) (v : Int)
  /-- ADC_REG_TRIGGER (R447). -/
  | adcRegTrigger (c : Fin 2)
  /-- ADC_INJ_TRIGGER (R449). -/
  | adcInjTrigger (c : Fin 2)
  /-- ADC_INJ_GO (R448). -/
  | adcInjGo (val : BitVec 32)
  /-- ADC_SCAN_TRIGGER (R448): lanes that have sent the trigger. -/
  | adcScanTrigger (c : Fin 2) (lanes : BitVec 3)
  /-- ADC_CAL_REQ (R451). -/
  | adcCalReq (val : BitVec 32)
  /-- ADC_CAL_AUTO (R451). -/
  | adcCalAuto (c : Fin 2)
  /-- ADC_CAL_START (R452). -/
  | adcCalStart (c : Fin 2)
  /-- ADC_CAL_DONE (R455): measured coefficients. -/
  | adcCalDone (c : Fin 2) (offset gain : Int)
  /-- ADC_REF_FAULT (R443). -/
  | adcRefFault
  /-- TIMER_STEP (R468): one source event. -/
  | timerStep (n : Fin 8)
  /-- TC_CNT_WRITE (R474). -/
  | tcCntWrite (n : Fin 8) (val : BitVec 32)
  /-- TC_CMP_WRITE (R476). -/
  | tcCmpWrite (n : Fin 8) (k : Fin 2) (val : BitVec 32)
  /-- TC_CAP_CMD (R479). -/
  | tcCapCmd (n : Fin 8) (val : BitVec 32)
  /-- TC_CAPTURE (R480). -/
  | tcCapture (n : Fin 8) (k : Fin 2)
  /-- TC_FLAG_READ (R482). -/
  | tcFlagRead (n : Fin 8) (event : Option (BitVec 32))
  /-- CRC_START (R483). -/
  | crcStart (u : Fin 4)
  /-- CRC_DIN8 (R484). -/
  | crcDin8 (u : Fin 4) (val : BitVec 32)
  /-- CRC_DIN16 (R484). -/
  | crcDin16 (u : Fin 4) (val : BitVec 32)
  /-- CRC_DIN32 (R484). -/
  | crcDin32 (u : Fin 4) (val : BitVec 32)
  /-- FAULT_FORCE (R504). -/
  | faultForce (blk : Fin 16) (val : BitVec 32)
  /-- BLK_RESET (R502). -/
  | blkReset (blk : Fin 16)
  /-- CHIP_RESET (R503). -/
  | chipReset
  /-- ERR_RELEASE (R509). -/
  | errRelease
  /-- ERR_MIN_WIDTH_END (R509). -/
  | errMinWidthEnd
  /-- MODE_REQ_CONFIGURE (R516). -/
  | modeReqConfigure
  /-- MODE_REQ_RUN (R516). -/
  | modeReqRun
  /-- MODE_REQ_MAINTAIN (R516). -/
  | modeReqMaintain
  /-- DELIBERATE_RESET (R528). -/
  | deliberateReset (key : BitVec 8)
  /-- RESTART (R517). -/
  | restart (key : BitVec 8)
  /-- POWER_DOWN (R531). -/
  | powerDown (key : BitVec 8)
  /-- SEAL_COMPARE (R543). -/
  | sealCompare (seal0 seal1 seal2 : BitVec 8)
  /-- KEY_ASSERT (R542). -/
  | keyAssert
  /-- KEY_RELEASE (R542). -/
  | keyRelease
  /-- CFG_ERASE (R545). -/
  | cfgErase
  /-- CFG_PROGRAM (R545). -/
  | cfgProgram (page : BitVec 6)
  /-- CFG_FINISH (R545). -/
  | cfgFinish
  /-- CFG_VALIDATE (R548). -/
  | cfgValidate
  /-- CFG_CMD_DONE (R545): the page read back as written; the page of an uncorrectable codeword that the command met. -/
  | cfgCmdDone (verifyOk : Bool) (uncorr : Option (BitVec 6))
  /-- CFG_HOURLY_CHECK (R547): page and symbol of each correction; page of each uncorrectable codeword. -/
  | cfgHourlyCheck (corrected uncorrected : List (BitVec 6 × BitVec 6))
  /-- TXN_BEGIN (R550). -/
  | txnBegin
  /-- TXN_COMMIT (R552). -/
  | txnCommit
  /-- TXN_ROLLBACK (R550). -/
  | txnRollback
  /-- TXN_APPLY (R553). -/
  | txnApply
  /-- STATS_SECOND (R557): supply monitors in mV: domains 0-11, then the second supply of HS and NT. -/
  | statsSecond (mv : Vector (BitVec 16) 14)
  /-- SUMP_STORE_START (R561). -/
  | sumpStoreStart
  /-- SUMP_STORE_DONE (R561). -/
  | sumpStoreDone (ok : Bool)
  /-- VP_SYNC_GAIN (R173). -/
  | vpSyncGain (n : Fin 16)
  /-- DATA_LINK_UP (R82). -/
  | dataLinkUp (width : BitVec 3) (speed : BitVec 4)
  /-- MSIX_CONTROL_WRITE (R101). -/
  | msixControlWrite (enable mask : Bool)
  /-- FDL_LINK_SYNC_GAIN (R351). -/
  | fdlLinkSyncGain (l : Fin 3)
  /-- FIELD_SUPPLY_RETURN (R31). -/
  | fieldSupplyReturn (g : Fin 2)
  /-- PUMP_TOKEN_EXPIRE (R507). -/
  | pumpTokenExpire
  /-- PUMP_SQUARE_WAVE_EDGE (R507). -/
  | pumpSquareWaveEdge
  /-- JTAG_TAP_CLOCK (R585): TRST_N, TMS, TDI levels and the edge of TCK. -/
  | jtagTapClock (io : TapIn)
deriving DecidableEq, Repr

end Sys2Proof
end

