-- ==== Sys2Proof/Config.lean ====
section
/-! DEFINITION. What the spec leaves to the implementation or leaves open, as constants with no body. Nothing is known of
their values, so a claim that mentions one holds for every value of it. -/

namespace Sys2Proof.Config

/-- Free values, one per number of the counter `State.free` (log entry 6). -/
opaque freeWord : Nat → Word

/-- The MAC address of a network port, unique to the chip (R387, R411; log entry 11). -/
opaque mac : Fin 2 → BitVec 48

/-- The serial number of the device, unique per device (R79; log entry 11). -/
opaque serial : BitVec 64

/-- The factor K of each lane, set at production test (R256), in units of 1/65,536 (log entry 10). -/
opaque paceK : Fin 3 → Nat

/-- The supply in mV that a monitor sees at a grid instant, by the place of the supply in PWR_MON_SEL and the timebase (R39; log
entry 38). -/
opaque supplyMv : Nat → Nat → BitVec 16

/-- The serialisation over which the field die forms CFGCRC (R355; log entry 16). -/
opaque fieldBytes : List Word → List Byte

/-- Byte addresses of the retained delay table and of the second copy of the class table in work SRAM, which R228 does not map (log
entry 74). -/
opaque retainedBase : BitVec 20
opaque clsCopyBase : BitVec 20

/-- Offsets of the capability structures in configuration space: power management, PCI Express, MSI-X, then AER and the serial
number in the extended space (R79; log entry 73). -/
opaque capOff : Fin 5 → BitVec 12

end Sys2Proof.Config
end

