-- ==== Sys2Proof/Machine/Data.lean ====
section
/-! DEFINITION. Operations on plain data: sparse maps, vectors, bit fields, bytes and check values. -/

namespace Sys2Proof.Machine

/-! ### Sparse maps -/

/-- What a sparse map lists at a key. -/
def mget {α : Type} : Map α → Nat → Option α
  | [], _ => none
  | (a, x) :: m, k => if a = k then some x else mget m k

/-- What a sparse map reads as at a key, `d` where it lists nothing. -/
def mread {α : Type} (d : α) (m : Map α) (k : Nat) : α := (mget m k).getD d

/-- Without a key. -/
def mdel {α : Type} (m : Map α) (k : Nat) : Map α := m.filter fun e => e.1 != k

/-- With a value at a key, in its place. -/
def mins {α : Type} : Map α → Nat → α → Map α
  | [], k, v => [(k, v)]
  | (a, x) :: m, k, v =>
    if k < a then (k, v) :: (a, x) :: m
    else if k = a then (k, v) :: m
    else (a, x) :: mins m k v

/-- Write a value: a key that takes the value it reads as when unlisted is not listed. -/
def mput {α : Type} [DecidableEq α] (d : α) (m : Map α) (k : Nat) (v : α) : Map α :=
  if v = d then mdel m k else mins m k v

/-- The canonical form: keys strictly rising. -/
def mrising {α : Type} : Map α → Bool
  | [] => true
  | [_] => true
  | (a, _) :: (b, y) :: m => decide (a < b) && mrising ((b, y) :: m)

/-- The canonical form: rising, and no entry equal to what an unlisted key reads as (`d` by key). -/
def mwf {α : Type} [DecidableEq α] (d : Nat → α) (m : Map α) : Bool :=
  mrising m && m.all fun e => decide (e.2 ≠ d e.1)

/-! ### Vectors -/

/-- Change one element. -/
def vmod {α : Type} {n : Nat} (v : Vector α n) (i : Fin n) (f : α → α) : Vector α n := v.set i (f v[i])

/-- Every element from its index and value. -/
def vimap {α β : Type} {n : Nat} (f : Fin n → α → β) (v : Vector α n) : Vector β n := Vector.ofFn fun i => f i v[i]

/-! ### Bit fields -/

/-- Bits hi down to lo of a number. -/
def bitsOf (w hi lo : Nat) : Nat := w / 2 ^ lo % 2 ^ (hi + 1 - lo)

/-- A word with bits hi down to lo replaced. -/
def setBits (w : Word) (hi lo v : Nat) : Word :=
  let m : Word := BitVec.ofNat 32 ((2 ^ (hi + 1 - lo) - 1) * 2 ^ lo)
  (w &&& ~~~m) ||| (BitVec.ofNat 32 (v * 2 ^ lo) &&& m)

/-- The 1 bits of a bit vector, lowest first. -/
def ones {n : Nat} (b : BitVec n) : List Nat := (List.range n).filter fun i => b.getLsbD i

/-- How many bits are 1. -/
def popcount {n : Nat} (b : BitVec n) : Nat := (ones b).length

/-- A bit vector with bit i set to b. -/
def putBit {n : Nat} (v : BitVec n) (i : Nat) (b : Bool) : BitVec n :=
  if b then v ||| BitVec.ofNat n (2 ^ i) else v &&& ~~~(BitVec.ofNat n (2 ^ i))

/-- Bool as a number. -/
def b2n (b : Bool) : Nat := if b then 1 else 0

/-- Saturating addition to a counter of w bits. -/
def satAdd (w a b : Nat) : Nat := min (a + b) (2 ^ w - 1)

/-- A number in two's complement of w bits. -/
def toTwos (w : Nat) (i : Int) : Nat := (i % (2 ^ w : Int)).toNat

/-- A field of w bits read as two's complement. -/
def ofTwos (w n : Nat) : Int := if n < 2 ^ (w - 1) then (n : Int) else (n : Int) - 2 ^ w

/-! ### Bytes and words -/

/-- The four bytes of a word, least significant first (R10). -/
def wordBytes (w : Word) : List Byte :=
  [w.extractLsb' 0 8, w.extractLsb' 8 8, w.extractLsb' 16 8, w.extractLsb' 24 8]

/-- The bytes of a frame in the order in which they are sent (R174). -/
def frameBytes (f : Frame) : List Byte := f.flatMap wordBytes

/-- Words from bytes, least significant byte first; a rest shorter than a word is dropped. -/
def bytesWords : List Byte → List Word
  | a :: b :: c :: d :: l => (d ++ c ++ b ++ a) :: bytesWords l
  | _ => []

/-! ### Check values -/

/-- One step of a CRC register of w bits, most significant bit first. -/
def crcStep {w : Nat} (poly s : BitVec w) (b : Bool) : BitVec w :=
  if s.msb ^^ b then (s <<< 1) ^^^ poly else s <<< 1

/-- The bits of a byte, least significant first. -/
def byteBits (b : Byte) : List Bool := (List.range 8).map fun i => b.getLsbD i

/-- The bits of a bit vector reversed. -/
def revBits {w : Nat} (b : BitVec w) : BitVec w := b.reverse

/-- A CRC over bytes: input reflected or not, output reflected or not (R123, R245, R392). -/
def crcOf {w : Nat} (poly init xor : BitVec w) (refIn refOut : Bool) (bs : List Byte) : BitVec w :=
  let bits := bs.flatMap fun b => if refIn then byteBits b else (byteBits b).reverse
  let s := bits.foldl (crcStep poly) init
  (if refOut then revBits s else s) ^^^ xor

/-- CRC-32 with the parameters of R123. -/
def crc32 (bs : List Byte) : Word := crcOf 0x04C11DB7#32 0xFFFFFFFF#32 0xFFFFFFFF#32 true true bs

/-- CRC-64 with the parameters of R245. -/
def crc64 (bs : List Byte) : BitVec 64 := crcOf 0x42F0E1EBA9EA3693#64 0#64 0#64 false false bs

/-- CRC-32 over all words of a frame but the last. -/
def frameCrc (f : Frame) : Word := crc32 (frameBytes f.dropLast)

/-- The last word of a frame is the CRC-32 of the words before it (R174). -/
def frameGood (f : Frame) : Bool := !f.isEmpty && f.getLastD 0 == frameCrc f

/-- A frame with its CRC-32 appended. -/
def sealFrame (ws : List Word) : Frame := ws ++ [crc32 (frameBytes ws)]

/-- Word i of a frame, 0 beyond its end. -/
def fw (f : Frame) (i : Nat) : Nat := (f.getD i 0).toNat

end Sys2Proof.Machine
end

