-- ==== Sys2Proof/Machine/RegTable.lean ====
section
/-! DEFINITION. The register map: every register table of the spec, row by row (R11-R16). -/

namespace Sys2Proof.Machine

/-- Access column (R13). -/
inductive Access where
  | rw | ro | wo | w1c | rc
deriving DecidableEq, Repr

/-- One field: bits, Access, Reset, whether it is shadowed (R551) and whether it is loaded from the store (R537). -/
structure FieldRow where
  hi : Nat
  lo : Nat
  acc : Access
  reset : Nat
  shadowed : Bool
  loaded : Bool
deriving DecidableEq, Repr

/-- One register table: offset in BAR0, stride and count of its first and second index, fields. -/
structure RegRow where
  base : Nat
  stride : Nat
  count : Nat
  stride2 : Nat
  count2 : Nat
  fields : List FieldRow
deriving DecidableEq, Repr

/-- Registers of SYS. -/
def regsSys : List RegRow := [
  -- SYS_ID
  ⟨0x0, 0x4, 1, 4, 1, [⟨31, 0, .ro, 0x2048, false, false⟩]⟩,
  -- SYS_STEP
  ⟨0x4, 0x4, 1, 4, 1, [⟨11, 0, .ro, 0xa1, false, false⟩]⟩,
  -- SYS_ERR_CFG
  ⟨0xf400, 0x4, 1, 4, 1, [⟨29, 16, .rw, 0x3e8, true, true⟩, ⟨14, 8, .rw, 0xa, true, true⟩, ⟨0, 0, .rw, 0, true, true⟩]⟩,
  -- SYS_ERR_STAT
  ⟨0xf404, 0x4, 1, 4, 1, [⟨4, 4, .ro, 0, false, false⟩, ⟨2, 2, .ro, 0, false, false⟩, ⟨1, 1, .ro, 0, false, false⟩, ⟨0, 0, .ro, 0, false, false⟩]⟩,
  -- SYS_ERR_REL
  ⟨0xf408, 0x4, 1, 4, 1, [⟨0, 0, .wo, 0, false, false⟩]⟩,
  -- SYS_FLT_CHIP
  ⟨0xf40c, 0x4, 1, 4, 1, [⟨31, 31, .ro, 0, false, false⟩, ⟨19, 16, .ro, 0, false, false⟩, ⟨4, 0, .ro, 0, false, false⟩]⟩,
  -- SYS_MODE
  ⟨0x10, 0x4, 1, 4, 1, [⟨6, 4, .ro, 0, false, false⟩, ⟨2, 0, .ro, 0, false, false⟩]⟩,
  -- SYS_MODE_REQ
  ⟨0x14, 0x4, 1, 4, 1, [⟨31, 31, .wo, 0, false, false⟩, ⟨2, 0, .rw, 0, false, false⟩]⟩,
  -- SYS_CTRL
  ⟨0x18, 0x4, 1, 4, 1, [⟨15, 8, .wo, 0, false, false⟩, ⟨2, 2, .wo, 0, false, false⟩, ⟨1, 1, .wo, 0, false, false⟩, ⟨0, 0, .wo, 0, false, false⟩]⟩,
  -- SYS_REQ_STAT
  ⟨0x1c, 0x4, 1, 4, 1, [⟨31, 31, .w1c, 0, false, false⟩, ⟨17, 17, .ro, 0, false, false⟩, ⟨16, 16, .ro, 0, false, false⟩, ⟨15, 12, .ro, 0, false, false⟩, ⟨10, 8, .ro, 0, false, false⟩, ⟨7, 4, .ro, 0, false, false⟩, ⟨2, 0, .ro, 0, false, false⟩]⟩,
  -- SYS_RST_CAUSE
  ⟨0x20, 0x4, 1, 4, 1, [⟨3, 3, .ro, 0, false, false⟩, ⟨2, 2, .ro, 0, false, false⟩, ⟨1, 1, .ro, 0, false, false⟩, ⟨0, 0, .ro, 0, false, false⟩]⟩,
  -- SYS_BOOT
  ⟨0x24, 0x4, 1, 4, 1, [⟨31, 16, .ro, 0, false, false⟩, ⟨8, 8, .ro, 0, false, false⟩, ⟨3, 0, .ro, 1, false, false⟩]⟩,
  -- SYS_STEST
  ⟨0x28, 0x4, 1, 4, 1, [⟨15, 0, .ro, 0, false, false⟩]⟩,
  -- SYS_PARTNER
  ⟨0x2c, 0x4, 1, 4, 1, [⟨25, 16, .ro, 0x64, false, true⟩, ⟨8, 8, .ro, 0, false, true⟩, ⟨4, 4, .ro, 0, false, false⟩, ⟨3, 3, .ro, 0, false, false⟩, ⟨2, 2, .ro, 0, false, false⟩, ⟨1, 1, .ro, 0, false, false⟩, ⟨0, 0, .ro, 0, false, false⟩]⟩,
  -- SYS_DRST_CFG
  ⟨0x30, 0x4, 1, 4, 1, [⟨5, 0, .ro, 0x3f, false, true⟩]⟩]

/-- Registers of PWR. -/
def regsPwr : List RegRow := [
  -- PWR_DOM_STAT
  ⟨0xd0000, 0x4, 1, 4, 1, [⟨11, 0, .ro, 0, false, false⟩]⟩,
  -- PWR_DOM_GATE
  ⟨0xd0004, 0x4, 1, 4, 1, [⟨8, 8, .ro, 0, false, false⟩, ⟨6, 6, .ro, 0, false, false⟩]⟩,
  -- PWR_UV_FLAG
  ⟨0xd0008, 0x4, 1, 4, 1, [⟨11, 0, .w1c, 0, false, false⟩]⟩,
  -- PWR_OV_FLAG
  ⟨0xd000c, 0x4, 1, 4, 1, [⟨11, 0, .w1c, 0, false, false⟩]⟩,
  -- PWR_MON_SEL
  ⟨0xd0010, 0x4, 1, 4, 1, [⟨4, 4, .rw, 0, false, false⟩, ⟨3, 0, .rw, 0, false, false⟩]⟩,
  -- PWR_MON_VAL
  ⟨0xd0014, 0x4, 1, 4, 1, [⟨15, 0, .ro, 0, false, false⟩]⟩,
  -- PWR_REF_STAT
  ⟨0xd0018, 0x4, 1, 4, 1, [⟨31, 16, .ro, 0, false, false⟩, ⟨1, 1, .w1c, 0, false, false⟩, ⟨0, 0, .ro, 0, false, false⟩]⟩]

/-- Registers of CIS. -/
def regsCis : List RegRow := [
  -- CIS_SLOT
  ⟨0x20000, 0x4, 1, 4, 1, [⟨13, 0, .rw, 0x3e8, true, true⟩]⟩,
  -- CIS_LEAD
  ⟨0x20004, 0x4, 1, 4, 1, [⟨11, 0, .rw, 0x78, true, true⟩]⟩,
  -- CIS_STAT
  ⟨0x20008, 0x4, 1, 4, 1, [⟨27, 16, .ro, 0, false, false⟩, ⟨1, 1, .ro, 0, false, false⟩, ⟨0, 0, .ro, 0, false, false⟩]⟩,
  -- CIS_EPOCH_LO
  ⟨0x20010, 0x4, 1, 4, 1, [⟨31, 0, .ro, 0, false, false⟩]⟩,
  -- CIS_EPOCH_HI
  ⟨0x20014, 0x4, 1, 4, 1, [⟨31, 0, .ro, 0, false, false⟩]⟩,
  -- CIS_EPOCH_SLOT_LO
  ⟨0x20018, 0x4, 1, 4, 1, [⟨31, 0, .ro, 0, false, false⟩]⟩,
  -- CIS_EPOCH_SLOT_HI
  ⟨0x2001c, 0x4, 1, 4, 1, [⟨31, 0, .ro, 0, false, false⟩]⟩,
  -- CIS_SLOTNO_LO
  ⟨0x20020, 0x4, 1, 4, 1, [⟨31, 0, .ro, 0, false, false⟩]⟩,
  -- CIS_SLOTNO_HI
  ⟨0x20024, 0x4, 1, 4, 1, [⟨31, 0, .ro, 0, false, false⟩]⟩,
  -- CIS_DRAIN_MAX
  ⟨0x20028, 0x4, 1, 4, 1, [⟨15, 0, .rc, 0, false, false⟩]⟩,
  -- CIS_DLY[c]
  ⟨0x24000, 0x4, 2048, 4, 1, [⟨31, 31, .ro, 0, false, false⟩, ⟨19, 16, .rw, 0, true, true⟩, ⟨15, 0, .rw, 0, true, true⟩]⟩,
  -- CIS_CLS[q]
  ⟨0x26000, 0x4, 16, 4, 1, [⟨16, 16, .rw, 0, true, true⟩, ⟨11, 8, .rw, 0, true, true⟩, ⟨7, 0, .rw, 0, true, true⟩]⟩,
  -- CIS_TKT_OPEN
  ⟨0x20030, 0x4, 1, 4, 1, [⟨31, 16, .rc, 0, false, false⟩, ⟨15, 0, .ro, 0, false, false⟩]⟩,
  -- CIS_OVF_CNT
  ⟨0x20034, 0x4, 1, 4, 1, [⟨31, 0, .rc, 0, false, false⟩]⟩,
  -- CIS_UNDER_CNT
  ⟨0x20038, 0x4, 1, 4, 1, [⟨31, 0, .rc, 0, false, false⟩]⟩,
  -- CIS_RES_CNT
  ⟨0x2003c, 0x4, 1, 4, 1, [⟨31, 16, .rc, 0, false, false⟩, ⟨15, 0, .rc, 0, false, false⟩]⟩,
  -- CIS_RES_WAIT
  ⟨0x20040, 0x4, 1, 4, 1, [⟨31, 0, .rc, 0, false, false⟩]⟩,
  -- CIS_TKT_GEN
  ⟨0x20044, 0x4, 1, 4, 1, [⟨31, 16, .ro, 0, false, false⟩, ⟨0, 0, .ro, 0, false, false⟩]⟩,
  -- CIS_SLC_MAP
  ⟨0x20050, 0x4, 1, 4, 1, [⟨31, 16, .ro, 0, false, false⟩, ⟨8, 8, .ro, 0, false, false⟩, ⟨7, 7, .ro, 0, false, false⟩, ⟨3, 0, .ro, 0, false, false⟩]⟩,
  -- CIS_SLC_FAIL
  ⟨0x20054, 0x4, 1, 4, 1, [⟨16, 0, .ro, 0, false, false⟩]⟩,
  -- CIS_SLC_CTRL
  ⟨0x20058, 0x4, 1, 4, 1, [⟨31, 31, .wo, 0, false, false⟩, ⟨9, 8, .rw, 0, false, false⟩, ⟨4, 0, .rw, 0, false, false⟩]⟩,
  -- CIS_SLC_CSTAT
  ⟨0x2005c, 0x4, 1, 4, 1, [⟨3, 3, .w1c, 0, false, false⟩, ⟨2, 2, .ro, 0, false, false⟩, ⟨1, 1, .w1c, 0, false, false⟩, ⟨0, 0, .ro, 0, false, false⟩]⟩,
  -- CIS_CE_LIM
  ⟨0x20060, 0x4, 1, 4, 1, [⟨15, 0, .rw, 0, true, true⟩]⟩,
  -- CIS_DARK_CNT
  ⟨0x20064, 0x4, 1, 4, 1, [⟨31, 0, .rc, 0, false, false⟩]⟩,
  -- CIS_WS_CNT
  ⟨0x20068, 0x4, 1, 4, 1, [⟨31, 16, .rc, 0, false, false⟩, ⟨15, 0, .rc, 0, false, false⟩]⟩,
  -- CIS_WS_STAT
  ⟨0x2006c, 0x4, 1, 4, 1, [⟨0, 0, .ro, 0, false, false⟩]⟩,
  -- CIS_CE_CNT[p]
  ⟨0x20100, 0x4, 17, 4, 1, [⟨31, 16, .ro, 0, false, false⟩, ⟨15, 0, .rc, 0, false, false⟩]⟩]

/-- Registers of HIF. -/
def regsHif : List RegRow := [
  -- HIF_LINK_STAT
  ⟨0x10000, 0x4, 1, 4, 1, [⟨8, 8, .ro, 0, false, false⟩, ⟨7, 7, .ro, 0, false, false⟩, ⟨6, 4, .ro, 0, false, false⟩, ⟨3, 0, .ro, 0, false, false⟩]⟩,
  -- HIF_LINK_MIN
  ⟨0x10004, 0x4, 1, 4, 1, [⟨6, 4, .rw, 1, false, false⟩, ⟨3, 0, .rw, 1, false, false⟩]⟩,
  -- HIF_HB_TO
  ⟨0x10010, 0x4, 1, 4, 1, [⟨9, 0, .rw, 0x64, true, true⟩]⟩,
  -- HIF_HB_STAT
  ⟨0x10014, 0x4, 1, 4, 1, [⟨16, 16, .ro, 1, false, false⟩, ⟨15, 0, .ro, 0, false, false⟩]⟩,
  -- HIF_HB_AGE
  ⟨0x10018, 0x4, 1, 4, 1, [⟨31, 0, .ro, 0xffffffff, false, false⟩]⟩,
  -- HIF_DMA_STAT
  ⟨0x10020, 0x4, 1, 4, 1, [⟨4, 1, .w1c, 0, false, false⟩, ⟨0, 0, .ro, 0, false, false⟩]⟩,
  -- HIF_DMA_CTRL
  ⟨0x10024, 0x4, 1, 4, 1, [⟨0, 0, .wo, 0, false, false⟩]⟩,
  -- HIF_NMT_SRC
  ⟨0x10030, 0x4, 1, 4, 1, [⟨31, 31, .w1c, 0, false, false⟩, ⟨19, 16, .ro, 0, false, false⟩, ⟨15, 0, .ro, 0, false, false⟩]⟩,
  -- HIF_NMT_CNT
  ⟨0x10034, 0x4, 1, 4, 1, [⟨31, 0, .rc, 0, false, false⟩]⟩,
  -- HIF_DIAG_STAT
  ⟨0x10040, 0x4, 1, 4, 1, [⟨1, 1, .w1c, 0, false, false⟩, ⟨0, 0, .ro, 0, false, false⟩]⟩,
  -- HIF_VIOL_CNT
  ⟨0x10044, 0x4, 1, 4, 1, [⟨31, 16, .rc, 0, false, false⟩, ⟨15, 0, .rc, 0, false, false⟩]⟩,
  -- HIF_RING_BASE_LO[n]
  ⟨0x11000, 0x40, 4, 4, 1, [⟨31, 12, .rw, 0, false, false⟩]⟩,
  -- HIF_RING_BASE_HI[n]
  ⟨0x11004, 0x40, 4, 4, 1, [⟨31, 0, .rw, 0, false, false⟩]⟩,
  -- HIF_RING_CFG[n]
  ⟨0x11008, 0x40, 4, 4, 1, [⟨31, 31, .rw, 0, false, false⟩, ⟨30, 30, .ro, 0, false, false⟩, ⟨4, 0, .rw, 6, false, false⟩]⟩,
  -- HIF_RING_PTR[n]
  ⟨0x1100c, 0x40, 4, 4, 1, [⟨16, 16, .ro, 0, false, false⟩, ⟨15, 0, .ro, 0, false, false⟩]⟩,
  -- HIF_RING_IRQ[n]
  ⟨0x11010, 0x40, 4, 4, 1, [⟨31, 16, .rw, 0, false, false⟩, ⟨15, 8, .rw, 1, false, false⟩, ⟨4, 0, .rw, 0, false, false⟩]⟩,
  -- HIF_RING_LOST[n]
  ⟨0x11014, 0x40, 4, 4, 1, [⟨31, 0, .rc, 0, false, false⟩]⟩,
  -- HIF_STAT_CNT[s]
  ⟨0x11100, 0x4, 11, 4, 1, [⟨31, 0, .rc, 0, false, false⟩]⟩,
  -- HIF_TEL_PER
  ⟨0x11200, 0x4, 1, 4, 1, [⟨9, 0, .rw, 0, false, false⟩]⟩,
  -- HIF_EVT_STAT
  ⟨0x11204, 0x4, 1, 4, 1, [⟨27, 16, .ro, 0, false, false⟩, ⟨0, 0, .w1c, 0, false, false⟩]⟩,
  -- HIF_ADM_STAT
  ⟨0x11208, 0x4, 1, 4, 1, [⟨31, 16, .ro, 0, false, false⟩, ⟨12, 0, .ro, 0x1000, false, false⟩]⟩]

/-- Registers of VPT. -/
def regsVpt : List RegRow := [
  -- VPT_EN
  ⟨0x30000, 0x4, 1, 4, 1, [⟨15, 0, .rw, 0, true, true⟩]⟩,
  -- VPT_CTRL
  ⟨0x30004, 0x4, 1, 4, 1, [⟨0, 0, .rw, 1, true, true⟩]⟩,
  -- VPT_ERR_LIM
  ⟨0x30008, 0x4, 1, 4, 1, [⟨7, 0, .rw, 4, true, true⟩]⟩,
  -- VPT_READY
  ⟨0x3000c, 0x4, 1, 4, 1, [⟨31, 16, .w1c, 0, false, false⟩, ⟨15, 0, .ro, 0, false, false⟩]⟩,
  -- VPT_BURST_CTRL
  ⟨0x30010, 0x4, 1, 4, 1, [⟨31, 31, .wo, 0, false, false⟩, ⟨10, 4, .rw, 0, false, false⟩, ⟨3, 0, .rw, 0, false, false⟩]⟩,
  -- VPT_BURST_STAT
  ⟨0x30014, 0x4, 1, 4, 1, [⟨31, 24, .ro, 0, false, false⟩, ⟨3, 3, .w1c, 0, false, false⟩, ⟨2, 2, .w1c, 0, false, false⟩, ⟨1, 1, .w1c, 0, false, false⟩, ⟨0, 0, .ro, 0, false, false⟩]⟩,
  -- VPT_PORT_STAT[n]
  ⟨0x30100, 0x20, 16, 4, 1, [⟨31, 24, .ro, 0, false, false⟩, ⟨23, 16, .ro, 0, false, false⟩, ⟨15, 8, .ro, 0, false, false⟩, ⟨6, 4, .ro, 0, false, false⟩, ⟨2, 0, .ro, 0, false, false⟩]⟩,
  -- VPT_PORT_ID[n]
  ⟨0x30104, 0x20, 16, 4, 1, [⟨31, 16, .ro, 0, false, false⟩, ⟨15, 0, .ro, 0, false, false⟩]⟩,
  -- VPT_PORT_SER[n]
  ⟨0x30108, 0x20, 16, 4, 1, [⟨31, 0, .ro, 0, false, false⟩]⟩,
  -- VPT_PORT_VER[n]
  ⟨0x3010c, 0x20, 16, 4, 1, [⟨24, 24, .ro, 0, false, false⟩, ⟨19, 16, .ro, 0, false, false⟩, ⟨15, 8, .ro, 0, false, false⟩, ⟨7, 0, .ro, 0, false, false⟩]⟩,
  -- VPT_PORT_ERR[n]
  ⟨0x30110, 0x20, 16, 4, 1, [⟨31, 16, .rc, 0, false, false⟩, ⟨15, 0, .rc, 0, false, false⟩]⟩,
  -- VPT_PORT_MISS[n]
  ⟨0x30114, 0x20, 16, 4, 1, [⟨31, 24, .rc, 0, false, false⟩, ⟨23, 16, .ro, 0, false, false⟩, ⟨15, 0, .rc, 0, false, false⟩]⟩,
  -- VPT_PORT_EXP[n]
  ⟨0x30118, 0x20, 16, 4, 1, [⟨31, 16, .rw, 0, true, true⟩, ⟨15, 0, .rw, 0, true, true⟩]⟩,
  -- VPT_PORT_REQ[n]
  ⟨0x3011c, 0x20, 16, 4, 1, [⟨9, 9, .rw, 0, true, true⟩, ⟨8, 8, .rw, 0, true, true⟩, ⟨7, 0, .rw, 0x80, true, true⟩]⟩,
  -- VPT_COIL[n][w]
  ⟨0x30400, 0x20, 16, 4, 8, [⟨31, 0, .ro, 0, false, false⟩]⟩,
  -- VPT_BURST_DATA[i]
  ⟨0x30800, 0x4, 32, 4, 1, [⟨31, 16, .ro, 0, false, false⟩, ⟨15, 0, .ro, 0, false, false⟩]⟩]

/-- Registers of LAN. -/
def regsLan : List RegRow := [
  -- LAN_SCAN
  ⟨0x40000, 0x4, 1, 4, 1, [⟨20, 0, .ro, 0x186a0, false, false⟩]⟩,
  -- LAN_EVAL
  ⟨0x40004, 0x4, 1, 4, 1, [⟨20, 0, .ro, 0x17700, false, false⟩]⟩,
  -- LAN_IMG
  ⟨0x40008, 0x4, 1, 4, 1, [⟨30, 16, .ro, 0, false, false⟩, ⟨11, 0, .ro, 0, false, false⟩]⟩,
  -- LAN_STAT
  ⟨0x4000c, 0x4, 1, 4, 1, [⟨17, 16, .ro, 0, false, false⟩, ⟨13, 13, .ro, 0, false, false⟩, ⟨12, 12, .ro, 0, false, false⟩, ⟨10, 8, .ro, 0, false, false⟩, ⟨6, 4, .ro, 0, false, false⟩, ⟨2, 0, .ro, 0, false, false⟩]⟩,
  -- LAN_SCANNO
  ⟨0x40010, 0x4, 1, 4, 1, [⟨31, 0, .ro, 0, false, false⟩]⟩,
  -- LAN_CTRL
  ⟨0x40014, 0x4, 1, 4, 1, [⟨6, 4, .wo, 0, false, false⟩, ⟨2, 0, .wo, 0, false, false⟩]⟩,
  -- LAN_CSTAT
  ⟨0x40018, 0x4, 1, 4, 1, [⟨31, 31, .w1c, 0, false, false⟩, ⟨5, 4, .ro, 0, false, false⟩, ⟨2, 0, .ro, 0, false, false⟩]⟩,
  -- LAN_CFG
  ⟨0x4001c, 0x4, 1, 4, 1, [⟨11, 8, .ro, 8, false, true⟩, ⟨0, 0, .ro, 0, false, true⟩]⟩,
  -- LAN_REPAIR
  ⟨0x40020, 0x4, 1, 4, 1, [⟨31, 0, .ro, 0xffffffff, false, false⟩]⟩,
  -- LAN_VERDICT
  ⟨0x40024, 0x4, 1, 4, 1, [⟨31, 16, .ro, 0, false, false⟩, ⟨15, 8, .ro, 0, false, false⟩, ⟨7, 0, .ro, 0, false, false⟩]⟩,
  -- LAN_CMP_STAT
  ⟨0x40028, 0x4, 1, 4, 1, [⟨3, 3, .w1c, 0, false, false⟩, ⟨2, 2, .ro, 0, false, false⟩, ⟨1, 1, .ro, 0, false, false⟩, ⟨0, 0, .ro, 0, false, false⟩]⟩,
  -- LAN_PACE[l]
  ⟨0x40030, 0x10, 3, 4, 1, [⟨31, 16, .ro, 0, false, false⟩, ⟨15, 8, .rc, 0xff, false, false⟩, ⟨7, 0, .ro, 0xff, false, false⟩]⟩,
  -- LAN_IN_CNT[l]
  ⟨0x40034, 0x10, 3, 4, 1, [⟨23, 16, .ro, 0, false, false⟩, ⟨15, 0, .rc, 0, false, false⟩]⟩,
  -- LAN_RETIRE[l]
  ⟨0x40038, 0x10, 3, 4, 1, [⟨15, 8, .ro, 0, false, false⟩, ⟨7, 0, .ro, 0, false, false⟩]⟩,
  -- LAN_DIG_LO[l]
  ⟨0x40060, 0x8, 3, 4, 1, [⟨31, 0, .ro, 0, false, false⟩]⟩,
  -- LAN_DIG_HI[l]
  ⟨0x40064, 0x8, 3, 4, 1, [⟨31, 0, .ro, 0, false, false⟩]⟩,
  -- LAN_IMG_SIG
  ⟨0x40080, 0x4, 1, 4, 1, [⟨31, 0, .ro, 0, false, false⟩]⟩,
  -- LAN_IMG_VER
  ⟨0x40084, 0x4, 1, 4, 1, [⟨31, 16, .ro, 0, false, false⟩, ⟨15, 8, .ro, 0, false, false⟩, ⟨7, 0, .ro, 0, false, false⟩]⟩,
  -- LAN_BLK_FLT
  ⟨0x40088, 0x4, 1, 4, 1, [⟨31, 31, .w1c, 0, false, false⟩, ⟨23, 16, .ro, 0, false, false⟩, ⟨13, 12, .ro, 0, false, false⟩, ⟨10, 0, .ro, 0, false, false⟩]⟩,
  -- LAN_BLK_CNT
  ⟨0x4008c, 0x4, 1, 4, 1, [⟨15, 0, .rc, 0, false, false⟩]⟩]

/-- Registers of FLD. -/
def regsFld : List RegRow := [
  -- FLD_STAT
  ⟨0x50000, 0x4, 1, 4, 1, [⟨7, 7, .ro, 0, false, false⟩, ⟨6, 6, .ro, 0, false, false⟩, ⟨3, 3, .ro, 0, false, false⟩, ⟨2, 2, .ro, 0, false, false⟩, ⟨1, 1, .ro, 0, false, false⟩, ⟨0, 0, .ro, 0, false, false⟩]⟩,
  -- FLD_SUP_MV
  ⟨0x50004, 0x4, 1, 4, 1, [⟨31, 16, .ro, 0, false, false⟩, ⟨15, 0, .ro, 0, false, false⟩]⟩,
  -- FLD_WDG
  ⟨0x50008, 0x4, 1, 4, 1, [⟨3, 0, .rw, 4, true, true⟩]⟩,
  -- FLD_SI_STATE
  ⟨0x50010, 0x4, 1, 4, 1, [⟨31, 0, .ro, 0, false, false⟩]⟩,
  -- FLD_SI_OK
  ⟨0x50014, 0x4, 1, 4, 1, [⟨31, 0, .ro, 0, false, false⟩]⟩,
  -- FLD_SO_RB
  ⟨0x50018, 0x4, 1, 4, 1, [⟨19, 16, .ro, 0, false, false⟩, ⟨15, 0, .ro, 0, false, false⟩]⟩,
  -- FLD_SO_OK
  ⟨0x5001c, 0x4, 1, 4, 1, [⟨19, 16, .ro, 0, false, false⟩, ⟨15, 0, .ro, 0, false, false⟩]⟩,
  -- FLD_TEST_STAT
  ⟨0x50020, 0x4, 1, 4, 1, [⟨31, 31, .w1c, 0, false, false⟩, ⟨9, 8, .ro, 0, false, false⟩, ⟨6, 5, .ro, 0, false, false⟩, ⟨4, 0, .ro, 0, false, false⟩]⟩,
  -- FLD_LINK_ERR
  ⟨0x50024, 0x4, 1, 4, 1, [⟨23, 16, .rc, 0, false, false⟩, ⟨15, 8, .rc, 0, false, false⟩, ⟨7, 0, .rc, 0, false, false⟩]⟩,
  -- FLD_CFG_CRC
  ⟨0x50028, 0x4, 1, 4, 1, [⟨31, 0, .ro, 0, false, false⟩]⟩,
  -- FLD_SI_CFG[i]
  ⟨0x50100, 0x4, 32, 4, 1, [⟨20, 20, .rw, 1, true, true⟩, ⟨19, 16, .rw, 0xf, true, true⟩, ⟨13, 8, .rw, 0x14, true, true⟩, ⟨5, 0, .rw, 0x20, true, true⟩]⟩,
  -- FLD_FILT_LIM[i]
  ⟨0x50200, 0x4, 32, 4, 1, [⟨11, 0, .rw, 1, true, true⟩]⟩,
  -- FLD_SO_CFG[t]
  ⟨0x50300, 0x4, 20, 4, 1, [⟨31, 24, .ro, 0, false, true⟩, ⟨23, 16, .ro, 0, false, true⟩, ⟨9, 9, .ro, 0, false, true⟩, ⟨8, 8, .ro, 0, false, true⟩, ⟨7, 0, .rw, 0xa, true, true⟩]⟩]

/-- Registers of NET. -/
def regsNet : List RegRow := [
  -- NET_NODE
  ⟨0x60000, 0x4, 1, 4, 1, [⟨15, 0, .ro, 0, false, true⟩]⟩,
  -- NET_ETYPE
  ⟨0x60004, 0x4, 1, 4, 1, [⟨15, 0, .rw, 0x88b5, true, true⟩]⟩,
  -- NET_QUAL
  ⟨0x60008, 0x4, 1, 4, 1, [⟨13, 0, .rw, 0x3e8, true, true⟩]⟩,
  -- NET_ERR_LIM
  ⟨0x6000c, 0x4, 1, 4, 1, [⟨7, 0, .rw, 4, true, true⟩]⟩,
  -- NET_CONN_OK
  ⟨0x60010, 0x4, 1, 4, 1, [⟨31, 0, .ro, 0, false, false⟩]⟩,
  -- NET_PORT_CFG[p]
  ⟨0x60020, 0x4, 2, 4, 1, [⟨27, 16, .rw, 0, true, true⟩, ⟨7, 5, .rw, 0, true, true⟩, ⟨1, 1, .rw, 0, true, true⟩, ⟨0, 0, .rw, 1, true, true⟩]⟩,
  -- NET_PORT_STAT[p]
  ⟨0x60028, 0x4, 2, 4, 1, [⟨19, 16, .ro, 0, false, false⟩, ⟨15, 8, .ro, 0, false, false⟩, ⟨6, 6, .ro, 0, false, false⟩, ⟨5, 5, .ro, 0, false, false⟩, ⟨4, 4, .ro, 0, false, false⟩, ⟨1, 0, .ro, 0, false, false⟩]⟩,
  -- NET_MAC_LO[p]
  ⟨0x60030, 0x8, 2, 4, 1, [⟨31, 0, .ro, 0, false, false⟩]⟩,
  -- NET_MAC_HI[p]
  ⟨0x60034, 0x8, 2, 4, 1, [⟨15, 0, .ro, 0, false, false⟩]⟩,
  -- NET_PORT_ERR[p]
  ⟨0x60040, 0x8, 2, 4, 1, [⟨31, 16, .rc, 0, false, false⟩, ⟨15, 0, .rc, 0, false, false⟩]⟩,
  -- NET_PORT_IGN[p]
  ⟨0x60044, 0x8, 2, 4, 1, [⟨31, 16, .rc, 0, false, false⟩, ⟨15, 0, .rc, 0, false, false⟩]⟩,
  -- NET_MDIO
  ⟨0x60050, 0x4, 1, 4, 1, [⟨31, 31, .wo, 0, false, false⟩, ⟨30, 30, .ro, 0, false, false⟩, ⟨26, 26, .rw, 0, false, false⟩, ⟨25, 21, .rw, 0, false, false⟩, ⟨20, 16, .rw, 0, false, false⟩, ⟨15, 0, .rw, 0, false, false⟩]⟩,
  -- NET_CONN_ID[n]
  ⟨0x60400, 0x20, 32, 4, 1, [⟨31, 0, .rw, 0, true, true⟩]⟩,
  -- NET_CONN_CFG[n]
  ⟨0x60404, 0x20, 32, 4, 1, [⟨31, 16, .rw, 0, true, true⟩, ⟨7, 4, .rw, 0, true, true⟩, ⟨2, 2, .ro, 0, false, false⟩, ⟨1, 1, .rw, 0, true, true⟩, ⟨0, 0, .rw, 0, true, true⟩]⟩,
  -- NET_CONN_WD[n]
  ⟨0x60408, 0x20, 32, 4, 1, [⟨16, 0, .rw, 0x64, true, true⟩]⟩,
  -- NET_CONN_STAT[n]
  ⟨0x6040c, 0x20, 32, 4, 1, [⟨31, 16, .ro, 0, false, false⟩, ⟨4, 3, .ro, 0, false, false⟩, ⟨2, 2, .ro, 0, false, false⟩, ⟨1, 0, .ro, 0, false, false⟩]⟩,
  -- NET_CONN_MAC0_LO[n]
  ⟨0x60410, 0x20, 32, 4, 1, [⟨31, 0, .rw, 0, true, true⟩]⟩,
  -- NET_CONN_MAC1_LO[n]
  ⟨0x60414, 0x20, 32, 4, 1, [⟨31, 0, .rw, 0, true, true⟩]⟩,
  -- NET_CONN_MAC_HI[n]
  ⟨0x60418, 0x20, 32, 4, 1, [⟨31, 16, .rw, 0, true, true⟩, ⟨15, 0, .rw, 0, true, true⟩]⟩,
  -- NET_CONN_CNT[n]
  ⟨0x6041c, 0x20, 32, 4, 1, [⟨31, 24, .rc, 0, false, false⟩, ⟨23, 16, .rc, 0, false, false⟩, ⟨15, 0, .rc, 0, false, false⟩]⟩]

/-- Registers of OSR. -/
def regsOsr : List RegRow := [
  -- OSR_ID
  ⟨0x70000, 0x4, 1, 4, 1, [⟨16, 16, .ro, 0, false, false⟩, ⟨10, 8, .ro, 0, false, true⟩, ⟨2, 0, .ro, 0, false, false⟩]⟩,
  -- OSR_CFG
  ⟨0x70004, 0x4, 1, 4, 1, [⟨27, 16, .ro, 0, false, true⟩, ⟨1, 0, .ro, 0, false, true⟩]⟩,
  -- OSR_ERR_LIM
  ⟨0x70008, 0x4, 1, 4, 1, [⟨7, 0, .rw, 4, true, true⟩]⟩,
  -- OSR_SYNC_DLY
  ⟨0x7000c, 0x4, 1, 4, 1, [⟨7, 0, .rw, 0, true, true⟩]⟩,
  -- OSR_LINK_STAT[p]
  ⟨0x70010, 0x4, 2, 4, 1, [⟨27, 24, .ro, 0, false, false⟩, ⟨23, 16, .ro, 0, false, false⟩, ⟨10, 8, .ro, 0, false, false⟩, ⟨1, 0, .ro, 0, false, false⟩]⟩,
  -- OSR_TIME_STAT
  ⟨0x70018, 0x4, 1, 4, 1, [⟨31, 16, .ro, 0, false, false⟩, ⟨9, 9, .ro, 0, false, false⟩, ⟨8, 8, .ro, 0, false, false⟩, ⟨6, 4, .ro, 0, false, false⟩, ⟨1, 1, .ro, 0, false, false⟩, ⟨0, 0, .ro, 0, false, false⟩]⟩,
  -- OSR_RING_OK
  ⟨0x7001c, 0x4, 1, 4, 1, [⟨15, 8, .ro, 0, false, false⟩, ⟨7, 0, .ro, 0, false, false⟩]⟩,
  -- OSR_LINK_ERR[p]
  ⟨0x70020, 0x4, 2, 4, 1, [⟨31, 16, .rc, 0, false, false⟩, ⟨15, 0, .rc, 0, false, false⟩]⟩,
  -- OSR_FWD_CNT
  ⟨0x70028, 0x4, 1, 4, 1, [⟨31, 16, .rc, 0, false, false⟩, ⟨15, 0, .rc, 0, false, false⟩]⟩]

/-- Registers of ADC. -/
def regsAdc : List RegRow := [
  -- ADC_STAT
  ⟨0x80000, 0x4, 1, 4, 1, [⟨16, 16, .ro, 0, false, false⟩, ⟨13, 13, .ro, 0, false, false⟩, ⟨12, 12, .ro, 0, false, false⟩, ⟨11, 11, .ro, 0, false, false⟩, ⟨10, 10, .ro, 0, false, false⟩, ⟨9, 9, .ro, 0, false, false⟩, ⟨8, 8, .ro, 0, false, false⟩, ⟨5, 0, .ro, 0, false, false⟩]⟩,
  -- ADC_CAL_CTRL
  ⟨0x80004, 0x4, 1, 4, 1, [⟨31, 16, .rw, 0x258, true, true⟩, ⟨1, 1, .wo, 0, false, false⟩, ⟨0, 0, .wo, 0, false, false⟩]⟩,
  -- ADC_INJ_GO
  ⟨0x80008, 0x4, 1, 4, 1, [⟨1, 1, .wo, 0, false, false⟩, ⟨0, 0, .wo, 0, false, false⟩]⟩,
  -- ADC_OVR
  ⟨0x8000c, 0x4, 1, 4, 1, [⟨31, 16, .rc, 0, false, false⟩, ⟨15, 0, .rc, 0, false, false⟩]⟩,
  -- ADC_SEQ_CFG[c]
  ⟨0x80010, 0x4, 2, 4, 1, [⟨11, 8, .rw, 0, true, true⟩, ⟨4, 0, .rw, 0, true, true⟩]⟩,
  -- ADC_INJ_CFG[c]
  ⟨0x80018, 0x4, 2, 4, 1, [⟨25, 16, .rw, 0, true, true⟩, ⟨11, 8, .rw, 0, true, true⟩, ⟨2, 0, .rw, 0, true, true⟩]⟩,
  -- ADC_CAL_COEF[c]
  ⟨0x80020, 0x4, 2, 4, 1, [⟨31, 16, .ro, 0, false, false⟩, ⟨15, 0, .ro, 0, false, false⟩]⟩,
  -- ADC_CAL_CNT
  ⟨0x80028, 0x4, 1, 4, 1, [⟨31, 24, .rc, 0, false, false⟩, ⟨23, 16, .rc, 0, false, false⟩, ⟨15, 8, .rc, 0, false, false⟩, ⟨7, 0, .rc, 0, false, false⟩]⟩,
  -- ADC_SEQ[c][e]
  ⟨0x80100, 0x40, 2, 4, 16, [⟨17, 16, .rw, 0, true, true⟩, ⟨13, 8, .rw, 3, true, true⟩, ⟨4, 0, .rw, 0, true, true⟩]⟩,
  -- ADC_INJ[c][e]
  ⟨0x80180, 0x10, 2, 4, 4, [⟨17, 16, .rw, 0, true, true⟩, ⟨13, 8, .rw, 3, true, true⟩, ⟨4, 0, .rw, 0, true, true⟩]⟩,
  -- ADC_RES[c][s]
  ⟨0x80200, 0x80, 2, 4, 24, [⟨31, 31, .ro, 0, false, false⟩, ⟨24, 24, .ro, 0, false, false⟩, ⟨23, 16, .ro, 0, false, false⟩, ⟨13, 0, .ro, 0, false, false⟩]⟩]

/-- Registers of TMR. -/
def regsTmr : List RegRow := [
  -- TMR_TB_LO
  ⟨0x90000, 0x4, 1, 4, 1, [⟨31, 0, .ro, 0, false, false⟩]⟩,
  -- TMR_TB_HI
  ⟨0x90004, 0x4, 1, 4, 1, [⟨31, 0, .ro, 0, false, false⟩]⟩,
  -- TMR_BOUND
  ⟨0x90008, 0x4, 1, 4, 1, [⟨7, 0, .ro, 0, false, false⟩]⟩,
  -- TMR_TC_CTRL[n]
  ⟨0x90100, 0x40, 8, 4, 1, [⟨31, 31, .rw, 0, true, true⟩, ⟨21, 21, .rw, 0, true, true⟩, ⟨20, 20, .rw, 0, true, true⟩, ⟨17, 16, .rw, 0, true, true⟩, ⟨12, 8, .rw, 0, true, true⟩, ⟨2, 0, .rw, 0, true, true⟩]⟩,
  -- TMR_TC_DIV[n]
  ⟨0x90104, 0x40, 8, 4, 1, [⟨31, 16, .rw, 1, true, true⟩, ⟨15, 0, .rw, 0, true, true⟩]⟩,
  -- TMR_TC_TOP[n]
  ⟨0x90108, 0x40, 8, 4, 1, [⟨31, 0, .rw, 0xffffffff, true, true⟩]⟩,
  -- TMR_TC_CNT[n]
  ⟨0x9010c, 0x40, 8, 4, 1, [⟨31, 0, .rw, 0, false, false⟩]⟩,
  -- TMR_TC_CMP0[n]
  ⟨0x90110, 0x40, 8, 4, 1, [⟨31, 0, .rw, 0, false, true⟩]⟩,
  -- TMR_TC_CMP1[n]
  ⟨0x90114, 0x40, 8, 4, 1, [⟨31, 0, .rw, 0, false, false⟩]⟩,
  -- TMR_TC_CAPCFG[n]
  ⟨0x90118, 0x40, 8, 4, 1, [⟨28, 24, .rw, 0, true, true⟩, ⟨21, 20, .rw, 0, true, true⟩, ⟨19, 16, .rw, 0, true, true⟩, ⟨12, 8, .rw, 0, true, true⟩, ⟨5, 4, .rw, 0, true, true⟩, ⟨3, 0, .rw, 0, true, true⟩]⟩,
  -- TMR_TC_CMD[n]
  ⟨0x9011c, 0x40, 8, 4, 1, [⟨1, 1, .wo, 0, false, false⟩, ⟨0, 0, .wo, 0, false, false⟩]⟩,
  -- TMR_TC_CAP0[n]
  ⟨0x90120, 0x40, 8, 4, 1, [⟨31, 0, .ro, 0, false, false⟩]⟩,
  -- TMR_TC_CAP1[n]
  ⟨0x90124, 0x40, 8, 4, 1, [⟨31, 0, .ro, 0, false, false⟩]⟩,
  -- TMR_TC_FLAG[n]
  ⟨0x90128, 0x40, 8, 4, 1, [⟨31, 24, .ro, 0, false, false⟩, ⟨23, 16, .ro, 0, false, false⟩, ⟨6, 6, .w1c, 0, false, false⟩, ⟨5, 5, .w1c, 0, false, false⟩, ⟨4, 4, .w1c, 0, false, false⟩, ⟨3, 3, .rc, 0, false, false⟩, ⟨2, 2, .rc, 0, false, false⟩, ⟨1, 1, .rc, 0, false, false⟩, ⟨0, 0, .rc, 0, false, false⟩]⟩]

/-- Registers of CRC. -/
def regsCrc : List RegRow := [
  -- CRC_CFG[u]
  ⟨0xa0000, 0x40, 4, 4, 1, [⟨9, 9, .rw, 1, false, false⟩, ⟨8, 8, .rw, 1, false, false⟩, ⟨4, 0, .rw, 0x1f, false, false⟩]⟩,
  -- CRC_POLY[u]
  ⟨0xa0004, 0x40, 4, 4, 1, [⟨31, 0, .rw, 0x4c11db7, false, false⟩]⟩,
  -- CRC_INIT[u]
  ⟨0xa0008, 0x40, 4, 4, 1, [⟨31, 0, .rw, 0xffffffff, false, false⟩]⟩,
  -- CRC_XOR[u]
  ⟨0xa000c, 0x40, 4, 4, 1, [⟨31, 0, .rw, 0xffffffff, false, false⟩]⟩,
  -- CRC_CTRL[u]
  ⟨0xa0010, 0x40, 4, 4, 1, [⟨0, 0, .wo, 0, false, false⟩]⟩,
  -- CRC_DIN8[u]
  ⟨0xa0014, 0x40, 4, 4, 1, [⟨31, 0, .wo, 0, false, false⟩]⟩,
  -- CRC_DIN16[u]
  ⟨0xa0018, 0x40, 4, 4, 1, [⟨31, 0, .wo, 0, false, false⟩]⟩,
  -- CRC_DIN32[u]
  ⟨0xa001c, 0x40, 4, 4, 1, [⟨31, 0, .wo, 0, false, false⟩]⟩,
  -- CRC_RES[u]
  ⟨0xa0020, 0x40, 4, 4, 1, [⟨31, 0, .ro, 0, false, false⟩]⟩,
  -- CRC_LEN[u]
  ⟨0xa0024, 0x40, 4, 4, 1, [⟨31, 0, .ro, 0, false, false⟩]⟩]

/-- Registers of CFG. -/
def regsCfg : List RegRow := [
  -- CFG_STAT
  ⟨0xb0000, 0x4, 1, 4, 1, [⟨11, 11, .ro, 0, false, false⟩, ⟨10, 10, .ro, 0, false, false⟩, ⟨9, 9, .ro, 0, false, false⟩, ⟨5, 4, .ro, 3, false, false⟩, ⟨3, 3, .ro, 0, false, false⟩, ⟨1, 1, .w1c, 0, false, false⟩, ⟨0, 0, .ro, 0, false, false⟩]⟩,
  -- CFG_CMD
  ⟨0xb0004, 0x4, 1, 4, 1, [⟨31, 31, .wo, 0, false, false⟩, ⟨13, 8, .rw, 0, false, false⟩, ⟨2, 0, .rw, 0, false, false⟩]⟩,
  -- CFG_CSTAT
  ⟨0xb0008, 0x4, 1, 4, 1, [⟨31, 31, .w1c, 0, false, false⟩, ⟨11, 8, .ro, 0, false, false⟩, ⟨2, 0, .ro, 0, false, false⟩]⟩,
  -- CFG_GEN
  ⟨0xb000c, 0x4, 1, 4, 1, [⟨31, 0, .ro, 0, false, false⟩]⟩,
  -- CFG_SIG
  ⟨0xb0010, 0x4, 1, 4, 1, [⟨31, 0, .ro, 0, false, false⟩]⟩,
  -- CFG_SEAL
  ⟨0xb0014, 0x4, 1, 4, 1, [⟨16, 16, .ro, 0, false, false⟩, ⟨15, 8, .ro, 0, false, false⟩, ⟨7, 0, .ro, 0, false, false⟩]⟩,
  -- CFG_VAL_SIG
  ⟨0xb0018, 0x4, 1, 4, 1, [⟨31, 0, .rw, 0, false, false⟩]⟩,
  -- CFG_VAL_SEAL
  ⟨0xb001c, 0x4, 1, 4, 1, [⟨31, 16, .rw, 0, false, false⟩, ⟨7, 0, .rw, 0, false, false⟩]⟩,
  -- CFG_TXN
  ⟨0xb0020, 0x4, 1, 4, 1, [⟨1, 0, .wo, 0, false, false⟩]⟩,
  -- CFG_TXN_STAT
  ⟨0xb0024, 0x4, 1, 4, 1, [⟨31, 31, .w1c, 0, false, false⟩, ⟨30, 28, .ro, 0, false, false⟩, ⟨27, 8, .ro, 0, false, false⟩, ⟨7, 4, .ro, 0, false, false⟩, ⟨1, 0, .ro, 0, false, false⟩]⟩,
  -- CFG_ECC
  ⟨0xb0028, 0x4, 1, 4, 1, [⟨31, 16, .rc, 0, false, false⟩, ⟨15, 0, .rc, 0, false, false⟩]⟩,
  -- CFG_BUF[i]
  ⟨0xb1000, 0x4, 1024, 4, 1, [⟨31, 0, .rw, 0xffffffff, false, false⟩]⟩]

/-- Registers of SMP. -/
def regsSmp : List RegRow := [
  -- SMP_STAT
  ⟨0xc0000, 0x4, 1, 4, 1, [⟨29, 24, .ro, 0, false, false⟩, ⟨10, 8, .ro, 7, false, false⟩, ⟨2, 2, .ro, 0, false, false⟩, ⟨1, 1, .ro, 0, false, false⟩, ⟨0, 0, .ro, 0, false, false⟩]⟩,
  -- SMP_SEQ
  ⟨0xc0004, 0x4, 1, 4, 1, [⟨31, 0, .ro, 0, false, false⟩]⟩,
  -- SMP_AGE
  ⟨0xc0008, 0x4, 1, 4, 1, [⟨11, 0, .ro, 0, false, false⟩]⟩,
  -- SMP_SEL
  ⟨0xc0010, 0x4, 1, 4, 1, [⟨19, 16, .rw, 0, false, false⟩, ⟨10, 0, .rw, 0, false, false⟩]⟩,
  -- SMP_VAL_LO
  ⟨0xc0014, 0x4, 1, 4, 1, [⟨31, 0, .ro, 0, false, false⟩]⟩,
  -- SMP_VAL_HI
  ⟨0xc0018, 0x4, 1, 4, 1, [⟨7, 0, .ro, 0, false, false⟩]⟩]

/-- Registers of every block: fault registers (R492). -/
def regsXxx : List RegRow := [
  -- xxx_FLT_STAT
  ⟨0xf000, 0x10000, 14, 4, 1, [⟨31, 0, .w1c, 0, false, false⟩]⟩,
  -- xxx_FLT_FORCE
  ⟨0xf004, 0x10000, 14, 4, 1, [⟨31, 0, .wo, 0, false, false⟩]⟩,
  -- xxx_FLT_FDET
  ⟨0xf008, 0x10000, 14, 4, 1, [⟨31, 0, .rw, 0, false, false⟩]⟩,
  -- xxx_FLT_FE_INFO
  ⟨0xf010, 0x10000, 14, 4, 1, [⟨31, 31, .w1c, 0, false, false⟩, ⟨23, 20, .ro, 0, false, false⟩, ⟨19, 16, .ro, 0, false, false⟩, ⟨4, 0, .ro, 0, false, false⟩]⟩,
  -- xxx_FLT_FE_ADDR
  ⟨0xf014, 0x10000, 14, 4, 1, [⟨31, 0, .ro, 0, false, false⟩]⟩,
  -- xxx_FLT_FE_DET
  ⟨0xf018, 0x10000, 14, 4, 1, [⟨31, 0, .ro, 0, false, false⟩]⟩,
  -- xxx_FLT_FE_TA_LO
  ⟨0xf020, 0x10000, 14, 4, 1, [⟨31, 0, .ro, 0, false, false⟩]⟩,
  -- xxx_FLT_FE_TA_HI
  ⟨0xf024, 0x10000, 14, 4, 1, [⟨31, 0, .ro, 0, false, false⟩]⟩,
  -- xxx_FLT_FE_TR_LO
  ⟨0xf028, 0x10000, 14, 4, 1, [⟨31, 0, .ro, 0, false, false⟩]⟩,
  -- xxx_FLT_FE_TR_HI
  ⟨0xf02c, 0x10000, 14, 4, 1, [⟨31, 0, .ro, 0, false, false⟩]⟩,
  -- xxx_FLT_SRC[c]
  ⟨0xf100, 0x10000, 14, 4, 32, [⟨31, 31, .ro, 0, false, false⟩, ⟨12, 8, .ro, 0, false, false⟩, ⟨6, 4, .ro, 0, false, false⟩, ⟨2, 0, .ro, 0, false, false⟩]⟩,
  -- xxx_FLT_CFG[c]
  ⟨0xf200, 0x10000, 14, 4, 32, [⟨20, 16, .rw, 1, true, true⟩, ⟨12, 8, .rw, 0, true, true⟩, ⟨2, 0, .rw, 0, true, true⟩]⟩,
  -- xxx_FLT_CNT[c]
  ⟨0xf300, 0x10000, 14, 4, 32, [⟨31, 0, .rc, 0, false, false⟩]⟩]

end Sys2Proof.Machine
end

