-- ==== Sys2Proof/Machine/State.lean ====
section
/-! DEFINITION. The state of the device: plain data, every piece the spec gives it. Registers stand in `regs` by BAR0
offset; what the engines hold beside registers stands in the components below. -/

namespace Sys2Proof.Machine

/-- Why a step stops: never. Every happening that the commands describe has an effect, so no constructor is needed. -/
inductive Fault where
deriving DecidableEq, Repr

/-- Why a command has no outcome. -/
inductive Refusal where
  /-- Raised by an arm of exec that has no meaning yet. Safe. -/
  | notModelled (mnemonic : String)
deriving DecidableEq, Repr

/-- Modes of R513, in the order of their values 0-7. -/
inductive Mode where
  | boot | configure | commission | run | maintain | degraded | safeHold | lockdown
deriving DecidableEq, Repr

/-! ### Power, reset and always-on state -/

/-- Gated domains by bit number: 0 LA, 1 LB, 2 LC, 3 CS0, 4 CS1, 5 HS, 6 NT, 7 VP, 8 AN (PWR registers). -/
structure Pwr where
  /-- VDD_AO within its limits (R39, R517) -/
  aoOk : Bool := true
  /-- RST_N held low (R517) -/
  rstLow : Bool := false
  /-- TEST_MODE pin, and held out of Boot by it (R603) -/
  testMode : Bool := false
  testHold : Bool := false
  /-- REF100 accepted and present (R25) -/
  refOk : Bool := false
  /-- REF100 was lost since the latest device reset: the lanes do not recover without one (R26) -/
  refGone : Bool := false
  /-- timebase at the acceptance from which the sequence times run (R37; log entry 14) -/
  acceptTb : Nat := 0
  /-- step of the power-up sequence done, 1-9 (R37) -/
  seqStep : Nat := 1
  /-- gate open and supply within limits, bits 0-8 (R30) -/
  on : BitVec 9 := 0
  /-- domains that wait to open late (R37) -/
  waiting : BitVec 9 := 0
  /-- domains lost under R32 -/
  lost : BitVec 9 := 0
  /-- FS_A, FS_B above 9.0 V (R31) -/
  fsOk : BitVec 2 := 0
  /-- supplies in mV by PWR_MON_SEL at the latest second: domains 0-11, then the second supply of HS and NT -/
  mv : Vector (BitVec 16) 14 := Vector.replicate 14 0
  /-- timebase of that instant -/
  mvAt : Option Nat := none
  /-- timebase of the latest write of PWR_MON_SEL (PWR_MON_VAL) -/
  monSelAt : Option Nat := none
  /-- timebase since which VDD_AO has been within limits (R529) -/
  aoSince : Nat := 0
deriving DecidableEq, Repr

/-- Always-on state that a device reset keeps (R518). -/
structure Keep where
  /-- Lockdown latch (R510) -/
  lockdown : Bool := false
  /-- LAN_CMP_STAT.RECUR and the Run or Degraded time since the latest CMP.XY (R266) -/
  recur : Bool := false
  recurTicks : Nat := 0
  /-- SYS_FLT_CHIP (R503) -/
  chip : Option (BitVec 4 × BitVec 5) := none
  /-- SYS_RST_CAUSE [3:0]: RESTART, CHIP, PIN, POWER -/
  cause : BitVec 4 := 1
  /-- repair timer: time remaining in ticks and whether it runs (R260, R518) -/
  repairLeft : Nat := 2880000000000
  repairKept : Bool := false
  /-- session counter (R396) -/
  session : BitVec 16 := 0
deriving DecidableEq, Repr

/-! ### Slot clock and cistern -/

/-- Slot clock (R46-R50, R76, R424). -/
structure Slot where
  run : Bool := false
  /-- epoch pair E, K0 -/
  e : Nat := 0
  k0 : Nat := 0
  /-- slot number of the latest tick, and whether one has occurred -/
  k : Nat := 0
  ticked : Bool := false
  /-- slot length in force, in ticks -/
  len : Nat := 10000
  /-- committed PERIOD that waits for its commit tick (R76) -/
  pend : Option Nat := none
  /-- slot number and length of a change announced in the ring (R424) -/
  kc : Option (Nat × Nat) := none
  /-- slot number at which the descriptor unit last wrote a cell (R75) -/
  lastWrite : Option Nat := none
deriving DecidableEq, Repr

/-- What a codeword write does to each of its cells (R125, R155). -/
inductive CellOp where
  | incFirm | incSpec | dec | confirm
deriving DecidableEq, Repr

/-- One codeword read-modify-write (R140): logical slice, slot, codeword of the row, columns of the codeword. -/
structure CwWrite where
  logical : Fin 16
  slot : Nat
  cw : Fin 2
  cols : BitVec 64
  op : CellOp
  /-- the descriptor on whose behalf it runs; none for a resolution -/
  owner : Option Nat
deriving DecidableEq, Repr

/-- A physical slice; number 16 is S (R210). -/
structure Phys where
  failed : Bool := false
  /-- the latest TEST passed since it failed (R232) -/
  testPass : Bool := false
  /-- write queue (R140) -/
  wq : List CwWrite := []
  /-- highest slot number targeted by a write (R216) -/
  h : Nat := 0
  /-- corrections in the present one-second interval (R226) -/
  ceNow : Nat := 0
  /-- overrun at the latest slot tick (R211) -/
  hung : Bool := false
deriving DecidableEq, Repr

/-- A migration under way (R215, R221). -/
structure Migration where
  logical : Fin 16
  abandoned : Bool
deriving DecidableEq, Repr

/-- A slice operation under way (R232). -/
inductive SliceOp where
  | test | migrate | restore
deriving DecidableEq, Repr

/-- The cistern and its slices. -/
structure Cis where
  /-- instant at which the latest interval of corrections ended (R226) -/
  ceAt : Option Nat := none
  /-- nonzero cells by ((slice × 2560 + row) × 128 + column); FIRM [3:2], SPEC [1:0], 0xF STICKY (R53) -/
  cells : Map (BitVec 4) := []
  /-- the seventeen slices; number 16 is S (R210) -/
  phys : Vector Phys 17 := Vector.replicate 17 {}
  /-- logical slice served by S (R215) -/
  served : Option (Fin 16) := none
  /-- S fit and idle (R214) -/
  spareOk : Bool := false
  /-- dark logical slices (R223) -/
  dark : BitVec 16 := 0
  /-- migration under way (R215, R221) -/
  mig : Option Migration := none
  /-- slice operation under way, with its slice (R232) -/
  op : Option (SliceOp × Fin 17) := none
  /-- retained generation of the column delay table, nonzero entries (R154) -/
  retained : Map Word := []
  /-- generation in force (R154) -/
  gen : Bool := false
  /-- lost codewords of the delay table in force and of the retained one (R228) -/
  dlyLost : BitVec 256 := 0
  retLost : BitVec 256 := 0
  /-- latest lost codeword of a copy of the class table: instant, copy, codeword; both copies lost (R228) -/
  clsHit : Option (Nat × Fin 2 × Fin 2) := none
  clsGone : Bool := false
  /-- fire bits drained at the latest tick, by logical slice (R66) -/
  fire : Vector (BitVec 128) 16 := Vector.replicate 16 0
  /-- FIRE bits of the frames of the slot before sent with ARMED = 1 (R558) -/
  sentFire : Vector (BitVec 128) 16 := Vector.replicate 16 0
deriving DecidableEq, Repr

/-! ### Descriptors, tickets and rings -/

/-- Status codes of R133, in the order of their values. -/
inductive Status where
  | ok | late | past | range | crc | ticketBusy | ticketUnknown | noTicket | inhibited | sliceLost | forwardFail
deriving DecidableEq, Repr

/-- Where a descriptor stands. -/
inductive Phase where
  | staged | admitted | finished
deriving DecidableEq, Repr

/-- The part of a descriptor forwarded to a neighbour (R426-R428). -/
structure FwdPart where
  port : Fin 2
  fseq : BitVec 16
  /-- answer: status of the peer's part and its earliest slot tick; none while awaited -/
  answer : Option (Status × Nat)
deriving DecidableEq, Repr

/-- Open or closing (R157). -/
inductive TicketState where
  | open
  /-- closing by the CONFIRM or REVOKE of a descriptor -/
  | closing (id : Nat)
  /-- closing by resolution; FIRE or DROP, and whether as SLICE_LOST -/
  | resolving (fire lost : Bool)
deriving DecidableEq, Repr

/-- The record of an open or closing ticket (R151, R153), with what its notice needs (R132). -/
structure Ticket where
  state : TicketState
  gen : Bool
  fwd : Bool
  cls : BitVec 4
  nr : BitVec 6
  ncol : BitVec 6
  lcol : BitVec 11
  /-- smallest own target slot, as a full slot number (R152) -/
  kmin : Int
  /-- first slot open at admission minus k_min, and deadline distance (R151) -/
  kofs : BitVec 12
  d : BitVec 8
  /-- TAG of its MARK_SPEC (R132) -/
  tag : Word
  /-- T of the first target slot -/
  drain : Nat
  /-- held for a neighbour under the same number (R429) -/
  held : Bool
  /-- deadline slot, for a ticket held for a neighbour (R166) -/
  deadline : Nat
  /-- copies of its record lost (R167) -/
  lostPrimary : Bool
  lostMirror : Bool
deriving DecidableEq, Repr

/-- A descriptor in staging, admitted or finished, own or a neighbour's part (R120, R124, R426). -/
structure Flight where
  /-- the model's own number of it -/
  id : Nat
  /-- words 0-6 -/
  raw : RawDesc
  /-- where it stands (R124, R128, R131) -/
  phase : Phase
  /-- admission time and slot number k_d (R61, R63) -/
  tA : Nat := 0
  /-- the device's own part: OK, LATE or PAST, or the final status -/
  status : Status := .ok
  /-- ticket it opens, confirms or revokes -/
  ticket : Option Nat := none
  /-- record that a MARK_SPEC enters when it completes (R157) -/
  opens : Option Ticket := none
  /-- T of k_min, or of the first target slot of its ticket (R130) -/
  drain : Nat := 0
  /-- own codewords written, each with the physical slice that took it (R130, R219) -/
  written : List (Fin 17 × CwWrite) := []
  /-- a slice failed during its writes (R73, R218) -/
  sliceLost : Bool := false
  /-- part forwarded to a neighbour -/
  fwd : Option FwdPart := none
  /-- it is a neighbour's part: side of the neighbour (0 east, 1 west) and FSEQ to answer (R427) -/
  peer : Option (Fin 2 × BitVec 16) := none
  /-- deadline slot carried by a forwarded MARK_SPEC (R166) -/
  peerDeadline : Nat := 0
  /-- it waited under R164 -/
  waited : Bool := false
deriving DecidableEq, Repr

/-- What is written to the completion ring (R129). -/
structure CplEntry where
  status : Status
  opcode : BitVec 4
  notice : Bool
  ticket : BitVec 16
  tag : Word
  drain : Nat
  irqNow : Bool
deriving DecidableEq, Repr

/-- The descriptor unit and the ring DMA. -/
structure Dsc where
  /-- in submission order; neighbours' parts stand where they arrived -/
  flights : List Flight := []
  /-- the model's own number of the next flight -/
  nextId : Nat := 0
  /-- bucket of R139 in units of 1/25 credit, of which one refills per tick, and the instant it was brought up to date -/
  credits : Nat := 102400
  creditAt : Nat := 0
  /-- read requests issued and not answered: entries of each (R142) -/
  fetchOut : List Nat := []
  /-- completions waiting to be written (R104) -/
  cplq : List CplEntry := []
  /-- notices waiting (R149) -/
  noticeq : List CplEntry := []
  /-- FSEQ of the next FWD frame (R426) -/
  fseq : BitVec 16 := 0
deriving DecidableEq, Repr

/-- A booked resolution write (R163): in logical slice and slot `at`, for codeword cw of slot k. -/
structure Booking where
  ticket : Nat
  logical : Fin 16
  at' : Nat
  k : Nat
  cw : Fin 2
  cols : BitVec 64
  /-- the write is done; the booking is released with its ticket's resolution (R163) -/
  done : Bool := false
deriving DecidableEq, Repr

/-- The ticket unit. -/
structure Tkt where
  recs : Map Ticket := []
  books : List Booking := []
deriving DecidableEq, Repr

/-- One host ring (R110-R119, R147, R148). -/
structure Ring where
  en : Bool := false
  busy : Bool := false
  /-- device index, phase of the entries now written -/
  idx : Nat := 0
  phase : Bool := false
  /-- host index: the value last accepted by the doorbell -/
  db : Nat := 0
  /-- happenings not yet signalled, and the instant of the first -/
  cnt : Nat := 0
  since : Option Nat := none
deriving DecidableEq, Repr

/-! ### Faults and events -/

/-- A fault source: block number and source number (R490). -/
structure Src where
  blk : BitVec 4
  code : BitVec 5
deriving DecidableEq, Repr

/-- The access record of a raising (R143). -/
structure AccRec where
  master : BitVec 4 := 15
  access : BitVec 4 := 15
  addr : Word := 0
  tAcc : Nat := 0
deriving DecidableEq, Repr

/-- An event entry in staging (R143). -/
structure Evt where
  src : Src
  sev : BitVec 3
  react : BitVec 5
  rep : Nat
  acc : AccRec
  tRaise : Nat
  detail : Word
  /-- its vector 0 message is still to be sent (R100) -/
  nmtDue : Bool
  /-- the held vector 0 message covers its cause (R100, R101) -/
  nmtHeld : Bool := false
deriving DecidableEq, Repr

/-- Event staging, telemetry and what the endpoint holds for messages. -/
structure Evs where
  staging : List Evt := []
  /-- telemetry: SEQ of the next record, instant of the latest, and what has gathered since (R145) -/
  telSeq : BitVec 16 := 0
  telAt : Nat := 0
  telAdmit : Nat := 0
  telLatePast : Nat := 0
  telStgMax : Nat := 0
  telMargin : Vector (BitVec 8) 3 := Vector.replicate 3 0xFF
  telTj : BitVec 8 := 0
  telDrainMax : Nat := 0
deriving DecidableEq, Repr

/-- What software can set or clear in configuration space beside Bus Master Enable and the MSI-X control (R79, R80, R84; layout of
the base specification, log entry 73). -/
structure CfgSpace where
  /-- Command and Status: the bits that hold what is written, and the error bits recorded -/
  cmd : BitVec 16 := 0
  status : BitVec 16 := 0
  /-- Cache Line Size and Interrupt Line -/
  cacheLine : BitVec 8 := 0
  intLine : BitVec 8 := 0
  /-- base addresses of BAR0, BAR2 and BAR4 (R84) -/
  bars : Vector (BitVec 64) 3 := Vector.replicate 3 0
  /-- PME_En (R79) -/
  pmeEn : Bool := false
  /-- Device Control with Max_Payload_Size and Max_Read_Request_Size, Device Status, Link Control, Device Control 2 -/
  devCtl : BitVec 16 := 0x2000
  devStat : BitVec 4 := 0
  lnkCtl : BitVec 16 := 0
  devCtl2 : BitVec 16 := 0
  /-- AER: uncorrectable and correctable status, masks and severity; ECRC generation and checking enabled -/
  aerUnc : Word := 0
  aerUncMask : Word := 0
  aerUncSev : Word := 0x00462030
  aerCor : Word := 0
  aerCorMask : Word := 0x2000
  ecrcGen : Bool := false
  ecrcCheck : Bool := false
deriving DecidableEq, Repr

/-- The PCI Express endpoint (chapter 03). -/
structure Hif where
  perstN : Bool := false
  dlUp : Bool := false
  d3 : Bool := false
  flr : Bool := false
  /-- configuration requests are answered (R81) -/
  ready : Bool := false
  /-- negotiated width and speed (R82) -/
  width : BitVec 3 := 0
  speed : BitVec 4 := 0
  /-- Bus Master Enable, MSI-X Enable, Function Mask (R99, R101, R104; log entry 17) -/
  bme : Bool := false
  msixEn : Bool := false
  fmask : Bool := false
  /-- the rest of configuration space (R79, R80) -/
  cfg : CfgSpace := {}
  /-- MSI-X table, words that differ from their reset value, by byte offset (R98) -/
  table : Map Word := []
  /-- pending bit array (R98) -/
  pba : BitVec 32 := 0
  /-- a heartbeat was accepted since the endpoint's reset; its count and stamp (R91, R92) -/
  hbSeen : Bool := false
  hbCount : BitVec 16 := 0
  hbAt : Nat := 0
  /-- accepted heartbeats in a row after the end of the latest condition of R93 other than the age, at most 2 (R95) -/
  hbRun : Nat := 0
  /-- a condition of R93 other than the age, latched until a scan takes it -/
  latch : Bool := false
  /-- HOST_SILENT (R93) -/
  silent : Bool := true
  /-- vector 0 causes held (R101) -/
  nmtHeld : Nat := 0
  /-- data of the host's latest read (log entry 5) -/
  rd : List Word := []
deriving DecidableEq, Repr

/-! ### Valve ports -/

/-- STATE of VPT_PORT_STAT, in the order of its values. -/
inductive PortState where
  | off | search | config | ready | lost
deriving DecidableEq, Repr

/-- A valve port (R182-R204). -/
structure Port where
  st : PortState := .off
  sync : Bool := false
  mstate : BitVec 3 := 0
  cfgid : BitVec 8 := 0
  cable : BitVec 8 := 0
  nvalve : BitVec 8 := 0
  dseq : BitVec 8 := 0
  capBurst : Bool := false
  consec : BitVec 8 := 0
  /-- ARMED of the latest FIRE frame and of the one before it (R203) -/
  armed0 : Bool := false
  armed1 : Bool := false
  /-- SEQ of the latest FIRE frame -/
  seq : BitVec 8 := 0
  /-- a FIRE frame of the present slot awaits its STATUS (R202) -/
  await : Bool := false
  /-- a HALT is owed (R196) -/
  halt : Bool := false
  /-- serialiser loopback failed at Boot: stays OFF (R521) -/
  dead : Bool := false
  /-- coil status, 2 bits a valve (R178) -/
  coil : BitVec 256 := 0
deriving DecidableEq, Repr

/-- A burst request (R199, R200). -/
structure Burst where
  port : Fin 16
  valve : BitVec 7
  /-- FIRE frames that carried BREQ so far -/
  tries : Nat
  /-- slot number of the request's first frame -/
  slot : Nat
  /-- a STATUS has shown that the module takes it (R199) -/
  accepted : Bool
deriving DecidableEq, Repr

/-- The valve port block. -/
structure Vpt where
  ports : Vector Port 16 := Vector.replicate 16 {}
  /-- sluice legs of lanes A, B, C: 1 = OPEN (R27) -/
  legs : BitVec 3 := 0
  /-- burst request outstanding (R199, R200) -/
  burst : Option Burst := none
  /-- slot number of the latest launch instant (R187) -/
  launched : Option Nat := none
deriving DecidableEq, Repr

/-! ### Lanes and logic image -/

/-- A block record of the image (R287). -/
structure Block where
  typ : BitVec 8
  opt : BitVec 8
  group : BitVec 4
  nin : Nat
  in0 : BitVec 16
  in1 : BitVec 16
  in2 : BitVec 16
  in3 : BitVec 16
  par0 : Word
  par1 : Word
  var : BitVec 14
deriving DecidableEq, Repr

/-- A loaded logic image (R284-R290). -/
structure Image where
  period : Nat
  win : Nat
  live : Nat
  tool : BitVec 16
  format : BitVec 8
  /-- live table entries in use: offset and length (R286) -/
  liveTab : List (Nat × Nat)
  /-- block records, parameter pool, signature (R287, R288, R290) -/
  blocks : List Block
  pool : List Word
  sig : Word
deriving DecidableEq, Repr

/-- The agreed input map: bit entries of R281, nonzero word entries of R282. -/
structure InMap where
  bits : BitVec 200 := 0
  words : Map Word := []
deriving DecidableEq, Repr

/-- A lane result (R246): commands [20:0], hold requests, payload check value, state digest. -/
structure LaneResult where
  cmds : BitVec 21
  holds : BitVec 16
  crc : Word
  digest : BitVec 64
deriving DecidableEq, Repr

/-- Its 192 bits as delivered; reserved bits are 0. -/
def LaneResult.bits (r : LaneResult) : BitVec 192 :=
  r.digest ++ (0 : BitVec 32) ++ r.crc ++ (0 : BitVec 16) ++ r.holds ++ (0 : BitVec 11) ++ r.cmds

/-- What an evaluation has produced so far: variables, commands, hold requests, payloads, ring word (R295). -/
structure Eval where
  vars : Map Byte
  cmds : BitVec 21
  holds : BitVec 16
  pay : Vector (BitVec 128) 32
  ring : Word
deriving DecidableEq, Repr

/-- What a lane holds beside its registers (R240-R270, R289). -/
structure Lane where
  retired : Bool := false
  /-- its evaluator has stopped: domain lost, halted, or uncorrectable codeword (R259) -/
  stopped : Bool := false
  /-- it stopped on LAN.ECC_U -/
  eccStop : Bool := false
  /-- symbol positions of the latest corrected codeword of its SRAM (R42; log entry 58) -/
  eccSym : List (Fin 38) := []
  /-- nonzero bytes of its variables region (R289, R294) -/
  vars : Map Byte := []
  /-- its two latest good sample frames, newest first (R240) -/
  frames : List Frame := []
  /-- its evaluation as it stands at the ring point (R430) -/
  mid : Option Eval := none
  /-- its result of this scan, none when absent (R246) -/
  res : Option LaneResult := none
  /-- output words of this scan's evaluation by block index, for R300 -/
  outs : List (BitVec 4) := []
  /-- pump token: instant of the latest (R507) -/
  tokenAt : Option Nat := none
  /-- instants of its retirements since the latest device reset (R269) -/
  retireAt : List Nat := []
  /-- instant at which the automatic re-admission request is due (R274) -/
  autoDue : Option Nat := none
  /-- FDL link quiet since this instant (R21) -/
  quietAt : Option Nat := none
  /-- its agreed map and stamps where they differ from the others' (R242) -/
  own : Option (InMap × Map Nat) := none
deriving DecidableEq, Repr

/-- Self-test or re-admission under way (R270): lane, whether it is a TEST, step 0 (accepted) to 3, instant of zero once fixed, and
the outcome of the self-test and of the transfer scans so far. -/
structure Join where
  lane : Fin 3
  test : Bool
  step : Nat
  zero : Option Nat
  selfDone : Bool
  ok : Bool
deriving DecidableEq, Repr

/-- The lanes as a whole. -/
structure Lan where
  lanes : Vector Lane 3 := Vector.replicate 3 {}
  /-- lanes scanning (R237), scan number, timebase of the latest boundary (R236) -/
  run : Bool := false
  /-- phases of the present scan that have run: 1 input agreement, 2 evaluation, 3 comparison, 0 drive (R238) -/
  phase : Nat := 0
  scanNo : BitVec 32 := 0
  boundary : Nat := 0
  /-- agreed input map; completion stamps of the 48 analog entries, each plus 1, 0 where there is none (R283) -/
  map : InMap := {}
  stamps : Map Nat := []
  /-- words the lanes agree beside the image's map: SNUM, EVT, EVT count, CFGCRC of the selected sample (R241, R601) -/
  sample : Option Frame := none
  /-- input disagreement of two lanes in service in this scan and in the one before (R242) -/
  sdis : Bool := false
  sdisBefore : Bool := false
  /-- lanes in the minority in phase 1 of this scan, and each lane's minority scans in a row up to the scan before (R242, R434) -/
  minor : BitVec 3 := 0
  consec : Vector Nat 3 := Vector.replicate 3 0
  /-- logic image loaded (R284, R292) -/
  image : Option Image := none
  /-- SEND payloads of this scan by connection (R319) -/
  pay : Vector (BitVec 128) 32 := Vector.replicate 32 0
  /-- self-test or re-admission under way (R270) -/
  join : Option Join := none
  /-- comparators in service (R267) -/
  cmpX : Bool := false
  cmpY : Bool := false
  /-- known-answer scans still to run (R265) -/
  ka : Option Nat := none
  /-- verdict of the scan that is acted on: CODE, and whether the result was released (R249, R250) -/
  verdict : Option (BitVec 8) := none
  /-- this scan's drive phase commands OFF for a comparator fault (R265) -/
  forceOff : Bool := false
  /-- second-fault conditions present in the previous scan and in this one (R264): bit 8 × lane + cause of R259; 24 input
  disagreement; 25 SPLIT; 26 no comparator left -/
  secondHeld : BitVec 32 := 0
  secondNow : BitVec 32 := 0
  /-- REFRESH of the next drive frame (R251, R353) -/
  refresh : BitVec 16 := 0
  /-- pace margin 10 or more in the previous scan, by lane (R257) -/
  paceGood : BitVec 3 := 0
  /-- repair timer running, and expired (R260) -/
  repairRun : Bool := false
  repairExpired : Bool := false
  /-- agreed CFGCRC differed from the expected value in the latest scan that compared them (R355) -/
  fldBad : Bool := false
  /-- commands and output words of the latest result acted on, for R558 and R300 -/
  cmdPrev : BitVec 21 := 0
  outsPrev : List (BitVec 4) := []
  /-- event acknowledged by the lanes: count of the latest (R601) -/
  eack : BitVec 8 := 0
  /-- off-pulse rotation: instant at which each target's test is due (R373) -/
  testDue : Vector (Option Nat) 20 := Vector.replicate 20 none
  testStep : Vector (BitVec 2) 20 := Vector.replicate 20 0
  /-- instant at which the deliberate-reset input rose (R527) -/
  drstRose : Option Nat := none
  /-- ring safety words received this scan: origin, lane, word and check (R433) -/
  ringIn : List (Fin 8 × Frame) := []
  ringRelayed : List (Fin 2 × BitVec 3 × BitVec 16) := []
  /-- field configuration to be sent, CFGCRC expected, scan boundaries since it was sent (R355) -/
  fldSend : Option (List Word) := none
  /-- field configuration last sent; a field reset frame has been sent (R355, R528) -/
  fldSent : List Word := []
  fldReset : Bool := false
  /-- CFGCRC expected, and the boundary from which it is compared (R355) -/
  fldCrc : Word := 0
  fldCheckFrom : Option Nat := none
  /-- event count of the sample frame last used for the field die's reports (R601) -/
  evtCnt : BitVec 8 := 0
  /-- HOST_RESET of the agreed map in this scan (R527) -/
  hostReset : Bool := false
deriving DecidableEq, Repr

/-! ### Field die -/

/-- An entry of the fault queue (R601). -/
structure FldEntry where
  code : BitVec 8
  pin : BitVec 8
  pin2 : BitVec 8
  cnt : BitVec 8
deriving DecidableEq, Repr

/-- An off-pulse under way in a group (R374): target, step, the islands that act on it, REFRESH of their frames, start. -/
structure Pulse where
  target : Fin 20
  step : BitVec 2
  links : BitVec 3
  refresh : BitVec 16
  at' : Nat
  /-- RB at the sample before the pulse, and at the last sample within it (R372) -/
  rbBefore : BitVec 20
  rbIn : BitVec 20
  /-- legs AB, BC, CA of the target at the last sample within the pulse, and those expected to conduct then -/
  legs : BitVec 3
  expect : BitVec 3
  /-- a sample has fallen within the pulse -/
  sampled : Bool
  /-- the target has been commanded ON by two islands since the pulse began -/
  on : Bool
  /-- abandoned: target commanded OFF or clamped (R376) -/
  abandoned : Bool
  /-- the test fields of its scan's accepted frames differ: no verdict (R376) -/
  differ : Bool := false
deriving DecidableEq, Repr

/-- A test on which one island acts by a field that differs from the group's pulse (R374): group, island, target, step, start. -/
structure Stray where
  grp : Fin 2
  link : Fin 3
  target : Fin 20
  step : BitVec 2
  at' : Nat
deriving DecidableEq, Repr

/-- The field die (chapter 11). -/
structure Fld where
  /-- instant of the latest sample; sample number and position in the test-pulse frame of the next one (R351, R352, R361) -/
  sampleAt : Option Nat := none
  snum : BitVec 16 := 0
  fpos : Nat := 0
  /-- integrators, filtered and raw states, inputs inconsistent at the latest sample and at the two latest -/
  x : Vector Nat 32 := Vector.replicate 32 0
  si : BitVec 32 := 0
  raw : BitVec 32 := 0
  incons : BitVec 32 := 0
  inconsRun : BitVec 32 := 0
  /-- instants of the latest inconsistent sample by input (R383) -/
  inconsAt : Vector (Option Nat) 32 := Vector.replicate 32 none
  /-- SI_OK; SO_OK [15:0] and SL_OK [19:16] (R358, R364, R370) -/
  siOk : BitVec 32 := 0
  /-- inputs whose SI_OK a pattern took down, and a threshold (R383) -/
  siPat : BitVec 32 := 0
  siThr : BitVec 32 := 0
  soOk : BitVec 20 := 0
  /-- inputs with a finding at each generator's latest check, and at the one before it (R364, R383) -/
  find : Vector (BitVec 32) 8 := Vector.replicate 8 0
  findPrev : Vector (BitVec 32) 8 := Vector.replicate 8 0
  /-- check instant whose second sample has not come: generator, inputs at or below V_OFF -/
  check : Option (Fin 8 × BitVec 32) := none
  /-- readback RB [15:0], RBL [19:16] -/
  rb : BitVec 20 := 0
  /-- legs seen at the latest sample: AB [19:0], BC [39:20], CA [59:40]; those that conduct unexpectedly or fail to, at the
  latest sample and at the two latest -/
  legs : BitVec 60 := 0
  legOn : BitVec 60 := 0
  legOnRun : BitVec 60 := 0
  legOff : BitVec 60 := 0
  legOffRun : BitVec 60 := 0
  /-- SL whose RBL was 1 while expected OFF at the latest sample and at the two latest; outputs in thermal shutdown -/
  slOn : BitVec 20 := 0
  slOnRun : BitVec 20 := 0
  thermal : BitVec 20 := 0
  /-- islands A, B, C: leg commands, last accepted REFRESH, EACK, instant of it (R354) -/
  cmd : Vector (BitVec 20) 3 := Vector.replicate 3 0
  refresh : Vector (Option (BitVec 16)) 3 := Vector.replicate 3 none
  eack : Vector (BitVec 8) 3 := Vector.replicate 3 0
  /-- test fields of the last accepted frames: group A [7:0], group B [15:8] (R353) -/
  test : Vector (BitVec 16) 3 := Vector.replicate 3 0
  accAt : Vector (Option Nat) 3 := Vector.replicate 3 none
  /-- FDL links that carry symbols (R21, R351) -/
  links : BitVec 3 := 0
  /-- instant of the latest change of each output's expected state, or of the end of its off-pulse (R369) -/
  changeAt : Vector Nat 20 := Vector.replicate 20 0
  /-- start of a readback mismatch: RB 1 while expected OFF, RB 0 while expected ON (R370) -/
  rbOnSince : Vector (Option Nat) 20 := Vector.replicate 20 none
  rbOffSince : Vector (Option Nat) 20 := Vector.replicate 20 none
  /-- SO whose stuck-high has been reported and has not ended -/
  stuckHeld : BitVec 20 := 0
  /-- after a step-0 pulse of group A, B: its target, and the SO whose RB the pulse took down (R372) -/
  after : Vector (Option (Fin 20 × BitVec 20)) 2 := Vector.replicate 2 none
  /-- core clamps for FLD.OVL and FLD.GRP_OVL; generators held off for overload (R371, R365) -/
  clamp : BitVec 20 := 0
  tpHeld : BitVec 8 := 0
  /-- latest off-pulse of a generator: which, and its end (R361) -/
  tpPulse : Option (Fin 8 × Nat) := none
  /-- group A, B: LOW; in SAG, in MISSING, and not yet reset (R377, R378); instant since which above 19.2 V -/
  low : BitVec 2 := 0
  sag : BitVec 2 := 0
  gone : BitVec 2 := 0
  fsHighAt : Vector (Option Nat) 2 := Vector.replicate 2 none
  /-- group A, B: it was above 19.2 V for 100 ms as VDD_AO entered its limits, and has been since -/
  fsLong : BitVec 2 := 0
  /-- watchdog (R380-R382): armed, WDG, expired state, instant of the latest accepted frame -/
  armed : Bool := false
  wdg : Bool := false
  expired : Bool := false
  frameAt : Option Nat := none
  /-- REFRESH and links of the frames accepted in the present scan; consecutive scans with two links -/
  accRefresh : Option (BitVec 16) := none
  accLinks : BitVec 3 := 0
  recover : Nat := 0
  /-- fault queue, EVT, count of the latest entry (R601) -/
  queue : List FldEntry := []
  evt : Word := 0
  evtCnt : BitVec 8 := 0
  /-- field configuration held, its CRC, and a new one to be taken at the next instant (R355) -/
  cfg : List Word := []
  cfgCrc : Word := 0
  cfgNew : Option (List Word) := none
  cfgLoaded : Bool := false
  /-- off-pulse in group A, B (R374) -/
  pulse : Vector (Option Pulse) 2 := Vector.replicate 2 none
  /-- islands that act on another test, and REFRESH of the frames whose fields were last found to differ (R374, R376) -/
  strays : List Stray := []
  tsync : Vector (Option (BitVec 16)) 2 := Vector.replicate 2 none
  /-- FS_A, FS_B in 10 mV, as the monitors of the die read them -/
  fs : Vector (BitVec 16) 2 := Vector.replicate 2 0
deriving DecidableEq, Repr

/-! ### Safe network -/

/-- STATE of NET_PORT_STAT, in the order of its values (R408). -/
inductive PathState where
  | down | qual | up | lost
deriving DecidableEq, Repr

/-- A network port (R388, R408, R409). -/
structure NetPort where
  st : PathState := .down
  sync : Bool := false
  anDone : Bool := false
  lpFd : Bool := false
  cause : BitVec 4 := 0
  consec : BitVec 8 := 0
  /-- since when no violation and no differing copy has come (QUAL, LOST) -/
  cleanAt : Nat := 0
  /-- instant at which it entered UP (R408) -/
  upAt : Nat := 0
  /-- serialiser loopback failed at Boot: stays DOWN (R521) -/
  dead : Bool := false
deriving DecidableEq, Repr

/-- STATE of NET_CONN_STAT, in the order of its values (R395). -/
inductive ConnState where
  | closed | opening | open | lost
deriving DecidableEq, Repr

/-- A Dravvex connection (R395-R405). -/
structure Conn where
  st : ConnState := .closed
  /-- own session, the partner's session once learned -/
  ses : BitVec 16 := 0
  pses : Option (BitVec 16) := none
  /-- SEQ of the latest frame sent; frames of this session sent, newest first: SEQ and boundary of the scan (R404) -/
  seq : BitVec 16 := 0
  sent : List (BitVec 16 × Nat) := []
  /-- instant at which it became OPEN -/
  openedAt : Nat := 0
  /-- last accepted SEQ of the partner, its first copy and port (R403) -/
  lastSeq : Option (BitVec 16) := none
  acc : Option Frame := none
  accPort : BitVec 1 := 0
  /-- latest copy that each port has brought and the NET block compares (R408) -/
  wire : Vector (Option Frame) 2 := Vector.replicate 2 none
  /-- latest accepted DATA: payload and t_s of its ECHO (R404) -/
  data : BitVec 128 := 0
  ts : Option Nat := none
  /-- instant of the latest accepted copy by port, and of the latest copy equal to the other path's (R408) -/
  pathAt : Vector (Option Nat) 2 := Vector.replicate 2 none
  eqAt : Vector (Option Nat) 2 := Vector.replicate 2 none
  /-- boundary of the scan that sent the latest OPEN -/
  openAt : Option Nat := none
  /-- SEQ of an OPEN to be answered in this scan's phase 4 (R397) -/
  answer : Option (BitVec 16) := none
  /-- reason of a CLOSE to be sent in this scan's phase 4 (R395, R398) -/
  close : Option (BitVec 8) := none
  /-- SCID and the partner's addresses before a commit that closed it (R398) -/
  closeCfg : Option (Word × BitVec 48 × BitVec 48) := none
  /-- CONN_OK (R404) -/
  ok : Bool := false
deriving DecidableEq, Repr

/-- The NET block and the connections the lanes serve. -/
structure Net where
  ports : Vector NetPort 2 := Vector.replicate 2 {}
  conns : Vector Conn 32 := Vector.replicate 32 {}
  /-- exchange buffers: frames delivered since the last phase 1, oldest first: port, nine words, instant (R402) -/
  exch : List (Fin 2 × Frame × Nat) := []
  /-- clause 22 access under way (R387) -/
  mdio : Bool := false
deriving DecidableEq, Repr

/-! ### Osrin ring -/

/-- STATE of OSR_LINK_STAT, in the order of its values. -/
inductive LinkState where
  | down | train | up | lost
deriving DecidableEq, Repr

/-- What a link's latest TIME frame said (R416, R419, R424). -/
structure TimeInfo where
  hops : BitVec 3
  lock : Bool
  ready : BitVec 8
  /-- instant of its arrival -/
  at' : Nat
  /-- epoch pair, slot length, and the change announced (R416, R424) -/
  e : Nat
  k0 : Nat
  len : Nat
  kc : Nat
  lnew : Nat
deriving DecidableEq, Repr

/-- An Osrin link: 0 OSR_E, 1 OSR_W (R417, R418). -/
structure OsrLink where
  st : LinkState := .down
  sync : Bool := false
  dly : BitVec 8 := 0
  peer : BitVec 3 := 0
  cause : BitVec 4 := 0
  consec : BitVec 8 := 0
  /-- instant at which it entered LOST -/
  lostAt : Nat := 0
  /-- left UP and not UP again: recovery window of R436 -/
  window : Bool := false
  /-- neighbour's class-table check value and the own one, as last compared (R417) -/
  peerCls : Option (Word × Word) := none
  /-- what its latest TIME frame said (R416) -/
  time : Option TimeInfo := none
  /-- serialiser loopback failed at Boot: stays DOWN (R521) -/
  dead : Bool := false
deriving DecidableEq, Repr

/-- The OSR block. -/
structure Osr where
  links : Vector OsrLink 2 := Vector.replicate 2 {}
  /-- straps RING_ID[2:0] as read at RST_N release (R414) -/
  ringId : BitVec 3 := 0
  /-- RING_ID is NDEV or more: the device stays in Boot (R414) -/
  wiringBad : Bool := false
  /-- time lock, OSR.STUCK, the step of a follower taken (R419, R421) -/
  lock : Bool := false
  stuck : Bool := false
  stepped : Bool := false
  /-- source link of R419: 0 OSR_E, 1 OSR_W -/
  src : Option (Fin 2) := none
  hops : BitVec 3 := 0
  /-- estimated error in units of 0.5 ns -/
  ofs : Int := 0
  /-- REF100 edges that the slew holds back (R421; log entry 28) -/
  skip : Nat := 0
  /-- consecutive TIME frames with an error below 5 ns (R421) -/
  good : Nat := 0
  /-- failed RING_SYNC marks in a row (R423) -/
  syncFail : Nat := 0
  /-- instant of the latest RING_SYNC mark (R423) -/
  markAt : Option Nat := none
  /-- RING_OK of the latest scan and devices reachable (OSR_RING_OK) -/
  ok : BitVec 8 := 0
  reach : BitVec 8 := 0
deriving DecidableEq, Repr

/-! ### Analog measurement -/

/-- An entry that is sampling or in conversion (R445): source, whether injected, instant its result is completed, and the
entry's number in its sequence. -/
structure Sampled where
  src : BitVec 5
  inj : Bool
  due : Nat
  entry : Nat
deriving DecidableEq, Repr

/-- A latest result of a source (R457). -/
structure AdcRes where
  value : BitVec 14
  stamp : Nat
  inj : Bool
  cnt : BitVec 8
deriving DecidableEq, Repr

/-- A converter: 0 ADC-P, 1 ADC-Q. -/
structure Conv where
  /-- it has coefficients: offset and gain corrections (ADC_CAL_COEF) -/
  coef : Option (BitVec 16 × BitVec 16) := none
  /-- halted (R461) -/
  halted : Bool := false
  /-- failed calibrations in a row (R455) -/
  fails : Nat := 0
  /-- calibrating (R451) -/
  cal : Bool := false
  /-- end of the calibration under way (R451) -/
  calEnd : Nat := 0
  /-- entries sampling or in conversion, oldest first; end of sampling of the newest -/
  pipe : List Sampled := []
  free : Nat := 0
  /-- next regular entry; entries still to sample of a triggered pass -/
  pos : Nat := 0
  pass : Nat := 0
  /-- a triggered regular pass is under way until its last result -/
  passBusy : Bool := false
  /-- injected group pending; its next entry -/
  inj : Bool := false
  injPos : Nat := 0
  /-- held group (R454) -/
  held : Bool := false
deriving DecidableEq, Repr

/-- The ADC block. -/
structure Adc where
  conv : Vector Conv 2 := Vector.replicate 2 {}
  /-- calibrations requested and not started, in the order in which they go (R453) -/
  calq : List (Fin 2) := []
  /-- the reference is within its limits (R461) -/
  refOk : Bool := false
  /-- latest result, and the one before it, by 32 × converter + source -/
  res : Map (Option AdcRes) := []
  prev : Map (Option AdcRes) := []
  /-- triggers from a timer match that have not been taken, regular and injected, by converter (R478) -/
  regDue : BitVec 2 := 0
  injDue : BitVec 2 := 0
deriving DecidableEq, Repr

/-! ### Timers and check-value units -/

/-- What the timers hold beside their registers (R468-R481). -/
structure Tmr where
  acc : Vector (BitVec 32) 8 := Vector.replicate 8 0
  /-- edges at which source events of SRC 2, 3 and 4 not yet taken are delivered, oldest first (R469) -/
  evDue : Vector (List Nat) 8 := Vector.replicate 8 []
  /-- edges of the capture triggers whose capture has not been taken, oldest first: channel k of TCn at 2n + k (R479) -/
  capDue : Vector (List Nat) 16 := Vector.replicate 16 []
  /-- REF100 edge of the latest source event taken: one an edge (R468, R469) -/
  evAt : Vector (Option Nat) 8 := Vector.replicate 8 none
  /-- REF100 edges at which the latest write of CNT, of a compare value, and the latest capture fell (R474, R476, R480, R481) -/
  cntAt : Vector (Option Nat) 8 := Vector.replicate 8 none
  cmpAt : Vector (Option Nat) 8 := Vector.replicate 8 none
  capAt : Vector (Option Nat) 8 := Vector.replicate 8 none
  /-- copies of the newest sample not yet taken, by link: SNUM, filtered inputs, edge of arrival (R470) -/
  copies : Vector (Option (BitVec 16 × Word × Nat)) 3 := Vector.replicate 3 none
  /-- SNUM and filtered inputs of the last good frame taken (R470) -/
  snum : Option (BitVec 16) := none
  si : Word := 0
deriving DecidableEq, Repr

/-- A general check-value unit: working copy, state and length (R483-R485). -/
structure CrcUnit where
  width : Nat := 32
  refin : Bool := true
  refout : Bool := true
  poly : Word := 0x04C11DB7
  xorout : Word := 0xFFFFFFFF
  st : Word := 0xFFFFFFFF
  len : Word := 0
deriving DecidableEq, Repr

/-! ### Modes and faults -/

/-- A raising at S2 or above that acts on the mode (R497): at S2 the groups it puts into Safe-hold; whether by force (R559). -/
structure HoldReq where
  src : Src
  sev : BitVec 3
  groups : BitVec 16
  detail : Word
  at' : Nat
  forced : Bool
deriving DecidableEq, Repr

/-- Mode requests of R516, deliberate resets of R527: outstanding, with the instant of the write. -/
structure Request where
  target : BitVec 3
  at' : Nat
deriving DecidableEq, Repr

/-- The SYS block: mode, requests, reactions and the ERR_N driver. -/
structure Sys where
  mode : Mode := .boot
  prev : Mode := .boot
  /-- step of R519 under way, 15 = Boot ended; zero of R519 -/
  step : BitVec 4 := 1
  zero : Nat := 0
  /-- mode in which Boot ends as soon as the domains of R38 are powered -/
  leave : Option Mode := none
  /-- configuration loaded (R519 step 5); internal steps complete (step 7) -/
  loaded : Bool := false
  internal : Bool := false
  /-- the Boot under way followed a CHIP reaction (R503) -/
  chipBoot : Bool := false
  /-- end of the latest Boot that followed a CHIP reaction -/
  chipEnd : Option Nat := none
  /-- function groups in Safe-hold (R297) -/
  grpHold : BitVec 16 := 0
  /-- hold requests of R497, held until a deliberate reset -/
  holds : List HoldReq := []
  /-- raisings of the lanes that act in the drive phase of this scan -/
  acts : List HoldReq := []
  /-- S3 sources raised since Safe-hold was entered, with DETAIL (R529) -/
  s3 : List (Src × Word) := []
  /-- mode from which Safe-hold was entered (R530) -/
  holdFrom : Mode := .boot
  /-- phase 1 of this scan has agreed that Boot may end at the next boundary (R519, R524) -/
  bootAgreed : Bool := false
  /-- mode request waiting for its scan, and the transition agreed for the next boundary (R514, R516) -/
  req : Option Request := none
  reqAgreed : Option (BitVec 3) := none
  /-- deliberate reset requested by the host; agreed in this scan; carried out, to be judged at the next boundary -/
  drst : Option Nat := none
  drstScan : Bool := false
  drstDone : Bool := false
  /-- partners required and ready in the latest scan: ALL of SYS_PARTNER (R524) -/
  partners : Bool := false
  /-- power-down: Safe-hold still to be entered; under way; ready (R531) -/
  pdnHold : Bool := false
  pdnBusy : Bool := false
  pdnReady : Bool := false
  /-- start of the partner wait (R525) -/
  pwaitAt : Option Nat := none
  /-- VALIDATE is done: Run at the first boundary with three lanes in service (R549) -/
  validated : Bool := false
  /-- ERR_N: latch, release waiting, instant of the latest EPIN raising, a scan boundary has come since the reset (R506-R509) -/
  errLatch : Bool := false
  errRelWait : Bool := false
  epinAt : Nat := 0
  errArmed : Bool := false
  /-- square wave running, and its present half (R507) -/
  pump : Bool := false
  wave : Bool := false
  /-- instant of the latest edge of the wave -/
  waveAt : Nat := 0
  /-- BLK reactions started, by block; CHIP reaction started and its instant (R501) -/
  blkDue : BitVec 16 := 0
  chipDue : Option (Src × Nat) := none
deriving DecidableEq, Repr

/-! ### Configuration store, transactions and sump -/

/-- A sump record (R562): SEQ, totals by 4,096 × kind + entry, and whether its header and CRC pass. -/
structure SumpRec where
  seq : Word
  tot : Map Nat
deriving DecidableEq, Repr

/-- Nonvolatile contents: the two banks of the configuration store (user bytes, erased = 0xFF; R532) and the six slots
of the sump (R562). -/
structure Nv where
  bank0 : Map Byte := []
  bank1 : Map Byte := []
  slots : Vector (Option SumpRec) 6 := Vector.replicate 6 none
deriving DecidableEq, Repr

/-- STATE of CFG_TXN_STAT. -/
inductive TxnState where
  | idle | open | pend
deriving DecidableEq, Repr

/-- The CFG block. -/
structure Cfg where
  /-- pages of the candidate erased since the last FINISH (R545) -/
  erased : BitVec 64 := 0
  /-- command running: OP and PAGE -/
  cmd : Option (BitVec 3 × BitVec 6) := none
  /-- CFG_KEY_N asserted (R542) -/
  key : Bool := false
  /-- current bank (R540), validity, validation, and that its reads fail (R547) -/
  cur : Option (Fin 2) := none
  valid : BitVec 2 := 0
  validated : Bool := false
  readsFail : Bool := false
  /-- NT_OFF and AN_OFF as read at step 1 (R540) -/
  step1 : BitVec 2 := 0
  /-- the two latest seal comparisons matched, newest first (R543, R529) -/
  seal0 : Bool := false
  seal1 : Bool := false
  /-- instant of the latest seal comparison (R522) -/
  sealAt : Option Nat := none
  /-- state of the transaction (R550) -/
  txn : TxnState := .idle
deriving DecidableEq, Repr

/-- The SMP block. Counters by 4,096 × kind + entry (R557). -/
structure Smp where
  inc : Map Nat := []
  tot : Map Nat := []
  restored : Bool := false
  fresh : Bool := false
  /-- slot of the newest valid record, its SEQ, slots marked bad -/
  slot : Option (Fin 6) := none
  seq : Word := 0
  bad : BitVec 6 := 0
  /-- store under way: the slot it programs -/
  store : Option (Fin 6) := none
  /-- that store is the one of step 3 of R531 -/
  final : Bool := false
  /-- instant of the latest restore or completed store since the device reset -/
  at' : Option Nat := none
  /-- symbol position of the latest corrected codeword (R42) -/
  eccSym : Option (BitVec 6) := none
deriving DecidableEq, Repr

/-! ### JTAG -/

/-- States of the TAP controller (IEEE 1149.1, R585). -/
inductive TapState where
  | testLogicReset | runTestIdle | selectDr | captureDr | shiftDr | exit1Dr | pauseDr | exit2Dr | updateDr
  | selectIr | captureIr | shiftIr | exit1Ir | pauseIr | exit2Ir | updateIr
deriving DecidableEq, Repr

/-- Instructions of R585. -/
inductive TapInstr where
  | bypass | idcode | sample | extest
deriving DecidableEq, Repr

/-- The JTAG port. -/
structure Jtag where
  st : TapState := .testLogicReset
  instr : TapInstr := .idcode
  ir : BitVec 4 := 0
  /-- data register in its shift stage, bit 0 next out -/
  dr : List Bool := []
  /-- boundary register's update stage, and TDO -/
  bnd : List Bool := []
  tdo : Bool := false
deriving DecidableEq, Repr

/-! ### Output log and the whole state -/

/-- What the device sends (log entry 5), newest first in `State.tx`. -/
inductive Tx where
  /-- frame on a valve port -/
  | port (n : Fin 16) (f : Frame)
  /-- entry written to a host ring: ring number, address in host memory (R111), index, words -/
  | ring (n : Fin 4) (addr : BitVec 64) (idx : Nat) (ws : List Word)
  /-- MSI-X message -/
  | msi (vec : BitVec 5)
  /-- read request for submission entries: address in host memory (R111), first index and number (R142) -/
  | fetch (addr : BitVec 64) (idx n : Nat)
  /-- drive frame of a lane on its FDL link (R355) -/
  | fdl (l : Fin 3) (f : Frame)
  /-- field reset frame of a lane (R528) -/
  | fdlReset (l : Fin 3) (f : Frame)
  /-- configuration frame that a lane sends (R355, R487): the words of the field configuration and their CRC (log entry 16) -/
  | fdlConfig (l : Fin 3) (f : Frame)
  /-- sample frame of the field die, on the links given -/
  | sample (links : BitVec 3) (f : Frame)
  /-- Ethernet frame: port, destination, source, tag, EtherType, payload bytes, FCS (R389) -/
  | eth (p : Fin 2) (dst src : BitVec 48) (tag : Option (BitVec 16)) (etype : BitVec 16) (payload : List Byte) (fcs : Word)
  /-- clause 22 access -/
  | mdio (val : Word)
  /-- frame on an Osrin link -/
  | osr (p : Fin 2) (f : Frame)
  /-- pulse on RING_SYNC_OUT -/
  | sync
  /-- completion of a host request with Unsupported Request -/
  | ur
  /-- completion of a configuration request with Configuration Request Retry Status (R81) -/
  | crs
deriving DecidableEq, Repr

/-- The state of the device. -/
structure State where
  /-- timebase (R464) -/
  tb : Nat := 0
  pwr : Pwr := {}
  keep : Keep := {}
  nv : Nv := {}
  slot : Slot := {}
  cis : Cis := {}
  dsc : Dsc := {}
  tkt : Tkt := {}
  rings : Vector Ring 4 := Vector.replicate 4 {}
  evs : Evs := {}
  hif : Hif := {}
  vpt : Vpt := {}
  lan : Lan := {}
  fld : Fld := {}
  net : Net := {}
  osr : Osr := {}
  adc : Adc := {}
  tmr : Tmr := {}
  crc : Vector CrcUnit 4 := Vector.replicate 4 {}
  sys : Sys := {}
  cfg : Cfg := {}
  smp : Smp := {}
  jtag : Jtag := {}
  /-- registers by BAR0 offset that differ from their reset value, and the shadows (R550) -/
  regs : Map Word := []
  shadow : Map Word := []
  /-- what has been sent, newest first (log entry 5) -/
  tx : List Tx := []
  /-- commands that wait, first in, first out -/
  pending : List Instr := []
  /-- order of R600 that the present REF100 edge has reached (log entry 2) -/
  edge : Nat := 0
  /-- number of free values taken (log entry 6) -/
  free : Nat := 0
deriving DecidableEq, Repr

/-- The device right after reset at power-up: VDD_AO within its limits, REF100 not yet accepted, Boot step 1 (R517, R519). -/
def State.reset : State := {}

end Sys2Proof.Machine
end

