-- ==== Sys2Proof/Machine/Image.lean ====
section
/-! DEFINITION. The logic image: reading it from bytes, the checks of R291 and the evaluation of R295. -/

namespace Sys2Proof.Machine

/-! ### Catalogue (R299) -/

/-- What the catalogue gives a type: smallest and largest NIN, word inputs, outputs, area, live, defined OPT bits. -/
structure CatRow where
  minIn : Nat
  maxIn : Nat
  words : Bool
  outs : Nat
  area : Nat
  live : Bool
  opt : BitVec 8
deriving DecidableEq, Repr

/-- The catalogue of R299. -/
def catalogue (typ : BitVec 8) : Option CatRow :=
  match typ.toNat with
  | 0x01 => some ⟨1, 4, false, 1, 4, false, 0x0F⟩
  | 0x02 => some ⟨1, 4, false, 1, 4, false, 0x0F⟩
  | 0x03 => some ⟨2, 2, false, 1, 4, false, 0x0F⟩
  | 0x04 => some ⟨2, 4, false, 1, 4, false, 0⟩
  | 0x05 => some ⟨1, 1, true, 1, 4, false, 0⟩
  | 0x06 => some ⟨2, 2, true, 1, 4, false, 0x03⟩
  | 0x10 => some ⟨4, 4, false, 3, 8, true, 0x81⟩
  | 0x20 => some ⟨1, 1, false, 1, 8, true, 0⟩
  | 0x21 => some ⟨1, 1, false, 1, 8, true, 0⟩
  | 0x22 => some ⟨1, 1, false, 1, 8, true, 0x01⟩
  | 0x30 => some ⟨1, 1, false, 1, 8, true, 0x01⟩
  | 0x31 => some ⟨3, 3, false, 2, 8, true, 0x01⟩
  | 0x32 => some ⟨2, 2, false, 1, 4, true, 0⟩
  | 0x40 => some ⟨3, 3, false, 2, 12, true, 0x80⟩
  | 0x50 => some ⟨4, 4, true, 2, 8, true, 0x83⟩
  | 0x60 => some ⟨4, 4, false, 4, 12, true, 0x80⟩
  | 0x70 => some ⟨1, 1, false, 2, 4, false, 0⟩
  | 0x71 => some ⟨1, 1, false, 1, 4, false, 0⟩
  | 0x72 => some ⟨1, 4, false, 0, 4, false, 0⟩
  | _ => none

/-- Fault outputs that REPORT reports (R300). -/
def faultOuts (typ : BitVec 8) : List Nat :=
  match typ.toNat with
  | 0x10 => [1, 2]
  | 0x40 => [0]
  | 0x50 => [1]
  | 0x60 => [3]
  | _ => []

/-- Inputs that the catalogue calls optional (R304, R309, R311). -/
def optionalIn (typ : BitVec 8) (i : Nat) : Bool :=
  match typ.toNat with
  | 0x10 => i == 2 || i == 3
  | 0x31 => i == 2
  | 0x40 => i == 2
  | _ => false

/-- Input reference n of a block. -/
def Block.input (b : Block) (n : Nat) : BitVec 16 :=
  match n with
  | 0 => b.in0
  | 1 => b.in1
  | 2 => b.in2
  | _ => b.in3

/-- KIND of a reference (R288). -/
def refKind (r : BitVec 16) : Nat := r.toNat / 8192

/-- INDEX of a reference (R288). -/
def refIndex (r : BitVec 16) : Nat := r.toNat % 8192

/-! ### Reading -/

/-- The word at a byte offset. -/
def word32 (b : Nat → Byte) (o : Nat) : Nat :=
  (b o).toNat + 256 * (b (o + 1)).toNat + 65536 * (b (o + 2)).toNat + 16777216 * (b (o + 3)).toNat

/-- The block record at a byte offset (R287). -/
def readBlock (b : Nat → Byte) (o : Nat) : Block :=
  let w := word32 b
  { typ := BitVec.ofNat 8 (w o), opt := BitVec.ofNat 8 (w o / 256), group := BitVec.ofNat 4 (w o / 65536),
    nin := bitsOf (w o) 22 20, in0 := BitVec.ofNat 16 (w (o + 4)), in1 := BitVec.ofNat 16 (w (o + 4) / 65536),
    in2 := BitVec.ofNat 16 (w (o + 8)), in3 := BitVec.ofNat 16 (w (o + 8) / 65536),
    par0 := BitVec.ofNat 32 (w (o + 12)), par1 := BitVec.ofNat 32 (w (o + 16)), var := BitVec.ofNat 14 (w (o + 20)) }

/-- The image read from its bytes (R284-R287). -/
def readImage (b : Nat → Byte) : Image :=
  let w := word32 b
  let nblk := bitsOf (w 0x0C) 11 0
  let npool := bitsOf (w 0x0C) 28 16
  let nlive := bitsOf (w 0x18) 22 16
  { period := bitsOf (w 0x10) 20 0, win := bitsOf (w 0x14) 20 0, live := bitsOf (w 0x18) 14 0,
    tool := BitVec.ofNat 16 (w 0x1C), format := BitVec.ofNat 8 (w 0x04 / 65536),
    liveTab := (List.range nlive).map fun i => (bitsOf (w (0x40 + 4 * i)) 15 0, bitsOf (w (0x40 + 4 * i)) 31 16),
    blocks := (List.range nblk).map fun i => readBlock b (0x140 + 24 * i),
    pool := (List.range npool).map fun i => BitVec.ofNat 32 (w (0x140 + 24 * nblk + 4 * i)),
    sig := BitVec.ofNat 32 (w (bitsOf (w 0x08) 16 0 - 4)) }

/-! ### Load checks (R291) -/

/-- Every byte of a range lies in the live set. -/
def inLive (im : Image) (o n : Nat) : Bool :=
  (List.range n).all fun k => im.liveTab.any fun e => decide (e.1 ≤ o + k ∧ o + k < e.1 + e.2)

/-- Header faults: MAGIC, FORMAT, STEP, reserved bits, sizes, signature (R284, R285, R290). -/
def headerBad (b : Nat → Byte) : Bool :=
  let w := word32 b
  let size := bitsOf (w 0x08) 16 0
  let nblk := bitsOf (w 0x0C) 11 0
  let npool := bitsOf (w 0x0C) 28 16
  w 0 != 0x4B584C49 || bitsOf (w 4) 11 0 != 0x0A1 || bitsOf (w 4) 23 16 != 1
    || bitsOf (w 4) 15 12 != 0 || bitsOf (w 4) 31 24 != 0 || bitsOf (w 8) 31 17 != 0
    || bitsOf (w 0x0C) 15 12 != 0 || bitsOf (w 0x0C) 31 29 != 0 || bitsOf (w 0x10) 31 21 != 0
    || bitsOf (w 0x14) 31 21 != 0 || bitsOf (w 0x18) 15 15 != 0 || bitsOf (w 0x18) 31 23 != 0
    || bitsOf (w 0x1C) 31 16 != 0 || (List.range 8).any (fun i => w (0x20 + 4 * i) != 0)
    || nblk == 0 || nblk > 2048 || npool > 4015
    || size != 0x144 + 24 * nblk + 4 * npool || size > 65536
    || (crc32 ((List.range (size - 4)).map b)).toNat != w (size - 4)

/-- Live table faults (R286). -/
def liveBad (b : Nat → Byte) (im : Image) : Bool :=
  let n := im.liveTab.length
  let rising : List (Nat × Nat) → Bool := fun l =>
    (l.zip l.tail).all fun p => decide (p.1.1 + p.1.2 ≤ p.2.1)
  n > 64 || !rising im.liveTab
    || im.liveTab.any (fun e => e.2 == 0 || e.2 > 16384 || e.1 + e.2 > 16384)
    || (im.liveTab.map (·.2)).sum != im.live || im.live > 16384
    || (List.range 64).any (fun i => decide (n ≤ i) && word32 b (0x40 + 4 * i) != 0)

/-- A reference that breaks R288 or the ranges of R291 for input n of block i. -/
def refBad (im : Image) (i : Nat) (blk : Block) (row : CatRow) (n : Nat) : Bool :=
  let r := blk.input n
  let x := refIndex r
  let outNo := x % 4
  let named := im.blocks[x / 4]?
  let hasOut := match named with
    | some m => match catalogue m.typ with
      | some c => decide (outNo < c.outs)
      | none => false
    | none => false
  match refKind r with
  | 0 => row.words
  | 1 => !row.words
  | 2 => row.words || !hasOut || decide (i ≤ x / 4)
  | 3 => row.words || decide (1 < x)
  | 4 => !row.words || decide (im.pool.length ≤ x)
  | 5 => row.words || !hasOut || decide (x / 4 < i)
      || (match named with | some m => !inLive im m.var.toNat 4 | none => true)
  | 7 => r != 0xFFFF || !optionalIn blk.typ n
  | _ => true

/-- A parameter outside the range of the catalogue (R302-R316). -/
def paramBad (blk : Block) : Bool :=
  let p0 := blk.par0.toNat
  let p1 := blk.par1.toNat
  match blk.typ.toNat with
  | 0x04 => decide (bitsOf p0 2 0 < 1 ∨ blk.nin < bitsOf p0 2 0)
  | 0x10 => bitsOf p0 15 0 == 0
  | 0x20 => bitsOf p0 23 0 == 0
  | 0x21 => bitsOf p0 23 0 == 0
  | 0x22 => bitsOf p0 23 0 == 0
  | 0x31 => bitsOf p0 15 0 == 0 || decide (bitsOf p0 31 16 < bitsOf p0 15 0)
  | 0x40 => bitsOf p0 15 0 == 0
  | 0x50 => bitsOf p1 31 16 == 0
  | 0x60 => bitsOf p0 15 0 == 0 || bitsOf p0 31 16 == 0
  | 0x70 =>
    let std := bitsOf p0 8 8 == 1
    let per := bitsOf p1 15 8
    let wid := bitsOf p1 7 0
    decide (20 < bitsOf p0 4 0) || (bitsOf p0 9 9 == 1 && !std)
      || (if per == 0 then !std else decide (60 < per) || decide (wid < 20) || decide (100 < wid))
  | 0x72 =>
    let pos := bitsOf p0 14 8
    if bitsOf p0 5 5 == 1 then decide (32 < pos + blk.nin) else decide (128 < pos + blk.nin)
  | _ => false

/-- Faults of block i by itself: reserved bits, TYPE, NIN, references, parameters, live area, area bound. -/
def blockBad (b : Nat → Byte) (im : Image) (i : Nat) (blk : Block) : Bool :=
  let o := 0x140 + 24 * i
  match catalogue blk.typ with
  | none => true
  | some row =>
    bitsOf (word32 b o) 31 23 != 0 || bitsOf (word32 b (o + 20)) 31 14 != 0
      || blk.var.toNat % 4 != 0 || (blk.opt &&& ~~~row.opt) != 0
      || decide (blk.nin < row.minIn) || decide (row.maxIn < blk.nin)
      || (List.range 4).any (fun n => if n < blk.nin then refBad im i blk row n else blk.input n != 0xFFFF)
      || paramBad blk || decide (16384 < blk.var.toNat + row.area)
      || (row.live && !inLive im blk.var.toNat row.area)

/-- The area of a block. -/
def areaOf (blk : Block) : Nat := match catalogue blk.typ with | some c => c.area | none => 0

/-- No two members of a list are related. -/
def pairwiseFree {α : Type} (clash : α → α → Bool) : List α → Bool
  | [] => true
  | a :: l => l.all (fun x => !clash a x) && pairwiseFree clash l

/-- The OUT block of a target, if any. -/
def outBlock (im : Image) (t : Nat) : Option Block :=
  im.blocks.find? fun m => m.typ == 0x70 && bitsOf m.par0.toNat 4 0 == t

/-- Payload bits a SEND writes: connection (32 = ring word) and positions (R319). -/
def sendBits (m : Block) : Nat × Nat × Nat :=
  let p := m.par0.toNat
  (if bitsOf p 5 5 == 1 then 32 else bitsOf p 4 0, bitsOf p 14 8, m.nin)

/-- Faults of the blocks among one another: areas, targets, payload bits, groups (R291). -/
def blocksBad (im : Image) : Bool :=
  let outs := im.blocks.filter fun m => m.typ == 0x70
  let sends := im.blocks.filter fun m => m.typ == 0x72
  !pairwiseFree (fun x y => decide (x.var.toNat < y.var.toNat + areaOf y ∧ y.var.toNat < x.var.toNat + areaOf x)) im.blocks
    || !pairwiseFree (fun x y => bitsOf x.par0.toNat 4 0 == bitsOf y.par0.toNat 4 0) outs
    || !pairwiseFree (fun x y =>
        let a := sendBits x
        let c := sendBits y
        a.1 == c.1 && decide (a.2.1 < c.2.1 + c.2.2 ∧ c.2.1 < a.2.1 + a.2.2)) sends
    || outs.any (fun m =>
        let t := bitsOf m.par0.toNat 4 0
        (t == 20 && m.group != 0)
          || (decide (16 ≤ t) && decide (t < 20)
              && match outBlock im (t - 4) with | some q => q.group != m.group | none => true))

/-- Scan period and window (R236, R239) and the proof N × 95 ns ≤ W. -/
def timingBad (im : Image) : Bool :=
  decide (im.period < 25000 ∨ 2000000 < im.period ∨ im.win < 2000 ∨ im.period < im.win + 4000
    ∨ 10 * im.win < im.blocks.length * 95)

/-- A lane refuses an image that shows any fault of R291. -/
def imageRefused (b : Nat → Byte) : Bool :=
  let im := readImage b
  headerBad b || liveBad b im || blocksBad im || timingBad im
    || (im.blocks.zipIdx).any (fun e => blockBad b im e.2 e.1)

/-! ### Evaluation (R295) -/

/-- A bit of the agreed map; indices not listed read 0 (R281). -/
def InMap.bit (m : InMap) (i : Nat) : Bool := m.bits.getLsbD i

/-- A word of the agreed map; indices not listed read 0 (R282). -/
def InMap.word (m : InMap) (i : Nat) : Word := mread 0 m.words i

/-- A word of the variables region (R289). -/
def varWord (v : Map Byte) (o : Nat) : Nat := word32 (mread 0 v) o

/-- Write a word of the variables region. -/
def setVarWord (v : Map Byte) (o : Nat) (w : Nat) : Map Byte :=
  let p := fun (m : Map Byte) (i : Nat) => mput 0 m (o + i) (BitVec.ofNat 8 (w / 256 ^ i))
  p (p (p (p v 0) 1) 2) 3

/-- Bit input n of a block (R288, R295); a missing optional input reads `dflt`. -/
def bitIn (im : Image) (inp : InMap) (v : Map Byte) (blk : Block) (n : Nat) (dflt : Bool) : Bool :=
  let r := blk.input n
  let x := refIndex r
  match refKind r with
  | 0 => inp.bit x
  | 2 => match im.blocks[x / 4]? with
    | some m => bitsOf (varWord v m.var.toNat) (x % 4) (x % 4) == 1
    | none => false
  | 3 => x == 1
  | 5 => match im.blocks[x / 4]? with
    | some m => bitsOf (varWord v m.var.toNat) (x % 4) (x % 4) == 1
    | none => false
  | _ => dflt

/-- Word input n of a block. -/
def wordIn (im : Image) (inp : InMap) (blk : Block) (n : Nat) : Nat :=
  let r := blk.input n
  match refKind r with
  | 1 => (inp.word (refIndex r)).toNat
  | 4 => (im.pool.getD (refIndex r) 0).toNat
  | _ => 0

/-- Number with given bits, lowest first. -/
def ofBits (l : List Bool) : Nat := l.foldr (fun b n => 2 * n + b2n b) 0

/-- AND, OR, XOR, KOFN (R301, R302): Q from the used inputs. -/
def gate (blk : Block) (ins : List Bool) : Bool :=
  let inv := ins.zipIdx.map fun e => e.1 ^^ blk.opt.getLsbD e.2
  match blk.typ.toNat with
  | 0x01 => inv.all id
  | 0x02 => inv.any id
  | 0x03 => inv.foldl (· ^^ ·) false
  | _ => decide (bitsOf blk.par0.toNat 2 0 ≤ (ins.filter id).length)

/-- BITX and WCMP (R303). -/
def wordGate (blk : Block) (a b : Nat) : Bool :=
  let p := blk.par0.toNat
  match blk.typ.toNat with
  | 0x05 => a.testBit (p % 32)
  | _ =>
    let x := a &&& p
    let y := b &&& blk.par0.toNat
    match bitsOf blk.opt.toNat 1 0 with
    | 0 => x == y
    | 1 => x != y
    | 2 => decide (y ≤ x)
    | _ => decide (x ≤ y)

/-- DUAL (R304, R305): new state word, Q, DOK, IOK. -/
def dual (blk : Block) (st : Nat) (a b0 d0 d1 : Bool) : Nat × Nat :=
  let b := b0 ^^ blk.opt.getLsbD 0
  let n := bitsOf blk.par0.toNat 15 0
  let iok := d0 && d1
  let c := if a != b then min (bitsOf st 15 0 + 1) 65535 else 0
  let f := bitsOf st 16 16 == 1 || decide (n ≤ c)
  let clr := f && !a && !b
  let f' := f && !clr
  let c' := if clr then 0 else c
  (c' + 65536 * b2n f', ofBits [a && b && iok && !f', !f', iok])

/-- TON, TOF, TP (R307): new state word, Q. State: count [23:0], previous input bit 24. -/
def timer (blk : Block) (st : Nat) (x : Bool) : Nat × Nat :=
  let n := bitsOf blk.par0.toNat 23 0
  let cnt := bitsOf st 23 0
  let prev := bitsOf st 24 24 == 1
  match blk.typ.toNat with
  | 0x20 =>
    let c := if x then min (cnt + 1) n else 0
    (c + 16777216 * b2n x, b2n (x && decide (n ≤ c)))
  | 0x21 =>
    let c := if x then n else cnt - 1
    (c + 16777216 * b2n x, b2n (x || decide (0 < cnt)))
  | _ =>
    let start := x && !prev && (cnt == 0 || blk.opt.getLsbD 0)
    let c := if start then n else cnt
    ((c - 1) + 16777216 * b2n x, b2n (decide (0 < c)))

/-- EDGE (R308): state bit 0 previous value, bit 1 VALID. -/
def edge (blk : Block) (st : Nat) (x : Bool) : Nat × Nat :=
  let prev := bitsOf st 0 0 == 1
  let valid := bitsOf st 1 1 == 1
  let fall := blk.opt.getLsbD 0
  (b2n x + 2, b2n (valid && (if fall then prev && !x else !prev && x)))

/-- RLATCH (R309): state [16:0] scans RST has been 1, bit 17 COND and PERMIT held in each of them. -/
def rlatch (blk : Block) (st q : Nat) (cond rst permit : Bool) : Nat × Nat :=
  let k := bitsOf st 16 0
  let clean := bitsOf st 17 17 == 1
  let tmin := bitsOf blk.par0.toNat 15 0
  let tmax := bitsOf blk.par0.toNat 31 16
  let ok := cond && permit
  let st' := if rst then min (k + 1) 65536 + 131072 * b2n (ok && (k == 0 || clean)) else 0
  let rel := !rst && clean && decide (tmin ≤ k) && decide (k ≤ tmax)
  let q' := if blk.opt.getLsbD 0 then ok else ok && (bitsOf q 0 0 == 1 || rel)
  (st', ofBits [q', ok && !q'])

/-- FBM (R311): counts word [15:0] c_off, [31:16] c_on; flags word bit 0 fault, bit 1 previous RST. -/
def fbm (blk : Block) (w1 w2 : Nat) (cmd fbk rst : Bool) : Nat × Nat × Nat :=
  let toff := bitsOf blk.par0.toNat 15 0
  let ton := bitsOf blk.par0.toNat 31 16
  let off := if cmd then 0 else min (bitsOf w1 15 0 + 1) 65535
  let on := if cmd then min (bitsOf w1 31 16 + 1) 65535 else 0
  let f1 := bitsOf w2 0 0 == 1 || (!cmd && !fbk && decide (toff ≤ off))
  let f2 := f1 || (ton != 0 && cmd && fbk && decide (ton ≤ on))
  let f3 := f2 && !(bitsOf w2 1 1 == 1 && !rst && !cmd && fbk)
  (off + 65536 * on, b2n f3 + 2 * b2n rst, ofBits [!f3, !f3 && !cmd && fbk])

/-- ACMP (R313, R314): state bit 0 ARMED, bit 1 LATCHED; ages in µs against the limit in 10 µs. -/
def acmp (blk : Block) (st q p v ageP ageQ : Nat) : Nat × Nat :=
  let p0 := blk.par0.toNat
  let th := bitsOf p0 13 0
  let hys := bitsOf p0 29 16
  let tol := bitsOf blk.par1.toNat 13 0
  let lim := 10 * bitsOf blk.par1.toNat 31 16
  let raw := decide ((p - v) + (v - p) ≤ tol) && decide (ageP ≤ lim) && decide (ageQ ≤ lim)
  let latch := blk.opt.getLsbD 1
  let armed := bitsOf st 0 0 == 1
  let latched := bitsOf st 1 1 == 1 || (armed && !raw)
  let ok := raw && !(latch && latched)
  let prev := bitsOf q 0 0 == 1
  let qq := if blk.opt.getLsbD 0
    then if decide (th ≤ p) && decide (th ≤ v) then true
      else if decide (p + hys < th) || decide (v + hys < th) then false else prev
    else if decide (p ≤ th) && decide (v ≤ th) then true
      else if decide (th + hys < p) || decide (th + hys < v) then false else prev
  (if latch then ofBits [armed || raw, latched] else 0, ofBits [ok && qq, ok])

/-- MODESEL (R315): counts word [15:0] settle, [31:16] ambiguity; position word [1:0] accepted (0 none), [3:2] candidate. -/
def modesel (blk : Block) (w1 w2 q : Nat) (i0 i1 i2 perm : Bool) : Nat × Nat × Nat :=
  let settle := bitsOf blk.par0.toNat 15 0
  let amb := bitsOf blk.par0.toNat 31 16
  let pos := match i0, i1, i2 with
    | true, false, false => 1
    | false, true, false => 2
    | false, false, true => 3
    | _, _, _ => 0
  let acc := bitsOf w2 1 0
  let cand := bitsOf w2 3 2
  let sc := if pos == 0 then 0 else if pos == cand then min (bitsOf w1 15 0 + 1) 65535 else 1
  let ac := if pos == 0 then min (bitsOf w1 31 16 + 1) 65535 else 0
  let take := pos != 0 && decide (settle ≤ sc) && perm
  let acc' := if take then pos else acc
  let okPrev := bitsOf q 3 3 == 1
  let ok := take || (okPrev && !decide (amb ≤ ac))
  let m := if pos != 0 && pos == acc' then pos else 0
  (sc + 65536 * ac, acc' + 4 * pos, ofBits [m == 1, m == 2, m == 3, ok])

/-- Target of an OUT. -/
def outTarget (blk : Block) : Nat := bitsOf blk.par0.toNat 4 0

/-- SO_OK or SL_OK of an OUT's target; 1 for the sluice (R281, R317). -/
def outFok (inp : InMap) (t : Nat) : Bool := t == 20 || inp.bit (84 + t)

/-- SEND: a payload with the block's bits written (R319). -/
def sendInto {n : Nat} (w : BitVec n) (pos : Nat) (ins : List Bool) : BitVec n :=
  ins.zipIdx.foldl (fun acc e => putBit acc (pos + e.2) e.1) w

/-- One block evaluated (R295). -/
def evalBlock (im : Image) (inp : InMap) (e : Eval) (blk : Block) : Eval :=
  let o := blk.var.toNat
  let bit := fun n d => bitIn im inp e.vars blk n d
  let ins := (List.range blk.nin).map fun n => bit n false
  let out := varWord e.vars o
  let st := varWord e.vars (o + 4)
  let w1 := fun (q : Nat) => { e with vars := setVarWord e.vars o q }
  let w2 := fun (r : Nat × Nat) => { e with vars := setVarWord (setVarWord e.vars o r.2) (o + 4) r.1 }
  let w3 := fun (r : Nat × Nat × Nat) =>
    { e with vars := setVarWord (setVarWord (setVarWord e.vars o r.2.2) (o + 4) r.1) (o + 8) r.2.1 }
  match blk.typ.toNat with
  | 0x01 => w1 (b2n (gate blk ins))
  | 0x02 => w1 (b2n (gate blk ins))
  | 0x03 => w1 (b2n (gate blk ins))
  | 0x04 => w1 (b2n (gate blk ins))
  | 0x05 => w1 (b2n (wordGate blk (wordIn im inp blk 0) 0))
  | 0x06 => w1 (b2n (wordGate blk (wordIn im inp blk 0) (wordIn im inp blk 1)))
  | 0x10 => w2 (dual blk st (bit 0 false) (bit 1 false) (bit 2 true) (bit 3 true))
  | 0x20 => w2 (timer blk st (bit 0 false))
  | 0x21 => w2 (timer blk st (bit 0 false))
  | 0x22 => w2 (timer blk st (bit 0 false))
  | 0x30 => w2 (edge blk st (bit 0 false))
  | 0x31 => w2 (rlatch blk st out (bit 0 false) (bit 1 false) (bit 2 true))
  | 0x32 => w1 (b2n (bit 1 false && (bit 0 false || bitsOf out 0 0 == 1)))
  | 0x40 => w3 (fbm blk st (varWord e.vars (o + 8)) (bit 0 false) (bit 1 false) (bit 2 false))
  | 0x50 => w2 (acmp blk st out (wordIn im inp blk 0) (wordIn im inp blk 1) (wordIn im inp blk 2) (wordIn im inp blk 3))
  | 0x60 => w3 (modesel blk st (varWord e.vars (o + 8)) out (bit 0 false) (bit 1 false) (bit 2 false) (bit 3 false))
  | 0x70 =>
    let t := outTarget blk
    let q := bit 0 false && inp.bit (112 + blk.group.toNat)
    { e with vars := setVarWord e.vars o (ofBits [q, outFok inp t]), cmds := putBit e.cmds t q }
  | 0x71 =>
    { e with vars := setVarWord e.vars o (b2n (inp.bit (112 + blk.group.toNat))),
             holds := if bit 0 false then e.holds else putBit e.holds blk.group.toNat true }
  | 0x72 =>
    let s := sendBits blk
    { e with vars := setVarWord e.vars o 0,
             pay := if h : s.1 < 32 then vmod e.pay ⟨s.1, h⟩ (fun p => sendInto p s.2.1 ins) else e.pay,
             ring := if s.1 = 32 then sendInto e.ring s.2.1 ins else e.ring }
  | _ => e

/-- After the last block: the commands of every group held in this scan are cleared, in the result and in bit 0 of the
block's output word (R297). -/
def clearHeld (im : Image) (e : Eval) : Eval :=
  im.blocks.foldl (fun e blk =>
    if blk.typ == 0x70 && e.holds.getLsbD blk.group.toNat then
      { e with cmds := putBit e.cmds (outTarget blk) false,
               vars := setVarWord e.vars blk.var.toNat (varWord e.vars blk.var.toNat / 2 * 2) }
    else e) e

/-- Zero every byte of the variables region outside the live set (R244). -/
def clearDead (im : Image) (v : Map Byte) : Map Byte := v.filter fun e => inLive im e.1 1

/-- Number of blocks up to the ring point, which lies directly after the last SEND into the ring word (R430). -/
def ringPoint (im : Image) : Nat :=
  (im.blocks.zipIdx).foldl (fun n e => if e.1.typ == 0x72 && bitsOf e.1.par0.toNat 5 5 == 1 then e.2 + 1 else n) 0

/-- The evaluation of the blocks up to the ring point. -/
def evalPre (im : Image) (inp : InMap) (v : Map Byte) : Eval :=
  (im.blocks.take (ringPoint im)).foldl (evalBlock im inp)
    { vars := v, cmds := 0, holds := 0, pay := Vector.replicate 32 0, ring := 0 }

/-- The evaluation of the blocks after the ring point; then the groups held in this scan are cleared (R297). -/
def evalPost (im : Image) (inp : InMap) (e : Eval) : Eval :=
  clearHeld im ((im.blocks.drop (ringPoint im)).foldl (evalBlock im inp) e)

/-- A block reads a RING_OK or RING_WORD entry (R281, R282). -/
def readsRing (m : Block) : Bool :=
  (List.range m.nin).any fun n =>
    let r := m.input n
    (refKind r == 0 && decide (160 ≤ refIndex r ∧ refIndex r ≤ 167))
      || (refKind r == 1 && decide (128 ≤ refIndex r ∧ refIndex r ≤ 135))

/-- The load checks of R430, where the ring has two devices or more. -/
def ringBad (im : Image) : Bool :=
  (im.blocks.take (ringPoint im)).any readsRing

/-- The bytes of the live set in ascending order (R245). -/
def liveBytes (im : Image) (v : Map Byte) : List Byte :=
  im.liveTab.flatMap fun e => (List.range e.2).map fun k => mread 0 v (e.1 + k)

/-- All outgoing payload bytes: connections in order, then the ring word (R246; log entry 20). -/
def payBytes (e : Eval) : List Byte :=
  (e.pay.toList.flatMap fun p => (List.range 16).map fun i => p.extractLsb' (8 * i) 8) ++ wordBytes e.ring

/-- The lane result (R246). -/
def laneResult (im : Image) (e : Eval) : LaneResult :=
  { cmds := e.cmds, holds := e.holds, crc := crc32 (payBytes e), digest := crc64 (liveBytes im e.vars) }

/-- The output words by block index, for the reports of R300. -/
def outWords (im : Image) (v : Map Byte) : List (BitVec 4) :=
  im.blocks.map fun blk => BitVec.ofNat 4 (varWord v blk.var.toNat)

/-- Groups whose blocks read bit entry i of the input map (R298). -/
def groupsReading (im : Image) (p : BitVec 16 → Bool) : BitVec 16 :=
  im.blocks.foldl (fun g blk =>
    if (List.range blk.nin).any fun n => p (blk.input n) then putBit g blk.group.toNat true else g) 0

end Sys2Proof.Machine
end

