-- ==== Sys2Proof/Machine/Names.lean ====
section
/-! DEFINITION. The register fields that the meanings name: REGISTER_FIELD, from the register tables. -/

namespace Sys2Proof.Machine

/-- A register field: BAR0 offset, strides of its indices, bits, and the reset value of its register. -/
structure RegField where
  base : Nat
  s1 : Nat
  s2 : Nat
  hi : Nat
  lo : Nat
  dflt : Word
deriving DecidableEq, Repr

namespace R

def SYS_MODE_REQ_TARGET : RegField := ⟨0x14, 0x0, 0, 2, 0, 0x0⟩
def SYS_REQ_STAT_NEW : RegField := ⟨0x1c, 0x0, 0, 31, 31, 0x0⟩
def SYS_REQ_STAT_PDN_READY : RegField := ⟨0x1c, 0x0, 0, 17, 17, 0x0⟩
def SYS_REQ_STAT_PDN_BUSY : RegField := ⟨0x1c, 0x0, 0, 16, 16, 0x0⟩
def SYS_REQ_STAT_DRST_WHY : RegField := ⟨0x1c, 0x0, 0, 15, 12, 0x0⟩
def SYS_REQ_STAT_DRST : RegField := ⟨0x1c, 0x0, 0, 10, 8, 0x0⟩
def SYS_REQ_STAT_MODE_WHY : RegField := ⟨0x1c, 0x0, 0, 7, 4, 0x0⟩
def SYS_REQ_STAT_MODE : RegField := ⟨0x1c, 0x0, 0, 2, 0, 0x0⟩
def SYS_BOOT_MS : RegField := ⟨0x24, 0x0, 0, 31, 16, 0x1⟩
def SYS_BOOT_PWAIT_EXP : RegField := ⟨0x24, 0x0, 0, 8, 8, 0x1⟩
def SYS_STEST_FAIL : RegField := ⟨0x28, 0x0, 0, 15, 0, 0x0⟩
def SYS_PARTNER_PWAIT : RegField := ⟨0x2c, 0x0, 0, 25, 16, 0x640000⟩
def SYS_PARTNER_HOST : RegField := ⟨0x2c, 0x0, 0, 8, 8, 0x640000⟩
def SYS_PARTNER_ALL : RegField := ⟨0x2c, 0x0, 0, 4, 4, 0x640000⟩
def SYS_PARTNER_RING : RegField := ⟨0x2c, 0x0, 0, 3, 3, 0x640000⟩
def SYS_PARTNER_CONN : RegField := ⟨0x2c, 0x0, 0, 2, 2, 0x640000⟩
def SYS_PARTNER_PORTS : RegField := ⟨0x2c, 0x0, 0, 1, 1, 0x640000⟩
def SYS_PARTNER_HOST_RDY : RegField := ⟨0x2c, 0x0, 0, 0, 0, 0x640000⟩
def SYS_DRST_CFG_SI : RegField := ⟨0x30, 0x0, 0, 5, 0, 0x3f⟩
def SYS_ERR_CFG_HZ : RegField := ⟨0xf400, 0x0, 0, 29, 16, 0x3e80a00⟩
def SYS_ERR_CFG_MIN_MS : RegField := ⟨0xf400, 0x0, 0, 14, 8, 0x3e80a00⟩
def SYS_ERR_CFG_MODE : RegField := ⟨0xf400, 0x0, 0, 0, 0, 0x3e80a00⟩
def HIF_LINK_MIN_WIDTH : RegField := ⟨0x10004, 0x0, 0, 6, 4, 0x11⟩
def HIF_LINK_MIN_SPEED : RegField := ⟨0x10004, 0x0, 0, 3, 0, 0x11⟩
def HIF_HB_TO_MS : RegField := ⟨0x10010, 0x0, 0, 9, 0, 0x64⟩
def HIF_DMA_STAT_RING : RegField := ⟨0x10020, 0x0, 0, 4, 1, 0x0⟩
def HIF_DMA_STAT_HALT : RegField := ⟨0x10020, 0x0, 0, 0, 0, 0x0⟩
def HIF_NMT_SRC_PEND : RegField := ⟨0x10030, 0x0, 0, 31, 31, 0x0⟩
def HIF_NMT_SRC_BLOCK : RegField := ⟨0x10030, 0x0, 0, 19, 16, 0x0⟩
def HIF_NMT_SRC_CODE : RegField := ⟨0x10030, 0x0, 0, 15, 0, 0x0⟩
def HIF_NMT_CNT_CNT : RegField := ⟨0x10034, 0x0, 0, 31, 0, 0x0⟩
def HIF_DIAG_STAT_UNCORR : RegField := ⟨0x10040, 0x0, 0, 1, 1, 0x0⟩
def HIF_VIOL_CNT_HB : RegField := ⟨0x10044, 0x0, 0, 31, 16, 0x0⟩
def HIF_VIOL_CNT_TLP : RegField := ⟨0x10044, 0x0, 0, 15, 0, 0x0⟩
def HIF_RING_BASE_LO_ADDR : RegField := ⟨0x11000, 0x40, 0, 31, 12, 0x0⟩
def HIF_RING_BASE_HI_ADDR : RegField := ⟨0x11004, 0x40, 0, 31, 0, 0x0⟩
def HIF_RING_CFG_LOG2SIZE : RegField := ⟨0x11008, 0x40, 0, 4, 0, 0x6⟩
def HIF_RING_IRQ_HOLD_US : RegField := ⟨0x11010, 0x40, 0, 31, 16, 0x100⟩
def HIF_RING_IRQ_CNT : RegField := ⟨0x11010, 0x40, 0, 15, 8, 0x100⟩
def HIF_RING_IRQ_VEC : RegField := ⟨0x11010, 0x40, 0, 4, 0, 0x100⟩
def HIF_RING_LOST_CNT : RegField := ⟨0x11014, 0x40, 0, 31, 0, 0x0⟩
def HIF_STAT_CNT_CNT : RegField := ⟨0x11100, 0x4, 0, 31, 0, 0x0⟩
def HIF_TEL_PER_MS : RegField := ⟨0x11200, 0x0, 0, 9, 0, 0x0⟩
def HIF_EVT_STAT_DROP : RegField := ⟨0x11204, 0x0, 0, 0, 0, 0x0⟩
def CIS_SLOT_PERIOD : RegField := ⟨0x20000, 0x0, 0, 13, 0, 0x3e8⟩
def CIS_LEAD_LEAD_US : RegField := ⟨0x20004, 0x0, 0, 11, 0, 0x78⟩
def CIS_STAT_PEND : RegField := ⟨0x20008, 0x0, 0, 1, 1, 0x0⟩
def CIS_DRAIN_MAX_TICKS : RegField := ⟨0x20028, 0x0, 0, 15, 0, 0x0⟩
def CIS_TKT_OPEN_PEAK : RegField := ⟨0x20030, 0x0, 0, 31, 16, 0x0⟩
def CIS_OVF_CNT_CNT : RegField := ⟨0x20034, 0x0, 0, 31, 0, 0x0⟩
def CIS_UNDER_CNT_CNT : RegField := ⟨0x20038, 0x0, 0, 31, 0, 0x0⟩
def CIS_RES_CNT_DROP : RegField := ⟨0x2003c, 0x0, 0, 31, 16, 0x0⟩
def CIS_RES_CNT_FIRE : RegField := ⟨0x2003c, 0x0, 0, 15, 0, 0x0⟩
def CIS_RES_WAIT_CNT : RegField := ⟨0x20040, 0x0, 0, 31, 0, 0x0⟩
def CIS_SLC_CTRL_OP : RegField := ⟨0x20058, 0x0, 0, 9, 8, 0x0⟩
def CIS_SLC_CTRL_SLICE : RegField := ⟨0x20058, 0x0, 0, 4, 0, 0x0⟩
def CIS_SLC_CSTAT_DONE : RegField := ⟨0x2005c, 0x0, 0, 3, 3, 0x0⟩
def CIS_SLC_CSTAT_PASS : RegField := ⟨0x2005c, 0x0, 0, 2, 2, 0x0⟩
def CIS_SLC_CSTAT_REFUSED : RegField := ⟨0x2005c, 0x0, 0, 1, 1, 0x0⟩
def CIS_SLC_CSTAT_BUSY : RegField := ⟨0x2005c, 0x0, 0, 0, 0, 0x0⟩
def CIS_CE_LIM_LIM : RegField := ⟨0x20060, 0x0, 0, 15, 0, 0x0⟩
def CIS_DARK_CNT_CNT : RegField := ⟨0x20064, 0x0, 0, 31, 0, 0x0⟩
def CIS_WS_CNT_UNCORR : RegField := ⟨0x20068, 0x0, 0, 31, 16, 0x0⟩
def CIS_WS_CNT_CORR : RegField := ⟨0x20068, 0x0, 0, 15, 0, 0x0⟩
def CIS_CE_CNT_LAST : RegField := ⟨0x20100, 0x4, 0, 31, 16, 0x0⟩
def CIS_CE_CNT_TOTAL : RegField := ⟨0x20100, 0x4, 0, 15, 0, 0x0⟩
def CIS_DLY_PHASE : RegField := ⟨0x24000, 0x4, 0, 19, 16, 0x0⟩
def CIS_DLY_DELAY : RegField := ⟨0x24000, 0x4, 0, 15, 0, 0x0⟩
def CIS_CLS_POLICY : RegField := ⟨0x26000, 0x4, 0, 16, 16, 0x0⟩
def CIS_CLS_STRETCH : RegField := ⟨0x26000, 0x4, 0, 11, 8, 0x0⟩
def CIS_CLS_OFFSET : RegField := ⟨0x26000, 0x4, 0, 7, 0, 0x0⟩
def VPT_EN_EN : RegField := ⟨0x30000, 0x0, 0, 15, 0, 0x0⟩
def VPT_CTRL_AUTO : RegField := ⟨0x30004, 0x0, 0, 0, 0, 0x1⟩
def VPT_ERR_LIM_LIM : RegField := ⟨0x30008, 0x0, 0, 7, 0, 0x4⟩
def VPT_READY_LOSS : RegField := ⟨0x3000c, 0x0, 0, 31, 16, 0x0⟩
def VPT_BURST_CTRL_VALVE : RegField := ⟨0x30010, 0x0, 0, 10, 4, 0x0⟩
def VPT_BURST_CTRL_PORT : RegField := ⟨0x30010, 0x0, 0, 3, 0, 0x0⟩
def VPT_BURST_STAT_SEQ : RegField := ⟨0x30014, 0x0, 0, 31, 24, 0x0⟩
def VPT_BURST_STAT_REFUSED : RegField := ⟨0x30014, 0x0, 0, 3, 3, 0x0⟩
def VPT_BURST_STAT_TIMEOUT : RegField := ⟨0x30014, 0x0, 0, 2, 2, 0x0⟩
def VPT_BURST_STAT_DONE : RegField := ⟨0x30014, 0x0, 0, 1, 1, 0x0⟩
def VPT_BURST_STAT_BUSY : RegField := ⟨0x30014, 0x0, 0, 0, 0, 0x0⟩
def VPT_PORT_ID_MPRODUCT : RegField := ⟨0x30104, 0x20, 0, 31, 16, 0x0⟩
def VPT_PORT_ID_MVENDOR : RegField := ⟨0x30104, 0x20, 0, 15, 0, 0x0⟩
def VPT_PORT_SER_SERIAL : RegField := ⟨0x30108, 0x20, 0, 31, 0, 0x0⟩
def VPT_PORT_VER_CAP_BURST : RegField := ⟨0x3010c, 0x20, 0, 24, 24, 0x0⟩
def VPT_PORT_VER_PVER : RegField := ⟨0x3010c, 0x20, 0, 19, 16, 0x0⟩
def VPT_PORT_VER_FW : RegField := ⟨0x3010c, 0x20, 0, 15, 8, 0x0⟩
def VPT_PORT_VER_HW : RegField := ⟨0x3010c, 0x20, 0, 7, 0, 0x0⟩
def VPT_PORT_ERR_VIOL : RegField := ⟨0x30110, 0x20, 0, 31, 16, 0x0⟩
def VPT_PORT_ERR_CRC : RegField := ⟨0x30110, 0x20, 0, 15, 0, 0x0⟩
def VPT_PORT_MISS_LOSSES : RegField := ⟨0x30114, 0x20, 0, 31, 24, 0x0⟩
def VPT_PORT_MISS_SLOTS : RegField := ⟨0x30114, 0x20, 0, 15, 0, 0x0⟩
def VPT_PORT_EXP_MPRODUCT : RegField := ⟨0x30118, 0x20, 0, 31, 16, 0x0⟩
def VPT_PORT_EXP_MVENDOR : RegField := ⟨0x30118, 0x20, 0, 15, 0, 0x0⟩
def VPT_PORT_REQ_ALLOW_DEV : RegField := ⟨0x3011c, 0x20, 0, 9, 9, 0x80⟩
def VPT_PORT_REQ_REQ : RegField := ⟨0x3011c, 0x20, 0, 8, 8, 0x80⟩
def VPT_PORT_REQ_MIN_VALVE : RegField := ⟨0x3011c, 0x20, 0, 7, 0, 0x80⟩
def LAN_SCAN_PERIOD : RegField := ⟨0x40000, 0x0, 0, 20, 0, 0x186a0⟩
def LAN_EVAL_WIN : RegField := ⟨0x40004, 0x0, 0, 20, 0, 0x17700⟩
def LAN_IMG_LIVE : RegField := ⟨0x40008, 0x0, 0, 30, 16, 0x0⟩
def LAN_IMG_NBLK : RegField := ⟨0x40008, 0x0, 0, 11, 0, 0x0⟩
def LAN_CSTAT_NEW : RegField := ⟨0x40018, 0x0, 0, 31, 31, 0x0⟩
def LAN_CSTAT_LANE : RegField := ⟨0x40018, 0x0, 0, 5, 4, 0x0⟩
def LAN_CSTAT_RESULT : RegField := ⟨0x40018, 0x0, 0, 2, 0, 0x0⟩
def LAN_CFG_REPAIR_H : RegField := ⟨0x4001c, 0x0, 0, 11, 8, 0x800⟩
def LAN_CFG_AUTO : RegField := ⟨0x4001c, 0x0, 0, 0, 0, 0x800⟩
def LAN_VERDICT_SCAN : RegField := ⟨0x40024, 0x0, 0, 31, 16, 0x0⟩
def LAN_VERDICT_Y : RegField := ⟨0x40024, 0x0, 0, 15, 8, 0x0⟩
def LAN_VERDICT_X : RegField := ⟨0x40024, 0x0, 0, 7, 0, 0x0⟩
def LAN_CMP_STAT_KA_DONE : RegField := ⟨0x40028, 0x0, 0, 3, 3, 0x0⟩
def LAN_CMP_STAT_Y_FAIL : RegField := ⟨0x40028, 0x0, 0, 1, 1, 0x0⟩
def LAN_CMP_STAT_X_FAIL : RegField := ⟨0x40028, 0x0, 0, 0, 0, 0x0⟩
def LAN_PACE_PRED : RegField := ⟨0x40030, 0x10, 0, 31, 16, 0xffff⟩
def LAN_PACE_MIN : RegField := ⟨0x40030, 0x10, 0, 15, 8, 0xffff⟩
def LAN_PACE_MARGIN : RegField := ⟨0x40030, 0x10, 0, 7, 0, 0xffff⟩
def LAN_IN_CNT_CONSEC : RegField := ⟨0x40034, 0x10, 0, 23, 16, 0x0⟩
def LAN_IN_CNT_MINORITY : RegField := ⟨0x40034, 0x10, 0, 15, 0, 0x0⟩
def LAN_RETIRE_CAUSE : RegField := ⟨0x40038, 0x10, 0, 7, 0, 0x0⟩
def LAN_DIG_LO_DIG : RegField := ⟨0x40060, 0x8, 0, 31, 0, 0x0⟩
def LAN_DIG_HI_DIG : RegField := ⟨0x40064, 0x8, 0, 31, 0, 0x0⟩
def LAN_IMG_SIG_SIG : RegField := ⟨0x40080, 0x0, 0, 31, 0, 0x0⟩
def LAN_IMG_VER_TOOL : RegField := ⟨0x40084, 0x0, 0, 31, 16, 0x0⟩
def LAN_IMG_VER_FORMAT : RegField := ⟨0x40084, 0x0, 0, 15, 8, 0x0⟩
def LAN_IMG_VER_NLIVE : RegField := ⟨0x40084, 0x0, 0, 7, 0, 0x0⟩
def LAN_BLK_FLT_NEW : RegField := ⟨0x40088, 0x0, 0, 31, 31, 0x0⟩
def LAN_BLK_FLT_TYPE : RegField := ⟨0x40088, 0x0, 0, 23, 16, 0x0⟩
def LAN_BLK_FLT_OUT : RegField := ⟨0x40088, 0x0, 0, 13, 12, 0x0⟩
def LAN_BLK_FLT_BLOCK : RegField := ⟨0x40088, 0x0, 0, 10, 0, 0x0⟩
def LAN_BLK_CNT_CNT : RegField := ⟨0x4008c, 0x0, 0, 15, 0, 0x0⟩
def FLD_WDG_SCANS : RegField := ⟨0x50008, 0x0, 0, 3, 0, 0x4⟩
def FLD_TEST_STAT_NEW : RegField := ⟨0x50020, 0x0, 0, 31, 31, 0x0⟩
def FLD_TEST_STAT_RESULT : RegField := ⟨0x50020, 0x0, 0, 9, 8, 0x0⟩
def FLD_TEST_STAT_STEP : RegField := ⟨0x50020, 0x0, 0, 6, 5, 0x0⟩
def FLD_TEST_STAT_TARGET : RegField := ⟨0x50020, 0x0, 0, 4, 0, 0x0⟩
def FLD_LINK_ERR_C : RegField := ⟨0x50024, 0x0, 0, 23, 16, 0x0⟩
def FLD_LINK_ERR_B : RegField := ⟨0x50024, 0x0, 0, 15, 8, 0x0⟩
def FLD_LINK_ERR_A : RegField := ⟨0x50024, 0x0, 0, 7, 0, 0x0⟩
def FLD_SI_CFG_TP : RegField := ⟨0x50100, 0x4, 0, 19, 16, 0x1f1420⟩
def FLD_SI_CFG_V_OFF : RegField := ⟨0x50100, 0x4, 0, 13, 8, 0x1f1420⟩
def FLD_SI_CFG_V_ON : RegField := ⟨0x50100, 0x4, 0, 5, 0, 0x1f1420⟩
def FLD_FILT_LIM_LIM : RegField := ⟨0x50200, 0x4, 0, 11, 0, 0x1⟩
def FLD_SO_CFG_PERIOD : RegField := ⟨0x50300, 0x4, 0, 31, 24, 0xa⟩
def FLD_SO_CFG_WIDTH : RegField := ⟨0x50300, 0x4, 0, 23, 16, 0xa⟩
def FLD_SO_CFG_SAFE_ON : RegField := ⟨0x50300, 0x4, 0, 9, 9, 0xa⟩
def FLD_SO_CFG_STD : RegField := ⟨0x50300, 0x4, 0, 8, 8, 0xa⟩
def FLD_SO_CFG_TOFF_MS : RegField := ⟨0x50300, 0x4, 0, 7, 0, 0xa⟩
def NET_NODE_NODE : RegField := ⟨0x60000, 0x0, 0, 15, 0, 0x0⟩
def NET_ETYPE_ETYPE : RegField := ⟨0x60004, 0x0, 0, 15, 0, 0x88b5⟩
def NET_QUAL_MS : RegField := ⟨0x60008, 0x0, 0, 13, 0, 0x3e8⟩
def NET_ERR_LIM_LIM : RegField := ⟨0x6000c, 0x0, 0, 7, 0, 0x4⟩
def NET_CONN_OK_OK : RegField := ⟨0x60010, 0x0, 0, 31, 0, 0x0⟩
def NET_PORT_CFG_VID : RegField := ⟨0x60020, 0x4, 0, 27, 16, 0x1⟩
def NET_PORT_CFG_PCP : RegField := ⟨0x60020, 0x4, 0, 7, 5, 0x1⟩
def NET_PORT_CFG_TAG : RegField := ⟨0x60020, 0x4, 0, 1, 1, 0x1⟩
def NET_PORT_CFG_AN : RegField := ⟨0x60020, 0x4, 0, 0, 0, 0x1⟩
def NET_PORT_ERR_VIOL : RegField := ⟨0x60040, 0x8, 0, 31, 16, 0x0⟩
def NET_PORT_ERR_FCS : RegField := ⟨0x60040, 0x8, 0, 15, 0, 0x0⟩
def NET_PORT_IGN_FOREIGN : RegField := ⟨0x60044, 0x8, 0, 31, 16, 0x0⟩
def NET_PORT_IGN_PAUSE : RegField := ⟨0x60044, 0x8, 0, 15, 0, 0x0⟩
def NET_MDIO_BUSY : RegField := ⟨0x60050, 0x0, 0, 30, 30, 0x0⟩
def NET_MDIO_OP : RegField := ⟨0x60050, 0x0, 0, 26, 26, 0x0⟩
def NET_MDIO_PHYAD : RegField := ⟨0x60050, 0x0, 0, 25, 21, 0x0⟩
def NET_MDIO_REGAD : RegField := ⟨0x60050, 0x0, 0, 20, 16, 0x0⟩
def NET_MDIO_DATA : RegField := ⟨0x60050, 0x0, 0, 15, 0, 0x0⟩
def NET_CONN_ID_SCID : RegField := ⟨0x60400, 0x20, 0, 31, 0, 0x0⟩
def NET_CONN_CFG_PNODE : RegField := ⟨0x60404, 0x20, 0, 31, 16, 0x0⟩
def NET_CONN_CFG_CYC : RegField := ⟨0x60404, 0x20, 0, 7, 4, 0x0⟩
def NET_CONN_CFG_RST_STN : RegField := ⟨0x60404, 0x20, 0, 2, 2, 0x0⟩
def NET_CONN_CFG_REQ : RegField := ⟨0x60404, 0x20, 0, 1, 1, 0x0⟩
def NET_CONN_CFG_EN : RegField := ⟨0x60404, 0x20, 0, 0, 0, 0x0⟩
def NET_CONN_WD_WD : RegField := ⟨0x60408, 0x20, 0, 16, 0, 0x64⟩
def NET_CONN_MAC0_LO_ADDR : RegField := ⟨0x60410, 0x20, 0, 31, 0, 0x0⟩
def NET_CONN_MAC1_LO_ADDR : RegField := ⟨0x60414, 0x20, 0, 31, 0, 0x0⟩
def NET_CONN_MAC_HI_ADDR1 : RegField := ⟨0x60418, 0x20, 0, 31, 16, 0x0⟩
def NET_CONN_MAC_HI_ADDR0 : RegField := ⟨0x60418, 0x20, 0, 15, 0, 0x0⟩
def NET_CONN_CNT_LOSSES : RegField := ⟨0x6041c, 0x20, 0, 31, 24, 0x0⟩
def NET_CONN_CNT_DIFF : RegField := ⟨0x6041c, 0x20, 0, 23, 16, 0x0⟩
def NET_CONN_CNT_STALE : RegField := ⟨0x6041c, 0x20, 0, 15, 0, 0x0⟩
def OSR_ID_NDEV : RegField := ⟨0x70000, 0x0, 0, 10, 8, 0x0⟩
def OSR_CFG_RSEND : RegField := ⟨0x70004, 0x0, 0, 27, 16, 0x0⟩
def OSR_CFG_REQ : RegField := ⟨0x70004, 0x0, 0, 1, 0, 0x0⟩
def OSR_ERR_LIM_LIM : RegField := ⟨0x70008, 0x0, 0, 7, 0, 0x4⟩
def OSR_SYNC_DLY_NS : RegField := ⟨0x7000c, 0x0, 0, 7, 0, 0x0⟩
def OSR_LINK_ERR_VIOL : RegField := ⟨0x70020, 0x4, 0, 31, 16, 0x0⟩
def OSR_LINK_ERR_CRC : RegField := ⟨0x70020, 0x4, 0, 15, 0, 0x0⟩
def OSR_FWD_CNT_FAIL : RegField := ⟨0x70028, 0x0, 0, 31, 16, 0x0⟩
def OSR_FWD_CNT_SENT : RegField := ⟨0x70028, 0x0, 0, 15, 0, 0x0⟩
def ADC_CAL_CTRL_PER_S : RegField := ⟨0x80004, 0x0, 0, 31, 16, 0x2580000⟩
def ADC_OVR_Q : RegField := ⟨0x8000c, 0x0, 0, 31, 16, 0x0⟩
def ADC_OVR_P : RegField := ⟨0x8000c, 0x0, 0, 15, 0, 0x0⟩
def ADC_SEQ_CFG_TRIG : RegField := ⟨0x80010, 0x4, 0, 11, 8, 0x0⟩
def ADC_SEQ_CFG_LEN : RegField := ⟨0x80010, 0x4, 0, 4, 0, 0x0⟩
def ADC_INJ_CFG_OFS_US : RegField := ⟨0x80018, 0x4, 0, 25, 16, 0x0⟩
def ADC_INJ_CFG_TRIG : RegField := ⟨0x80018, 0x4, 0, 11, 8, 0x0⟩
def ADC_INJ_CFG_LEN : RegField := ⟨0x80018, 0x4, 0, 2, 0, 0x0⟩
def ADC_CAL_COEF_OFFSET : RegField := ⟨0x80020, 0x4, 0, 31, 16, 0x0⟩
def ADC_CAL_COEF_GAIN : RegField := ⟨0x80020, 0x4, 0, 15, 0, 0x0⟩
def ADC_CAL_CNT_Q_FAIL : RegField := ⟨0x80028, 0x0, 0, 31, 24, 0x0⟩
def ADC_CAL_CNT_Q_DONE : RegField := ⟨0x80028, 0x0, 0, 23, 16, 0x0⟩
def ADC_CAL_CNT_P_FAIL : RegField := ⟨0x80028, 0x0, 0, 15, 8, 0x0⟩
def ADC_CAL_CNT_P_DONE : RegField := ⟨0x80028, 0x0, 0, 7, 0, 0x0⟩
def ADC_SEQ_GAIN : RegField := ⟨0x80100, 0x40, 4, 17, 16, 0x300⟩
def ADC_SEQ_SMP : RegField := ⟨0x80100, 0x40, 4, 13, 8, 0x300⟩
def ADC_SEQ_SRC : RegField := ⟨0x80100, 0x40, 4, 4, 0, 0x300⟩
def ADC_INJ_GAIN : RegField := ⟨0x80180, 0x10, 4, 17, 16, 0x300⟩
def ADC_INJ_SMP : RegField := ⟨0x80180, 0x10, 4, 13, 8, 0x300⟩
def ADC_INJ_SRC : RegField := ⟨0x80180, 0x10, 4, 4, 0, 0x300⟩
def ADC_RES_VALID : RegField := ⟨0x80200, 0x80, 4, 31, 31, 0x0⟩
def ADC_RES_INJ : RegField := ⟨0x80200, 0x80, 4, 24, 24, 0x0⟩
def ADC_RES_CNT : RegField := ⟨0x80200, 0x80, 4, 23, 16, 0x0⟩
def ADC_RES_VALUE : RegField := ⟨0x80200, 0x80, 4, 13, 0, 0x0⟩
def TMR_TC_CTRL_EN : RegField := ⟨0x90100, 0x40, 0, 31, 31, 0x0⟩
def TMR_TC_CTRL_MIP1 : RegField := ⟨0x90100, 0x40, 0, 21, 21, 0x0⟩
def TMR_TC_CTRL_MIP0 : RegField := ⟨0x90100, 0x40, 0, 20, 20, 0x0⟩
def TMR_TC_CTRL_EDGE : RegField := ⟨0x90100, 0x40, 0, 17, 16, 0x0⟩
def TMR_TC_CTRL_SEL : RegField := ⟨0x90100, 0x40, 0, 12, 8, 0x0⟩
def TMR_TC_CTRL_SRC : RegField := ⟨0x90100, 0x40, 0, 2, 0, 0x0⟩
def TMR_TC_DIV_INT : RegField := ⟨0x90104, 0x40, 0, 31, 16, 0x10000⟩
def TMR_TC_DIV_FRAC : RegField := ⟨0x90104, 0x40, 0, 15, 0, 0x10000⟩
def TMR_TC_TOP_TOP : RegField := ⟨0x90108, 0x40, 0, 31, 0, 0xffffffff⟩
def TMR_TC_CNT_CNT : RegField := ⟨0x9010c, 0x40, 0, 31, 0, 0x0⟩
def TMR_TC_CMP0_CMP : RegField := ⟨0x90110, 0x40, 0, 31, 0, 0x0⟩
def TMR_TC_CMP1_CMP : RegField := ⟨0x90114, 0x40, 0, 31, 0, 0x0⟩
def TMR_TC_CAPCFG_SEL1 : RegField := ⟨0x90118, 0x40, 0, 28, 24, 0x0⟩
def TMR_TC_CAPCFG_EDGE1 : RegField := ⟨0x90118, 0x40, 0, 21, 20, 0x0⟩
def TMR_TC_CAPCFG_TRIG1 : RegField := ⟨0x90118, 0x40, 0, 19, 16, 0x0⟩
def TMR_TC_CAPCFG_SEL0 : RegField := ⟨0x90118, 0x40, 0, 12, 8, 0x0⟩
def TMR_TC_CAPCFG_EDGE0 : RegField := ⟨0x90118, 0x40, 0, 5, 4, 0x0⟩
def TMR_TC_CAPCFG_TRIG0 : RegField := ⟨0x90118, 0x40, 0, 3, 0, 0x0⟩
def TMR_TC_CAP0_CAP : RegField := ⟨0x90120, 0x40, 0, 31, 0, 0x0⟩
def TMR_TC_CAP1_CAP : RegField := ⟨0x90124, 0x40, 0, 31, 0, 0x0⟩
def TMR_TC_FLAG_CCNT1 : RegField := ⟨0x90128, 0x40, 0, 31, 24, 0x0⟩
def TMR_TC_FLAG_CCNT0 : RegField := ⟨0x90128, 0x40, 0, 23, 16, 0x0⟩
def TMR_TC_FLAG_OVF : RegField := ⟨0x90128, 0x40, 0, 6, 6, 0x0⟩
def TMR_TC_FLAG_M1 : RegField := ⟨0x90128, 0x40, 0, 5, 5, 0x0⟩
def TMR_TC_FLAG_M0 : RegField := ⟨0x90128, 0x40, 0, 4, 4, 0x0⟩
def TMR_TC_FLAG_OVR1 : RegField := ⟨0x90128, 0x40, 0, 3, 3, 0x0⟩
def TMR_TC_FLAG_NEW1 : RegField := ⟨0x90128, 0x40, 0, 2, 2, 0x0⟩
def TMR_TC_FLAG_OVR0 : RegField := ⟨0x90128, 0x40, 0, 1, 1, 0x0⟩
def TMR_TC_FLAG_NEW0 : RegField := ⟨0x90128, 0x40, 0, 0, 0, 0x0⟩
def CRC_CFG_REFOUT : RegField := ⟨0xa0000, 0x40, 0, 9, 9, 0x31f⟩
def CRC_CFG_REFIN : RegField := ⟨0xa0000, 0x40, 0, 8, 8, 0x31f⟩
def CRC_CFG_WIDTH : RegField := ⟨0xa0000, 0x40, 0, 4, 0, 0x31f⟩
def CRC_POLY_POLY : RegField := ⟨0xa0004, 0x40, 0, 31, 0, 0x4c11db7⟩
def CRC_INIT_INIT : RegField := ⟨0xa0008, 0x40, 0, 31, 0, 0xffffffff⟩
def CRC_XOR_XOROUT : RegField := ⟨0xa000c, 0x40, 0, 31, 0, 0xffffffff⟩
def CFG_STAT_DONE : RegField := ⟨0xb0000, 0x0, 0, 1, 1, 0x30⟩
def CFG_CMD_PAGE : RegField := ⟨0xb0004, 0x0, 0, 13, 8, 0x0⟩
def CFG_CMD_OP : RegField := ⟨0xb0004, 0x0, 0, 2, 0, 0x0⟩
def CFG_CSTAT_NEW : RegField := ⟨0xb0008, 0x0, 0, 31, 31, 0x0⟩
def CFG_CSTAT_WHY : RegField := ⟨0xb0008, 0x0, 0, 11, 8, 0x0⟩
def CFG_CSTAT_RESULT : RegField := ⟨0xb0008, 0x0, 0, 2, 0, 0x0⟩
def CFG_SEAL_MATCH : RegField := ⟨0xb0014, 0x0, 0, 16, 16, 0x0⟩
def CFG_SEAL_PINS : RegField := ⟨0xb0014, 0x0, 0, 15, 8, 0x0⟩
def CFG_VAL_SIG_SIG : RegField := ⟨0xb0018, 0x0, 0, 31, 0, 0x0⟩
def CFG_VAL_SEAL_ID : RegField := ⟨0xb001c, 0x0, 0, 31, 16, 0x0⟩
def CFG_VAL_SEAL_SEAL : RegField := ⟨0xb001c, 0x0, 0, 7, 0, 0x0⟩
def CFG_TXN_STAT_NEW : RegField := ⟨0xb0024, 0x0, 0, 31, 31, 0x0⟩
def CFG_TXN_STAT_RESULT : RegField := ⟨0xb0024, 0x0, 0, 30, 28, 0x0⟩
def CFG_TXN_STAT_OFS : RegField := ⟨0xb0024, 0x0, 0, 27, 8, 0x0⟩
def CFG_TXN_STAT_WHY : RegField := ⟨0xb0024, 0x0, 0, 7, 4, 0x0⟩
def CFG_TXN_STAT_STATE : RegField := ⟨0xb0024, 0x0, 0, 1, 0, 0x0⟩
def CFG_ECC_UNCORR : RegField := ⟨0xb0028, 0x0, 0, 31, 16, 0x0⟩
def CFG_ECC_CORR : RegField := ⟨0xb0028, 0x0, 0, 15, 0, 0x0⟩
def CFG_BUF_DATA : RegField := ⟨0xb1000, 0x4, 0, 31, 0, 0xffffffff⟩
def SMP_SEL_KIND : RegField := ⟨0xc0010, 0x0, 0, 19, 16, 0x0⟩
def SMP_SEL_INDEX : RegField := ⟨0xc0010, 0x0, 0, 10, 0, 0x0⟩
def PWR_DOM_GATE_AN_OFF : RegField := ⟨0xd0004, 0x0, 0, 8, 8, 0x0⟩
def PWR_DOM_GATE_NT_OFF : RegField := ⟨0xd0004, 0x0, 0, 6, 6, 0x0⟩
def PWR_UV_FLAG_UV : RegField := ⟨0xd0008, 0x0, 0, 11, 0, 0x0⟩
def PWR_OV_FLAG_OV : RegField := ⟨0xd000c, 0x0, 0, 11, 0, 0x0⟩
def PWR_MON_SEL_SECOND : RegField := ⟨0xd0010, 0x0, 0, 4, 4, 0x0⟩
def PWR_MON_SEL_DOM : RegField := ⟨0xd0010, 0x0, 0, 3, 0, 0x0⟩
def PWR_REF_STAT_DEV : RegField := ⟨0xd0018, 0x0, 0, 31, 16, 0x0⟩
def PWR_REF_STAT_LOST : RegField := ⟨0xd0018, 0x0, 0, 1, 1, 0x0⟩

end R

end Sys2Proof.Machine
end

