-- ==== Sys2Proof/Machine/Sources.lean ====
section
/-! DEFINITION. The fault sources of the device (R490, R512). -/

namespace Sys2Proof.Machine

/-- A row of the source table: source, minimum and default severity, allowed reactions coded as ALLOW. -/
structure SrcRow where
  src : Src
  min : BitVec 3
  dflt : BitVec 3
  allow : BitVec 5
deriving DecidableEq, Repr

/-- The source table of R512, by block. -/
def sourceTable : Nat → List SrcRow
  | 0 => [
    ⟨⟨0, 0⟩, 1, 1, 0x1b⟩,
    ⟨⟨0, 1⟩, 3, 3, 0x1b⟩,
    ⟨⟨0, 2⟩, 1, 1, 0x1b⟩,
    ⟨⟨0, 3⟩, 3, 3, 0x13⟩]
  | 1 => [
    ⟨⟨1, 0⟩, 1, 1, 0x1f⟩,
    ⟨⟨1, 1⟩, 0, 0, 0x17⟩,
    ⟨⟨1, 2⟩, 1, 1, 0x1f⟩,
    ⟨⟨1, 3⟩, 1, 1, 0x1f⟩,
    ⟨⟨1, 4⟩, 1, 1, 0x1f⟩,
    ⟨⟨1, 5⟩, 1, 1, 0x1f⟩,
    ⟨⟨1, 6⟩, 1, 1, 0x1f⟩,
    ⟨⟨1, 7⟩, 0, 0, 0x17⟩,
    ⟨⟨1, 8⟩, 1, 1, 0x1f⟩,
    ⟨⟨1, 9⟩, 0, 0, 0x17⟩,
    ⟨⟨1, 10⟩, 1, 1, 0x1f⟩,
    ⟨⟨1, 11⟩, 1, 1, 0x1f⟩]
  | 2 => [
    ⟨⟨2, 0⟩, 1, 1, 0x1b⟩,
    ⟨⟨2, 1⟩, 0, 0, 0x13⟩,
    ⟨⟨2, 2⟩, 1, 1, 0x1b⟩,
    ⟨⟨2, 3⟩, 1, 1, 0x1b⟩,
    ⟨⟨2, 4⟩, 1, 1, 0x1b⟩,
    ⟨⟨2, 5⟩, 0, 0, 0x13⟩,
    ⟨⟨2, 6⟩, 0, 0, 0x13⟩,
    ⟨⟨2, 7⟩, 1, 1, 0x1b⟩,
    ⟨⟨2, 8⟩, 1, 1, 0x1b⟩,
    ⟨⟨2, 9⟩, 1, 1, 0x1b⟩,
    ⟨⟨2, 10⟩, 1, 1, 0x1b⟩,
    ⟨⟨2, 11⟩, 1, 1, 0x1b⟩,
    ⟨⟨2, 12⟩, 1, 1, 0x1b⟩]
  | 3 => [
    ⟨⟨3, 0⟩, 1, 1, 0x1f⟩,
    ⟨⟨3, 1⟩, 1, 1, 0x1f⟩,
    ⟨⟨3, 2⟩, 1, 1, 0x1f⟩,
    ⟨⟨3, 3⟩, 1, 1, 0x1f⟩,
    ⟨⟨3, 4⟩, 1, 1, 0x1f⟩,
    ⟨⟨3, 5⟩, 0, 0, 0x17⟩,
    ⟨⟨3, 6⟩, 0, 0, 0x17⟩]
  | 4 => [
    ⟨⟨4, 0⟩, 1, 1, 0x1b⟩,
    ⟨⟨4, 1⟩, 1, 1, 0x1b⟩,
    ⟨⟨4, 2⟩, 1, 1, 0x1b⟩,
    ⟨⟨4, 3⟩, 1, 1, 0x1b⟩,
    ⟨⟨4, 4⟩, 1, 1, 0x1b⟩,
    ⟨⟨4, 5⟩, 1, 1, 0x1b⟩,
    ⟨⟨4, 6⟩, 1, 1, 0x1b⟩,
    ⟨⟨4, 7⟩, 0, 0, 0x13⟩,
    ⟨⟨4, 8⟩, 1, 1, 0x1b⟩,
    ⟨⟨4, 9⟩, 1, 1, 0x1b⟩,
    ⟨⟨4, 10⟩, 1, 1, 0x1b⟩,
    ⟨⟨4, 11⟩, 3, 3, 0x1b⟩,
    ⟨⟨4, 12⟩, 3, 3, 0x1b⟩,
    ⟨⟨4, 13⟩, 3, 3, 0x1b⟩,
    ⟨⟨4, 14⟩, 0, 0, 0x13⟩,
    ⟨⟨4, 16⟩, 3, 3, 0x1b⟩,
    ⟨⟨4, 17⟩, 3, 3, 0x1b⟩]
  | 5 => [
    ⟨⟨5, 0⟩, 1, 1, 0x1b⟩,
    ⟨⟨5, 1⟩, 2, 2, 0x1b⟩,
    ⟨⟨5, 2⟩, 2, 2, 0x1b⟩,
    ⟨⟨5, 3⟩, 2, 2, 0x1b⟩,
    ⟨⟨5, 4⟩, 1, 1, 0x1b⟩,
    ⟨⟨5, 5⟩, 2, 2, 0x1b⟩,
    ⟨⟨5, 6⟩, 2, 2, 0x1b⟩,
    ⟨⟨5, 7⟩, 1, 1, 0x1b⟩,
    ⟨⟨5, 8⟩, 1, 1, 0x1b⟩,
    ⟨⟨5, 9⟩, 1, 1, 0x1b⟩,
    ⟨⟨5, 10⟩, 1, 2, 0x1b⟩,
    ⟨⟨5, 11⟩, 1, 1, 0x1b⟩,
    ⟨⟨5, 12⟩, 2, 2, 0x1b⟩,
    ⟨⟨5, 13⟩, 2, 2, 0x1b⟩,
    ⟨⟨5, 14⟩, 3, 3, 0x1b⟩,
    ⟨⟨5, 15⟩, 3, 3, 0x1b⟩,
    ⟨⟨5, 16⟩, 0, 0, 0x13⟩]
  | 6 => [
    ⟨⟨6, 0⟩, 1, 1, 0x1f⟩,
    ⟨⟨6, 1⟩, 1, 1, 0x1f⟩,
    ⟨⟨6, 2⟩, 1, 1, 0x1f⟩,
    ⟨⟨6, 3⟩, 1, 2, 0x1f⟩,
    ⟨⟨6, 4⟩, 1, 1, 0x1f⟩,
    ⟨⟨6, 5⟩, 0, 0, 0x17⟩]
  | 7 => [
    ⟨⟨7, 0⟩, 1, 1, 0x1f⟩,
    ⟨⟨7, 1⟩, 1, 1, 0x1f⟩,
    ⟨⟨7, 2⟩, 1, 1, 0x1f⟩,
    ⟨⟨7, 3⟩, 1, 1, 0x1f⟩,
    ⟨⟨7, 4⟩, 1, 1, 0x1f⟩,
    ⟨⟨7, 5⟩, 1, 1, 0x1f⟩,
    ⟨⟨7, 6⟩, 1, 2, 0x1f⟩,
    ⟨⟨7, 7⟩, 0, 0, 0x17⟩]
  | 8 => [
    ⟨⟨8, 0⟩, 1, 1, 0x1f⟩,
    ⟨⟨8, 1⟩, 1, 1, 0x1f⟩,
    ⟨⟨8, 2⟩, 1, 1, 0x1f⟩,
    ⟨⟨8, 3⟩, 1, 1, 0x1f⟩,
    ⟨⟨8, 4⟩, 0, 0, 0x17⟩]
  | 9 => [
    ⟨⟨9, 0⟩, 1, 1, 0x1b⟩]
  | 10 => [
    ⟨⟨10, 0⟩, 1, 1, 0x1f⟩]
  | 11 => [
    ⟨⟨11, 0⟩, 1, 1, 0x1b⟩,
    ⟨⟨11, 1⟩, 0, 0, 0x13⟩,
    ⟨⟨11, 2⟩, 2, 2, 0x1b⟩,
    ⟨⟨11, 3⟩, 1, 1, 0x1b⟩,
    ⟨⟨11, 4⟩, 3, 3, 0x1b⟩,
    ⟨⟨11, 5⟩, 1, 1, 0x1b⟩]
  | 12 => [
    ⟨⟨12, 0⟩, 1, 1, 0x1b⟩,
    ⟨⟨12, 1⟩, 0, 0, 0x13⟩,
    ⟨⟨12, 2⟩, 0, 0, 0x13⟩,
    ⟨⟨12, 3⟩, 1, 1, 0x1b⟩]
  | 13 => [
    ⟨⟨13, 0⟩, 1, 1, 0x1b⟩,
    ⟨⟨13, 1⟩, 1, 1, 0x1b⟩,
    ⟨⟨13, 2⟩, 1, 1, 0x1b⟩,
    ⟨⟨13, 3⟩, 1, 1, 0x1b⟩,
    ⟨⟨13, 4⟩, 1, 1, 0x1b⟩,
    ⟨⟨13, 5⟩, 2, 2, 0x1b⟩,
    ⟨⟨13, 6⟩, 1, 1, 0x1b⟩,
    ⟨⟨13, 7⟩, 1, 1, 0x1b⟩,
    ⟨⟨13, 8⟩, 2, 2, 0x1b⟩,
    ⟨⟨13, 9⟩, 2, 2, 0x1b⟩,
    ⟨⟨13, 10⟩, 3, 3, 0x1b⟩,
    ⟨⟨13, 11⟩, 3, 3, 0x1b⟩]
  | _ => []

namespace S

def SYS_ACCESS : Src := ⟨0, 0⟩
def SYS_STEST : Src := ⟨0, 1⟩
def SYS_PARTNER : Src := ⟨0, 2⟩
def SYS_CHIP_LOOP : Src := ⟨0, 3⟩
def HIF_ACCESS : Src := ⟨1, 0⟩
def HIF_TLP : Src := ⟨1, 1⟩
def HIF_DB_RANGE : Src := ⟨1, 2⟩
def HIF_HB_SEQ : Src := ⟨1, 3⟩
def HIF_HB_LOST : Src := ⟨1, 4⟩
def HIF_DMA_ERR : Src := ⟨1, 5⟩
def HIF_LINK_DOWN : Src := ⟨1, 6⟩
def HIF_LINK_DEG : Src := ⟨1, 7⟩
def HIF_DESC_CRC : Src := ⟨1, 8⟩
def HIF_DESC_FMT : Src := ⟨1, 9⟩
def HIF_EVT_LOST : Src := ⟨1, 10⟩
def HIF_CPL_LOST : Src := ⟨1, 11⟩
def CIS_ACCESS : Src := ⟨2, 0⟩
def CIS_ECC_C : Src := ⟨2, 1⟩
def CIS_ECC_U : Src := ⟨2, 2⟩
def CIS_DLY_U : Src := ⟨2, 3⟩
def CIS_DRAIN_OVR : Src := ⟨2, 4⟩
def CIS_CELL_OVF : Src := ⟨2, 5⟩
def CIS_TKT_UNDER : Src := ⟨2, 6⟩
def CIS_SLC_CE : Src := ⟨2, 7⟩
def CIS_SLC_HANG : Src := ⟨2, 8⟩
def CIS_SLC_TEST : Src := ⟨2, 9⟩
def CIS_MIGRATE : Src := ⟨2, 10⟩
def CIS_SPARE_FAIL : Src := ⟨2, 11⟩
def CIS_SLC_DARK : Src := ⟨2, 12⟩
def VPT_ACCESS : Src := ⟨3, 0⟩
def VPT_LINK : Src := ⟨3, 1⟩
def VPT_MOD_FAULT : Src := ⟨3, 2⟩
def VPT_IDENT : Src := ⟨3, 3⟩
def VPT_CABLE : Src := ⟨3, 4⟩
def VPT_FRAME : Src := ⟨3, 5⟩
def VPT_COIL : Src := ⟨3, 6⟩
def LAN_ACCESS : Src := ⟨4, 0⟩
def LAN_VOTE : Src := ⟨4, 1⟩
def LAN_DIGEST : Src := ⟨4, 2⟩
def LAN_OVERRUN : Src := ⟨4, 3⟩
def LAN_MISSING : Src := ⟨4, 4⟩
def LAN_IN_AGREE : Src := ⟨4, 5⟩
def LAN_PACE_LOW : Src := ⟨4, 6⟩
def LAN_ECC_C : Src := ⟨4, 7⟩
def LAN_ECC_U : Src := ⟨4, 8⟩
def LAN_STEST : Src := ⟨4, 9⟩
def LAN_READMIT : Src := ⟨4, 10⟩
def LAN_NOMAJ : Src := ⟨4, 11⟩
def LAN_SECOND : Src := ⟨4, 12⟩
def LAN_REPAIR : Src := ⟨4, 13⟩
def LAN_BLK : Src := ⟨4, 14⟩
def CMP_XY : Src := ⟨4, 16⟩
def CMP_KAP : Src := ⟨4, 17⟩
def FLD_ACCESS : Src := ⟨5, 0⟩
def FLD_CROSS : Src := ⟨5, 1⟩
def FLD_TPAT : Src := ⟨5, 2⟩
def FLD_THR : Src := ⟨5, 3⟩
def FLD_TP_OVL : Src := ⟨5, 4⟩
def FLD_STUCK : Src := ⟨5, 5⟩
def FLD_LEG_ON : Src := ⟨5, 6⟩
def FLD_LEG_OFF : Src := ⟨5, 7⟩
def FLD_OVL : Src := ⟨5, 8⟩
def FLD_GRP_OVL : Src := ⟨5, 9⟩
def FLD_TSYNC : Src := ⟨5, 10⟩
def FLD_LOW : Src := ⟨5, 11⟩
def FLD_SAG : Src := ⟨5, 12⟩
def FLD_MISSING : Src := ⟨5, 13⟩
def FLD_WDG : Src := ⟨5, 14⟩
def FLD_CFG : Src := ⟨5, 15⟩
def FLD_FRAME : Src := ⟨5, 16⟩
def NET_ACCESS : Src := ⟨6, 0⟩
def NET_PATH : Src := ⟨6, 1⟩
def NET_CONN : Src := ⟨6, 2⟩
def NET_DIFF : Src := ⟨6, 3⟩
def NET_IDENT : Src := ⟨6, 4⟩
def NET_FRAME : Src := ⟨6, 5⟩
def OSR_ACCESS : Src := ⟨7, 0⟩
def OSR_LINK : Src := ⟨7, 1⟩
def OSR_WIRING : Src := ⟨7, 2⟩
def OSR_MATCH : Src := ⟨7, 3⟩
def OSR_CLS : Src := ⟨7, 4⟩
def OSR_TLOCK : Src := ⟨7, 5⟩
def OSR_TSKEW : Src := ⟨7, 6⟩
def OSR_FRAME : Src := ⟨7, 7⟩
def ADC_ACCESS : Src := ⟨8, 0⟩
def ADC_CAL : Src := ⟨8, 1⟩
def ADC_HALT : Src := ⟨8, 2⟩
def ADC_REF : Src := ⟨8, 3⟩
def ADC_TRIG_OVR : Src := ⟨8, 4⟩
def TMR_ACCESS : Src := ⟨9, 0⟩
def CRC_ACCESS : Src := ⟨10, 0⟩
def CFG_ACCESS : Src := ⟨11, 0⟩
def CFG_ECC_C : Src := ⟨11, 1⟩
def CFG_ECC_U : Src := ⟨11, 2⟩
def CFG_IMAGE : Src := ⟨11, 3⟩
def CFG_SEAL : Src := ⟨11, 4⟩
def CFG_STORE : Src := ⟨11, 5⟩
def SMP_ACCESS : Src := ⟨12, 0⟩
def SMP_ECC_C : Src := ⟨12, 1⟩
def SMP_ECC_U : Src := ⟨12, 2⟩
def SMP_STORE : Src := ⟨12, 3⟩
def PWR_ACCESS : Src := ⟨13, 0⟩
def PWR_LA : Src := ⟨13, 1⟩
def PWR_LB : Src := ⟨13, 2⟩
def PWR_LC : Src := ⟨13, 3⟩
def PWR_CS0 : Src := ⟨13, 4⟩
def PWR_CS1 : Src := ⟨13, 5⟩
def PWR_HS : Src := ⟨13, 6⟩
def PWR_NT : Src := ⟨13, 7⟩
def PWR_VP : Src := ⟨13, 8⟩
def PWR_AN : Src := ⟨13, 9⟩
def PWR_AO : Src := ⟨13, 10⟩
def PWR_REFCLK : Src := ⟨13, 11⟩

end S

end Sys2Proof.Machine
end

