-- ==== Sys2Proof/Machine/Ops.lean ====
section
/-! DEFINITION. Named operations over the state: register fields, free values, messages, host rings, statistics, time. -/

namespace Sys2Proof.Machine

/-! ### Register fields -/

/-- Offset of a field for its indices. -/
def RegField.off (f : RegField) (i j : Nat) : Nat := f.base + i * f.s1 + j * f.s2

/-- A field of a register store. -/
def rget (m : Map Word) (f : RegField) (i : Nat := 0) (j : Nat := 0) : Nat :=
  bitsOf (mread f.dflt m (f.off i j)).toNat f.hi f.lo

/-- A one-bit field. -/
def rbit (m : Map Word) (f : RegField) (i : Nat := 0) (j : Nat := 0) : Bool := rget m f i j == 1

/-- A register store with a field set. -/
def rput (m : Map Word) (f : RegField) (v : Nat) (i : Nat := 0) (j : Nat := 0) : Map Word :=
  mput f.dflt m (f.off i j) (setBits (mread f.dflt m (f.off i j)) f.hi f.lo v)

/-- A register store with a counting field advanced, saturating (R14). -/
def radd (m : Map Word) (f : RegField) (n : Nat) (i : Nat := 0) (j : Nat := 0) : Map Word :=
  rput m f (satAdd (f.hi + 1 - f.lo) (rget m f i j) n) i j

/-- A register store with a peak field raised. -/
def rmax (m : Map Word) (f : RegField) (n : Nat) (i : Nat := 0) (j : Nat := 0) : Map Word :=
  rput m f (max (rget m f i j) (min n (2 ^ (f.hi + 1 - f.lo) - 1))) i j

/-- A field of the device. -/
def State.r (s : State) (f : RegField) (i : Nat := 0) (j : Nat := 0) : Nat := rget s.regs f i j

/-- A one-bit field of the device. -/
def State.rb (s : State) (f : RegField) (i : Nat := 0) (j : Nat := 0) : Bool := rbit s.regs f i j

/-- The device with a field set. -/
def State.w (s : State) (f : RegField) (v : Nat) (i : Nat := 0) (j : Nat := 0) : State :=
  { s with regs := rput s.regs f v i j }

/-- The device with a field counted up. -/
def State.add (s : State) (f : RegField) (n : Nat) (i : Nat := 0) (j : Nat := 0) : State :=
  { s with regs := radd s.regs f n i j }

/-! ### Domains, modes, time -/

/-- Ticks of 10 ns in a microsecond and a millisecond. -/
def us : Nat := 100
def ms : Nat := 100000

/-- A gated domain is on: 0 LA, 1 LB, 2 LC, 3 CS0, 4 CS1, 5 HS, 6 NT, 7 VP, 8 AN (R30). -/
def State.dom (s : State) (d : Nat) : Bool := s.pwr.aoOk && s.pwr.on.getLsbD d

/-- The domain of a block's registers (R493); none = AO. -/
def blockDomain (blk : Nat) : Option Nat :=
  match blk with
  | 1 => some 5
  | 2 => some 4
  | 3 => some 7
  | 6 => some 6
  | 7 => some 7
  | 8 => some 8
  | 9 => some 4
  | 10 => some 4
  | _ => none

/-- A block's registers can be reached and it can raise its sources (R493). -/
def State.blockUp (s : State) (blk : Nat) : Bool :=
  match blockDomain blk with
  | some d => s.dom d
  | none => s.pwr.aoOk

/-- The number of a mode (R513). -/
def Mode.num : Mode → Nat
  | .boot => 0
  | .configure => 1
  | .commission => 2
  | .run => 3
  | .maintain => 4
  | .degraded => 5
  | .safeHold => 6
  | .lockdown => 7

/-- The present mode is one of a list. -/
def State.inMode (s : State) (l : List Mode) : Bool := l.contains s.sys.mode

/-- One REF100 edge: the timebase advances by one while REF100 is accepted and VDD_AO is within its limits (R464), but for an
edge that the slew of R421 holds back. -/
def idleTick (s : State) : State :=
  let go := s.pwr.aoOk && s.pwr.refOk
  { s with tb := if go && s.osr.skip == 0 then s.tb + 1 else s.tb
           osr := { s.osr with skip := if go then s.osr.skip - 1 else s.osr.skip }
           edge := if go then 0 else s.edge }

/-- An instant of the timebase can come: it has come, or the timebase advances (R464). -/
def State.comes (s : State) (due : Nat) : Bool := s.pwr.refOk || decide (due ≤ s.tb)

/-- The timebase at or after an instant: a timed happening occurs when it is due (log entry 2). While REF100 is not accepted
the timebase holds its value (R464). -/
def State.at (s : State) (due : Nat) : State :=
  { s with tb := if s.pwr.refOk then max s.tb due else s.tb
           edge := if s.pwr.refOk && decide (s.tb < due) then 0 else s.edge }

/-- The first edge from `now` on that follows an edge noted before. -/
def nextEdge (now : Nat) (last : Option Nat) : Nat := match last with | some a => max now (a + 1) | none => now

/-- A happening of order n in R600 takes effect: what comes after one of a higher order falls on a later REF100 edge. -/
def State.order (n : Nat) (s : State) : State :=
  { s with tb := if n < s.edge then (idleTick s).tb else s.tb
           osr := if n < s.edge then (idleTick s).osr else s.osr
           edge := n }

/-- Lane l has a place in the votes: the lanes scan, and it is neither retired nor under self-test or re-admission, which
begins at zero of R270 (R236, R260, R270). -/
def Lan.inService (n : Lan) (l : Fin 3) : Bool :=
  n.run && !n.lanes[l].retired && (match n.join with | some j => j.zero.isNone || j.lane != l | none => true)

/-- The agreed map of lane l (R242). -/
def Lan.mapOf (n : Lan) (l : Fin 3) : InMap := match n.lanes[l].own with | some m => m.1 | none => n.map

/-- Lanes in service, as bits. -/
def Lan.svc (n : Lan) : BitVec 3 :=
  BitVec.ofNat 3 (b2n (n.inService 0) + 2 * b2n (n.inService 1) + 4 * b2n (n.inService 2))

/-- How many lanes are in service. -/
def Lan.svcCount (n : Lan) : Nat := popcount n.svc

/-- Scan period in ticks (R236). -/
def State.period (s : State) : Nat := match s.lan.image with | some im => im.period | none => 100000

/-- Evaluation window W in ticks (R239). -/
def State.win (s : State) : Nat := match s.lan.image with | some im => im.win | none => 60000

/-! ### Free values -/

/-- The free value after k others (log entry 6). -/
def State.fv (s : State) (k : Nat := 0) : Word := Config.freeWord (s.free + k)

/-- The device after taking n free values. -/
def State.took (s : State) (n : Nat) : State := { s with free := s.free + n }

/-- The highest junction temperature for the telemetry: counts / 64 is °C plus 64, of either die (log entry 34). -/
def State.junction (s : State) : Nat :=
  let t := fun src => match mread none s.adc.res src with | some x => x.value.toNat / 64 | none => 0
  max (t 16) (t 17)

/-! ### Output log and messages -/

/-- The device after sending. -/
def State.send (s : State) (l : List Tx) : State := { s with tx := l.reverse ++ s.tx }

/-- Vector Control mask bit of a vector: vector 0 has none (R99); the others are masked at reset (log entry 17). -/
def Hif.vecMasked (h : Hif) (vec : Nat) : Bool :=
  vec != 0 && (h.fmask || (mread 1 h.table (16 * vec + 12)).getLsbD 0)

/-- Messages can leave (R101, R104). -/
def Hif.canSend (h : Hif) : Bool := h.msixEn && h.bme && h.dlUp && !h.d3 && !h.flr

/-- Send or hold one message on vector 1-31 (R501). -/
def Hif.msi (h : Hif) (vec : Nat) : Hif × List Tx :=
  if vec = 0 then (h, [])
  else if h.canSend && !h.vecMasked vec then (h, [Tx.msi (BitVec.ofNat 5 vec)])
  else ({ h with pba := putBit h.pba vec true }, [])

/-- Send one message on vector 0, or hold it: it is never merged while messages can leave (R100, R101). -/
def Hif.nmt (h : Hif) : Hif × List Tx :=
  if h.canSend then (h, [Tx.msi 0])
  else ({ h with pba := putBit h.pba 0 true, nmtHeld := h.nmtHeld + 1 }, [])

/-- The device after an INT or ring message. -/
def State.msi (s : State) (vec : Nat) : State :=
  { s with hif := (s.hif.msi vec).1, tx := (s.hif.msi vec).2 ++ s.tx }

/-- The device after a vector 0 message; a held cause beyond the first is counted (R101). -/
def State.nmt (s : State) : State :=
  { s with hif := s.hif.nmt.1, tx := s.hif.nmt.2 ++ s.tx,
           regs := if s.hif.nmt.2.isEmpty && s.hif.nmtHeld != 0 then radd s.regs R.HIF_NMT_CNT_CNT 1 else s.regs }

/-! ### Host rings (R110-R119, R147, R148) -/

/-- Entries of ring n: two to the power LOG2SIZE. -/
def State.ringSize (s : State) (n : Nat) : Nat := 2 ^ s.r R.HIF_RING_CFG_LOG2SIZE n

/-- Address in host memory of entry i of ring n (R110, R111). -/
def State.ringAddr (s : State) (n : Fin 4) (i : Nat) : BitVec 64 :=
  BitVec.ofNat 64 (2 ^ 32 * s.r R.HIF_RING_BASE_HI_ADDR n + 4096 * s.r R.HIF_RING_BASE_LO_ADDR n + (if n = 1 then 16 else 32) * i)

/-- Ring n (1-3) is enabled and not full (R112). -/
def State.ringRoom (s : State) (n : Fin 4) : Bool :=
  s.rings[n].en && (s.rings[n].idx + 1) % s.ringSize n != s.rings[n].db

/-- The device's writes reach host memory (R104). -/
def State.dmaOk (s : State) : Bool :=
  s.dom 5 && s.hif.bme && s.hif.dlUp && !s.hif.d3 && !s.hif.flr && s.hif.ready

/-- Entries may be written to ring n now. -/
def State.ringReady (s : State) (n : Fin 4) : Bool := s.dmaOk && s.ringRoom n

/-- One counted happening of ring n and its vector (R147, R148). -/
def ringCount (s : State) (n : Fin 4) (now : Bool) : State :=
  let rg := s.rings[n]
  let cnt := rg.cnt + 1
  let hit := now || decide (max 1 (s.r R.HIF_RING_IRQ_CNT n) ≤ cnt)
  let vec := if hit then s.r R.HIF_RING_IRQ_VEC n else 0
  { s with rings := s.rings.set n (if hit then { rg with cnt := 0, since := none }
             else { rg with cnt := cnt, since := some (rg.since.getD s.tb) }),
           hif := (s.hif.msi vec).1, tx := (s.hif.msi vec).2 ++ s.tx }

/-! ### Statistics (R557) -/

/-- Width in bits of a kind's counters. -/
def kindWidth (k : Nat) : Nat := if k = 8 then 16 else if k = 9 then 40 else 32

/-- Key of a statistic. -/
def statKey (k i : Nat) : Nat := 4096 * k + i

/-- Count into the increments once counting has started; increment and total together saturate (R557, R560). -/
def Smp.count (p : Smp) (k i n : Nat) : Smp :=
  if p.restored then
    let room := 2 ^ kindWidth k - 1 - mread 0 p.tot (statKey k i)
    { p with inc := mput 0 p.inc (statKey k i) (min (mread 0 p.inc (statKey k i) + n) room) }
  else p

/-- The device after counting a statistic. -/
def State.stat (s : State) (k i n : Nat) : State := { s with smp := s.smp.count k i n }

/-! ### Slot clock and sluice -/

/-- Timebase of the tick of slot k (R47). -/
def Slot.tick (c : Slot) (k : Nat) : Nat := c.e + (k - c.k0) * c.len

/-- At least two sluice legs are OPEN (R253). -/
def Vpt.sluiceOpen (v : Vpt) : Bool := decide (2 ≤ popcount v.legs)

/-- Low and high words of a 64-bit quantity (R10). -/
def lo32 (n : Nat) : Word := BitVec.ofNat 32 n
def hi32 (n : Nat) : Word := BitVec.ofNat 32 (n / 2 ^ 32)

end Sys2Proof.Machine
end

