-- ==== Sys2Proof/Machine/Faults.lean ====
section
/-! DEFINITION. Raising a fault source: records, event entry, ERR_N latch, severity and reactions (chapter 16). -/

namespace Sys2Proof.Machine

/-! ### Fixed properties and settings of a source (R492-R496) -/

/-- The row of a source in R512. -/
def srcRow (c : Src) : Option SrcRow := (sourceTable c.blk.toNat).find? fun r => r.src == c

/-- Reset value of xxx_FLT_SRC (R493). -/
def fltSrcWord (blk code : Nat) : Word :=
  match srcRow ⟨BitVec.ofNat 4 blk, BitVec.ofNat 5 code⟩ with
  | some r => BitVec.ofNat 32 (0x80000000 + 256 * r.allow.toNat + 16 * r.dflt.toNat + r.min.toNat)
  | none => 0

/-- REACT after reset: none for S0, INT for S1, INT and EPIN for S2, NMT and EPIN for S3 and S4 (R495). -/
def defaultReact (sev : Nat) : Nat :=
  match sev with
  | 0 => 0
  | 1 => 1
  | 2 => 17
  | _ => 18

/-- Reset value of xxx_FLT_CFG: VEC 1, REACT by R495, SEV = DEF; 0 for a source the block lacks (R492). -/
def fltCfgWord (blk code : Nat) : Word :=
  match srcRow ⟨BitVec.ofNat 4 blk, BitVec.ofNat 5 code⟩ with
  | some r => BitVec.ofNat 32 (65536 + 256 * defaultReact r.dflt.toNat + r.dflt.toNat)
  | none => 0

/-- Offset of a fault register of a block. -/
def fltOff (blk o : Nat) : Nat := blk * 0x10000 + o

/-- xxx_FLT_CFG in force. -/
def fltCfg (m : Map Word) (c : Src) : Nat :=
  (mread (fltCfgWord c.blk.toNat c.code.toNat) m (fltOff c.blk.toNat (0xF200 + 4 * c.code.toNat))).toNat

/-! ### Groups of an S2 raising (R298, R379, R386, R411, R435, R498) -/

/-- Function groups of a field pin, coded as in DETAIL (R385). -/
def pinGroups (m : Map Word) (im : Image) (p : Nat) : BitVec 16 :=
  let si := fun (i : Nat) => groupsReading im fun r => refKind r == 0 && (refIndex r == i || refIndex r == 32 + i)
  let so := fun (t : Nat) => match outBlock im t with
    | some b => putBit (0 : BitVec 16) b.group.toNat true
    | none => 0
  let join := fun (l : List (BitVec 16)) => l.foldl (· ||| ·) 0
  if p < 32 then si p
  else if p < 52 then so (p - 32)
  else if 64 ≤ p ∧ p < 72 then
    join (((List.range 32).filter fun i => rget m R.FLD_SI_CFG_TP i == p - 64).map si)
  else if p = 0xFE then join ((List.range 16).map si ++ (List.range 8).map so)
  else if p = 0xFF then join ((List.range 16).map (fun i => si (i + 16)) ++ (List.range 12).map fun t => so (t + 8))
  else 0

/-- Groups of blocks that read one of a range of word entries. -/
def wordGroups (im : Image) (a b : Nat) : BitVec 16 :=
  groupsReading im fun r => refKind r == 1 && decide (a ≤ refIndex r ∧ refIndex r ≤ b)

/-- Groups of blocks that read one of a range of bit entries. -/
def bitGroups (im : Image) (a b : Nat) : BitVec 16 :=
  groupsReading im fun r => refKind r == 0 && decide (a ≤ refIndex r ∧ refIndex r ≤ b)

/-- The groups that an S2 raising puts into Safe-hold. -/
def raiseGroups (m : Map Word) (img : Option Image) (c : Src) (detail : Word) : BitVec 16 :=
  match img with
  | none => 0xFFFF
  | some im =>
    let d := detail.toNat
    let p := d % 256
    let q := d / 256 % 256
    let n := q % 32
    let conns := bitGroups im 168 199 ||| wordGroups im 256 383
    let group0 : BitVec 16 := 1
    match c.blk.toNat with
    | 5 =>
      if c.code = 0 || p == 0xFD then 0xFFFF
      else pinGroups m im p ||| (if q == 0xFD || c.code = 16 then 0 else if d / 256 == 0 then 0 else pinGroups m im q)
    | 6 =>
      if c == S.NET_CONN then
        bitGroups im (168 + n) (168 + n) ||| wordGroups im (256 + 4 * n) (259 + 4 * n)
      else conns
    | 7 => bitGroups im 160 167 ||| wordGroups im 128 135
    | 8 =>
      let pp := wordGroups im 0 23 ||| wordGroups im 48 71
      let qq := wordGroups im 24 47 ||| wordGroups im 72 95
      if c.code = 0 then pp ||| qq else if d % 2 = 0 then pp else qq
    | 2 => group0
    | 3 => group0
    | 1 => group0
    | 13 =>
      if c == S.PWR_NT then conns
      else if c == S.PWR_AN then wordGroups im 0 95
      else if c == S.PWR_CS0 || c == S.PWR_CS1 || c == S.PWR_HS || c == S.PWR_VP then group0
      else 0xFFFF
    | 4 =>
      if c == S.LAN_BLK then
        match im.blocks[d % 2048]? with
        | some b => putBit (0 : BitVec 16) b.group.toNat true
        | none => 0
      else 0xFFFF
    | _ => 0xFFFF

/-- Sources that the lanes raise (R497). -/
def lanesRaise (c : Src) : Bool :=
  (c.blk == 4 && c.code != 0) || (c.blk == 5 && c.code != 0)
    || c == S.NET_CONN || c == S.NET_DIFF || c == S.NET_IDENT || c == S.NET_FRAME

/-! ### The raising (R501) -/

/-- A raising: source, DETAIL, access record, whether by force. -/
structure Raising where
  src : Src
  detail : Word := 0
  acc : AccRec := {}
  forced : Bool := false
deriving DecidableEq, Repr

/-- Severity in force at the raising (R496); a CMP.XY raised while RECUR is 1 has S4 (R266). -/
def Raising.severity (r : Raising) (s : State) : Nat :=
  if r.src == S.CMP_XY && s.keep.recur then 4 else bitsOf (fltCfg s.regs r.src) 2 0

/-- Reactions taken: REACT, without a CHIP that is not taken under R503. -/
def Raising.react (r : Raising) (s : State) : Nat :=
  let k := bitsOf (fltCfg s.regs r.src) 12 8
  if k.testBit 3 && (r.severity s == 4 || s.keep.lockdown) then k - 8 else k

/-- Event staging takes an entry of the raising: merge, room, or drop (R144). -/
inductive Staging where
  | none | merge | add | drop
deriving DecidableEq, Repr

/-- Where the event entry of the raising goes. The 64 entries that R144 reserves are a limit of 1,984 on all that waits (DESIGN CHOICE,
log entry 76). -/
def Raising.staging (r : Raising) (s : State) : Staging :=
  let nmt := (r.react s).testBit 1
  if !s.dom 4 then .none
  else if !nmt && s.evs.staging.any (fun e => e.src == r.src) then .merge
  else if s.evs.staging.length < (if nmt then 2048 else 1984) then .add
  else .drop

/-- The vector 0 message waits for the event entry to be written (R100). -/
def Raising.nmtWaits (r : Raising) (s : State) : Bool :=
  r.staging s == .add && s.ringReady 2 && s.hif.canSend

/-- The event entry (R143). -/
def Raising.entry (r : Raising) (s : State) : Evt :=
  { src := r.src, sev := BitVec.ofNat 3 (r.severity s), react := BitVec.ofNat 5 (r.react s), rep := 0, acc := r.acc,
    tRaise := s.tb, detail := r.detail, nmtDue := (r.react s).testBit 1 && r.nmtWaits s,
    nmtHeld := (r.react s).testBit 1 && !s.hif.canSend && s.dom 5 }

/-- Count one further raising in the earliest entry of the same source. -/
def mergeEvt (c : Src) : List Evt → List Evt
  | [] => []
  | e :: l => if e.src == c then { e with rep := satAdd 16 e.rep 1 } :: l else e :: mergeEvt c l

/-- Fault registers after the raising (R492, R494) with HIF_NMT_SRC, HIF_NMT_CNT and the drop of R144. -/
def Raising.regs (r : Raising) (s : State) : Map Word :=
  let b := r.src.blk.toNat
  let c := r.src.code.toNat
  let m := s.regs
  let stat := fltOff b 0xF000
  let m := mput 0 m stat (putBit (mread 0 m stat) c true)
  let cnt := fltOff b (0xF300 + 4 * c)
  let m := mput 0 m cnt (BitVec.ofNat 32 (satAdd 32 (mread 0 m cnt).toNat 1))
  let info := fltOff b 0xF010
  let first := !(mread 0 m info).getLsbD 31
  let fe : List (Nat × Word) := [(0xF010, BitVec.ofNat 32 (0x80000000 + r.acc.access.toNat * 2 ^ 20 + r.acc.master.toNat * 2 ^ 16 + c)),
    (0xF014, r.acc.addr), (0xF018, r.detail), (0xF020, lo32 r.acc.tAcc), (0xF024, hi32 r.acc.tAcc),
    (0xF028, lo32 s.tb), (0xF02C, hi32 s.tb)]
  let m := if first then fe.foldl (fun m e => mput 0 m (fltOff b e.1) e.2) m else m
  let nmt := (r.react s).testBit 1 && s.dom 5
  let m := if nmt && !rbit m R.HIF_NMT_SRC_PEND then
      rput (rput (rput m R.HIF_NMT_SRC_PEND 1) R.HIF_NMT_SRC_BLOCK b) R.HIF_NMT_SRC_CODE c else m
  let m := if nmt && !r.nmtWaits s && !s.hif.canSend && s.hif.nmtHeld != 0 then radd m R.HIF_NMT_CNT_CNT 1 else m
  if r.staging s == .drop && s.dom 5 then rput (radd m R.HIF_RING_LOST_CNT 1 2) R.HIF_EVT_STAT_DROP 1 else m

/-- Event staging after the raising. -/
def Raising.stagingAfter (r : Raising) (s : State) : List Evt :=
  match r.staging s with
  | .merge => mergeEvt r.src s.evs.staging
  | .add => s.evs.staging ++ [r.entry s]
  | _ => s.evs.staging

/-- Endpoint and messages after the raising: INT on VEC, NMT on vector 0 (step 5 of R501). -/
def Raising.hif (r : Raising) (s : State) : Hif × List Tx :=
  if s.dom 5 then
    let k := r.react s
    let a := if k.testBit 0 then s.hif.msi (bitsOf (fltCfg s.regs r.src) 20 16) else (s.hif, [])
    let b := if k.testBit 1 && !r.nmtWaits s then a.1.nmt else (a.1, [])
    (b.1, b.2 ++ a.2)
  else (s.hif, [])

/-- The chapter of the source defines no DETAIL for it: the word is 0 (R494; log entry 39). -/
def detailNone (c : Src) : Bool :=
  match c.blk.toNat with
  | 0 => !([S.SYS_STEST, S.SYS_PARTNER].contains c)
  | 2 => !([S.CIS_ECC_C, S.CIS_ECC_U, S.CIS_DLY_U, S.CIS_DRAIN_OVR, S.CIS_CELL_OVF, S.CIS_TKT_UNDER, S.CIS_SLC_DARK].contains c)
  | 3 => !([S.VPT_LINK, S.VPT_COIL].contains c)
  | 4 => c != S.LAN_BLK
  | 11 => !([S.CFG_IMAGE, S.CFG_STORE, S.CFG_ECC_C, S.CFG_ECC_U, S.CFG_SEAL].contains c)
  | 12 => !([S.SMP_STORE, S.SMP_ECC_C, S.SMP_ECC_U].contains c)
  | b => !decide (5 ≤ b ∧ b ≤ 8)

/-- Mode consequence, ERR_N latch and the BLK and CHIP reactions started (steps 3, 4, 6, 7 of R501). -/
def Raising.sys (r : Raising) (s : State) : Sys :=
  let y := s.sys
  let k := r.react s
  let sev := r.severity s
  let groups : BitVec 16 := if sev = 2 then raiseGroups s.regs s.lan.image r.src r.detail else 0
  let req : HoldReq := ⟨r.src, BitVec.ofNat 3 sev, groups, r.detail, s.tb, r.forced⟩
  let acts := decide (2 ≤ sev) && y.mode != .lockdown
  let byLanes := lanesRaise r.src && !r.forced
  { y with
    errLatch := y.errLatch || k.testBit 4
    errRelWait := y.errRelWait && !k.testBit 4
    epinAt := if k.testBit 4 then s.tb else y.epinAt
    holds := if acts && !byLanes then y.holds ++ [req] else y.holds
    acts := if acts && byLanes then y.acts ++ [req] else y.acts
    s3 := if acts && decide (3 ≤ sev) && !y.s3.any (fun e => e.1 == r.src && e.2 == r.detail) then
      y.s3 ++ [(r.src, r.detail)] else y.s3
    blkDue := if k.testBit 2 then putBit y.blkDue r.src.blk.toNat true else y.blkDue
    chipDue := if k.testBit 3 && y.chipDue.isNone then some (r.src, s.tb + 100 * us) else y.chipDue }

/-- A raising with its DETAIL settled. -/
def Raising.settle (r : Raising) : Raising := if !r.forced && detailNone r.src then { r with detail := 0 } else r

/-- One raising: nothing where the source's block lies in a lost domain (R493). -/
def raiseRec (r : Raising) (s : State) : State :=
  let up := s.blockUp r.src.blk.toNat
  let h := r.hif s
  { s with
    regs := if up then r.regs s else s.regs
    evs := if up then { s.evs with staging := r.stagingAfter s } else s.evs
    sys := if up then r.sys s else s.sys
    keep := if up && r.severity s == 4 then { s.keep with lockdown := true } else s.keep
    hif := if up then h.1 else s.hif
    tx := if up then h.2 ++ s.tx else s.tx
    smp := if up && !r.forced then s.smp.count 7 (32 * r.src.blk.toNat + r.src.code.toNat) 1 else s.smp }

/-- One raising with its DETAIL. -/
def raiseOne (r : Raising) (s : State) : State := raiseRec r.settle s

/-- A raising, and HIF.EVT_LOST where it makes DROP change from 0 to 1 (R144). -/
def raiseWith (r : Raising) (s : State) : State :=
  let t := raiseOne r s
  if !s.rb R.HIF_EVT_STAT_DROP && t.rb R.HIF_EVT_STAT_DROP then raiseOne { src := S.HIF_EVT_LOST } t else t

/-- A raising found by the block, with its DETAIL. -/
def raise (c : Src) (detail : Nat) (s : State) : State := raiseWith { src := c, detail := BitVec.ofNat 32 detail } s

/-- A raising where a condition holds. -/
def raiseIf (b : Bool) (c : Src) (detail : Nat) (s : State) : State := if b then raise c detail s else s

/-- Raisings one after another. -/
def raiseAll (l : List (Src × Nat)) (s : State) : State := l.foldl (fun s e => raise e.1 e.2 s) s

/-- A block's ACCESS source, with the host access recorded (R29); FLD.ACCESS names no pin (R385), NET.ACCESS no port (R412),
OSR.ACCESS no link (R439); HIF_VIOL_CNT counts those of
the HIF block. -/
def raiseAccess (blk : Nat) (write : Bool) (addr : Nat) (s : State) : State :=
  raiseWith { src := ⟨BitVec.ofNat 4 blk, 0⟩, detail := if blk = 5 then 0xFDFD else if blk = 6 ∨ blk = 7 then 15 else 0, acc := ⟨0, if write then 1 else 0, BitVec.ofNat 32 addr, s.tb⟩ }
    (if blk = 1 then s.add R.HIF_VIOL_CNT_TLP 1 else s)

end Sys2Proof.Machine
end

