-- ==== Sys2Proof/Machine/Access.lean ====
section
/-! DEFINITION. Host accesses to registers: which register an offset names, what its fields do, and when an access lands
(R12-R16, R29, R105, R513). -/

namespace Sys2Proof.Machine

/-! ### The register at an offset -/

/-- Register tables of a block. -/
def blockRows (blk : Nat) : List RegRow :=
  match blk with
  | 0 => regsSys
  | 1 => regsHif
  | 2 => regsCis
  | 3 => regsVpt
  | 4 => regsLan
  | 5 => regsFld
  | 6 => regsNet
  | 7 => regsOsr
  | 8 => regsAdc
  | 9 => regsTmr
  | 10 => regsCrc
  | 11 => regsCfg
  | 12 => regsSmp
  | 13 => regsPwr
  | _ => []

/-- The table covers an offset. -/
def RegRow.has (r : RegRow) (off : Nat) : Bool :=
  let d := off - r.base
  decide (r.base ≤ off) && decide (d / r.stride < r.count) && decide (d % r.stride % r.stride2 = 0)
    && decide (d % r.stride / r.stride2 < r.count2)

/-- The fields of the register at a BAR0 offset; none where no register lies. -/
def fieldsAt (off : Nat) : Option (List FieldRow) :=
  match (blockRows (off / 0x10000) ++ (if off / 0x10000 < 14 then regsXxx else [])).find? (·.has off) with
  | some r => some r.fields
  | none => none

/-- Fault registers of a source that the block lacks (R492). -/
def lacksSource (off : Nat) : Bool :=
  let o := off % 0x10000
  decide (0xF100 ≤ o ∧ o < 0xF380) && (srcRow ⟨BitVec.ofNat 4 (off / 0x10000), BitVec.ofNat 5 (o / 4)⟩).isNone

/-- Mask of a field. -/
def FieldRow.mask (f : FieldRow) : Word := BitVec.ofNat 32 ((2 ^ (f.hi + 1 - f.lo) - 1) * 2 ^ f.lo)

/-- Mask of the fields that a predicate holds of. -/
def maskOf (p : FieldRow → Bool) (l : List FieldRow) : Word := (l.filter p).foldl (fun m f => m ||| f.mask) 0

/-- The reset value of the register at an offset (R15, R493). -/
def resetWord (off : Nat) : Word :=
  let o := off % 0x10000
  if 0xF100 ≤ o ∧ o < 0xF180 then fltSrcWord (off / 0x10000) ((o - 0xF100) / 4)
  else if 0xF200 ≤ o ∧ o < 0xF280 then fltCfgWord (off / 0x10000) ((o - 0xF200) / 4)
  else match fieldsAt off with
    | some l => l.foldl (fun w f => w ||| BitVec.ofNat 32 (f.reset * 2 ^ f.lo)) 0
    | none => 0

/-- The stored word of the register at an offset. -/
def storedWord (m : Map Word) (off : Nat) : Word := mread (resetWord off) m off

/-- Replace the bits of a mask. -/
def blend (mask new old : Word) : Word := (new &&& mask) ||| (old &&& ~~~mask)

/-! ### When an access lands -/

/-- Host requests reach the registers: HS is on, the endpoint answers, the data link is up, and it is in D0 (log entry 4). -/
def State.hostReach (s : State) : Bool :=
  s.dom 5 && s.hif.ready && s.hif.dlUp && !s.hif.d3 && !s.hif.flr && !s.pwr.rstLow

/-- An error is recorded in the AER status (R79, R105), by its bit there, and in Device Status (log entry 73). -/
def aerRecord (bit : Nat) (s : State) : State :=
  let c := s.hif.cfg
  let fatal := c.aerUncSev.getLsbD bit
  { s with hif := { s.hif with cfg := { c with
      aerUnc := putBit c.aerUnc bit true
      devStat := c.devStat ||| (if fatal then 4 else 2) ||| (if bit = 20 then 8 else 0)
      status := if bit = 12 then putBit c.status 15 true else c.status } } }

/-- A request answered with Unsupported Request. -/
def answerUr (s : State) : State := (aerRecord 20 s).send [.ur]

/-- Memory requests reach a function in D3hot (R106). -/
def State.d3Reach (s : State) : Bool :=
  s.dom 5 && s.hif.ready && s.hif.dlUp && s.hif.d3 && !s.hif.flr && !s.pwr.rstLow

/-- A read that does not reach the registers: in D3hot it is answered Unsupported Request (R106), else nothing is sent. -/
def readRefused (s : State) : State := if s.d3Reach then answerUr (s.order 6) else s

/-- A BAR0 write lands: discarded in Lockdown, where the block raises ACCESS (R513), and in a lost domain (R493). A request through
LAN_CTRL is refused in Lockdown as R269 says as well (log entry 75). -/
def hostWr (off : Nat) (eff : State → State) (s : State) : State :=
  let blk := off / 0x10000
  if !s.hostReach then s
  else if s.sys.mode == .lockdown then
    (if off = 0x40014 then eff (raiseAccess blk true off (s.order 6)) else raiseAccess blk true off (s.order 6))
  else if !s.blockUp blk then s
  else eff (s.order 6)

/-- RC fields after the read that clears them: the reset value, or what a coinciding event gives (R13, R14). -/
def rcClear (m : Map Word) (off : Nat) (event : Option Word) : Map Word :=
  match fieldsAt off with
  | none => m
  | some l =>
    let rc := maskOf (fun f => f.acc == .rc) l
    mput (resetWord off) m off (blend rc (event.getD (resetWord off)) (storedWord m off))

/-- A register write by the Access of each field; shadowed fields go to the shadows while a transaction is OPEN, and are
otherwise discarded, with the block's ACCESS source where they differ from the value in force (R13, R551). -/
def fieldWrite (off : Nat) (val : Word) (s : State) : State :=
  match fieldsAt off with
  | none => s
  | some l =>
    if lacksSource off then s
    else
      let d := resetWord off
      let old := storedWord s.regs off
      let sh := maskOf (fun f => f.shadowed) l
      let rw := maskOf (fun f => f.acc == .rw && !f.shadowed) l
      let wc := maskOf (fun f => f.acc == .w1c) l
      let isOpen := s.cfg.txn == .open
      let t := { s with regs := mput d s.regs off (blend rw val old &&& ~~~(val &&& wc)),
                        shadow := if isOpen then mput d s.shadow off (blend sh val (mread d s.shadow off)) else s.shadow }
      if !isOpen && ((val ^^^ old) &&& sh) != 0 then raiseAccess (off / 0x10000) true off t else t

end Sys2Proof.Machine
end

