-- ==== Sys2Proof/Machine/Analog.lean ====
section
/-! DEFINITION. The converters ADC-P and ADC-Q (R440-R463). -/

namespace Sys2Proof.Machine

/-- The device with converter c replaced. -/
def State.withConv (s : State) (c : Fin 2) (f : Conv → Conv) : State :=
  { s with adc := { s.adc with conv := vmod s.adc.conv c f } }

/-- The converter has coefficients, is not halted and is not calibrating (R451, R461). -/
def Conv.runs (v : Conv) : Bool := v.coef.isSome && !v.halted && !v.cal

/-- A calibration of c may start as soon as its converter is quiet: it is first in the queue and no calibration runs (R453). -/
def Adc.calFirst (a : Adc) (c : Fin 2) : Bool :=
  a.calq.head? == some c && !a.conv[0].cal && !a.conv[1].cal

/-- The next entry to sample: source, sampling clocks, injected, number in its sequence (R447, R449, R452). -/
def Conv.next (m : Map Word) (c : Nat) (hold : Bool) (v : Conv) : Option (Nat × Nat × Bool × Nat) :=
  let len := rget m R.ADC_SEQ_CFG_LEN c
  if v.inj && decide (v.injPos < rget m R.ADC_INJ_CFG_LEN c) then
    some (rget m R.ADC_INJ_SRC c v.injPos, rget m R.ADC_INJ_SMP c v.injPos + 1, true, v.injPos)
  else if hold || len == 0 then none
  else if rget m R.ADC_SEQ_CFG_TRIG c != 0 && v.pass == 0 then none
  else some (rget m R.ADC_SEQ_SRC c (v.pos % len), rget m R.ADC_SEQ_SMP c (v.pos % len) + 1, false, v.pos % len)

/-- The first edge of the converter clock at or after an instant: REF100 / 4 (R440), at multiples of 4 ticks (DESIGN CHOICE, log entry
82: its phase is not given). -/
def convEdge (t : Nat) : Nat := (t + 3) / 4 * 4

/-- One entry begins sampling where the newest has ended by `now` (R445): its result comes 10 converter clocks after. With no entry to
sample the converter stands idle until `now`. -/
def Conv.roll1 (m : Map Word) (c : Nat) (hold : Bool) (now : Nat) (v : Conv) : Conv :=
  if !v.runs || decide (12 ≤ v.pipe.length) then v
  else match v.next m c hold with
    | none => { v with free := max v.free (convEdge now) }
    | some (src, n, inj, e) =>
      let len := rget m R.ADC_SEQ_CFG_LEN c
      if now < v.free then v
      else { v with pipe := v.pipe ++ [⟨BitVec.ofNat 5 src, inj, v.free + 4 * n + 40, e⟩], free := v.free + 4 * n,
                    injPos := if inj then v.injPos + 1 else v.injPos,
                    pos := if inj then v.pos else (e + 1) % len, pass := if inj then v.pass else v.pass - 1 }

/-- The sequencer up to the present timebase. -/
def Conv.roll (m : Map Word) (c : Nat) (hold : Bool) (now : Nat) (v : Conv) : Conv :=
  (List.range 16).foldl (fun v _ => v.roll1 m c hold now) v

/-- The device with converter c brought up to the present. -/
def adcRoll (c : Fin 2) (s : State) : State :=
  s.withConv c (Conv.roll s.regs c (s.adc.calFirst c) s.tb)

/-- Both converters brought up to the present: before their settings change. -/
def adcSync (s : State) : State := if s.dom 8 then adcRoll 1 (adcRoll 0 s) else s

/-- The converters' instants after a step of the timebase from `old` to `new` (R421). -/
def Adc.shift (old new : Nat) (a : Adc) : Adc :=
  let m := fun (t : Nat) => new + t - old
  { a with conv := vimap (fun _ (v : Conv) => { v with free := convEdge (m v.free), calEnd := m v.calEnd,
                                                       pipe := v.pipe.map fun (e : Sampled) => { e with due := m e.due } }) a.conv }

/-- AN is off: what the converters hold is lost but for a halt, which lasts until the next device reset (R461; log entry 83). -/
def Adc.off (a : Adc) : Adc := { conv := vimap (fun _ (v : Conv) => { halted := v.halted }) a.conv }

/-- AN returns in Maintain: calibrations of the converters that are not halted, ADC-P first (R526, R456). -/
def Adc.restart (a : Adc) : Adc :=
  { a.off with refOk := true, calq := ([0, 1] : List (Fin 2)).filter fun c => !a.conv[c].halted }

/-- A trigger of converter c is ignored, counted and reported (R447, R450). -/
def adcIgnore (c : Fin 2) (s : State) : State :=
  raise S.ADC_TRIG_OVR c (s.add (if c = 0 then R.ADC_OVR_P else R.ADC_OVR_Q) 1)

/-- A trigger of the injected group of converter c (R448-R450, R454). -/
def injTrigger (c : Fin 2) (s : State) : State :=
  let v := s.adc.conv[c]
  if v.halted || v.coef.isNone || s.r R.ADC_INJ_CFG_LEN c == 0 then s
  else if v.inj || v.held then adcIgnore c s
  else if v.cal then s.withConv c fun v => { v with held := true }
  else (adcRoll c s).withConv c fun v => { v with inj := true, injPos := 0, free := max v.free (convEdge s.tb) }

/-- A trigger of a pass of the regular sequence (R447, R456). -/
def regTrigger (c : Fin 2) (s : State) : State :=
  let v := s.adc.conv[c]
  let len := s.r R.ADC_SEQ_CFG_LEN c
  if v.halted || v.coef.isNone || len == 0 then s
  else if v.passBusy then adcIgnore c s
  else (adcRoll c s).withConv c fun v => { v with pos := 0, pass := len, passBusy := true, free := max v.free (convEdge s.tb) }

/-- A calibration request (R451, R453): ignored where halted, calibrating or already waiting. -/
def calRequest (c : Fin 2) (s : State) : State :=
  let v := s.adc.conv[c]
  if v.halted || v.cal || s.adc.calq.contains c then s
  else (adcRoll c s) |> fun s => { s with adc := { s.adc with calq := s.adc.calq ++ [c] } }

/-- A converter is halted (R461); the other has converted until now (R453). -/
def adcHalt (c : Fin 2) (s : State) : State :=
  let stop := fun (v : Conv) =>
    { v with halted := true, cal := false, pipe := [], inj := false, held := false, pass := 0, passBusy := false }
  let t := (adcRoll (1 - c) s).withConv c stop
  raise S.ADC_HALT c { t with adc := { t.adc with calq := t.adc.calq.filter (· != c) } }

/-- Coefficients lie within ±512 counts of offset and ±3 % of gain, 0x8000 = 1.0 (R455). -/
def calGood (offset gain : Int) : Bool := decide (-512 ≤ offset ∧ offset ≤ 511 ∧ 31785 ≤ gain ∧ gain ≤ 33751)

/-- The end of a calibration with its measured coefficients (R455); a converter that waits for it has converted until now (R453). -/
def calResult (c : Fin 2) (offset gain : Int) (s : State) : State :=
  let s := adcRoll (1 - c) s
  let v := s.adc.conv[c]
  let release := fun (v : Conv) => { v with cal := false, inj := v.inj || v.held, injPos := if v.held then 0 else v.injPos,
                                            held := false, free := convEdge s.tb }
  if calGood offset gain then
    let t := s.withConv c fun v => { release v with fails := 0, coef := some (BitVec.ofInt 16 offset, BitVec.ofInt 16 gain) }
    ((t.w R.ADC_CAL_COEF_OFFSET (toTwos 16 offset) c).w R.ADC_CAL_COEF_GAIN gain.toNat c).add
      (if c = 0 then R.ADC_CAL_CNT_P_DONE else R.ADC_CAL_CNT_Q_DONE) 1
  else
    let t := s.withConv c fun v => { release v with fails := v.fails + 1 }
    let t := raise S.ADC_CAL c (t.add (if c = 0 then R.ADC_CAL_CNT_P_FAIL else R.ADC_CAL_CNT_Q_FAIL) 1)
    if 2 ≤ v.fails + 1 ∨ (v.coef.isNone ∧ s.sys.mode = .boot) then adcHalt c t else t

/-- ADC_RESULT (R445, R457): the oldest entry is completed with its calibrated count, clamped to 0-16,383; the telemetry keeps the
highest junction temperature (R145). -/
def adcResultEff (c : Fin 2) (x : Int) (s : State) : State :=
  let s := adcRoll c s
  match s.adc.conv[c].pipe with
  | [] => s
  | e :: rest =>
    let s := s.at e.due
    let key := 32 * c.val + e.src.toNat
    let old := mread none s.adc.res key
    let value : BitVec 14 := BitVec.ofNat 14 (min x.toNat 16383)
    let cnt : BitVec 8 := match old with | some o => o.cnt + 1 | none => 1
    let injEnd := e.inj && e.entry + 1 == s.r R.ADC_INJ_CFG_LEN c
    let passEnd := !e.inj && e.entry + 1 == s.r R.ADC_SEQ_CFG_LEN c
    let t := s.withConv c fun v => { v with pipe := rest, inj := v.inj && !injEnd, passBusy := v.passBusy && !passEnd }
    let t := { t with adc := { t.adc with res := mput none t.adc.res key (some ⟨value, e.due, e.inj, cnt⟩),
                                          prev := mput none t.adc.prev key old } }
    let t := { t with evs := { t.evs with telTj := BitVec.ofNat 8 (max t.evs.telTj.toNat t.junction) } }
    (((t.w R.ADC_RES_VALID 1 c e.src.toNat).w R.ADC_RES_INJ (b2n e.inj) c e.src.toNat).w
      R.ADC_RES_CNT cnt.toNat c e.src.toNat).w R.ADC_RES_VALUE value.toNat c e.src.toNat

/-- Where AN is on; in a lost or unpowered domain nothing happens (R458). -/
def whenAn (f : State → State) (s : State) : Host.Outcome State Fault Refusal := .next (if s.dom 8 then f s else s)

/-- ADC_RESULT (R445). -/
def execAdcResult (c : Fin 2) (v : Int) (s : State) : Host.Outcome State Fault Refusal := whenAn (adcResultEff c v) s

/-- ADC_REG_TRIGGER (R447): a timer match that names the sequence has come. -/
def execAdcRegTrigger (c : Fin 2) (s : State) : Host.Outcome State Fault Refusal :=
  whenAn (fun s => if s.adc.regDue.getLsbD c then
    regTrigger c { s with adc := { s.adc with regDue := putBit s.adc.regDue c false } } else s) s

/-- ADC_INJ_TRIGGER (R449): a timer match that names the group has come. -/
def execAdcInjTrigger (c : Fin 2) (s : State) : Host.Outcome State Fault Refusal :=
  whenAn (fun s => if s.adc.injDue.getLsbD c then
    injTrigger c { s with adc := { s.adc with injDue := putBit s.adc.injDue c false } } else s) s

/-- The effect of ADC_INJ_GO: the groups whose TRIG is 1 (R448). -/
def injGoEff (val : Word) (s : State) : State :=
  let s := if val.getLsbD 0 && s.r R.ADC_INJ_CFG_TRIG 0 == 1 then injTrigger 0 s else s
  if val.getLsbD 1 && s.r R.ADC_INJ_CFG_TRIG 1 == 1 then injTrigger 1 s else s

/-- ADC_INJ_GO (R448). -/
def execAdcInjGo (val : Word) (s : State) : Host.Outcome State Fault Refusal := .next (hostWr 0x80008 (injGoEff val) s)

/-- ADC_SCAN_TRIGGER (R448): OFS_US after the scan boundary, once two lanes in service have sent the trigger. -/
def execAdcScanTrigger (c : Fin 2) (lanes : BitVec 3) (s : State) : Host.Outcome State Fault Refusal :=
  whenAn (fun s => if s.r R.ADC_INJ_CFG_TRIG c == 2 && s.lan.run && decide (2 ≤ popcount (lanes &&& s.lan.svc)) then
    injTrigger c (s.at (s.lan.boundary + us * s.r R.ADC_INJ_CFG_OFS_US c)) else s) s

/-- The effect of a write of ADC_CAL_CTRL: PER_S under R551, the requests, ADC-P first (R451, R453). -/
def calCtrlEff (val : Word) (s : State) : State :=
  let s := fieldWrite 0x80004 val s
  let s := if val.getLsbD 0 then calRequest 0 s else s
  if val.getLsbD 1 then calRequest 1 s else s

/-- ADC_CAL_REQ (R451). -/
def execAdcCalReq (val : Word) (s : State) : Host.Outcome State Fault Refusal := .next (hostWr 0x80004 (calCtrlEff val) s)

/-- Next instant at or after t that lies `phase` past a multiple of a period. -/
def nextMultiple (period phase t : Nat) : Nat := t + (period - (t + period - phase % period) % period) % period

/-- ADC_CAL_AUTO (R451): at multiples of PER_S for ADC-P, PER_S / 2 later for ADC-Q; none with PER_S = 0. -/
def execAdcCalAuto (c : Fin 2) (s : State) : Host.Outcome State Fault Refusal :=
  whenAn (fun s =>
    let per := s.r R.ADC_CAL_CTRL_PER_S * 100000000
    if per = 0 then s else calRequest c (s.at (nextMultiple per (if c = 0 then 0 else per / 2) s.tb))) s

/-- ADC_CAL_START (R452): every sampled result is completed and no injected group is pending. -/
def execAdcCalStart (c : Fin 2) (s : State) : Host.Outcome State Fault Refusal :=
  whenAn (fun s =>
    let s := adcRoll c s
    let v := s.adc.conv[c]
    if s.adc.calFirst c && v.pipe.isEmpty && !v.inj && !v.halted then
      (s.withConv c fun v => { v with cal := true, calEnd := s.tb + 220 * us }) |>
        fun t => { t with adc := { t.adc with calq := t.adc.calq.tail } }
    else s) s

/-- ADC_CAL_DONE (R455): 220 µs after its start (R451). -/
def execAdcCalDone (c : Fin 2) (offset gain : Int) (s : State) : Host.Outcome State Fault Refusal :=
  whenAn (fun s => if s.adc.conv[c].cal then calResult c offset gain (s.at s.adc.conv[c].calEnd) else s) s

/-- ADC_REF_FAULT (R443): ADC.REF is raised and ADC-Q halts. -/
def execAdcRefFault (s : State) : Host.Outcome State Fault Refusal :=
  whenAn (fun s =>
    let t := raise S.ADC_REF 1 { s with adc := { s.adc with refOk := false } }
    if s.adc.conv[1].halted then t else adcHalt 1 t) s

/-- The result of a source that the snapshot at boundary B takes: the latest completed before B (R457). -/
def adcSnap (a : Adc) (c src b : Nat) : Option AdcRes :=
  let key := 32 * c + src
  match mread none a.res key with
  | some x => if x.stamp < b then some x else match mread none a.prev key with
    | some y => if y.stamp < b then some y else none
    | none => none
  | none => none

/-- BLK of the ADC block (R502): each converter that is not halted stops, drops its groups and recalibrates, ADC-P first. -/
def adcBlk (s : State) : State :=
  let s := adcSync s
  let conv := vimap (fun _ v => if v.halted then v else
    { v with cal := false, pipe := [], inj := false, held := false, pass := 0, passBusy := false }) s.adc.conv
  { s with adc := { s.adc with conv := conv, calq := ([0, 1] : List (Fin 2)).filter (fun c => !s.adc.conv[c].halted) } }

end Sys2Proof.Machine
end

