-- ==== Sys2Proof/Machine/Crc.lean ====
section
/-! DEFINITION. The general check-value units CRC0-CRC3 (R483-R486). -/

namespace Sys2Proof.Machine

/-- 2^w - 1 as a word. -/
def lowMask (w : Nat) : Word := BitVec.ofNat 32 (2 ^ w - 1)

/-- The low w bits in reverse order. -/
def reflectW (w : Nat) (x : Word) : Word :=
  BitVec.ofNat 32 ((List.range w).foldl (fun n i => 2 * n + b2n (x.getLsbD i)) 0)

/-- START: the working copy takes the stored settings and s takes its INIT (R483). -/
def crcStartUnit (m : Map Word) (u : Nat) : CrcUnit :=
  let w := rget m R.CRC_CFG_WIDTH u + 1
  { width := w, refin := rbit m R.CRC_CFG_REFIN u, refout := rbit m R.CRC_CFG_REFOUT u,
    poly := BitVec.ofNat 32 (rget m R.CRC_POLY_POLY u) &&& lowMask w,
    xorout := BitVec.ofNat 32 (rget m R.CRC_XOR_XOROUT u) &&& lowMask w,
    st := BitVec.ofNat 32 (rget m R.CRC_INIT_INIT u) &&& lowMask w, len := 0 }

/-- One byte through a unit (R483): bits 7 to 0 of the byte, reflected under REFIN. -/
def CrcUnit.feed (c : CrcUnit) (b : Byte) : CrcUnit :=
  let bits := if c.refin then byteBits b else (byteBits b).reverse
  let step := fun (s : Word) (bit : Bool) =>
    let s' := (s <<< 1) &&& lowMask c.width
    if s.getLsbD (c.width - 1) ^^ bit then s' ^^^ c.poly else s'
  { c with st := bits.foldl step c.st, len := if c.len = 0xFFFFFFFF then c.len else c.len + 1 }

/-- The result over the bytes fed (R483). -/
def CrcUnit.result (c : CrcUnit) : Word := (if c.refout then reflectW c.width c.st else c.st) ^^^ c.xorout

/-- Feed the lowest n bytes of a written word, low byte first (R484). -/
def crcFeed (u : Fin 4) (n : Nat) (val : Word) (s : State) : State :=
  { s with crc := vmod s.crc u fun c => ((wordBytes val).take n).foldl CrcUnit.feed c }

/-- The effect of CRC_CTRL.START. -/
def crcStartEff (u : Fin 4) (s : State) : State := { s with crc := s.crc.set u (crcStartUnit s.regs u) }

/-- CRC_START (R483): a write of 1 to CRC_CTRL[u].START. -/
def execCrcStart (u : Fin 4) (s : State) : Host.Outcome State Fault Refusal :=
  .next (hostWr (0xA0010 + 0x40 * u) (crcStartEff u) s)

/-- CRC_DIN8 (R484): bits [7:0] are one step. -/
def execCrcDin8 (u : Fin 4) (val : Word) (s : State) : Host.Outcome State Fault Refusal :=
  .next (hostWr (0xA0014 + 0x40 * u) (crcFeed u 1 val) s)

/-- CRC_DIN16 (R484): [7:0], then [15:8]. -/
def execCrcDin16 (u : Fin 4) (val : Word) (s : State) : Host.Outcome State Fault Refusal :=
  .next (hostWr (0xA0018 + 0x40 * u) (crcFeed u 2 val) s)

/-- CRC_DIN32 (R484): the four bytes, low byte first. -/
def execCrcDin32 (u : Fin 4) (val : Word) (s : State) : Host.Outcome State Fault Refusal :=
  .next (hostWr (0xA001C + 0x40 * u) (crcFeed u 4 val) s)

end Sys2Proof.Machine
end

