-- ==== Sys2Proof/Machine/Slices.lean ====
section
/-! DEFINITION. Slices of the cistern: cells, codeword writes, corrected errors, failure, migration, slice operations
(chapters 02, 05 and 07). -/

namespace Sys2Proof.Machine

/-! ### Cells (R53-R54, R155) -/

/-- Key of a cell: physical slice, row, slice column. -/
def cellKey (p row col : Nat) : Nat := (p * 2560 + row) * 128 + col

/-- FIRM and SPEC of a cell. -/
def firm (c : BitVec 4) : Nat := c.toNat / 4
def spec (c : BitVec 4) : Nat := c.toNat % 4

/-- Increment FIRM or SPEC: the new cell, and whether it steps into STICKY (R155). -/
def incCell (isFirm : Bool) (c : BitVec 4) : BitVec 4 × Bool :=
  if c = 15 then (15, false)
  else if (if isFirm then firm c else spec c) = 3 then (15, true)
  else
    let c' := c + (if isFirm then 4 else 1)
    (c', c' == 15)

/-- One counting step on a cell: the new cell, overflow, underflow (R155). -/
def stepCell (op : CellOp) (c : BitVec 4) : BitVec 4 × Bool × Bool :=
  match op with
  | .incFirm => ((incCell true c).1, (incCell true c).2, false)
  | .incSpec => ((incCell false c).1, (incCell false c).2, false)
  | .dec => if c = 15 then (c, false, false) else if spec c = 0 then (c, false, true) else (c - 1, false, false)
  | .confirm =>
    if c = 15 then (c, false, false) else if spec c = 0 then (c, false, true)
    else ((incCell true (c - 1)).1, (incCell true (c - 1)).2, false)

/-- Step every cell of a codeword that a write names: cells, overflowing columns, underflowing columns. -/
def stepCells (op : CellOp) (p row cw : Nat) (cols : BitVec 64) (m : Map (BitVec 4)) :
    Map (BitVec 4) × List Nat × List Nat :=
  (ones cols).foldl (fun acc j =>
    let col := 64 * cw + j
    let r := stepCell op (mread 0 acc.1 (cellKey p row col))
    (mput 0 acc.1 (cellKey p row col) r.1, if r.2.1 then acc.2.1 ++ [col] else acc.2.1,
      if r.2.2 then acc.2.2 ++ [col] else acc.2.2)) (m, [], [])

/-- A codeword whose read is wrong without being detected: its cells take free values (R41; log entry 6). -/
def scrambleCells (s : State) (p row cw : Nat) : State :=
  (List.range 64).foldl (fun t j =>
    { t with cis := { t.cis with cells := mput 0 t.cis.cells (cellKey p row (64 * cw + j)) ((t.fv).setWidth 4) },
             free := t.free + 1 }) s

/-! ### Assignment (R210, R215, R222, R223) -/

/-- The logical slice that a physical slice serves. -/
def Cis.serving (c : Cis) (p : Fin 17) : Option (Fin 16) :=
  if h : p.val < 16 then
    if c.phys[p].failed || c.dark.getLsbD p || c.served == some ⟨p.val, h⟩ then none else some ⟨p.val, h⟩
  else c.served

/-- The physical slice that serves a logical slice; none = dark. -/
def Cis.physOf (c : Cis) (n : Fin 16) : Option (Fin 17) :=
  if c.dark.getLsbD n then none
  else if c.served == some n then some 16
  else if c.phys[n.castSucc].failed then none else some n.castSucc

/-- The domain of a physical slice is on: CS0 holds 0-7 and S, CS1 holds 8-15 (R32, R212). -/
def State.sliceOn (s : State) (p : Fin 17) : Bool := if 8 ≤ p.val ∧ p.val < 16 then s.dom 4 else s.dom 3

/-- A column of a logical slice is suppressed (R230). -/
def Cis.suppressed (c : Cis) (col : Nat) : Bool := c.clsGone || c.dlyLost.getLsbD (col / 8)

/-- Columns of a codeword of a logical slice that are not suppressed, as bits (R230). -/
def openBits (c : Cis) (n cw : Nat) : BitVec 64 :=
  if c.clsGone then 0
  else BitVec.ofNat 64 (((List.range 64).map fun j => b2n (!c.dlyLost.getLsbD (16 * n + 8 * cw + j / 8)) * 2 ^ j).sum)

/-! ### Notices (R132, R149) -/

/-- A notice enters the notice queue, or is dropped. -/
def notice (status : Status) (opcode ticket : Nat) (tag : Word) (drain : Nat) (s : State) : State :=
  if s.dsc.noticeq.length < 256 then
    { s with dsc := { s.dsc with noticeq := s.dsc.noticeq ++
        [⟨status, BitVec.ofNat 4 opcode, true, BitVec.ofNat 16 ticket, tag, drain, false⟩] } }
  else raise S.HIF_CPL_LOST 0 (if s.dom 5 then s.add R.HIF_RING_LOST_CNT 1 1 else s)

/-! ### Failure and migration (R211-R225) -/

/-- Descriptors with writes in a queue complete with SLICE_LOST (R218, R134). -/
def loseOwners (ws : List CwWrite) (fs : List Flight) : List Flight :=
  fs.map fun f => if ws.any (fun w => w.owner == some f.id) then { f with sliceLost := true } else f

/-- The writes of a queue that are for no dark slice any more are discarded and counted (R224). -/
def countDark (n : Nat) (s : State) : State := if n = 0 then s else s.add R.CIS_DARK_CNT_CNT n

/-- Logical slices that a failure of physical slice p takes dark (R221, R222). -/
def darkBy (c : Cis) (p : Fin 17) : List (Fin 16) :=
  match c.mig with
  | some ⟨m, false⟩ => m :: ((c.serving p).toList.filter (· != m))
  | _ => match c.serving p with
    | none => []
    | some n => if p.val < 16 && c.spareOk then [] else [n]

/-- The cistern after physical slice p fails. -/
def failCis (c : Cis) (p : Fin 17) : Cis :=
  let ph := c.phys[p]
  let phys := c.phys.set p { ph with failed := true, testPass := false, wq := [] }
  let dark := (darkBy c p).foldl (fun d n => putBit d n.val true) c.dark
  match c.mig with
  | some ⟨m, false⟩ =>
    { c with phys := phys.set 16 { phys[16] with wq := [] }, dark := dark, served := none, spareOk := false,
             mig := some ⟨m, true⟩ }
  | _ => match c.serving p with
    | some n =>
      if p.val < 16 && c.spareOk then
        { c with phys := vmod phys 16 fun x => { x with wq := x.wq ++ ph.wq, h := ph.wq.foldl (fun h w => max h w.slot) x.h }
                 served := some n, spareOk := false, mig := some ⟨n, false⟩ }
      else { c with phys := phys, dark := dark, served := if p = 16 then none else c.served,
                    spareOk := c.spareOk && p != 16 }
    | none => { c with phys := phys, spareOk := c.spareOk && p != 16 }

/-- Writes that a failure of physical slice p discards into dark slices. -/
def lostWrites (c : Cis) (p : Fin 17) : List CwWrite :=
  match c.mig with
  | some ⟨_, false⟩ => if p = 16 then c.phys[p].wq else c.phys[p].wq ++ c.phys[16].wq
  | _ => if p.val < 16 && c.spareOk then [] else c.phys[p].wq

/-- A physical slice fails: S takes over, or logical slices go dark (R211, R215, R221, R222). -/
def failSlice (p : Fin 17) (s : State) : State :=
  if s.cis.phys[p].failed then s
  else
    let lost := lostWrites s.cis p
    let t := { s with cis := failCis s.cis p,
                      dsc := { s.dsc with flights := loseOwners (s.cis.phys[p].wq ++ lost) s.dsc.flights } }
    raiseAll ((if p = 16 then [(S.CIS_SPARE_FAIL, 0)] else []) ++ (darkBy s.cis p).map fun n => (S.CIS_SLC_DARK, n.val))
      (countDark lost.length t)

/-- An idle S becomes unfit (R214). -/
def spareUnfit (s : State) : State :=
  if s.cis.spareOk then raise S.CIS_SPARE_FAIL 0 { s with cis := { s.cis with spareOk := false } } else s

/-! ### Corrected and uncorrectable codewords (R42, R43, R226, R227, R235) -/

/-- DETAIL of CIS.ECC_C and CIS.ECC_U for a slice. -/
def sliceDetail (p row cw sym nsym : Nat) : Nat := p * 2 ^ 27 + row * 2 ^ 15 + cw * 2 ^ 14 + sym * 2 ^ 8 + nsym * 2 ^ 6

/-- A correction in a physical slice: counted, and its limit judged. -/
def corrected (p : Fin 17) (row cw : Nat) (sym : Fin 38) (second : Option (Fin 38)) (s : State) : State :=
  let n := s.cis.phys[p].ceNow + 1
  let s := { s with cis := { s.cis with phys := vmod s.cis.phys p fun x => { x with ceNow := n } },
                    regs := radd s.regs R.CIS_CE_CNT_TOTAL 1 p }
  let first := match second with | some y => min sym.val y.val | none => sym.val
  let s := raise S.CIS_ECC_C (sliceDetail p row cw first (if second.isSome then 2 else 1)) s
  let lim := s.r R.CIS_CE_LIM_LIM
  if lim = 0 ∨ n ≠ lim then s
  else match s.cis.serving p with
    | some _ =>
      let fails := s.cis.spareOk && p != 16
      let s := raise S.CIS_SLC_CE 0 s
      if fails then failSlice p s else s
    | none => if p = 16 then spareUnfit s else s

/-- An uncorrectable codeword in a physical slice: reported, and the slice fails, or an idle S becomes unfit. -/
def uncorrectable (p : Fin 17) (row cw : Nat) (s : State) : State :=
  let s := raise S.CIS_ECC_U (sliceDetail p row cw 63 0) s
  if p = 16 && s.cis.served.isNone then spareUnfit s else failSlice p s

/-! ### Codeword writes (R140, R155, R156, R216) -/

/-- DETAIL of CIS.CELL_OVF and CIS.TKT_UNDER (R156). -/
def cellDetail (logical row col : Nat) : Nat := logical * 2 ^ 28 + row * 2 ^ 16 + col

/-- The cells change, overflows and underflows are counted and raised, and the descriptor notes the write; what is aimed at a
suppressed column is discarded (R230). -/
def writeCells (p : Fin 17) (w : CwWrite) (s : State) : State :=
  let row := w.slot % 2560
  let r := stepCells w.op p row w.cw (w.cols &&& openBits s.cis w.logical w.cw) s.cis.cells
  let regs := radd (radd s.regs R.CIS_OVF_CNT_CNT r.2.1.length) R.CIS_UNDER_CNT_CNT r.2.2.length
  let t := { s with cis := { s.cis with cells := r.1 }, regs := regs, slot := { s.slot with lastWrite := some s.slot.k },
                    dsc := { s.dsc with flights := s.dsc.flights.map fun f =>
                      if w.owner == some f.id then { f with written := f.written ++ [(p, w)] } else f } }
  raiseAll (r.2.1.map (fun c => (S.CIS_CELL_OVF, cellDetail w.logical row c))
    ++ r.2.2.map fun c => (S.CIS_TKT_UNDER, cellDetail w.logical row c)) t

/-- One codeword read-modify-write in a physical slice with what its read meets. -/
def performWrite (p : Fin 17) (w : CwWrite) (e : Ecc) (s : State) : State :=
  match e with
  | .clean => writeCells p w s
  | .corrected sym second => corrected p (w.slot % 2560) w.cw sym second (writeCells p w s)
  | .undetected => writeCells p w (scrambleCells s p (w.slot % 2560) w.cw)
  | .uncorrectable =>
    uncorrectable p (w.slot % 2560) w.cw
      { s with dsc := { s.dsc with flights := loseOwners [w] s.dsc.flights } }

/-- A write goes to the queue of the slice that serves its logical slice; a dark slice discards it (R216, R224). -/
def enqueue (s : State) (w : CwWrite) : State :=
  match s.cis.physOf w.logical with
  | some p => { s with cis := { s.cis with phys := vmod s.cis.phys p fun x =>
      { x with wq := x.wq ++ [w], h := max x.h w.slot } } }
  | none => s.add R.CIS_DARK_CNT_CNT 1

/-- Cell writes of a descriptor are still waiting. -/
def Cis.writing (c : Cis) (id : Nat) : Bool :=
  (List.finRange 17).any fun p => c.phys[p].wq.any fun w => w.owner == some id

/-- SLICE_RMW (R140): the oldest write of the queue of a slice in service; else nothing (log entry 3). -/
def execSliceRmw (p : Fin 17) (ecc : Ecc) (s : State) : Host.Outcome State Fault Refusal :=
  .next (match s.cis.phys[p].wq with
    | w :: ws =>
      if s.sliceOn p && !s.cis.phys[p].failed then
        performWrite p w ecc { s with cis := { s.cis with phys := vmod s.cis.phys p fun x => { x with wq := ws } } }
      else s
    | [] => s)

/-- CE_INTERVAL (R226): at a whole second the counts of the interval are latched and start anew. -/
def execCeInterval (s : State) : Host.Outcome State Fault Refusal :=
  .next (if s.pwr.refOk && s.dom 4 then
    let t := s.at ((nextEdge s.tb s.cis.ceAt + 99999999) / 100000000 * 100000000)
    { t with
      regs := (List.finRange 17).foldl (fun (m : Map Word) (p : Fin 17) => rput m R.CIS_CE_CNT_LAST (min s.cis.phys[p].ceNow 65535) p) s.regs
      cis := { s.cis with ceAt := some t.tb, phys := vimap (fun _ x => { x with ceNow := 0 }) s.cis.phys } }
    else s)

/-! ### Slice operations (R232, R233) -/

/-- The operation OP is allowed on physical slice p. -/
def opAllowed (s : State) (op p : Nat) : Bool :=
  if h : p < 17 then
    let q : Fin 17 := ⟨p, h⟩
    let ph := s.cis.phys[q]
    match op with
    | 1 => s.sliceOn q && (ph.failed || (p == 16 && s.cis.served.isNone))
    | 2 => decide (p < 16) && (s.cis.serving q).isSome && s.cis.spareOk
    | 3 => decide (p < 16) && ph.failed && ph.testPass && s.sliceOn q
    | _ => false
  else false

/-- A write of CIS_SLC_CTRL: OP and SLICE take the value; with GO an operation starts or is refused. While S is under TEST it is
not fit and idle (DESIGN CHOICE, log entry 72). -/
def sliceCtrlEff (val : Word) (s : State) : State :=
  let op := bitsOf val.toNat 9 8
  let p := bitsOf val.toNat 4 0
  let s := { s with regs := rput (rput s.regs R.CIS_SLC_CTRL_OP op) R.CIS_SLC_CTRL_SLICE p }
  if !val.getLsbD 31 then s
  else if !s.inMode [.maintain] || s.rb R.CIS_SLC_CSTAT_BUSY || !opAllowed s op p then s.w R.CIS_SLC_CSTAT_REFUSED 1
  else
    let kind : SliceOp := if op = 1 then .test else if op = 2 then .migrate else .restore
    let q : Fin 17 := ⟨p % 17, Nat.mod_lt _ (by decide)⟩
    let t := { s with regs := rput s.regs R.CIS_SLC_CSTAT_BUSY 1,
                      cis := { s.cis with op := some (kind, q), spareOk := s.cis.spareOk && !(op == 1 && p == 16) } }
    if op = 2 then failSlice q t else t

/-- SLICE_TEST, SLICE_MIGRATE, SLICE_RESTORE (R232, R233). -/
def execSliceTest (val : BitVec 32) (s : State) : Host.Outcome State Fault Refusal :=
  .next (hostWr 0x20058 (sliceCtrlEff val) s)
def execSliceMigrate (val : BitVec 32) (s : State) : Host.Outcome State Fault Refusal :=
  .next (hostWr 0x20058 (sliceCtrlEff val) s)
def execSliceRestore (val : BitVec 32) (s : State) : Host.Outcome State Fault Refusal :=
  .next (hostWr 0x20058 (sliceCtrlEff val) s)

/-- A slice's cells all zero. -/
def clearSlice (p : Nat) (m : Map (BitVec 4)) : Map (BitVec 4) := m.filter fun e => e.1 / 327680 != p

/-- The end of a TEST: the slice is all zero; a passing S becomes fit again. -/
def testDone (p : Fin 17) (pass : Bool) (c : Cis) : Cis :=
  let fit := pass && p == 16
  { c with cells := clearSlice p c.cells, op := none,
           phys := vmod c.phys p fun x => { x with testPass := pass, failed := x.failed && !fit },
           spareOk := c.spareOk || fit }

/-- The end of a RESTORE: p serves its logical slice again; S, if it served it, is cleared and idle. -/
def restoreDone (p : Fin 17) (c : Cis) : Cis :=
  let n : Fin 16 := ⟨p.val % 16, Nat.mod_lt _ (by decide)⟩
  let frees := c.served == some n
  { c with cells := if frees then clearSlice 16 c.cells else c.cells, op := none,
           phys := vimap (fun q x => if q = p then { x with failed := false, wq := [] }
             else if q = 16 && frees then { x with wq := [] } else x) c.phys,
           served := if frees then none else c.served, spareOk := c.spareOk || (frees && !c.phys[16].failed),
           dark := putBit c.dark n.val false }

/-- SLICE_OP_DONE (R232): DONE is set, for a TEST with PASS. -/
def execSliceOpDone (pass : Bool) (s : State) : Host.Outcome State Fault Refusal :=
  let regs := rput (rput s.regs R.CIS_SLC_CSTAT_BUSY 0) R.CIS_SLC_CSTAT_DONE 1
  .next (match s.cis.op with
    | some (.test, p) => { s with regs := rput regs R.CIS_SLC_CSTAT_PASS (b2n pass), cis := testDone p pass s.cis }
    | some (.migrate, _) => { s with regs := regs, cis := { s.cis with op := none } }
    | some (.restore, p) => { s with regs := regs, cis := restoreDone p s.cis }
    | none => s)

end Sys2Proof.Machine
end

