-- ==== Sys2Proof/Machine/Rings.lean ====
section
/-! DEFINITION. Host rings: doorbells, enabling, completions, notices, events, telemetry, interrupts (R88-R90,
R110-R119, R129-R149). -/

namespace Sys2Proof.Machine

/-! ### Doorbells (R88-R90, R114) -/

/-- A doorbell write takes effect where host requests do; BAR2 stays open in every mode. -/
def bar2Wr (eff : State → State) (s : State) : State := if s.hostReach then eff (s.order 6) else s

/-- A ring doorbell write is accepted (R89, R114). -/
def dbOk (s : State) (n : Fin 4) (val : Word) : Bool :=
  let rg := s.rings[n]
  let size := s.ringSize n
  let v := val.toNat
  rg.en && decide (v < size) &&
    (n == 0 || decide ((v + size - rg.db) % size ≤ (rg.idx + size - rg.db) % size))

/-- Code of a status (R133). -/
def Status.code (e : Status) : Nat :=
  match e with
  | .ok => 0 | .late => 1 | .past => 2 | .range => 3 | .crc => 4 | .ticketBusy => 5 | .ticketUnknown => 6 | .noTicket => 7
  | .inhibited => 8 | .sliceLost => 9 | .forwardFail => 10

/-- The words of a completion entry (R129). -/
def cplWords (e : CplEntry) : List Word :=
  [BitVec.ofNat 32 (e.status.code + 256 * e.opcode.toNat + 16384 * b2n e.notice + 65536 * e.ticket.toNat), e.tag,
    lo32 e.drain, hi32 e.drain]

/-- A ring entry with its PHASE bit in bit `b` of word 0, and the counted happening (R115, R147). -/
def ringEntry (s : State) (n : Fin 4) (b : Nat) (ws : List Word) (now : Bool) : State :=
  let rg := s.rings[n]
  let nx := (rg.idx + 1) % s.ringSize n
  let ws' := match ws with | w :: l => (if rg.phase then w ||| BitVec.ofNat 32 (2 ^ b) else w) :: l | [] => []
  ringCount { s with rings := s.rings.set n { rg with idx := nx, phase := if nx = 0 then !rg.phase else rg.phase },
                     tx := Tx.ring n (s.ringAddr n rg.idx) rg.idx ws' :: s.tx } n now

/-- Write the waiting completions that have room, in order. -/
def flushCpl (s : State) : State :=
  s.dsc.cplq.foldl (fun t e =>
    if t.ringReady 1 then
      ringEntry { t with dsc := { t.dsc with cplq := t.dsc.cplq.drop 1 } } 1 15 (cplWords e) e.irqNow
    else t) s

/-- An accepted doorbell replaces the index; a discarded one raises HIF.DB_RANGE (R89). -/
def dbEff (n : Fin 4) (val : Word) (s : State) : State :=
  if dbOk s n val then
    let t := { s with rings := vmod s.rings n fun r => { r with db := val.toNat } }
    if n = 1 then flushCpl t else t
  else raiseWith { src := S.HIF_DB_RANGE, acc := ⟨0, 1, BitVec.ofNat 32 (4096 * n.val), s.tb⟩ } s

/-- DB_SUB_TAIL, DB_CPL_HEAD, DB_EVT_HEAD, DB_TEL_HEAD (R89, R114). -/
def execDbSubTail (val : BitVec 32) (s : State) : Host.Outcome State Fault Refusal := .next (bar2Wr (dbEff 0 val) s)
def execDbCplHead (val : BitVec 32) (s : State) : Host.Outcome State Fault Refusal := .next (bar2Wr (dbEff 1 val) s)
def execDbEvtHead (val : BitVec 32) (s : State) : Host.Outcome State Fault Refusal := .next (bar2Wr (dbEff 2 val) s)
def execDbTelHead (val : BitVec 32) (s : State) : Host.Outcome State Fault Refusal := .next (bar2Wr (dbEff 3 val) s)

/-! ### Enabling and disabling (R117-R119) -/

/-- Offset of HIF_RING_CFG[n]. -/
def ringCfgOff (n : Nat) : Nat := 0x11008 + 0x40 * n

/-- The ring after ENABLE is set. BUSY may still read 1: the spec bars no enable then, and the entries of read requests still
under way enter staging and move the new index (log entry 63). -/
def ringFresh (n : Fin 4) (rg : Ring) : Ring :=
  { rg with en := true, idx := 0, db := 0, phase := n != 0, cnt := 0, since := none }

/-- A write of HIF_RING_CFG[n]. While ENABLE reads 1 only a value of LOG2SIZE that differs is a write to it (DESIGN CHOICE, log
entry 62). -/
def ringCfgEff (n : Fin 4) (val : Word) (s : State) : State :=
  let rg := s.rings[n]
  let m := bitsOf val.toNat 4 0
  let want := val.getLsbD 31
  if rg.en then
    let s := if m != s.r R.HIF_RING_CFG_LOG2SIZE n then raiseAccess 1 true (ringCfgOff n) s else s
    if want then s
    else if n = 1 && (s.rings[0].en || s.rings[0].busy) then raiseAccess 1 true (ringCfgOff n) s
    else { s with rings := vmod s.rings n fun r => { r with en := false, busy := true } }
  else
    let s := s.w R.HIF_RING_CFG_LOG2SIZE m n
    if !want then s
    else if m < 6 || 16 < m || (n = 0 && !s.rings[1].en) then raiseAccess 1 true (ringCfgOff n) s
    else
      let t := { s with rings := vmod s.rings n (ringFresh n), evs := if n = 3 then { s.evs with telAt := s.tb } else s.evs }
      if n = 1 then flushCpl t else t

/-- RING_ENABLE (R117, R118). -/
def execRingEnable (n : Fin 4) (val : BitVec 32) (s : State) : Host.Outcome State Fault Refusal :=
  .next (hostWr (ringCfgOff n) (ringCfgEff n val) s)

/-- RING_DISABLE (R118, R119). -/
def execRingDisable (n : Fin 4) (val : BitVec 32) (s : State) : Host.Outcome State Fault Refusal :=
  .next (hostWr (ringCfgOff n) (ringCfgEff n val) s)

/-- RING_DISABLE_DONE (R119): of the submission ring every request is answered and every descriptor fetched has completed. -/
def execRingDisableDone (n : Fin 4) (s : State) : Host.Outcome State Fault Refusal :=
  .next (if s.rings[n].busy && (n != 0 || (s.dsc.fetchOut.isEmpty && !s.dsc.flights.any (·.peer.isNone))) then
      { s with rings := vmod s.rings n fun r => { r with busy := false } }
    else s)

/-- A write of a ring's BASE: discarded with HIF.ACCESS while ENABLE reads 1 (R117). -/
def ringBaseEff (n : Fin 4) (off : Nat) (val : Word) (s : State) : State :=
  if s.rings[n].en then raiseAccess 1 true off s else fieldWrite off val s

/-! ### Notices, events, telemetry (R132, R143-R149) -/

/-- NOTICE_WRITE (R149): the oldest notice, once the completion ring takes it. -/
def execNoticeWrite (s : State) : Host.Outcome State Fault Refusal :=
  .next (match s.dsc.noticeq with
    | e :: l => if s.ringReady 1 then ringEntry { s with dsc := { s.dsc with noticeq := l } } 1 15 (cplWords e) false else s
    | [] => s)

/-- The words of an event entry (R143). -/
def evtWords (e : Evt) : List Word :=
  [BitVec.ofNat 32 (e.src.code.toNat + 65536 * e.src.blk.toNat + 2 ^ 20 * e.sev.toNat + 2 ^ 24 * e.react.toNat),
    BitVec.ofNat 32 (e.rep + 65536 * e.acc.master.toNat + 2 ^ 20 * e.acc.access.toNat), e.acc.addr,
    lo32 e.acc.tAcc, hi32 e.acc.tAcc, lo32 e.tRaise, hi32 e.tRaise, e.detail]

/-- Vector 0 messages whose entries cannot be written: sent without them where the ring is full, else held (R100, R101). -/
def nmtFlush (s : State) : State :=
  let due := s.evs.staging.filter (·.nmtDue)
  due.foldl (fun s _ => s.nmt)
    { s with evs := { s.evs with staging := s.evs.staging.map fun e =>
        { e with nmtDue := false, nmtHeld := e.nmtHeld || (e.nmtDue && !s.hif.canSend) } } }

/-- EVENT_WRITE (R144): the oldest event entry, then the vector 0 message that waits for it (R100). -/
def execEventWrite (s : State) : Host.Outcome State Fault Refusal :=
  .next (if !s.dom 4 then s
    else if s.ringReady 2 then
      match s.evs.staging with
      | e :: l =>
        let t := ringEntry { s with evs := { s.evs with staging := l } } 2 31 (evtWords e) false
        if e.nmtDue then t.nmt else t
      | [] => s
    else nmtFlush s)

/-- Open and closing tickets. -/
def State.tickets (s : State) : Nat := s.tkt.recs.length

/-- The words of a telemetry record (R145). -/
def telWords (s : State) : List Word :=
  let e := s.evs
  let mar := fun (i : Fin 3) => if s.lan.inService i then e.telMargin[i].toNat else 0xFF
  [BitVec.ofNat 32 (e.telSeq.toNat + 65536 * s.sys.mode.num + 2 ^ 19 * b2n s.vpt.sluiceOpen + 2 ^ 20 * s.lan.svc.toNat),
    lo32 s.tb, hi32 s.tb, lo32 s.slot.k, BitVec.ofNat 32 e.telAdmit,
    BitVec.ofNat 32 (min e.telLatePast 65535 + 65536 * min e.telStgMax 65535),
    BitVec.ofNat 32 (mar 0 + 256 * mar 1 + 65536 * mar 2 + 2 ^ 24 * e.telTj.toNat),
    BitVec.ofNat 32 (min s.tickets 65535 + 65536 * min e.telDrainMax 65535)]

/-- The telemetry period in ticks; values above 1,000 act as 1,000. -/
def State.telPeriod (s : State) : Nat := min 1000 (s.r R.HIF_TEL_PER_MS) * ms

/-- A telemetry record is made; SEQ advances and the interval starts anew whether it is written or skipped (R145, R146): the
margins and the temperature from what stands then. -/
def telRecord (s : State) : State :=
  let t := if s.ringReady 3 then ringEntry s 3 31 (telWords s) false else s.add R.HIF_RING_LOST_CNT 1 3
  { t with evs := { t.evs with telSeq := t.evs.telSeq + 1, telAt := s.tb, telAdmit := 0, telLatePast := 0,
                               telStgMax := (s.dsc.flights.filter (·.phase == .staged)).length,
                               telMargin := Vector.ofFn fun l => BitVec.ofNat 8 (s.r R.LAN_PACE_MARGIN l),
                               telTj := BitVec.ofNat 8 s.junction, telDrainMax := 0 } }

/-- TELEMETRY_RECORD (R145): at the end of each period while the telemetry ring is enabled. -/
def execTelemetryRecord (s : State) : Host.Outcome State Fault Refusal :=
  .next (if s.dom 5 && s.rings[3].en && s.pwr.refOk && s.telPeriod != 0 then telRecord (s.at (s.evs.telAt + s.telPeriod)) else s)

/-- IRQ_HOLD_EXPIRE (R148): HOLD_US after the first happening not yet signalled. -/
def execIrqHoldExpire (n : Fin 4) (s : State) : Host.Outcome State Fault Refusal :=
  .next (match s.rings[n].since with
    | some t0 =>
      let hold := s.r R.HIF_RING_IRQ_HOLD_US n
      if hold = 0 || !s.dom 5 || !s.comes (t0 + hold * us) then s
      else
        let s := s.at (t0 + hold * us)
        { s with rings := vmod s.rings n fun r => { r with cnt := 0, since := none },
                 hif := (s.hif.msi (s.r R.HIF_RING_IRQ_VEC n)).1,
                 tx := (s.hif.msi (s.r R.HIF_RING_IRQ_VEC n)).2 ++ s.tx }
    | none => s)

end Sys2Proof.Machine
end

