-- ==== Sys2Proof/Machine/Tickets.lean ====
section
/-! DEFINITION. Tickets: written cells, bookings, resolution, loss of a record; the work SRAM scrubber (chapter 05,
R40-R44, R228-R231). -/

namespace Sys2Proof.Machine

/-! ### Columns and codeword writes -/

/-- Slot length and slot numbers of instants (R47). -/
def Slot.slotOf (c : Slot) (t : Int) : Int := c.k0 + (t - c.e) / c.len

/-- T_k for a slot number that may lie before the epoch. -/
def Slot.tickZ (c : Slot) (k : Int) : Int := c.e + (k - c.k0) * c.len

/-- DELAY of a local column in a generation (R154). -/
def delayOf (s : State) (gen : Bool) (col : Nat) : Nat :=
  if gen = s.cis.gen then s.r R.CIS_DLY_DELAY col else rget s.cis.retained R.CIS_DLY_DELAY col

/-- The entry of a column in a generation is lost. -/
def entryLost (s : State) (gen : Bool) (col : Nat) : Bool :=
  (if gen = s.cis.gen then s.cis.dlyLost else s.cis.retLost).getLsbD (col / 8)

/-- The columns of a codeword of a logical slice that a band of cells takes in slot k: columns with their first slots. -/
def bandBits (cols : List (Nat × Int)) (nr : Nat) (k : Int) (g : Nat) : BitVec 64 :=
  BitVec.ofNat 64 ((cols.filter fun e => e.1 / 64 = g ∧ e.2 ≤ k ∧ k < e.2 + nr).foldl (fun b e => b ||| 2 ^ (e.1 % 64)) 0)

/-- The codeword writes of a band of cells in slots `lo` to `hi`, in slot order (R140). -/
def bandWrites (cols : List (Nat × Int)) (nr : Nat) (lo hi : Int) (op : CellOp) (owner : Option Nat) : List CwWrite :=
  let groups := ((cols.map fun e => e.1 / 64).dedup)
  ((List.range (hi + 1 - lo).toNat).map fun i => lo + i).flatMap fun k =>
    groups.filterMap fun g =>
      let b := bandBits cols nr k g
      if b = 0 then none
      else some { logical := ⟨g / 2 % 16, Nat.mod_lt _ (by decide)⟩, slot := k.toNat, cw := ⟨g % 2, Nat.mod_lt _ (by decide)⟩,
                  cols := b, op := op, owner := owner }

/-- Smallest and largest of a list of slot numbers. -/
def minZ (l : List Int) : Int := match l with | [] => 0 | a :: l => l.foldl min a
def maxZ (l : List Int) : Int := match l with | [] => 0 | a :: l => l.foldl max a

/-! ### A ticket's cells (R153) -/

/-- Own columns of a ticket whose delay entries stand, with their first slots. -/
def ticketCols (s : State) (t : Ticket) : List (Nat × Int) :=
  let cs := ((List.range (t.ncol.toNat + 1)).map fun i => t.lcol.toNat + i).filter fun c => !entryLost s t.gen c
  let m := minZ (cs.map fun c => (delayOf s t.gen c : Int))
  cs.map fun c => (c, t.kmin + delayOf s t.gen c - m)

/-- Largest own target slot of a ticket. -/
def ticketMax (s : State) (t : Ticket) : Int := maxZ ((ticketCols s t).map (·.2)) + t.nr.toNat

/-- Slots from which on the ticket wrote. -/
def ticketFirst (t : Ticket) : Int := t.kmin + t.kofs.toNat

/-- The first slot that the ticket wrote: column delays may leave a gap at `ticketFirst` (R153). -/
def ticketWritten (s : State) (t : Ticket) : Int :=
  minZ (((ticketCols s t).filter fun e => decide (ticketFirst t ≤ e.2 + t.nr.toNat)).map fun e => max e.2 (ticketFirst t))

/-- The writes of an action on every written cell of a ticket from slot `lo` on. -/
def ticketWrites (s : State) (t : Ticket) (lo : Int) (op : CellOp) (owner : Option Nat) : List CwWrite :=
  bandWrites (ticketCols s t) (t.nr.toNat + 1) (max lo (ticketFirst t)) (ticketMax s t) op owner

/-- The deadline slot of a ticket (R122, R166). -/
def Ticket.due (t : Ticket) : Int := if t.held then t.deadline else t.kmin - t.d.toNat

/-! ### Bookings (R162, R163) -/

/-- Booking limit of a slice and slot. -/
def bookLimit (s : State) : Nat := 32 * s.slot.len / 100

/-- Earliest slot from `lo` to `hi - 1` of a logical slice whose booking count is below the limit. -/
def bookSlot (bs : List Booking) (limit : Nat) (n : Fin 16) (lo hi : Nat) : Option Nat :=
  ((List.range (hi - lo)).map (lo + ·)).find? fun j => decide ((bs.filter fun b => b.logical == n && b.at' == j).length < limit)

/-- Book one write for each codeword write of a ticket, `none` when they do not all fit. -/
def bookAll (limit : Nat) (t : Nat) (lo : Nat) (ws : List CwWrite) (bs : List Booking) : Option (List Booking) :=
  ws.foldl (fun acc w => acc.bind fun bs =>
    (bookSlot bs limit w.logical lo w.slot).map fun j => bs ++ [⟨t, w.logical, j, w.slot, w.cw, w.cols, false⟩]) (some bs)

/-- Release the bookings of a ticket. -/
def Tkt.release (k : Tkt) (t : Nat) : Tkt := { k with books := k.books.filter fun b => b.ticket != t }

/-- Free a ticket. -/
def Tkt.drop (k : Tkt) (t : Nat) : Tkt := { recs := mdel k.recs t, books := k.books.filter fun b => b.ticket != t }

/-- Change the record of a ticket. -/
def Tkt.upd (k : Tkt) (t : Nat) (r : Ticket) : Tkt := { k with recs := mins k.recs t r }

/-! ### Resolution (R157, R160, R161) -/

/-- POLICY of a class: true = FIRE; free while both copies of the class table are lost. -/
def policyOf (s : State) (cls : BitVec 4) : Bool :=
  if s.cis.clsGone then s.fv.getLsbD 0 else s.rb R.CIS_CLS_POLICY cls.toNat

/-- A ticket goes into resolution. -/
def resolve (t : Nat) (r : Ticket) (fire lost : Bool) (s : State) : State :=
  { s with tkt := s.tkt.upd t { r with state := .resolving fire lost }, free := s.free + b2n s.cis.clsGone }

/-- A descriptor still writes for the ticket. -/
def ticketBusy (s : State) (t : Nat) : Bool := s.dsc.flights.any fun f => f.ticket == some t && f.phase == .admitted

/-- TICKET_DEADLINE (R161): an open ticket reaches its deadline. -/
def execTicketDeadline (t : BitVec 15) (s : State) : Host.Outcome State Fault Refusal :=
  .next (match mget s.tkt.recs t.toNat with
    | some r =>
      if r.state == .open && !ticketBusy s t.toNat && s.slot.run && s.dom 4 && s.comes (s.slot.tickZ r.due).toNat then
        let fire := policyOf s r.cls
        resolve t.toNat r fire false
          ((s.at (s.slot.tickZ r.due).toNat).add (if fire then R.CIS_RES_CNT_FIRE else R.CIS_RES_CNT_DROP) 1)
      else s
    | none => s)

/-- The row of a slot has been drained: nothing is applied to it any more (R65). -/
def Slot.drained (c : Slot) (k : Nat) : Bool := c.ticked && decide (k ≤ c.k)

/-- A booked resolution write: dec on its cells, in the slice that serves its logical slice (R165). -/
def bookedEff (b : Booking) (e : Ecc) (s : State) : State :=
  let w : CwWrite := { logical := b.logical, slot := b.k, cw := b.cw, cols := b.cols, op := .dec, owner := none }
  if s.slot.drained b.k then s
  else match s.cis.physOf b.logical with
  | some p =>
    performWrite p w e { s with cis := { s.cis with phys := vmod s.cis.phys p fun x => { x with h := max x.h b.k } } }
  | none => s.add R.CIS_DARK_CNT_CNT 1

/-- Bookings whose writes are done; they stay booked until the resolution is complete (R163). -/
def Tkt.perform (k : Tkt) (bs : List Booking) : Tkt :=
  { k with books := k.books.map fun b => if bs.contains b then { b with done := true } else b }

/-- BOOKED_WRITE (R165): the next booked write of a ticket resolved under DROP. -/
def execBookedWrite (t : BitVec 15) (ecc : Ecc) (s : State) : Host.Outcome State Fault Refusal :=
  .next (match mget s.tkt.recs t.toNat, s.tkt.books.find? fun b => b.ticket == t.toNat && !b.done with
    | some r, some b =>
      match r.state with
      | .resolving false lost =>
        if lost || s.comes (s.slot.tick b.at') then
          let s := if lost then s else s.at (s.slot.tick b.at')
          bookedEff b ecc { s with tkt := s.tkt.perform [b] }
        else s
      | _ => s
    | _, _ => s)

/-- The ticket is being resolved under DROP. -/
def Tkt.dropping (k : Tkt) (t : Nat) : Bool :=
  match mget k.recs t with
  | some r => (match r.state with | .resolving false _ => true | _ => false)
  | none => false

/-- Resolution writes booked in slots before k are done before the tick of slot k (R65, R165). -/
def bookedUpTo (k : Nat) (s : State) : State :=
  let bs := s.tkt.books.filter fun b => !b.done && decide (b.at' < k) && s.tkt.dropping b.ticket
  bs.foldl (fun s b => bookedEff b .clean s) { s with tkt := s.tkt.perform bs }

/-- RESOLUTION_DONE (R161): the last write has ended; the ticket is free and its notice is written. -/
def execResolutionDone (t : BitVec 15) (s : State) : Host.Outcome State Fault Refusal :=
  .next (match mget s.tkt.recs t.toNat with
    | some r =>
      match r.state with
      | .resolving fire lost =>
        if !fire && s.tkt.books.any (fun b => b.ticket == t.toNat && !b.done) then s
        else notice (if lost then .sliceLost else .ok) (if fire then 3 else 4) t.toNat r.tag r.drain
          { s with tkt := s.tkt.drop t.toNat }
      | _ => s
    | none => s)

/-! ### Loss of a record or of a delay entry (R167, R229) -/

/-- One copy of a ticket's record is lost; with both lost, nothing more is written and the ticket takes FIRE. CIS_RES_CNT, which
counts resolutions at the deadline, does not count this one (DESIGN CHOICE, log entry 71). -/
def loseRecord (half : Fin 2) (s : State) (t : Nat) : State :=
  match mget s.tkt.recs t with
  | none => s
  | some r =>
    let r := if half = 0 then { r with lostPrimary := true } else { r with lostMirror := true }
    let both := r.lostPrimary && r.lostMirror
    match r.state with
    | .open => resolve t r (both || policyOf s r.cls) true s
    | .resolving false true => if both then resolve t r true true s else { s with tkt := s.tkt.upd t r }
    | _ => { s with tkt := s.tkt.upd t r }

/-- Open tickets whose extent holds a lost delay entry of their generation are freed under FIRE (R229). -/
def loseDelay (gen : Bool) (cw : Nat) (s : State) : State :=
  (s.tkt.recs.filter fun e => e.2.gen == gen && e.2.state == .open
      && decide (e.2.lcol.toNat ≤ 8 * cw + 7 ∧ 8 * cw ≤ e.2.lcol.toNat + e.2.ncol.toNat)).foldl
    (fun s e => resolve e.1 e.2 true true s) s

/-! ### Statistics accumulators in work SRAM (R557, R560, R562) -/

/-- Kinds in the record: first offset, kind, entries, bytes of a count. -/
def statLayout : List (Nat × Nat × Nat × Nat) :=
  [(0x40, 0, 8, 4), (0x60, 1, 8, 4), (0x80, 2, 64, 4), (0x180, 3, 192, 4), (0x480, 4, 128, 4), (0x680, 5, 128, 4),
    (0x880, 6, 320, 4), (0xD80, 7, 448, 4), (0x1480, 8, 2048, 2), (0x2480, 9, 2048, 5)]

/-- The counter that holds a byte of the record: its key and the number of the byte. -/
def statByte (o : Nat) : Option (Nat × Nat) :=
  (statLayout.find? fun e => decide (e.1 ≤ o ∧ o < e.1 + e.2.2.1 * e.2.2.2)).map fun e =>
    (statKey e.2.1 ((o - e.1) / e.2.2.2), (o - e.1) % e.2.2.2)

/-- The counters of a codeword. -/
def statsIn (cw : Nat) : List Nat := ((List.range 32).filterMap fun i => (statByte (32 * cw + i)).map (·.1)).dedup

/-- Values in the newest record, 0 where none was found (R228). -/
def newestTotals (s : State) : Map Nat :=
  match s.smp.slot with
  | some k => match s.nv.slots[k] with | some r => r.tot | none => []
  | none => []

/-- The counters of a lost codeword: increments restart from zero, totals are reloaded (R228). -/
def loseStats (totals : Bool) (cw : Nat) (s : State) : State :=
  let src := newestTotals s
  { s with smp := (statsIn cw).foldl (fun (p : Smp) k =>
      if totals then { p with tot := mput 0 p.tot k (mread 0 src k) } else { p with inc := mput 0 p.inc k 0 }) s.smp }

/-! ### Free contents of a codeword whose error went undetected (R41; log entry 6) -/

/-- Words of a region take free values. -/
def scrambleWords (offs : List Nat) (m : Map Word) (s : State) : Map Word :=
  (offs.zipIdx).foldl (fun m e => mput 0 m e.1 (s.fv e.2 &&& maskOf (fun f => f.acc == .rw) ((fieldsAt e.1).getD []))) m

/-- The record of a ticket with free fields. -/
def scrambleTicket (w : Word) (r : Ticket) : Ticket :=
  { r with cls := w.extractLsb' 4 4, nr := w.extractLsb' 8 6, ncol := w.extractLsb' 14 6, lcol := w.extractLsb' 20 11 }

/-- A descriptor with free words. -/
def scrambleRaw (s : State) : RawDesc := ⟨s.fv 0, s.fv 1, s.fv 2, s.fv 3, s.fv 4, s.fv 5, s.fv 6, 0⟩

/-- Change the i-th staged descriptor. -/
def staged (i : Nat) (g : Flight → Flight) (fs : List Flight) : List Flight :=
  (fs.foldl (fun (acc : Nat × List Flight) f =>
    if f.phase == .staged then (acc.1 + 1, acc.2 ++ [if acc.1 = i then g f else f]) else (acc.1, acc.2 ++ [f])) (0, [])).2

/-- Offsets of the eight words of a codeword of a table. -/
def cwWords (base cw : Nat) : List Nat := (List.range 8).map fun i => base + 4 * (8 * cw + i)

/-- What an undetected error leaves in a codeword: a copy that the device checks against another keeps its effect. -/
def scrambleLoc (loc : WsLoc) (s : State) : State :=
  let t : State := match loc with
    | .ticket _ cw =>
      let recs : Map Ticket := s.tkt.recs.map fun e => if e.1 / 4 = cw.val then (e.1, scrambleTicket (s.fv (e.1 % 4)) e.2) else e
      { s with tkt := { s.tkt with recs := recs } }
    | .delay cw => { s with regs := scrambleWords (cwWords 0x24000 cw) s.regs s }
    | .delayRetained cw => { s with cis := { s.cis with retained := scrambleWords (cwWords 0x24000 cw) s.cis.retained s } }
    | .cls _ cw => { s with regs := scrambleWords (cwWords 0x26000 cw) s.regs s }
    | .descStaging i => { s with dsc := { s.dsc with flights := staged i (fun f => { f with raw := scrambleRaw s }) s.dsc.flights } }
    | .evtStaging i =>
      let evs : List Evt := s.evs.staging.modify i.val fun e => { e with detail := s.fv 0, acc := { e.acc with addr := s.fv 1 } }
      { s with evs := { s.evs with staging := evs } }
    | .stats totals cw =>
      let put := fun (m : Map Nat) (e : Nat × Nat) => mput 0 m e.1 ((s.fv e.2).toNat % 2 ^ kindWidth (e.1 / 4096))
      if totals then { s with smp := { s.smp with tot := (statsIn cw).zipIdx.foldl put s.smp.tot } }
      else { s with smp := { s.smp with inc := (statsIn cw).zipIdx.foldl put s.smp.inc } }
    | .reserved _ => s
  t.took 16

/-! ### The scrubber (R44, R228, R235) -/

/-- Region number and byte address of a codeword (R86, R151, R235); where the retained delay table and the second copy of the
class table lie the spec does not say (log entry 74). -/
def wsRegion : WsLoc → Nat × Nat
  | .ticket half cw => (0, 0x40000 * half.val + 32 * cw.val)
  | .delay cw => (1, 0x80000 + 32 * cw.val)
  | .delayRetained cw => (2, Config.retainedBase.toNat + 32 * cw.val)
  | .cls copy cw => (3, (if copy = 0 then 0x82000 else Config.clsCopyBase.toNat) + 32 * cw.val)
  | .descStaging i => (4, 0x90000 + 32 * i.val)
  | .evtStaging i => (5, 0xB0000 + 32 * i.val)
  | .stats totals cw => (6, (if totals then 0xD0000 else 0xC0000) + 32 * cw.val)
  | .reserved cw => (7, 32 * cw.toNat)

/-- A report about a work SRAM codeword: DETAIL of R235, ADDR the byte address. -/
def wsReport (src : Src) (loc : WsLoc) (sym nsym : Nat) (s : State) : State :=
  raiseWith { src := src, detail := BitVec.ofNat 32 (31 * 2 ^ 27 + sym * 2 ^ 8 + nsym * 2 ^ 6 + (wsRegion loc).1),
              acc := { addr := BitVec.ofNat 32 (wsRegion loc).2 } } s

/-- The consequence of an uncorrectable work SRAM codeword (R228). -/
def wsLost (loc : WsLoc) (s : State) : State :=
  match loc with
  | .ticket half cw => (List.range 4).foldl (fun s i => loseRecord half s (4 * cw.val + i)) s
  | .delay cw =>
    loseDelay s.cis.gen cw
      { s.took 8 with cis := { s.cis with dlyLost := putBit s.cis.dlyLost cw.val true }
                      regs := scrambleWords (cwWords 0x24000 cw.val) s.regs s }
  | .delayRetained cw =>
    loseDelay (!s.cis.gen) cw
      { s.took 8 with cis := { s.cis with retLost := putBit s.cis.retLost cw.val true
                                          retained := scrambleWords (cwWords 0x24000 cw.val) s.cis.retained s } }
  | .cls copy cw =>
    let gone := match s.cis.clsHit with | some (t, c, w) => t == s.tb && c != copy && w == cw | none => false
    { s.took (if gone then 8 else 0) with
      cis := { s.cis with clsHit := some (s.tb, copy, cw), clsGone := s.cis.clsGone || gone }
      regs := if gone then scrambleWords (cwWords 0x26000 cw.val) s.regs s else s.regs }
  | .descStaging i =>
    if (s.dsc.flights.filter (·.phase == .staged)).length ≤ i.val then s
    else raise S.HIF_DESC_CRC 0
      { s with dsc := { s.dsc with flights := staged i (fun f => { f with phase := .finished, status := .crc }) s.dsc.flights } }
  | .evtStaging _ => s
  | .stats totals cw => loseStats totals cw s
  | .reserved _ => s

/-- A lost codeword of event staging: the entry is dropped and counted (R228), before the report enters staging. -/
def wsDrop (loc : WsLoc) (s : State) : State :=
  match loc with
  | .evtStaging i =>
    if s.evs.staging.length ≤ i.val then s
    else
      let t := { s with evs := { s.evs with staging := s.evs.staging.eraseIdx i.val } }
      if s.dom 5 then t.add R.HIF_RING_LOST_CNT 1 2 else t
  | _ => s

/-- The source of an uncorrectable work SRAM codeword. -/
def wsSource : WsLoc → Src
  | .delay _ => S.CIS_DLY_U
  | .delayRetained _ => S.CIS_DLY_U
  | .cls _ _ => S.CIS_DLY_U
  | _ => S.CIS_ECC_U

/-- A corrected work SRAM codeword (R42): counted and reported, with its first erroneous symbol. -/
def wsCorrected (loc : WsLoc) (sym : Fin 38) (second : Option (Fin 38)) (s : State) : State :=
  let first := match second with | some y => min sym.val y.val | none => sym.val
  wsReport S.CIS_ECC_C loc first (if second.isSome then 2 else 1) (s.add R.CIS_WS_CNT_CORR 1)

/-- WORK_SRAM_SCRUB (R44): what the scrubber's read of a codeword meets. -/
def execWorkSramScrub (loc : WsLoc) (ecc : Ecc) (s : State) : Host.Outcome State Fault Refusal :=
  .next (if !s.dom 4 then s
    else match ecc with
    | .clean => s
    | .corrected sym second =>
      wsCorrected loc sym second s
    | .uncorrectable => wsLost loc (wsReport (wsSource loc) loc 63 0 (wsDrop loc (s.add R.CIS_WS_CNT_UNCORR 1)))
    | .undetected => scrambleLoc loc s)

end Sys2Proof.Machine
end

