-- ==== Sys2Proof/Machine/Hif.lean ====
section
/-! DEFINITION. The PCI Express endpoint: link, resets, messages, heartbeat, BAR4 (chapter 03). -/

namespace Sys2Proof.Machine

/-! ### Resets of the endpoint (R106, R107) -/

/-- HIF registers after a reset of the endpoint: HIF_HB_TO keeps its value, the fault registers are no HIF state. -/
def hifRegs (m : Map Word) : Map Word :=
  m.filter fun e => !(decide (0x10000 ≤ e.1 ∧ e.1 < 0x1F000)) || e.1 == 0x10010

/-- The endpoint after a reset: what the link and the pins show stays, the condition is latched for HOST_SILENT (R93). -/
def hifFresh (h : Hif) : Hif :=
  { perstN := h.perstN, dlUp := h.dlUp, flr := h.flr, ready := h.ready, width := h.width, speed := h.speed,
    silent := h.silent, rd := h.rd, latch := true }

/-- A reset of the endpoint: HIF state takes its reset values; what has not been fetched whole or written is lost. -/
def endpointReset (s : State) : State :=
  { s with
    regs := hifRegs s.regs
    hif := hifFresh s.hif
    rings := Vector.replicate 4 {}
    dsc := { s.dsc with fetchOut := [], cplq := [], noticeq := [] }
    evs := { s.evs with staging := [] } }

/-- The data link goes down: HIF.LINK_DOWN where it was up, and a reset of the endpoint. -/
def linkDown (s : State) : State :=
  let was := s.hif.dlUp
  let t := endpointReset { s with hif := { s.hif with dlUp := false, width := 0, speed := 0, d3 := false } }
  raiseIf was S.HIF_LINK_DOWN 0 t

/-- PERST_N_ASSERT (R106). -/
def execPerstNAssert (s : State) : Host.Outcome State Fault Refusal :=
  let s := s.order 1
  let t := { s with hif := { s.hif with perstN := false, ready := false, flr := false } }
  .next (if s.dom 5 then linkDown t else t)

/-- PERST_N_RELEASE (R81). -/
def execPerstNRelease (s : State) : Host.Outcome State Fault Refusal :=
  .next { s.order 1 with hif := { s.hif with perstN := true } }

/-- CONFIG_RESPONSE_READY (R81). -/
def execConfigResponseReady (s : State) : Host.Outcome State Fault Refusal :=
  .next (if s.dom 5 && s.hif.perstN then { s with hif := { s.hif with ready := true } } else s)

/-- The link is narrower or slower than HIF_LINK_MIN (R82). -/
def linkLow (s : State) (width : BitVec 3) (speed : BitVec 4) : Bool :=
  decide (width.toNat < s.r R.HIF_LINK_MIN_WIDTH ∨ speed.toNat < s.r R.HIF_LINK_MIN_SPEED)

/-- The link has trained to a width and rate (R82). -/
def trained (width : BitVec 3) (speed : BitVec 4) (s : State) : State :=
  raiseIf (linkLow s width speed) S.HIF_LINK_DEG 0
    { s with hif := { s.hif with dlUp := true, width := width, speed := speed } }

/-- LINK_RETRAIN (R82): the data link stays up. -/
def execLinkRetrain (width : BitVec 3) (speed : BitVec 4) (s : State) : Host.Outcome State Fault Refusal :=
  .next (if s.dom 5 && s.hif.dlUp then trained width speed s else s)

/-- DATA_LINK_UP (R82). -/
def execDataLinkUp (width : BitVec 3) (speed : BitVec 4) (s : State) : Host.Outcome State Fault Refusal :=
  .next (if s.dom 5 && s.hif.perstN && !s.hif.dlUp then trained width speed s else s)

/-- DATA_LINK_DOWN (R106). -/
def execDataLinkDown (s : State) : Host.Outcome State Fault Refusal :=
  .next (if s.dom 5 && s.hif.dlUp then linkDown s else s)

/-- Configuration requests reach the function (R81). -/
def State.cfgReach (s : State) : Bool := s.dom 5 && s.hif.perstN && s.hif.ready && s.hif.dlUp

/-- A configuration request: until the function answers them, with Configuration Request Retry Status (R81). -/
def cfgReq (eff : State → State) (s : State) : State :=
  if s.cfgReach then eff (s.order 6)
  else if s.dom 5 && s.hif.perstN && s.hif.dlUp then s.send [.crs]
  else s

/-- A function level reset begins (R106). -/
def flrEff (s : State) : State := endpointReset { s with hif := { s.hif with flr := true, d3 := false } }

/-- FLR (R106). -/
def execFlr (s : State) : Host.Outcome State Fault Refusal := .next (cfgReq flrEff s)

/-- FLR_DONE (R106). -/
def execFlrDone (s : State) : Host.Outcome State Fault Refusal :=
  .next { s with hif := { s.hif with flr := false } }

/-- The function enters D3hot: HIF state is preserved, what is partial or not yet written is lost (R106, R107), and the condition is
latched (R93). -/
def d3Eff (s : State) : State :=
  if s.hif.d3 then s
  else
    { s with
      hif := { s.hif with d3 := true, latch := true, hbRun := 0 }
      dsc := { s.dsc with fetchOut := [], cplq := [], noticeq := [] }
      evs := { s.evs with staging := [] } }

/-- D3HOT_ENTRY (R106). -/
def execD3hotEntry (s : State) : Host.Outcome State Fault Refusal := .next (cfgReq d3Eff s)

/-! ### Messages (R98-R101) -/

/-- Interrupts that are pending and may now be sent, lowest vector first (R98, R99). -/
def releasable (h : Hif) : List Nat := (ones h.pba).filter fun v => v != 0 && h.canSend && !h.vecMasked v

/-- Send what is no longer held: vectors 1-31. -/
def releaseInts (s : State) : State :=
  let vs := releasable s.hif
  { s with hif := { s.hif with pba := vs.foldl (fun p v => putBit p v false) s.hif.pba },
           tx := (vs.map fun v => Tx.msi (BitVec.ofNat 5 v)).reverse ++ s.tx }

/-- The function returns to D0. -/
def d0Eff (s : State) : State :=
  if s.hif.d3 then releaseInts (flushCpl { s with hif := { s.hif with d3 := false } }) else s

/-- D3HOT_EXIT (R106). -/
def execD3hotExit (s : State) : Host.Outcome State Fault Refusal := .next (cfgReq d0Eff s)

/-- Bus Master Enable is written: once it is 1, completions that waited are written (R104). -/
def bmeEff (on : Bool) (s : State) : State :=
  let t := { s with hif := { s.hif with bme := on } }
  if on then releaseInts (flushCpl t) else t

/-- BUS_MASTER_DISABLE (R104). -/
def execBusMasterDisable (s : State) : Host.Outcome State Fault Refusal := .next (cfgReq (bmeEff false) s)

/-- BUS_MASTER_ENABLE (R104). -/
def execBusMasterEnable (s : State) : Host.Outcome State Fault Refusal := .next (cfgReq (bmeEff true) s)

/-- MSI-X Enable and Function Mask are written. -/
def msixEff (enable mask : Bool) (s : State) : State :=
  releaseInts { s with hif := { s.hif with msixEn := enable, fmask := mask } }

/-- MSIX_CONTROL_WRITE (R99, R101). -/
def execMsixControlWrite (enable mask : Bool) (s : State) : Host.Outcome State Fault Refusal := .next (cfgReq (msixEff enable mask) s)

/-- An event entry whose cause the held message covers can still be written before it (R100). -/
def heldEntryWaits (s : State) : Bool := s.ringReady 2 && s.evs.staging.any (·.nmtHeld)

/-- NMT_RELEASE (R101): the held vector 0 message is sent once, after the entries of its causes (R100). -/
def execNmtRelease (s : State) : Host.Outcome State Fault Refusal :=
  .next (if s.dom 5 && s.hif.canSend && s.hif.nmtHeld != 0 && !heldEntryWaits s then
      { s with hif := { s.hif with nmtHeld := 0, pba := putBit s.hif.pba 0 false }, tx := Tx.msi 0 :: s.tx }
    else s)

/-! ### Heartbeat (R91-R95) -/

/-- A heartbeat write is accepted (R91). -/
def hbOk (h : Hif) (val : Word) : Bool :=
  bitsOf val.toNat 31 16 == 0 && (!h.hbSeen || decide (bitsOf val.toNat 15 0 = (h.hbCount.toNat + 1) % 65536))

/-- The effect of a heartbeat write. -/
def hbEff (val : Word) (s : State) : State :=
  if hbOk s.hif val then
    { s with hif := { s.hif with hbSeen := true, hbCount := val.setWidth 16, hbAt := s.tb, hbRun := min 2 (s.hif.hbRun + 1) } }
  else raiseWith { src := S.HIF_HB_SEQ, acc := ⟨0, 1, 0x4000, s.tb⟩ } (s.add R.HIF_VIOL_CNT_HB 1)

/-- HEARTBEAT (R91). -/
def execHeartbeat (val : BitVec 32) (s : State) : Host.Outcome State Fault Refusal := .next (bar2Wr (hbEff val) s)

/-- A condition of R93 other than the heartbeat age holds. -/
def silentCond (s : State) : Bool := !s.dom 5 || !s.hif.perstN || !s.hif.dlUp || s.hif.flr || s.hif.d3

/-- The heartbeat age exceeds HIF_HB_TO.MS at an instant. -/
def hbOld (t : Nat) (s : State) : Bool := !s.hif.hbSeen || decide (s.r R.HIF_HB_TO_MS * ms < t - s.hif.hbAt)

/-- What the lanes find of the host at a scan, before they agree on it (R92, R93, R95): silent, and the heartbeats in a row that
count. A condition that still holds counts them anew, and so does silence that begins by age (log entry 64). -/
def judgeSilent (s : State) : Bool × Nat :=
  let old := hbOld s.tb s
  let run := if silentCond s || (old && !s.hif.silent) then 0 else s.hif.hbRun
  (silentCond s || s.hif.latch || old || (s.hif.silent && decide (run < 2)), run)

/-- HOST_SILENT as agreed in the input map takes force; HIF.HB_LOST where it becomes 1 (R92, R93). -/
def takeSilent (now : Bool) (run : Nat) (s : State) : State :=
  raiseIf (now && !s.hif.silent) S.HIF_HB_LOST 0
    { s with hif := { s.hif with silent := now, latch := false, hbRun := run } }

/-- A map of a lane's own shows HOST_SILENT. -/
def hostGone (x : Lane) : Lane := { x with own := x.own.map fun m => ({ m.1 with bits := putBit m.1.bits 106 false }, m.2) }

/-- HB_TIMEOUT (R93): in the input agreement phase of a scan, which lasts 20 µs from its boundary, the age passes HIF_HB_TO.MS. The
lanes judge the age at that phase and nowhere else (log entry 64). -/
def execHbTimeout (s : State) : Host.Outcome State Fault Refusal :=
  let due := s.hif.hbAt + s.r R.HIF_HB_TO_MS * ms + 1
  .next (if s.lan.run && s.lan.phase == 1 && !s.hif.silent && s.hif.hbSeen && decide (due ≤ s.lan.boundary + 20 * us) && s.comes due then
    let t := s.at due
    let map := { s.lan.map with bits := putBit s.lan.map.bits 106 false }
    takeSilent true 0 { t with lan := { s.lan with map := map, lanes := s.lan.lanes.map hostGone } }
  else s)

/-! ### Violations (R85, R105) -/

/-- A request that raises HIF.TLP or HIF.ACCESS, with the request recorded. -/
def tlpRaise (c : Src) (access : BitVec 4) (addr : Word) (s : State) : State :=
  raiseWith { src := c, acc := ⟨0, access, addr, s.tb⟩ } (s.add R.HIF_VIOL_CNT_TLP 1)

/-- A TLP reaches the endpoint: HS is on, PERST_N is high and the data link is up. -/
def State.linkReach (s : State) : Bool := s.dom 5 && s.hif.perstN && s.hif.dlUp

/-- A write that breaks R85: it acts where requests are decoded; in D3hot it is an Unsupported Request, which a write gets no answer
to (R106). -/
def badWrite (eff : State → State) (s : State) : State :=
  if s.hostReach then eff s else if s.d3Reach then aerRecord 20 s else s

/-- What a violating TLP does (R79, R85, R105). The record of a malformed TLP, an unexpected completion or an ECRC error has ACCESS
15 (DESIGN CHOICE, log entry 66). -/
def violationEff (kind : TlpKind) (addr : Word) (s : State) : State :=
  let protocol := fun (bit : Nat) => if s.linkReach then aerRecord bit (tlpRaise S.HIF_TLP 15 addr s) else s
  match kind with
  | .longRead => if s.hostReach || s.d3Reach then answerUr (tlpRaise S.HIF_TLP 0 addr s) else s
  | .longWrite => badWrite (tlpRaise S.HIF_TLP 1 addr) s
  | .partialWrite => badWrite (tlpRaise S.HIF_ACCESS 1 addr) s
  | .bar4Write => badWrite (tlpRaise S.HIF_ACCESS 1 addr) s
  | .poisoned => if s.linkReach then aerRecord 12 (tlpRaise S.HIF_TLP 1 addr s) else s
  | .malformed => protocol 18
  | .unexpectedCpl => protocol 16
  | .ecrc => if s.hif.cfg.ecrcCheck then protocol 19 else s
  | .atomicOp => if s.linkReach then answerUr s else s

/-- TLP_VIOLATION (R85, R105). -/
def execTlpViolation (kind : TlpKind) (addr : BitVec 32) (s : State) : Host.Outcome State Fault Refusal :=
  .next (violationEff kind addr (s.order 6))

/-! ### The diagnostic window (R86, R87) -/

/-- The words of a ticket record (R151). -/
def ticketWords (r : Ticket) : List Word :=
  [BitVec.ofNat 32 (1 + 2 * b2n r.gen + 4 * b2n r.fwd + 16 * r.cls.toNat + 2 ^ 8 * r.nr.toNat + 2 ^ 14 * r.ncol.toNat
      + 2 ^ 20 * r.lcol.toNat),
    BitVec.ofNat 32 ((r.kmin % 4096).toNat + 2 ^ 12 * r.kofs.toNat + 2 ^ 24 * r.d.toNat)]

/-- The words of a descriptor in staging. -/
def rawWords (d : RawDesc) : List Word := [d.w0, d.w1, d.w2, d.w3, d.w4, d.w5, d.w6, 0]

/-- A byte of a counter copy at an offset of the record body (R560, R562). -/
def statWindow (m : Map Nat) (o : Nat) : Byte :=
  match statByte o with
  | some (k, b) => BitVec.ofNat 8 (mread 0 m k / 256 ^ b)
  | none => 0

/-- The word at a word address of work SRAM below the accumulators. The i-th oldest descriptor or event that waits stands in slot i,
and a slot with none reads 0 (DESIGN CHOICE, log entry 68). -/
def workWord (s : State) (a : Nat) : Word :=
  if a < 0x80000 then
    match mget s.tkt.recs (a % 0x40000 / 8) with
    | some r => (ticketWords r).getD (a / 4 % 2) 0
    | none => 0
  else if a < 0x82000 then
    setBits (storedWord s.regs (0x24000 + (a - 0x80000))) 31 31 (b2n (s.cis.suppressed ((a - 0x80000) / 4)))
  else if a < 0x82040 then storedWord s.regs (0x26000 + (a - 0x82000))
  else if a < 0x90000 then 0
  else if a < 0xB0000 then
    match (s.dsc.flights.filter (·.phase == .staged))[(a - 0x90000) / 32]? with
    | some f => (rawWords f.raw).getD (a / 4 % 8) 0
    | none => 0
  else if a < 0xC0000 then
    match s.evs.staging[(a - 0xB0000) / 32]? with
    | some e => (evtWords e).getD (a / 4 % 8) 0
    | none => 0
  else 0

/-- User byte `a` of work SRAM. -/
def workByte (s : State) (a : Nat) : Byte :=
  if 0xC0000 ≤ a ∧ a < 0xD0000 then statWindow s.smp.inc (a - 0xC0000)
  else if 0xD0000 ≤ a ∧ a < 0xE0000 then statWindow s.smp.tot (a - 0xD0000)
  else (wordBytes (workWord s (a / 4 * 4))).getD (a % 4) 0

/-- BAR4 delivers data in the present mode (R86). -/
def diagOpen (s : State) : Bool := s.inMode [.configure, .commission, .maintain, .safeHold, .lockdown]

/-- The codeword of work SRAM at 32 × cw (R86); the class table is read from its first copy. -/
def wsLocAt (cw : Nat) : WsLoc :=
  let a := 32 * cw
  if a < 0x80000 then .ticket ⟨a / 0x40000 % 2, Nat.mod_lt _ (by decide)⟩ ⟨cw % 8192, Nat.mod_lt _ (by decide)⟩
  else if a < 0x82000 then .delay ⟨cw % 256, Nat.mod_lt _ (by decide)⟩
  else if a < 0x82040 then .cls 0 ⟨cw % 2, Nat.mod_lt _ (by decide)⟩
  else if a < 0x90000 then .reserved (BitVec.ofNat 15 cw)
  else if a < 0xB0000 then .descStaging ⟨(a - 0x90000) / 32 % 4096, Nat.mod_lt _ (by decide)⟩
  else if a < 0xC0000 then .evtStaging ⟨(a - 0xB0000) / 32 % 2048, Nat.mod_lt _ (by decide)⟩
  else if a < 0xE0000 then .stats (decide (0xD0000 ≤ a)) ⟨cw % 2048, Nat.mod_lt _ (by decide)⟩
  else .reserved (BitVec.ofNat 15 cw)

/-- What a BAR4 read does to a codeword that it meets (R42, R87): an uncorrectable one stays as it is. -/
def diagHit (s : State) (h : Nat × Ecc) : State :=
  match h.2 with
  | .clean => s
  | .corrected sym second => wsCorrected (wsLocAt h.1) sym second s
  | .uncorrectable => s.w R.HIF_DIAG_STAT_UNCORR 1
  | .undetected => scrambleLoc (wsLocAt h.1) s

/-- The bytes of a BAR4 read in an open mode: codewords met uncorrectable read 0xFF. -/
def diagBytes (s : State) (addr len : Nat) (hits : List (Nat × Ecc)) : List Byte :=
  (List.range len).map fun i =>
    if hits.any fun h => h.1 == (addr + i) / 32 && h.2 == .uncorrectable then 0xFF else workByte s (addr + i)

/-- The codewords that a read of `len` bytes meets. -/
def diagHits (addr len : Nat) (hits : List (Nat × Ecc)) : List (Nat × Ecc) :=
  hits.filter fun h => decide (addr / 32 ≤ h.1 ∧ h.1 ≤ (addr + len - 1) / 32)

/-- DIAG_READ (R86, R87): read data stand byte by byte in `rd`; a lost work SRAM reads free; an unaccepted request raises
HIF.TLP (log entry 12). -/
def execDiagRead (addr : BitVec 20) (len : Nat) (hits : List (Nat × Ecc)) (s : State) : Host.Outcome State Fault Refusal :=
  let a := addr.toNat
  let out := fun (bs : List Byte) (s : State) => { s with hif := { s.hif with rd := bs.map (·.setWidth 32) } }
  .next (if !s.hostReach then readRefused s
    else
    let s := s.order 6
    if len = 0 ∨ 128 < len ∨ 4096 < a % 4096 + len then tlpRaise S.HIF_TLP 0 (BitVec.ofNat 32 a) s
    else if !diagOpen s then out (List.replicate len 0) (tlpRaise S.HIF_ACCESS 0 (BitVec.ofNat 32 a) s)
    else if !s.dom 4 then out ((List.range len).map fun i => (s.fv i).setWidth 8) (s.took len)
    else
      let t := (diagHits a len hits).foldl diagHit s
      out (diagBytes t a len hits) t)

end Sys2Proof.Machine
end

