-- ==== Sys2Proof/Machine/Net.lean ====
section
/-! DEFINITION. The safe network: ports, Dravvex frames, connections, paths (chapter 12). -/

namespace Sys2Proof.Machine

/-! ### Settings and frames (R389-R393) -/

/-- The device with a network port, a connection changed. -/
def State.nport (s : State) (p : Fin 2) (f : NetPort → NetPort) : State :=
  { s with net := { s.net with ports := vmod s.net.ports p f } }
def State.conn (s : State) (n : Fin 32) (f : Conn → Conn) : State :=
  { s with net := { s.net with conns := vmod s.net.conns n f } }

/-- t_wd of a connection in ticks. -/
def connWd (s : State) (n : Nat) : Nat := s.r R.NET_CONN_WD_WD n * 1000

/-- The SCRC function (R392). -/
def scrc (bs : List Byte) : Word := crcOf 0x1EDC6F41#32 0xFFFFFFFF#32 0xFFFFFFFF#32 true true bs

/-- The bytes of a number of n bytes, most significant first, as Ethernet sends addresses and types. -/
def bigBytes (n v : Nat) : List Byte := (List.range n).map fun i => BitVec.ofNat 8 (v / 256 ^ (n - 1 - i))

/-- The bytes of an Ethernet frame that its FCS covers (R389; log entry 78). -/
def ethBytes (dst src : BitVec 48) (tag : Option (BitVec 16)) (etype : BitVec 16) (payload : List Byte) : List Byte :=
  bigBytes 6 dst.toNat ++ bigBytes 6 src.toNat ++ (match tag with | some t => bigBytes 4 (0x81000000 + t.toNat) | none => [])
    ++ bigBytes 2 etype.toNat ++ payload

/-- PARCRC of a connection (R393). -/
def parCrc (s : State) (n : Nat) : Word :=
  let a := s.r R.NET_NODE_NODE
  let b := s.r R.NET_CONN_CFG_PNODE n
  scrc (frameBytes [BitVec.ofNat 32 (s.r R.NET_CONN_ID_SCID n), BitVec.ofNat 32 (min a b + 65536 * max a b),
    BitVec.ofNat 32 (s.r R.NET_CONN_WD_WD n), 0])

/-- The nine words of a Dravvex frame with its SCRC (R391). -/
def dravvex (typ path : Nat) (seq : BitVec 16) (scid : Word) (ses pses echo : BitVec 16) (src : Nat) (body : List Word) :
    Frame :=
  let ws := [BitVec.ofNat 32 (typ + 16 + 256 * path + 65536 * seq.toNat), scid, BitVec.ofNat 32 (ses.toNat + 65536 * pses.toNat),
    BitVec.ofNat 32 (echo.toNat + 65536 * src)] ++ body
  ws ++ [scrc (frameBytes ws)]

/-- Partner's address on a path. -/
def partnerMac (s : State) (n : Nat) (p : Fin 2) : BitVec 48 :=
  if p = 0 then BitVec.ofNat 48 (s.r R.NET_CONN_MAC0_LO_ADDR n + 2 ^ 32 * s.r R.NET_CONN_MAC_HI_ADDR0 n)
  else BitVec.ofNat 48 (s.r R.NET_CONN_MAC1_LO_ADDR n + 2 ^ 32 * s.r R.NET_CONN_MAC_HI_ADDR1 n)

/-- The optional tag (R387, R389). -/
def netTag (s : State) (p : Nat) : Option (BitVec 16) :=
  if s.rb R.NET_PORT_CFG_TAG p then
    some (BitVec.ofNat 16 (s.r R.NET_PORT_CFG_PCP p * 8192 + s.r R.NET_PORT_CFG_VID p))
  else none

/-! ### Paths (R388, R408, R409) -/

/-- A link is up (R388). -/
def netLink (s : State) (p : Fin 2) : Bool := s.dom 6 && s.net.ports[p].st != .down

/-- A port leaves UP: NET.PATH; within the other port's recovery window, that port's requalification is abandoned. -/
def pathLeave (p : Fin 2) (cause : Nat) (st : PathState) (s : State) : State :=
  let o := 1 - p
  let second := s.net.ports[o].st != .up && s.net.ports[o].cause != 0
  let s := s.nport p fun q => { q with st := st, cause := BitVec.ofNat 4 cause, cleanAt := s.tb, consec := 0 }
  let s := if second && s.net.ports[o].st == .qual then s.nport o fun q => { q with st := .lost, cause := 4, cleanAt := s.tb } else s
  raise S.NET_PATH (p.val + 65536 * cause) s

/-- NET_LINK_UP (R388, R408): not against a partner that offers half duplex only, where autonegotiation is enabled. -/
def execNetLinkUp (p : Fin 2) (fullDuplex : Bool) (s : State) : Host.Outcome State Fault Refusal :=
  let an := s.rb R.NET_PORT_CFG_AN p
  .next (if !s.dom 6 || s.net.ports[p].dead then s
    else s.nport p fun q => { q with sync := true, anDone := an, lpFd := an && fullDuplex,
                                     st := if q.st == .down && (!an || fullDuplex) then .qual else q.st,
                                     cleanAt := if q.st == .down then s.tb else q.cleanAt })

/-- A port's link goes down (R408). -/
def netDown (p : Fin 2) (s : State) : State :=
  let was := s.net.ports[p].st == .up
  let s := s.nport p fun q => { q with sync := false, anDone := false, lpFd := false }
  if was then pathLeave p 1 .down s else s.nport p fun q => { q with st := .down }

/-- NET_LINK_DOWN (R408). -/
def execNetLinkDown (p : Fin 2) (s : State) : Host.Outcome State Fault Refusal :=
  .next (if s.dom 6 then netDown p s else s)

/-- For every OPEN connection a copy equal to the other path's came within the last t_wd (R408). -/
def pathsEqual (s : State) (p : Fin 2) : Bool :=
  (List.finRange 32).all fun n =>
    let c := s.net.conns[n]
    c.st != .open || (match c.eqAt[p] with | some t => decide (s.tb ≤ t + connWd s n) | none => false)

/-- NET_QUAL_DONE (R408). -/
def execNetQualDone (p : Fin 2) (s : State) : Host.Outcome State Fault Refusal :=
  let due := s.net.ports[p].cleanAt + s.r R.NET_QUAL_MS * ms
  let t := s.at due
  .next (if s.dom 6 && s.comes due && s.net.ports[p].st == .qual && pathsEqual t p then
      t.nport p fun q => { q with st := .up, consec := 0, upAt := t.tb }
    else s)

/-- NET_LOST_RECOVER (R408): 100 ms without violation. -/
def execNetLostRecover (p : Fin 2) (s : State) : Host.Outcome State Fault Refusal :=
  .next (if s.dom 6 && s.net.ports[p].st == .lost && s.net.ports[p].sync && s.comes (s.net.ports[p].cleanAt + 100 * ms) then
      let t := s.at (s.net.ports[p].cleanAt + 100 * ms)
      t.nport p fun q => { q with st := .qual, cleanAt := t.tb, consec := 0 }
    else s)

/-- NET_PATH_SILENCE (R408): the other port delivers an OPEN connection that this one has not for t_wd, while it was UP and the
connection OPEN. -/
def execNetPathSilence (p : Fin 2) (n : Fin 32) (s : State) : Host.Outcome State Fault Refusal :=
  let c := s.net.conns[n]
  let wd := connWd s n
  let due := max (c.pathAt[p].getD 0) (max s.net.ports[p].upAt c.openedAt) + wd
  let t := s.at due
  let other := match c.pathAt[1 - p] with | some a => decide (t.tb ≤ a + wd) | none => false
  .next (if s.dom 6 && s.net.ports[p].st == .up && c.st == .open && other && s.comes due then pathLeave p 3 .lost t else s)

/-! ### Connections (R395-R398, R404, R405) -/

/-- The session counter advances and skips 0 (R396). -/
def nextSession (x : BitVec 16) : BitVec 16 := if x = 0xFFFF then 1 else x + 1

/-- A connection enters OPENING with a new own session. -/
def openConn (n : Fin 32) (s : State) : State :=
  let ses := nextSession s.keep.session
  { s with keep := { s.keep with session := ses },
           net := { s.net with conns := vmod s.net.conns n fun c =>
             { openAt := c.openAt, pathAt := c.pathAt, eqAt := c.eqAt, wire := c.wire, st := .opening, ses := ses } } }

/-- A connection leaves OPEN: NET.CONN, counted, and a CLOSE is owed (R395, R405). -/
def loseConn (n : Fin 32) (s : State) : State :=
  raise S.NET_CONN (15 + 256 * n.val)
    ((s.conn n fun c => { c with st := .lost, ok := false, close := some (c.close.getD 1), answer := none }).add
      R.NET_CONN_CNT_LOSSES 1 n)

/-- The age bound of the latest accepted DATA is within t_wd at instant `b` (R404). -/
def connFresh (s : State) (n : Fin 32) (b : Nat) : Bool :=
  s.net.conns[n].st == .open && (match s.net.conns[n].ts with | some t => decide (b ≤ t + connWd s n) | none => false)

/-- CONN_OK of a connection at a scan boundary (R404, R405). -/
def judgeConn (b : Nat) (s : State) (n : Fin 32) : State :=
  let ok := connFresh s n b
  if s.net.conns[n].ok && !ok && s.net.conns[n].st == .open then loseConn n s else s.conn n fun c => { c with ok := ok }

/-- An agreed map in which a connection is not valid: CONN_OK and its words read 0. -/
def connGone (n : Fin 32) (m : InMap) : InMap :=
  ⟨putBit m.bits (168 + n.val) false, m.words.filter fun e => !decide (256 + 4 * n.val ≤ e.1 ∧ e.1 < 260 + 4 * n.val)⟩

/-- CONN_WATCHDOG_EXPIRE (R404, R405): CONN_OK falls at a scan boundary only, so this is the judgement of one connection at the
boundary of the scan whose phase 1 runs; SCAN_BOUNDARY makes it too (log entry 79). -/
def execConnWatchdogExpire (n : Fin 32) (s : State) : Host.Outcome State Fault Refusal :=
  .next (if s.lan.run && s.lan.phase == 1 && s.net.conns[n].ok && s.net.conns[n].st == .open && !connFresh s n s.lan.boundary then
      let t := loseConn n s
      { t with lan := { t.lan with map := connGone n t.lan.map
                                   lanes := t.lan.lanes.map fun x => { x with own := x.own.map fun m => (connGone n m.1, m.2) } }
               regs := rput t.regs R.NET_CONN_OK_OK (putBit (BitVec.ofNat 32 (t.r R.NET_CONN_OK_OK)) n.val false).toNat }
    else s)

/-! ### Checks of a copy (R402) -/

/-- The enabled connection that a copy names. -/
def connOf (s : State) (f : Frame) : Option (Fin 32) :=
  (List.finRange 32).find? fun n => s.rb R.NET_CONN_CFG_EN n && s.r R.NET_CONN_ID_SCID n == fw f 1

/-- What the checks of R402 say of a copy: the failed check 1-7 with its connection, stale, or accepted; whether it is a
second copy. -/
inductive CopyCheck where
  | bad (check : Nat) (conn : Nat)
  | stale (conn : Fin 32)
  | second (conn : Fin 32)
  | good (conn : Fin 32)
deriving DecidableEq, Repr

/-- The checks of R402 in order, at scan boundary `b`. -/
def checkCopy (s : State) (p : Fin 2) (f : Frame) (b : Nat) : CopyCheck :=
  let w0 := fw f 0
  let typ := w0 % 16
  let seq := bitsOf w0 31 16
  let bodyZero := match typ with
    | 2 => bitsOf (fw f 4) 31 16 == 0 && fw f 6 == 0 && fw f 7 == 0
    | 3 => bitsOf (fw f 4) 31 16 == 0 && fw f 6 == 0 && fw f 7 == 0
    | 4 => bitsOf (fw f 4) 31 8 == 0 && fw f 5 == 0 && fw f 6 == 0 && fw f 7 == 0
    | _ => true
  if bitsOf w0 7 4 != 1 || typ == 0 || 4 < typ || bitsOf w0 15 9 != 0 || !bodyZero then .bad 1 0
  else if scrc (frameBytes (f.take 8)) != f.getD 8 0 then .bad 2 0
  else match connOf s f with
    | none => .bad 3 0
    | some n =>
      let c := s.net.conns[n]
      let opening := typ == 2 || typ == 3
      if bitsOf (fw f 3) 31 16 != s.r R.NET_CONN_CFG_PNODE n
        || (opening && (bitsOf (fw f 4) 15 0 != s.r R.NET_NODE_NODE || f.getD 5 0 != parCrc s n)) then .bad 4 n
      else if (typ != 2 && bitsOf (fw f 2) 31 16 != c.ses.toNat)
        || ((typ == 1 || typ == 4) && c.pses != some (BitVec.ofNat 16 (fw f 2))) then .bad 5 n
      else
        let diff := match c.lastSeq with | some l => (seq + 65536 - l.toNat) % 65536 | none => 1
        let second := diff == 0 && c.acc.isSome && c.accPort.toNat != p.val
        if !second && (diff == 0 || 32767 < diff) then .bad 6 n
        else
          let echo := BitVec.ofNat 16 (fw f 3)
          if typ != 2 && !(c.sent.take 32768).any (fun e => e.1 == echo) then .bad 7 n
          else if typ == 1 && !((c.sent.find? fun e => e.1 == echo).any fun e => b ≤ e.2 + connWd s n) then .stale n
          else if second then .second n
          else .good n

/-- A violation: counted at its port, NET.FRAME, and after NET_ERR_LIM.LIM of them in a row an UP port is LOST. -/
def netViolation (p : Fin 2) (check conn : Nat) (s : State) : State :=
  let n := satAdd 8 s.net.ports[p].consec.toNat 1
  let s := (s.nport p fun q => { q with consec := BitVec.ofNat 8 n, cleanAt := s.tb }).add R.NET_PORT_ERR_VIOL 1 p
  let s := raise S.NET_FRAME (p.val + 256 * conn + 65536 * check) s
  let s := raiseIf (check == 4) S.NET_IDENT (p.val + 256 * conn) s
  if s.net.ports[p].st == .up && decide (s.r R.NET_ERR_LIM_LIM ≤ n) then pathLeave p 2 .lost s else s

/-! ### Accepted copies (R395, R397, R403) -/

/-- Two copies of one SEQ are equal in every bit but PATH and SCRC. -/
def copiesEqual (a b : Frame) : Bool :=
  (a.getD 0 0 ||| 0x100) == (b.getD 0 0 ||| 0x100) && a.tail.take 7 == b.tail.take 7

/-- The payload of a DATA frame. -/
def payload (f : Frame) : BitVec 128 := f.getD 7 0 ++ f.getD 6 0 ++ f.getD 5 0 ++ f.getD 4 0

/-- A connection in OPENING becomes OPEN. -/
def Conn.opened (c : Conn) (now : Nat) : Conn := if c.st == .opening then { c with st := .open, openedAt := now } else c

/-- What an accepted frame does to its connection, by TYPE. -/
def acceptFrame (n : Fin 32) (f : Frame) (s : State) : State :=
  let c := s.net.conns[n]
  let seq := BitVec.ofNat 16 (bitsOf (fw f 0) 31 16)
  let stx := BitVec.ofNat 16 (fw f 2)
  match fw f 0 % 16 with
  | 1 =>
    let t := (c.sent.find? fun e => e.1 == BitVec.ofNat 16 (fw f 3)).map (·.2)
    s.conn n fun c => { c.opened s.tb with data := payload f, ts := t }
  | 2 =>
    if c.st == .open && c.pses != some stx then loseConn n s
    else if c.st == .open || c.st == .opening then s.conn n fun c => { c with pses := some stx, answer := some seq }
    else s
  | 3 => s.conn n fun c => { c.opened s.tb with pses := some (c.pses.getD stx) }
  | _ => if c.st == .open then loseConn n s else s

/-- A first copy is accepted. -/
def acceptCopy (p : Fin 2) (n : Fin 32) (f : Frame) (at' : Nat) (s : State) : State :=
  let s := (s.nport p fun q => { q with consec := 0 }).conn n fun c =>
    { c with lastSeq := some (BitVec.ofNat 16 (bitsOf (fw f 0) 31 16)), acc := some f, accPort := BitVec.ofNat 1 p.val,
             pathAt := c.pathAt.set p (some at') }
  acceptFrame n f s

/-- Two copies of one SEQ differ: NET.DIFF, and each port counts a violation (R403). -/
def copiesDiffer (p : Fin 2) (n : Fin 32) (s : State) : State :=
  netViolation (1 - p) 0 n (netViolation p 0 n (raise S.NET_DIFF (p.val + 256 * n.val) (s.add R.NET_CONN_CNT_DIFF 1 n)))

/-- A second copy: equal to the first it is discarded; one that differs from a first used in an earlier scan is reported. -/
def secondCopy (p : Fin 2) (n : Fin 32) (f : Frame) (at' : Nat) (s : State) : State :=
  let c := s.net.conns[n]
  let first := c.acc.getD []
  if copiesEqual first f then
    (s.nport p fun q => { q with consec := 0 }).conn n fun c =>
      { c with acc := none, pathAt := c.pathAt.set p (some at'), eqAt := (c.eqAt.set p (some at')).set (1 - p) (some at') }
  else copiesDiffer p n (s.conn n fun c => { c with acc := none })

/-- A copy that waits is the other path's copy of the same SEQ, passes every check, and differs (R403). -/
def unequalTo (b : Nat) (s : State) (n : Fin 32) (p : Fin 2) (f : Frame) (g : Fin 2 × Frame × Nat) : Bool :=
  g.1 != p && bitsOf (fw g.2.1 0) 31 16 == bitsOf (fw f 0) 31 16 && checkCopy s g.1 g.2.1 b == .good n && !copiesEqual f g.2.1

/-- The copies taken in phase 1 of the scan at boundary `b` (R402, R403), with those already discarded beside an unequal one. -/
def takeCopies (b : Nat) : List (Fin 2 × Frame × Nat) → List (Fin 2 × Frame × Nat) → State → State
  | [], _, s => s
  | e :: l, gone, s =>
    if gone.contains e then takeCopies b l (gone.erase e) s
    else match checkCopy s e.1 e.2.1 b with
    | .bad check n => takeCopies b l gone (netViolation e.1 check n s)
    | .stale n => takeCopies b l gone (s.add R.NET_CONN_CNT_STALE 1 n)
    | .second n => takeCopies b l gone (secondCopy e.1 n e.2.1 e.2.2 s)
    | .good n => match l.find? (unequalTo b s n e.1 e.2.1) with
      | some g => takeCopies b l (g :: gone) (copiesDiffer g.1 n s)
      | none => takeCopies b l gone (acceptCopy e.1 n e.2.1 e.2.2 s)

/-- A connection is enabled and not left off with NT (R395, R399). -/
def connUsed (s : State) (n : Fin 32) : Bool := s.rb R.NET_CONN_CFG_EN n && !s.rb R.PWR_DOM_GATE_NT_OFF

/-- Connections follow their enables: closed ones open, disabled ones or those left off are CLOSED (R395, R399). -/
def enableConn (s : State) (n : Fin 32) : State :=
  let en := connUsed s n
  if en && s.net.conns[n].st == .closed then openConn n s
  else if !en && s.net.conns[n].st != .closed && s.net.conns[n].close.isNone then s.conn n fun _ => {}
  else s

/-- Phase 1 of a scan for the network: copies, then CONN_OK (R402-R405). -/
def netPhase1 (b : Nat) (s : State) : State :=
  let s := (List.finRange 32).foldl enableConn s
  let s := takeCopies b s.net.exch [] { s with net := { s.net with exch := [] } }
  let s := (List.finRange 32).foldl (judgeConn b) s
  let ok := ((List.finRange 32).map fun n => b2n s.net.conns[n].ok * 2 ^ n.val).sum
  { s with regs := rput s.regs R.NET_CONN_OK_OK ok }

/-! ### Reception (R390, R408) -/

/-- The NET block compares a copy that passes with the other path's of the same SEQ (R408). A difference is a violation of the ports
that do not deliver; where both do, the lanes find it (log entry 80). -/
def pathCompare (p : Fin 2) (n : Fin 32) (f : Frame) (s : State) : State :=
  let t := s.conn n fun c => { c with wire := c.wire.set p (some f) }
  match s.net.conns[n].wire[1 - p] with
  | none => t
  | some g =>
    let idle := ([p, 1 - p]).filter fun q => s.net.ports[q].st != .up
    if bitsOf (fw g 0) 31 16 != bitsOf (fw f 0) 31 16 then t
    else if copiesEqual g f then t.conn n fun c => { c with eqAt := Vector.replicate 2 (some s.tb) }
    else if idle.isEmpty then t
    else idle.foldl (fun s q => netViolation q 0 n s) (raise S.NET_DIFF (p.val + 256 * n.val) (t.add R.NET_CONN_CNT_DIFF 1 n))

/-- A frame as it comes in: delivered on a port in UP; on a port in QUAL or LOST checked and counted by the NET block. -/
def netTake (p : Fin 2) (f : Frame) (s : State) : State :=
  let up := s.net.ports[p].st == .up
  let t := if up then { s with net := { s.net with exch := s.net.exch ++ [(p, f, s.tb)] } } else s
  let good := fun (s : State) => if up then s else s.nport p fun q => { q with consec := 0 }
  match checkCopy s p f s.tb with
  | .bad check n => if up then t else netViolation p check n t
  | .stale n => if up then t else t.add R.NET_CONN_CNT_STALE 1 n
  | .second n => pathCompare p n f (good t)
  | .good n => pathCompare p n f (good t)

/-- A frame of good check sequence is filtered, counted, and offered to the Dravvex checks (R387, R390); one shorter than the limit is
discarded and not counted (log entry 81). -/
def ethOffer (p : Fin 2) (e : EthFrame) (s : State) : State :=
  let len := 18 + (if e.tag.isSome then 4 else 0) + e.payload.length
  if len < 64 then s
  else if e.etype = 0x8808 then s.add R.NET_PORT_IGN_PAUSE 1 p
  else if 1522 < len ∨ e.dst ≠ Config.mac p ∨ e.etype.toNat ≠ s.r R.NET_ETYPE_ETYPE ∨ e.payload.length < 36 then
    s.add R.NET_PORT_IGN_FOREIGN 1 p
  else netTake p (bytesWords (e.payload.take 36)) s

/-- ETH_FRAME_RECEIVE (R390): on a port whose link is up. -/
def execEthFrameReceive (p : Fin 2) (e : EthFrame) (s : State) : Host.Outcome State Fault Refusal :=
  .next (if !netLink s p then s
    else if e.fcs != crc32 (ethBytes e.dst e.src e.tag e.etype e.payload) || e.violation then s.add R.NET_PORT_ERR_FCS 1 p
    else ethOffer p e s)

/-! ### Sending (R395, R397, R400, R401) -/

/-- The Ethernet frame of a Dravvex frame: the port's own address as source, 10 zero bytes, the FCS (R389). -/
def ethFrame (p : Fin 2) (dst : BitVec 48) (tag : Option (BitVec 16)) (etype : BitVec 16) (ws : Frame) : Tx :=
  let pay := frameBytes ws ++ List.replicate 10 0
  Tx.eth p dst (Config.mac p) tag etype pay (crc32 (ethBytes dst (Config.mac p) tag etype pay))

/-- Both copies of a frame of a connection leave, each on its port whose link is up; SEQ advances (R396, R400). -/
def sendConn (n : Fin 32) (typ : Nat) (pses echo : BitVec 16) (body : List Word) (s : State) : State :=
  let c := s.net.conns[n]
  let seq := c.seq + 1
  let scid := match c.closeCfg with | some (x, _, _) => x | none => BitVec.ofNat 32 (s.r R.NET_CONN_ID_SCID n)
  let mac := fun (p : Fin 2) => match c.closeCfg with
    | some (_, a, b) => if p = 0 then a else b
    | none => partnerMac s n p
  let out := ([0, 1].filter fun p => netLink s p).map fun p =>
    ethFrame p (mac p) (netTag s p) (BitVec.ofNat 16 (s.r R.NET_ETYPE_ETYPE))
      (dravvex typ p.val seq scid c.ses pses echo (s.r R.NET_NODE_NODE) body)
  (s.conn n fun c => { c with seq := seq, sent := (seq, s.lan.boundary) :: c.sent.take 65535 }).send out

/-- The body of OPEN and OPEN_ACK. -/
def openBody (s : State) (n : Fin 32) : List Word :=
  [BitVec.ofNat 32 (s.r R.NET_CONN_CFG_PNODE n), parCrc s n, 0, 0]

/-- The words of a payload. -/
def payWords (p : BitVec 128) : List Word := [p.extractLsb' 0 32, p.extractLsb' 32 32, p.extractLsb' 64 32, p.extractLsb' 96 32]

/-- What a connection sends in phase 4 of a scan that sends: CLOSE, OPEN_ACK, OPEN, DATA. -/
def connSend (s : State) (n : Fin 32) : State :=
  let c := s.net.conns[n]
  let p := c.pses.getD 0
  let echo := c.lastSeq.getD 0
  let s := match c.close with
    | some r => sendConn n 4 p echo [BitVec.ofNat 32 r.toNat, 0, 0, 0] s
    | none => s
  let s := match c.answer with
    | some e => if c.close.isNone then sendConn n 3 p e (openBody s n) s else s
    | none => s
  let due := match c.openAt with | some t => decide (t + 10 * ms ≤ s.lan.boundary) | none => true
  if c.st == .opening && due then
    (sendConn n 2 0 0 (openBody s n) s).conn n fun c => { c with openAt := some s.lan.boundary }
  else if c.st == .open && decide (s.lan.scanNo.toNat % (s.r R.NET_CONN_CFG_CYC n + 1) = 0) then
    sendConn n 1 p echo (payWords s.lan.pay[n]) s
  else s

/-- After phase 4: an answer is given once, and a LOST connection reopens at once (R395, R398). -/
def connAfter (s : State) (n : Fin 32) : State :=
  let c := s.net.conns[n]
  if c.st == .lost then
    if connUsed s n then openConn n s else s.conn n fun _ => {}
  else s.conn n fun c => { c with answer := none, close := none, closeCfg := none }

/-- Phase 4 of a scan for the network; `sends` is false after a verdict of NONE or SPLIT (R400). -/
def netPhase4 (sends : Bool) (s : State) : State :=
  let s := if sends then (List.finRange 32).foldl connSend s else s
  (List.finRange 32).foldl connAfter s

/-- A commit closes the connections whose settings it changes (R398): settings before and after. -/
def netCommit (before : Map Word) (changed : List Nat) (s : State) : State :=
  let old : State := { s with regs := before }
  (List.finRange 32).foldl (fun (s : State) (n : Fin 32) =>
    let hit := changed.any fun k => decide (0x60400 + 0x20 * n.val ≤ k ∧ k < 0x60420 + 0x20 * n.val)
    if hit && s.net.conns[n].st != .closed then
      let keep := some (BitVec.ofNat 32 (old.r R.NET_CONN_ID_SCID n), partnerMac old n 0, partnerMac old n 1)
      let was := s.net.conns[n].st == .open
      let s := s.conn n fun c => { c with close := some 2, closeCfg := keep }
      if was then loseConn n s else s.conn n fun c => { c with st := .lost, ok := false }
    else s) s

/-- A BLK reaction of NET: both ports go to DOWN, and every OPEN connection to LOST (R502). -/
def netReset (s : State) : State :=
  let s := [0, 1].foldl (fun s p => netDown p s) s
  (List.finRange 32).foldl (fun s n => if s.net.conns[n].st == .open then loseConn n s else s) s

/-! ### Clause 22 management (R387) -/

/-- The effect of a write of NET_MDIO. -/
def mdioEff (val : Word) (s : State) : State :=
  let m := rput (rput (rput (rput s.regs R.NET_MDIO_OP (bitsOf val.toNat 26 26)) R.NET_MDIO_PHYAD (bitsOf val.toNat 25 21))
    R.NET_MDIO_REGAD (bitsOf val.toNat 20 16)) R.NET_MDIO_DATA (bitsOf val.toNat 15 0)
  if val.getLsbD 31 && !s.rb R.NET_MDIO_BUSY then
    { s with regs := rput m R.NET_MDIO_BUSY 1, net := { s.net with mdio := true }, tx := Tx.mdio val :: s.tx }
  else { s with regs := m }

/-- MDIO_GO (R387). -/
def execMdioGo (val : BitVec 32) (s : State) : Host.Outcome State Fault Refusal := .next (hostWr 0x60050 (mdioEff val) s)

/-- MDIO_DONE (R387): a read leaves the data read. -/
def execMdioDone (data : BitVec 16) (s : State) : Host.Outcome State Fault Refusal :=
  .next (if s.dom 6 && s.net.mdio then
      let m := rput s.regs R.NET_MDIO_BUSY 0
      { s with regs := if s.rb R.NET_MDIO_OP then m else rput m R.NET_MDIO_DATA data.toNat, net := { s.net with mdio := false } }
    else s)

end Sys2Proof.Machine
end

