-- ==== Sys2Proof/Machine/Timers.lean ====
section
/-! DEFINITION. Timers TC0-TC7: counting, compare, capture (R468-R482). -/

namespace Sys2Proof.Machine

/-- TCn is bound: its compare channel 0 triggers a regular sequence or injected group of the configuration in force (R473). -/
def timerBound (m : Map Word) (n : Nat) : Bool :=
  (List.range 2).any fun c => rget m R.ADC_SEQ_CFG_TRIG c == 8 + n || rget m R.ADC_INJ_CFG_TRIG c == 8 + n

/-- Trigger chosen for capture channel k of timer n. -/
def capTrig (m : Map Word) (n k : Nat) : Nat := if k = 0 then rget m R.TMR_TC_CAPCFG_TRIG0 n else rget m R.TMR_TC_CAPCFG_TRIG1 n

/-- SEL of capture channel k. -/
def capSel (m : Map Word) (n k : Nat) : Nat := if k = 0 then rget m R.TMR_TC_CAPCFG_SEL0 n else rget m R.TMR_TC_CAPCFG_SEL1 n

/-- EDGE of capture channel k. -/
def capEdge (m : Map Word) (n k : Nat) : Nat := if k = 0 then rget m R.TMR_TC_CAPCFG_EDGE0 n else rget m R.TMR_TC_CAPCFG_EDGE1 n

/-- Offer a capture trigger of the edge `due` to every channel that names it (R478, R479). -/
def offerCap (m : Map Word) (t : Tmr) (due : Nat) (hit : Nat → Nat → Bool) : Tmr :=
  { t with capDue := vimap (fun i c => if capTrig m (i / 2) (i % 2) != 0 && hit (i / 2) (i % 2) then c ++ [due] else c) t.capDue }

/-- Deliver one source event at the edge `due` to every enabled timer that counts it (R469). -/
def offerEvent (m : Map Word) (t : Tmr) (due : Nat) (hit : Nat → Bool) : Tmr :=
  { t with evDue := vimap (fun n e => if rbit m R.TMR_TC_CTRL_EN n && hit n then e ++ [due] else e) t.evDue }

/-- The edges of a good sample frame reach the timers: counted and captured at the edge of its arrival (R470). -/
def takeFrame (m : Map Word) (snum : BitVec 16) (si : Word) (due : Nat) (t : Tmr) : Tmr :=
  let edge := fun (i e : Nat) =>
    let old := t.si.getLsbD i
    let new := si.getLsbD i
    match e with
    | 0 => !old && new
    | 1 => old && !new
    | 2 => old != new
    | _ => false
  let first := t.snum.isNone
  let t' := offerEvent m t due fun n => !first && rget m R.TMR_TC_CTRL_SRC n == 3
    && edge (rget m R.TMR_TC_CTRL_SEL n) (rget m R.TMR_TC_CTRL_EDGE n)
  let t' := offerCap m t' due fun n k => !first && capTrig m n k == 2 && edge (capSel m n k) (capEdge m n k)
  { t' with snum := some snum, si := si }

/-- Of the copies of a sample the one of the first link, FDL-A before FDL-B before FDL-C, is taken (R470; log entry 85). -/
def Tmr.settle (m : Map Word) (t : Tmr) : Tmr :=
  match t.copies[0] <|> t.copies[1] <|> t.copies[2] with
  | some (n, si, due) => takeFrame m n si due { t with copies := Vector.replicate 3 none }
  | none => t

/-- The copies that have come are taken before a timer uses what they bring. -/
def settleFrames (s : State) : State := { s with tmr := s.tmr.settle s.regs }

/-- A good sample frame of link l reaches the TMR block (R470): that of FDL-A is taken at once, another once nothing can come before
it or a timer asks. -/
def timerFrame (m : Map Word) (l : Fin 3) (snum : BitVec 16) (si : Word) (now : Nat) (t : Tmr) : Tmr :=
  if t.snum == some snum then t
  else
    let t := if t.copies.toList.any fun c => c.any (·.1 != snum) then t.settle m else t
    let t := { t with copies := t.copies.set l (some (snum, si, now)) }
    if l = 0 then t.settle m else t

/-- The timers' instants after a step of the timebase from `old` to `new` (R421). -/
def Tmr.shift (old new : Nat) (t : Tmr) : Tmr :=
  let m := fun (a : Nat) => new + a - old
  let edges := fun (v : Vector (Option Nat) 8) => v.map (Option.map m)
  { t with evDue := t.evDue.map (List.map m), capDue := t.capDue.map (List.map m), evAt := edges t.evAt, cntAt := edges t.cntAt,
           cmpAt := edges t.cmpAt, capAt := edges t.capAt, copies := t.copies.map (Option.map fun c => (c.1, c.2.1, m c.2.2)) }

/-- A match of compare channel 0 of TCn reaches the converters that name it (R478). -/
def adcMatch (m : Map Word) (on : Bool) (n : Nat) (a : Adc) : Adc :=
  let set := fun (v : BitVec 2) (f : RegField) =>
    (List.range 2).foldl (fun v c => if on && rget m f c == 8 + n then putBit v c true else v) v
  { a with regDue := set a.regDue R.ADC_SEQ_CFG_TRIG, injDue := set a.injDue R.ADC_INJ_CFG_TRIG }

/-- A happening that R474, R476 or R481 bars from an edge noted before falls on the next one (log entry 84). -/
def State.past (s : State) (last : Option Nat) : State := s.at (nextEdge s.tb last)

/-- Matches of TCn on the channels given; they are offered for capture at the next edge (R478). -/
def timerMatch (n : Nat) (m0 m1 : Bool) (s : State) : State :=
  let regs := if m0 then rput s.regs R.TMR_TC_FLAG_M0 1 n else s.regs
  let regs := if m1 then rput regs R.TMR_TC_FLAG_M1 1 n else regs
  let t := if m0 then offerCap s.regs s.tmr (s.tb + 1) fun i k => capTrig s.regs i k == 5 && capSel s.regs i k == n else s.tmr
  let t := if m1 then offerCap s.regs t (s.tb + 1) fun i k => capTrig s.regs i k == 6 && capSel s.regs i k == n else t
  { s with regs := regs, tmr := t, adc := if m0 then adcMatch s.regs (s.dom 8) n s.adc else s.adc }

/-- A step of TCn (R468): count, overflow, compare test (R475). -/
def timerStepEff (n : Nat) (s : State) : State :=
  let c := s.r R.TMR_TC_CNT_CNT n
  let top := s.r R.TMR_TC_TOP_TOP n
  let ovf := decide (top ≤ c)
  let c' := if ovf then 0 else c + 1
  let regs := rput s.regs R.TMR_TC_CNT_CNT c' n
  let regs := if ovf then rput regs R.TMR_TC_FLAG_OVF 1 n else regs
  let t := if ovf then
      offerEvent s.regs (offerCap s.regs s.tmr (s.tb + 1) fun i k => capTrig s.regs i k == 7 && capSel s.regs i k == n) (s.tb + 1)
        fun i => s.r R.TMR_TC_CTRL_SRC i == 4 && s.r R.TMR_TC_CTRL_SEL i == n
    else s.tmr
  timerMatch n (c' == s.r R.TMR_TC_CMP0_CMP n) (c' == s.r R.TMR_TC_CMP1_CMP n) { s with regs := regs, tmr := t }

/-- The edge of the next source event of TCn (R469): one an edge, and none on an edge at which a compare write or a capture has
fallen, which come after its step (R476, R480). -/
def timerEventDue (n : Fin 8) (s : State) : Option Nat :=
  let e := max (nextEdge s.tb s.tmr.evAt[n]) (max (nextEdge s.tb s.tmr.cmpAt[n]) (nextEdge s.tb s.tmr.capAt[n]))
  match s.r R.TMR_TC_CTRL_SRC n with
  | 0 => some e
  | 1 => if s.dom 8 then some (convEdge e) else none
  | _ => s.tmr.evDue[n].head?.map (max e)

/-- One source event of an enabled timer through its prescaler (R471); a step on the edge of a write of CNT is lost (R474). -/
def timerEvent (n : Fin 8) (s : State) : State :=
  let div := s.r R.TMR_TC_DIV_INT n * 65536 + s.r R.TMR_TC_DIV_FRAC n
  let acc := s.tmr.acc[n].toNat + 0x10000
  let hit := decide (div ≤ acc)
  let s' := { s with tmr := { s.tmr with acc := s.tmr.acc.set n (BitVec.ofNat 32 (if hit then acc - div else acc)),
                                         evDue := s.tmr.evDue.set n s.tmr.evDue[n].tail, evAt := s.tmr.evAt.set n (some s.tb) } }
  if hit && s.tmr.cntAt[n] != some s.tb then timerStepEff n s' else s'

/-- TIMER_STEP (R468, R469, R471): the next source event of an enabled timer; else nothing (log entry 3). -/
def execTimerStep (n : Fin 8) (s : State) : Host.Outcome State Fault Refusal :=
  .next (if s.dom 4 && s.rb R.TMR_TC_CTRL_EN n then
      let s := settleFrames s
      match timerEventDue n s with
      | some due => if s.comes due then timerEvent n (s.at due) else s
      | none => s
    else s)

/-- A host write of a bound timer's CNT, CMP0 or CMD is discarded and raises TMR.ACCESS (R473). -/
def unboundWr (n off : Nat) (eff : State → State) (s : State) : State :=
  hostWr off (fun s => if timerBound s.regs n then raiseAccess 9 true off s else eff s) s

/-- The count takes the written value, at an edge on which it has made no step (R474; log entry 84). -/
def tcCntEff (n : Fin 8) (val : Word) (s : State) : State :=
  let s := s.past s.tmr.evAt[n]
  { s.w R.TMR_TC_CNT_CNT val.toNat n with tmr := { s.tmr with cntAt := s.tmr.cntAt.set n (some s.tb) } }

/-- TC_CNT_WRITE (R474). -/
def execTcCntWrite (n : Fin 8) (val : Word) (s : State) : Host.Outcome State Fault Refusal :=
  .next (unboundWr n (0x9010C + 0x40 * n) (tcCntEff n val) s)

/-- A value written under MIP = 1 matches at once: it equals the count, is one below it (D = TOP), or is passed (R476, R477; log
entry 21). -/
def mipNow (v c top : Nat) : Bool :=
  let d := (((v : Int) - c) % (top + 1)).toNat
  decide (v ≤ top) && (v == c || (d == top && decide (1 < d)) || decide ((((c : Int) - v) % (top + 1)).toNat < (top + 1) / 2))

/-- A compare value is written (R476). -/
def tcCmpEff (n : Fin 8) (k : Nat) (val : Word) (s : State) : State :=
  let s := { s with tmr := { s.tmr with cmpAt := s.tmr.cmpAt.set n (some s.tb) } }
  let now := s.rb (if k = 0 then R.TMR_TC_CTRL_MIP0 else R.TMR_TC_CTRL_MIP1) n
    && mipNow val.toNat (s.r R.TMR_TC_CNT_CNT n) (s.r R.TMR_TC_TOP_TOP n)
  timerMatch n (now && k == 0) (now && k == 1)
    (s.w (if k = 0 then R.TMR_TC_CMP0_CMP else R.TMR_TC_CMP1_CMP) val.toNat n)

/-- TC_CMP_WRITE (R476): channel 0 of a bound timer is protected (R473). -/
def execTcCmpWrite (n : Fin 8) (k : Fin 2) (val : Word) (s : State) : Host.Outcome State Fault Refusal :=
  .next (if k = 0 then unboundWr n (0x90110 + 0x40 * n) (tcCmpEff n 0 val) s
    else hostWr (0x90114 + 0x40 * n) (tcCmpEff n 1 val) s)

/-- A capture on channel k of TCn (R480). -/
def captureEff (n : Fin 8) (k : Nat) (s : State) : State :=
  let s := { s with tmr := { s.tmr with capAt := s.tmr.capAt.set n (some s.tb) } }
  let new := if k = 0 then R.TMR_TC_FLAG_NEW0 else R.TMR_TC_FLAG_NEW1
  let ovr := if k = 0 then R.TMR_TC_FLAG_OVR0 else R.TMR_TC_FLAG_OVR1
  let cnt := if k = 0 then R.TMR_TC_FLAG_CCNT0 else R.TMR_TC_FLAG_CCNT1
  let cap := if k = 0 then R.TMR_TC_CAP0_CAP else R.TMR_TC_CAP1_CAP
  let m := rput s.regs cap (s.r R.TMR_TC_CNT_CNT n) n
  let m := if rbit m new n then rput m ovr 1 n else m
  { s with regs := rput (rput m new 1 n) cnt ((rget m cnt n + 1) % 256) n }

/-- The effect of TMR_TC_CMD: channels whose bit is written and whose TRIG is 1 (R479). -/
def tcCapEff (n : Fin 8) (val : Word) (s : State) : State :=
  let s := if val.getLsbD 0 && capTrig s.regs n 0 == 1 then captureEff n 0 s else s
  if val.getLsbD 1 && capTrig s.regs n 1 == 1 then captureEff n 1 s else s

/-- TC_CAP_CMD (R479). -/
def execTcCapCmd (n : Fin 8) (val : Word) (s : State) : Host.Outcome State Fault Refusal :=
  .next (unboundWr n (0x9011C + 0x40 * n) (tcCapEff n val) s)

/-- Place of channel k of TCn among the capture channels. -/
def capPlace (n : Fin 8) (k : Fin 2) : Fin 16 := ⟨2 * n.val + k.val, by omega⟩

/-- TC_CAPTURE (R480): a trigger that has arrived is taken at its edge; else nothing (log entry 3). -/
def execTcCapture (n : Fin 8) (k : Fin 2) (s : State) : Host.Outcome State Fault Refusal :=
  let i := capPlace n k
  .next (if s.dom 4 then
      let s := settleFrames s
      match s.tmr.capDue[i] with
      | due :: rest =>
        if s.comes due then captureEff n k { s.at due with tmr := { s.tmr with capDue := s.tmr.capDue.set i rest } } else s
      | [] => s
    else s)

/-- A read of TMR_TC_CAPk or TMR_TC_FLAG falls on an edge at which no capture has landed: one of its own edge lands after it
(R481; log entry 84). -/
def timerRead (off : Nat) (s : State) : State :=
  if h : 0x90100 ≤ off ∧ off < 0x90300 then
    (if off % 0x40 = 0x20 ∨ off % 0x40 = 0x24 ∨ off % 0x40 = 0x28 then s.past s.tmr.capAt[(off - 0x90100) / 0x40] else s)
  else s

/-- The read of TMR_TC_FLAG[n]: data returned, NEWk and OVRk cleared or left by a coinciding capture (R14, R481, R482). -/
def flagReadEff (n : Nat) (event : Option Word) (s : State) : State :=
  let off := 0x90128 + 0x40 * n
  let s := timerRead off s
  { s with hif := { s.hif with rd := [storedWord s.regs off] }, regs := rcClear s.regs off event }

/-- TC_FLAG_READ (R482). -/
def execTcFlagRead (n : Fin 8) (event : Option Word) (s : State) : Host.Outcome State Fault Refusal :=
  .next (if s.hostReach && s.dom 4 then flagReadEff n event (s.order 6)
    else if s.hostReach then s else readRefused s)

end Sys2Proof.Machine
end

