-- ==== Sys2Proof/Machine/Store.lean ====
section
/-! DEFINITION. The configuration store: banks, checks, loading, commands and seal (R532-R549). -/

namespace Sys2Proof.Machine

/-! ### Reading a bank (R532-R538) -/

/-- A bank's user bytes. -/
def Nv.bank (n : Nv) (b : Fin 2) : Map Byte := if b = 0 then n.bank0 else n.bank1

/-- The store with a bank replaced. -/
def Nv.setBank (n : Nv) (b : Fin 2) (m : Map Byte) : Nv := if b = 0 then { n with bank0 := m } else { n with bank1 := m }

/-- A user byte of a bank: 0xFF where erased. -/
def bankByte (m : Map Byte) (o : Nat) : Byte := mread 0xFF m o

/-- A word of a bank. -/
def bankWord (m : Map Byte) (o : Nat) : Nat := word32 (bankByte m) o

/-- The bytes of a range. -/
def byteRange (b : Nat → Byte) (o n : Nat) : List Byte := (List.range n).map fun i => b (o + i)

/-- MAGIC, FORMAT and HCRC of a header pass (R539). -/
def headerPass (b : Nat → Byte) : Bool :=
  word32 b 0 == 0x4B584346 && bitsOf (word32 b 4) 23 16 == 1 && (crc32 (byteRange b 0 0x3C)).toNat == word32 b 0x3C

/-- Register entries and image bytes of a bank. -/
def nreg (b : Nat → Byte) : Nat := bitsOf (word32 b 0x10) 14 0
def imgSize (b : Nat → Byte) : Nat := bitsOf (word32 b 0x14) 16 0

/-- Bytes of the body (R533). -/
def bodyLen (b : Nat → Byte) : Nat := 8 * nreg b + imgSize b

/-- The configuration signature over header `h` and body `b` (R535). -/
def configSig (h b : Nat → Byte) : Word := crc32 (byteRange h 0 0x38 ++ byteRange b 0x1000 (bodyLen h))

/-- A bank is valid (R539); `uncorr`: a codeword of its header or body is uncorrectable. -/
def bankValid (m : Map Byte) (uncorr : Bool) : Bool :=
  let b := bankByte m
  headerPass b && (configSig b b).toNat == word32 b 0x38 && !uncorr

/-- A bank is validated (R538). -/
def bankValidated (m : Map Byte) : Bool :=
  let w := fun i => bankWord m (0x3F000 + 4 * i)
  w 0 == 0x4B585641 && w 1 == bankWord m 0x38 && bitsOf (w 2) 7 0 == bitsOf (bankWord m 0x0C) 7 0
    && (crc32 (byteRange (bankByte m) 0x3F000 28)).toNat == w 7

/-- GEN a is newer than GEN b (R539). -/
def newer (a b : Nat) : Bool := decide (1 ≤ (a + 2 ^ 32 - b) % 2 ^ 32 ∧ (a + 2 ^ 32 - b) % 2 ^ 32 < 2 ^ 31)

/-- GEN of a bank. -/
def gen (m : Map Byte) : Nat := bankWord m 8

/-- NT_OFF (bit 0) and AN_OFF (bit 1) of a bank's header. -/
def offFlags (m : Map Byte) : BitVec 2 := BitVec.ofNat 2 (bitsOf (bankWord m 0x0C) 9 8)

/-- NT_OFF and AN_OFF as AO reads them at step 1: from the passing header of newer GEN, bank 0 on a tie (R539, R540). -/
def step1Flags (n : Nv) : BitVec 2 :=
  let h0 := headerPass (bankByte n.bank0)
  let h1 := headerPass (bankByte n.bank1)
  if h0 && h1 then (if newer (gen n.bank1) (gen n.bank0) then offFlags n.bank1 else offFlags n.bank0)
  else if h0 then offFlags n.bank0
  else if h1 then offFlags n.bank1
  else 0

/-- Bank selection of R540: the bank selected and what is raised. -/
def selectBank (n : Nv) (ecc0 ecc1 : Bool) (flags : BitVec 2) : Option (Fin 2) × List (Src × Nat) :=
  let v0 := bankValid n.bank0 ecc0
  let v1 := bankValid n.bank1 ecc1
  let one := fun (v : Fin 2) =>
    let o : Fin 2 := 1 - v
    let bad := n.bank o
    if bad.isEmpty then (some v, [])
    else if !(headerPass (bankByte bad) && newer (gen bad) (gen (n.bank v))) then
      (some v, [(S.CFG_STORE, o.val + 256)])
    else if offFlags (n.bank v) = flags then (some v, [(S.CFG_STORE, o.val + 512)])
    else (none, [(S.CFG_IMAGE, v.val + 6 * 256)])
  if v0 && v1 then (some (if newer (gen n.bank1) (gen n.bank0) then 1 else 0), [])
  else if v0 then one 0
  else if v1 then one 1
  else (none, (S.CFG_IMAGE, 256) :: (if n.bank0.isEmpty then [] else [(S.CFG_STORE, 256)])
      ++ (if n.bank1.isEmpty then [] else [(S.CFG_STORE, 257)]))

/-! ### The register section (R536, R537) -/

/-- Entries of the register section: offset and value. -/
def regSection (m : Map Byte) : List (Nat × Word) :=
  (List.range (nreg (bankByte m))).map fun i => (bankWord m (0x1000 + 8 * i), BitVec.ofNat 32 (bankWord m (0x1004 + 8 * i)))

/-- Mask of the loaded fields of a register (R537). -/
def loadedMask (off : Nat) : Word :=
  if lacksSource off then 0 else match fieldsAt off with | some l => maskOf (fun f => f.loaded) l | none => 0

/-- Mask of the shadowed fields of a register (R551). -/
def shadowedMask (off : Nat) : Word :=
  if lacksSource off then 0 else match fieldsAt off with | some l => maskOf (fun f => f.shadowed) l | none => 0

/-- A register store with one entry loaded: loaded fields take the value, the others keep theirs (R537). -/
def loadEntry (m : Map Word) (e : Nat × Word) : Map Word :=
  mput (resetWord e.1) m e.1 (blend (loadedMask e.1) e.2 (storedWord m e.1))

/-- A register store with the entries of a list loaded. -/
def loadEntries (m : Map Word) (l : List (Nat × Word)) : Map Word := l.foldl loadEntry m

/-- The value of a register as the bank stores it, reset where no entry names it (R537, R550). -/
def bankReg (m : Map Byte) (off : Nat) : Word :=
  match (regSection m).find? (fun e => e.1 == off) with
  | some e => e.2
  | none => resetWord off

/-! ### Ranges that a commit checks (R552 WHY 2 and 6, R536) -/

/-- Entries of a converter in use: source and gain (R442). -/
def adcEntries (m : Map Word) (c : Nat) : List (Nat × Nat) :=
  ((List.range (rget m R.ADC_SEQ_CFG_LEN c)).map fun e => (rget m R.ADC_SEQ_SRC c e, rget m R.ADC_SEQ_GAIN c e))
    ++ (List.range (rget m R.ADC_INJ_CFG_LEN c)).map fun e => (rget m R.ADC_INJ_SRC c e, rget m R.ADC_INJ_GAIN c e)

/-- Every entry that names a source gives it the same gain (R442). -/
def gainsAgree (m : Map Word) (c : Nat) : Bool :=
  let l := adcEntries m c
  l.all fun a => l.all fun b => a.1 != b.1 || a.2 == b.2

/-- xxx_FLT_CFG passes R495. -/
def fltCfgOk (off : Nat) (w : Word) : Bool :=
  match srcRow ⟨BitVec.ofNat 4 (off / 0x10000), BitVec.ofNat 5 ((off % 0x10000 - 0xF200) / 4)⟩ with
  | none => true
  | some r =>
    let n := w.toNat
    decide (r.min.toNat ≤ bitsOf n 2 0 ∧ bitsOf n 2 0 ≤ 4)
      && (bitsOf n 12 8 ||| r.allow.toNat) == r.allow.toNat
      && !(bitsOf n 8 8 == 1 && bitsOf n 20 16 == 0)

/-- The offset is that of an xxx_FLT_CFG. -/
def isFltCfg (off : Nat) : Bool := decide (0xF200 ≤ off % 0x10000 ∧ off % 0x10000 < 0xF280)

/-- The value that a store holds for a register lies in the range its register states. -/
def rangeOk (m : Map Word) (off : Nat) : Bool :=
  let within := fun (f : RegField) (a b i j : Nat) => decide (a ≤ rget m f i j ∧ rget m f i j ≤ b)
  let adcEntry := fun (src gain : RegField) (c e : Nat) =>
    within src 0 23 c e && (decide (rget m src c e < 16) || rget m gain c e == 0) && gainsAgree m c
  if isFltCfg off then fltCfgOk off (storedWord m off)
  else match off / 0x10000 with
  | 0 =>
    if off = 0xF400 then within R.SYS_ERR_CFG_HZ 1000 10000 0 0 && within R.SYS_ERR_CFG_MIN_MS 1 100 0 0
    else if off = 0x2C then within R.SYS_PARTNER_PWAIT 1 600 0 0
    else if off = 0x30 then within R.SYS_DRST_CFG_SI 0 31 0 0 || rget m R.SYS_DRST_CFG_SI == 0x3F
    else true
  | 1 => if off = 0x10010 then within R.HIF_HB_TO_MS 1 1000 0 0 else true
  | 2 =>
    if off = 0x20000 then within R.CIS_SLOT_PERIOD 100 10000 0 0
    else if off = 0x20004 then within R.CIS_LEAD_LEAD_US 120 2000 0 0
    else true
  | 3 =>
    if off = 0x30008 then within R.VPT_ERR_LIM_LIM 1 255 0 0
    else if 0x30100 ≤ off ∧ off < 0x30300 ∧ off % 32 = 28 then within R.VPT_PORT_REQ_MIN_VALVE 1 128 ((off - 0x30100) / 32) 0
    else true
  | 4 => if off = 0x4001C then within R.LAN_CFG_REPAIR_H 1 8 0 0 else true
  | 5 =>
    let i := off % 0x100 / 4
    if off = 0x50008 then within R.FLD_WDG_SCANS 2 8 0 0
    else if off / 0x100 = 0x501 then
      let tp := rget m R.FLD_SI_CFG_TP i
      within R.FLD_SI_CFG_V_OFF 0 32 i 0 && within R.FLD_SI_CFG_V_ON 0 40 i 0
        && decide (rget m R.FLD_SI_CFG_V_OFF i ≤ rget m R.FLD_SI_CFG_V_ON i + 4)
        && (tp == 15 || (if i < 16 then decide (tp ≤ 3) else decide (4 ≤ tp ∧ tp ≤ 7)))
    else if off / 0x100 = 0x502 then within R.FLD_FILT_LIM_LIM 1 4095 i 0
    else if off / 0x100 = 0x503 then decide (16 ≤ i) || within R.FLD_SO_CFG_TOFF_MS 1 255 i 0
    else true
  | 6 =>
    if off = 0x60008 then within R.NET_QUAL_MS 100 10000 0 0
    else if off = 0x6000C then within R.NET_ERR_LIM_LIM 1 255 0 0
    else if 0x60400 ≤ off ∧ off < 0x60800 ∧ off % 32 = 8 then within R.NET_CONN_WD_WD 100 100000 ((off - 0x60400) / 32) 0
    else true
  | 7 => if off = 0x70008 then within R.OSR_ERR_LIM_LIM 1 255 0 0 else true
  | 8 =>
    let trig := fun (f : RegField) (c lo : Nat) => decide (rget m f c ≤ lo) || decide (8 ≤ rget m f c)
    if off = 0x80004 then rget m R.ADC_CAL_CTRL_PER_S == 0 || within R.ADC_CAL_CTRL_PER_S 2 3600 0 0
    else if 0x80010 ≤ off ∧ off < 0x80018 then
      let c := (off - 0x80010) / 4
      within R.ADC_SEQ_CFG_LEN 0 16 c 0 && trig R.ADC_SEQ_CFG_TRIG c 0 && gainsAgree m c
    else if 0x80018 ≤ off ∧ off < 0x80020 then
      let c := (off - 0x80018) / 4
      within R.ADC_INJ_CFG_LEN 0 4 c 0 && within R.ADC_INJ_CFG_OFS_US 0 1000 c 0 && trig R.ADC_INJ_CFG_TRIG c 2 && gainsAgree m c
    else if 0x80100 ≤ off ∧ off < 0x80180 then adcEntry R.ADC_SEQ_SRC R.ADC_SEQ_GAIN ((off - 0x80100) / 64) (off % 64 / 4)
    else if 0x80180 ≤ off ∧ off < 0x801A0 then adcEntry R.ADC_INJ_SRC R.ADC_INJ_GAIN ((off - 0x80180) / 16) (off % 16 / 4)
    else true
  | 9 =>
    let n := (off - 0x90100) / 64
    if off < 0x90100 then true
    else match off % 64 with
    | 0 => within R.TMR_TC_CTRL_SRC 0 4 n 0 && !(rget m R.TMR_TC_CTRL_SRC n == 4 && rget m R.TMR_TC_CTRL_SEL n == n)
    | 4 => decide (1 ≤ rget m R.TMR_TC_DIV_INT n)
    | 24 => within R.TMR_TC_CAPCFG_TRIG0 0 7 n 0 && within R.TMR_TC_CAPCFG_TRIG1 0 7 n 0
    | _ => true
  | _ => true

/-- The register section passes R536; `base` is the register store before loading. -/
def sectionOk (base : Map Word) (m : Map Byte) : Bool :=
  let l := regSection m
  let after := loadEntries base l
  (l.zip l.tail).all (fun p => decide (p.1.1 < p.2.1))
    && l.all (fun e => e.1 % 4 == 0 && loadedMask e.1 != 0 && (e.2 &&& ~~~(loadedMask e.1)) == 0 && rangeOk after e.1)

/-- The image section of a bank (R533). -/
def imageBytes (m : Map Byte) (i : Nat) : Byte := bankByte m (0x1000 + 8 * nreg (bankByte m) + i)

/-- The domain check of R36: NT off with a connection declared, or AN off with analog entries in use. -/
def domainsBad (m : Map Byte) : Bool :=
  let f := offFlags m
  let im := readImage (imageBytes m)
  let conn := (regSection m).any fun e => decide (0x60400 ≤ e.1 ∧ e.1 < 0x60800) && e.1 % 32 == 4 && e.2.getLsbD 0
  let analog := im.blocks.any fun b => b.typ == 0x50
    || (List.range b.nin).any fun n => refKind (b.input n) == 1 && decide (refIndex (b.input n) < 96)
  (f.getLsbD 0 && conn) || (f.getLsbD 1 && analog)

/-! ### Commands (R545-R549) -/

/-- RESULT, WHY and NEW of CFG_CSTAT. -/
def cfgResult (res why : Nat) (s : State) : State :=
  { s with regs := rput (rput (rput s.regs R.CFG_CSTAT_RESULT res) R.CFG_CSTAT_WHY why) R.CFG_CSTAT_NEW 1 }

/-- A command completes: DONE of CFG_STAT, and its result. -/
def cfgComplete (res why : Nat) (s : State) : State := cfgResult res why (s.w R.CFG_STAT_DONE 1)

/-- The candidate bank (R540). -/
def Cfg.candidate (c : Cfg) : Fin 2 := match c.cur with | some b => 1 - b | none => 0

/-- The reason for which a command is refused, in the order of R545; 0 = none. -/
def cfgWhy (op page : Nat) (s : State) : Nat :=
  let mode := if op = 4 then s.sys.mode == .commission else s.sys.mode == .configure
  let sig := match s.cfg.cur with
    | some b => s.r R.CFG_VAL_SIG_SIG == bankWord (s.nv.bank b) 0x38
        && s.r R.CFG_VAL_SEAL_SEAL == bitsOf (bankWord (s.nv.bank b) 0x0C) 7 0 && s.cfg.seal0
    | none => false
  if s.cfg.cmd.isSome then 3
  else if s.sys.pdnBusy || s.sys.pdnReady then 8
  else if op = 0 ∨ 4 < op then 3
  else if !mode then 1
  else if !s.cfg.key then 2
  else if op = 2 ∧ ¬(1 ≤ page ∧ page ≤ 62 ∧ s.cfg.erased.getLsbD page) then 3
  else if op = 4 ∧ !sig then 7
  else 0

/-- A write of CFG_CMD with GO: the command starts or is refused. ERASE and the erasure by VALIDATE begin at the start
(R545, R548; log entry 22). -/
def cfgStart (op page : Nat) (s : State) : State :=
  let why := cfgWhy op page s
  let s := { s with regs := rput (rput s.regs R.CFG_CMD_OP op) R.CFG_CMD_PAGE page }
  if why != 0 then cfgComplete 3 why s
  else
    let nv := if op = 1 then s.nv.setBank s.cfg.candidate []
      else if op = 4 then match s.cfg.cur with
        | some b => s.nv.setBank b ((s.nv.bank b).filter fun e => decide (e.1 < 0x3F000))
        | none => s.nv
      else s.nv
    cfgResult 1 0 { s with nv := nv, cfg := { s.cfg with cmd := some (BitVec.ofNat 3 op, BitVec.ofNat 6 page),
                                                         erased := if op = 1 then BitVec.allOnes 64 else s.cfg.erased } }

/-- The bytes of CFG_BUF. -/
def bufByte (m : Map Word) (i : Nat) : Byte :=
  (BitVec.ofNat 32 (rget m R.CFG_BUF_DATA (i / 4))).extractLsb' (8 * (i % 4)) 8

/-- Program a page from CFG_BUF. -/
def programPage (m : Map Byte) (regs : Map Word) (page : Nat) : Map Byte :=
  (List.range 4096).foldl (fun m i => mput 0xFF m (4096 * page + i) (bufByte regs i)) m

/-- CFG_BUF words 0-15 are a header under R534 for the candidate. -/
def bufHeaderOk (s : State) : Bool :=
  let h := bufByte s.regs
  let w := word32 h
  let code := bitsOf (w 0x0C) 7 0
  let genOk := match s.cfg.cur with
    | none => w 8 != 0
    | some b =>
      let g := gen (s.nv.bank b)
      w 8 == (if (g + 1) % 2 ^ 32 = 0 then 1 else (g + 1) % 2 ^ 32)
  headerPass h && bitsOf (w 4) 11 0 == 0x0A1 && bitsOf (w 4) 15 12 == 0 && bitsOf (w 4) 31 24 == 0 && genOk
    && decide (1 ≤ code ∧ code ≤ 0xFE) && bitsOf (w 0x0C) 31 10 == 0
    && decide (nreg h ≤ 16384) && bitsOf (w 0x10) 31 15 == 0 && bitsOf (w 0x14) 31 17 == 0 && bitsOf (w 0x18) 31 16 == 0
    && (List.range 7).all (fun i => w (0x1C + 4 * i) == 0) && decide (0x1000 + bodyLen h ≤ 0x3F000)

/-- The validation record of R538. -/
def validationRecord (s : State) (bank : Map Byte) : List Word :=
  sealFrame [0x4B585641, BitVec.ofNat 32 (bankWord bank 0x38),
    BitVec.ofNat 32 (bitsOf (bankWord bank 0x0C) 7 0 + 65536 * s.r R.CFG_VAL_SEAL_ID), lo32 s.tb, hi32 s.tb, 0, 0]

/-- Write bytes into a bank. -/
def bankPut (m : Map Byte) (o : Nat) (l : List Byte) : Map Byte :=
  l.zipIdx.foldl (fun m e => mput 0xFF m (o + e.2) e.1) m

/-- An erase or program that fails its verify: FAILED, CFG.STORE cause 3 for the bank written (R545). -/
def cfgVerifyFail (b : Fin 2) (s : State) : State := cfgComplete 4 6 (raise S.CFG_STORE (b.val + 3 * 256) s)

/-- The running command completes (R545, R548, R549). -/
def cfgDoneEff (op page : Nat) (verifyOk : Bool) (uncorr : Option (BitVec 6)) (s : State) : State :=
  let s := { s with cfg := { s.cfg with cmd := none } }
  let c := s.cfg.candidate
  match op with
  | 1 => if verifyOk then cfgComplete 2 0 s else cfgVerifyFail c s
  | 2 =>
    let t := { s with nv := s.nv.setBank c (programPage (s.nv.bank c) s.regs page) }
    if verifyOk then cfgComplete 2 0 t else cfgVerifyFail c t
  | 3 =>
    let h := bufByte s.regs
    if !bufHeaderOk s then cfgComplete 4 4 s
    else match uncorr with
    | some p => cfgComplete 4 5 (raise S.CFG_ECC_U (c.val + 256 * p.toNat + 63 * 65536) (s.add R.CFG_ECC_UNCORR 1))
    | none =>
      if (configSig h (bankByte (s.nv.bank c))).toNat != word32 h 0x38 then cfgComplete 4 5 s
      else
        let t := { s with nv := s.nv.setBank c (programPage (s.nv.bank c) s.regs 0), cfg := { s.cfg with erased := 0 } }
        if verifyOk then cfgComplete 2 0 t else cfgVerifyFail c t
  | _ =>
    match s.cfg.cur with
    | none => s
    | some b =>
      if verifyOk then
        let rec' := bankPut (s.nv.bank b) 0x3F000 (frameBytes (validationRecord s (s.nv.bank b)))
        cfgComplete 2 0 ({ s with nv := s.nv.setBank b rec', cfg := { s.cfg with validated := true },
                                  sys := { s.sys with validated := true } })
      else cfgVerifyFail b s

/-- A host write of CFG_CMD with GO = 1. -/
def cfgCmdWr (op page : Nat) (s : State) : Host.Outcome State Fault Refusal := .next (hostWr 0xB0004 (cfgStart op page) s)

/-- CFG_ERASE (R545). -/
def execCfgErase (s : State) : Host.Outcome State Fault Refusal := cfgCmdWr 1 0 s

/-- CFG_PROGRAM (R545). -/
def execCfgProgram (page : BitVec 6) (s : State) : Host.Outcome State Fault Refusal := cfgCmdWr 2 page.toNat s

/-- CFG_FINISH (R545). -/
def execCfgFinish (s : State) : Host.Outcome State Fault Refusal := cfgCmdWr 3 0 s

/-- CFG_VALIDATE (R548). -/
def execCfgValidate (s : State) : Host.Outcome State Fault Refusal := cfgCmdWr 4 0 s

/-- CFG_CMD_DONE (R545): whether the verify passes, and a page with an uncorrectable codeword that FINISH meets. -/
def execCfgCmdDone (verifyOk : Bool) (uncorr : Option (BitVec 6)) (s : State) : Host.Outcome State Fault Refusal :=
  .next (match s.cfg.cmd with
    | some (op, page) => cfgDoneEff op.toNat page.toNat verifyOk uncorr s
    | none => s)

/-- The hourly reading of the current bank (R547): corrections, then uncorrectable codewords. -/
def hourlyEff (b : Fin 2) (corr unc : List (BitVec 6 × BitVec 6)) (s : State) : State :=
  let det := fun (p q : Nat) => b.val + 256 * p + 65536 * q
  let s := raiseAll (corr.map fun e => (S.CFG_ECC_C, det e.1.toNat e.2.toNat)) (s.add R.CFG_ECC_CORR corr.length)
  let s := raiseAll (unc.map fun e => (S.CFG_ECC_U, det e.1.toNat 63)) (s.add R.CFG_ECC_UNCORR unc.length)
  if unc.isEmpty then s
  else { s with cfg := { s.cfg with valid := putBit s.cfg.valid b.val false, readsFail := true } }

/-- CFG_HOURLY_CHECK (R547). -/
def execCfgHourlyCheck (corrected uncorrected : List (BitVec 6 × BitVec 6)) (s : State) : Host.Outcome State Fault Refusal :=
  .next (match s.cfg.cur with
    | some b => if s.pwr.aoOk then hourlyEff b corrected uncorrected s else s
    | none => s)

/-! ### Key and seal (R542, R543) -/

/-- KEY_ASSERT (R542). -/
def execKeyAssert (s : State) : Host.Outcome State Fault Refusal :=
  .next { s.order 1 with cfg := { s.cfg with key := s.cfg.key || s.pwr.aoOk } }

/-- KEY_RELEASE (R542). -/
def execKeyRelease (s : State) : Host.Outcome State Fault Refusal :=
  .next { s.order 1 with cfg := { s.cfg with key := false } }

/-- One seal comparison (R543). -/
def sealEff (b : Fin 2) (r0 r1 r2 : BitVec 8) (s : State) : State :=
  let hit := r0 == r1 && r1 == r2 && r2.toNat == bitsOf (bankWord (s.nv.bank b) 0x0C) 7 0
  let t := { s with cfg := { s.cfg with seal0 := hit, seal1 := s.cfg.seal0, sealAt := some s.tb },
                    regs := rput (rput s.regs R.CFG_SEAL_MATCH (b2n hit)) R.CFG_SEAL_PINS r2.toNat }
  raiseIf (!hit) S.CFG_SEAL (256 * r2.toNat) t

/-- The next seal comparison: a multiple of 100 ms after the one before (R522). -/
def sealDue (s : State) : Nat :=
  match s.cfg.sealAt with | some a => nextMultiple (100 * ms) a (max s.tb (a + 1)) | none => s.tb

/-- SEAL_COMPARE (R522, R543): every 100 ms once a bank is loaded, in every mode except Configure. -/
def execSealCompare (seal0 seal1 seal2 : BitVec 8) (s : State) : Host.Outcome State Fault Refusal :=
  .next (match s.cfg.cur with
    | some b => if s.sys.mode != .configure && s.pwr.aoOk && s.comes (sealDue s) then sealEff b seal0 seal1 seal2 (s.at (sealDue s)) else s
    | none => s)

end Sys2Proof.Machine
end

