-- ==== Sys2Proof/Machine/Txn.lean ====
section
/-! DEFINITION. Transactions: shadows, judging a commit, putting it in force (R74-R77, R154, R424, R550-R555). -/

namespace Sys2Proof.Machine

/-- Classes of R552. -/
inductive TxnClass where
  | safety | maintenance | ejection | free
deriving DecidableEq, Repr

/-- The class of the shadowed fields of a register. -/
def txnClass (m : Map Word) (off : Nat) : TxnClass :=
  if isFltCfg off || off == 0xF400 then .safety
  else match off / 0x10000 with
  | 1 => .safety
  | 2 => if 0x24000 ≤ off ∧ off < 0x26040 then .ejection else .maintenance
  | 3 => .maintenance
  | 9 => if timerBound m ((off - 0x90100) / 64) then .safety else .free
  | _ => .safety

/-- Number of devices of the ring, and this device's RING_ID (R413, R414). -/
def State.ndev (s : State) : Nat := s.r R.OSR_ID_NDEV + 1
def State.ringId (s : State) : Nat := s.osr.ringId.toNat

/-- READY mask: own bit of R75 and what the links bring (R424). -/
def State.canRelay (s : State) : Bool :=
  s.tkt.recs.isEmpty && (match s.slot.lastWrite with | some k => decide (k + 2560 ≤ s.slot.k) | none => true)
def State.readyMask (s : State) : BitVec 8 :=
  let own := putBit (0 : BitVec 8) s.ringId s.canRelay
  (List.finRange 2).foldl (fun m p => match s.osr.links[p].time with | some t => m ||| t.ready | none => m) own

/-- The entry at an offset is one of a table in force, and lost (R230, R231). -/
def lostAt (c : Cis) (off : Nat) : Bool :=
  (decide (0x24000 ≤ off ∧ off < 0x26000) && c.dlyLost.getLsbD ((off - 0x24000) / 32))
    || (decide (0x26000 ≤ off ∧ off < 0x26040) && c.clsGone)

/-- Offsets of the tables. -/
def tableOffs : List Nat := (List.range 2064).map fun i => 0x24000 + 4 * i

/-- The registers whose shadow differs from the value in force, by rising offset; the shadow of a lost entry always differs from
it (R555). -/
def changedRegs (c : Cis) (m sh : Map Word) : List Nat :=
  let lost := if c.dlyLost == 0 && !c.clsGone then [] else tableOffs.filter (lostAt c)
  let keys := (lost.foldl (fun (a : Map Unit) k => mins a k ()) ((sh ++ m).foldl (fun (a : Map Unit) e => mins a e.1 ()) [])).map (·.1)
  keys.filter fun k => lostAt c k || ((storedWord m k ^^^ storedWord sh k) &&& shadowedMask k) != 0

/-- The registers that a commit changes; what a lost domain held is nobody's. -/
def txnChanged (s : State) : List Nat :=
  changedRegs (if s.dom 4 then s.cis else { s.cis with dlyLost := 0, clsGone := false }) s.regs s.shadow

/-- A ticket, open or of a MARK_SPEC under way, names the retained generation (R154). -/
def retainedNamed (s : State) : Bool :=
  s.tkt.recs.any (fun e => e.2.gen != s.cis.gen)
    || s.dsc.flights.any fun f => match f.opens with | some r => r.gen != s.cis.gen | none => false

/-- The reason for which a changed register is refused, in the order of R552; 0 = none. -/
def txnWhy (s : State) (off : Nat) : Nat :=
  let cls := txnClass s.regs off
  let slotLead := off == 0x20000 || off == 0x20004
  let permitted := match cls with
    | .safety => s.inMode [.configure]
    | .maintenance => s.inMode [.configure, .maintain]
    | _ => true
  if !permitted then 1
  else if !isFltCfg off && !rangeOk s.shadow off then 2
  else if slotLead && !s.canRelay then 3
  else if decide (0x24000 ≤ off ∧ off < 0x26000) && retainedNamed s then 4
  else if off == 0x20000 && decide (2 ≤ s.ndev) &&
    (s.ringId != 0 || decide ((s.readyMask.toNat % 2 ^ s.ndev) ≠ 2 ^ s.ndev - 1)) then 5
  else if isFltCfg off && !fltCfgOk off (storedWord s.shadow off) then 6
  else 0

/-- STATE in CFG_TXN_STAT and in the block. -/
def txnTo (t : TxnState) (s : State) : State :=
  { s with cfg := { s.cfg with txn := t },
           regs := rput s.regs R.CFG_TXN_STAT_STATE (match t with | .idle => 0 | .open => 1 | .pend => 2) }

/-- RESULT, WHY, OFS and NEW of CFG_TXN_STAT. -/
def txnResult (res why off : Nat) (s : State) : State :=
  { s with regs := rput (rput (rput (rput s.regs R.CFG_TXN_STAT_RESULT res) R.CFG_TXN_STAT_WHY why)
      R.CFG_TXN_STAT_OFS off) R.CFG_TXN_STAT_NEW 1 }

/-- A write of OP that is not accepted: WHY 7 and nothing else (R550). -/
def txnRefuse (s : State) : State := s.w R.CFG_TXN_STAT_WHY 7

/-- Every shadow takes the value in force; of a suppressed column, the entry stored in the current bank (R550), and with it of a
lost class table. -/
def beginShadow (s : State) : Map Word :=
  let stored := fun (off : Nat) => match s.cfg.cur with
    | some b => bankReg (s.nv.bank b) off
    | none => resetWord off
  (tableOffs.filter fun k => lostAt s.cis k || (s.cis.clsGone && decide (k < 0x26000))).foldl (fun m k => mput 0 m k (stored k)) s.regs

/-- BEGIN (R550). -/
def txnBeginEff (s : State) : State :=
  if s.cfg.txn == .idle && !s.inMode [.boot, .lockdown] && !s.sys.pdnBusy && !s.sys.pdnReady then
    txnTo .open { s with shadow := beginShadow s }
  else txnRefuse s

/-- The commit changes a CIS or VPT field while the slot clock runs: it waits for the commit tick (R553). -/
def waitsForTick (s : State) : Bool :=
  s.slot.run && (txnChanged s).any fun k => k / 0x10000 == 2 || k / 0x10000 == 3

/-- COMMIT (R552): refused as a whole with the first failing field, or accepted. A slot length committed on a ring's master
is announced for the present slot + 64 (R424). -/
def txnCommitEff (s : State) : State :=
  if s.cfg.txn != .open then txnRefuse s
  else
    let changed := txnChanged s
    match changed.find? fun k => txnWhy s k != 0 with
    | some k => txnResult 2 (txnWhy s k) k s
    | none =>
      let len := 10 * rget s.shadow R.CIS_SLOT_PERIOD
      let slot := changed.contains 0x20000
      let ring := decide (2 ≤ s.ndev) && s.slot.run
      let t := txnTo .pend s
      if slot && s.slot.run then
        { t with regs := rput t.regs R.CIS_STAT_PEND 1,
                 slot := if ring then { t.slot with kc := some (t.slot.k + 64, len) } else { t.slot with pend := some len } }
      else t

/-- ROLLBACK (R550). -/
def txnRollbackEff (s : State) : State :=
  if s.cfg.txn == .open then txnResult 3 0 0 (txnTo .idle { s with shadow := [] }) else txnRefuse s

/-- The registers in force with every changed shadowed field taken from the shadows. -/
def mergedRegs (changed : List Nat) (m sh : Map Word) : Map Word :=
  changed.foldl (fun acc k =>
    mput (resetWord k) acc k (blend (shadowedMask k) (storedWord sh k) (storedWord m k))) m

/-- Field settings sent to the field die (R355): inputs, filters, outputs, watchdog, scan period. -/
def fieldConfig (m : Map Word) (period : Nat) : List Word :=
  ((List.range 32).map fun i => storedWord m (0x50100 + 4 * i)) ++ ((List.range 32).map fun i => storedWord m (0x50200 + 4 * i))
    ++ ((List.range 20).map fun i => storedWord m (0x50300 + 4 * i)) ++ [storedWord m 0x50008, BitVec.ofNat 32 period]

/-- CFGCRC of a field configuration (R355; log entry 16). -/
def fieldCrc (c : List Word) : Word := crc32 (Config.fieldBytes c)

/-- A field configuration is to be sent: its CRC is compared from the second boundary after it has left (R355). -/
def Lan.sendsField (n : Lan) (c : List Word) : Lan :=
  { n with fldSend := some c, fldCrc := fieldCrc c, fldCheckFrom := none, fldBad := false }

/-- An accepted commit takes force (R553): every changed field at one instant; the delay table whole, with its generation
(R154); timers enabled anew start with acc = 0 and no event waiting (R471); FLD fields go to the field die (R554); a disabled port sends K28.5
only; connections whose settings change are closed (R398). -/
def applyCommit (s : State) : State :=
  let s := settleFrames (adcSync s)
  let changed := txnChanged s
  let m := mergedRegs changed s.regs s.shadow
  let dly := changed.any fun k => decide (0x24000 ≤ k ∧ k < 0x26000)
  let cls := changed.any fun k => decide (0x26000 ≤ k ∧ k < 0x26040)
  let fld := changed.any fun k => decide (0x50000 ≤ k ∧ k < 0x5F000)
  let cis := { s.cis with
    retained := if dly then s.regs.filter fun e => decide (0x24000 ≤ e.1 ∧ e.1 < 0x26000) else s.cis.retained
    gen := s.cis.gen ^^ dly
    retLost := if dly then s.cis.dlyLost else s.cis.retLost
    dlyLost := if dly then 0 else s.cis.dlyLost
    clsHit := if cls then none else s.cis.clsHit
    clsGone := s.cis.clsGone && !cls }
  let runs := fun n => rbit m R.TMR_TC_CTRL_EN n && rbit s.regs R.TMR_TC_CTRL_EN n
  let tmr := { s.tmr with acc := vimap (fun n a => if rbit m R.TMR_TC_CTRL_EN n && !rbit s.regs R.TMR_TC_CTRL_EN n then 0 else a) s.tmr.acc
                          evDue := vimap (fun n e => if runs n then e else []) s.tmr.evDue }
  let cfgw := fieldConfig m s.period
  let slotLen := if changed.contains 0x20000 && !s.slot.run then 10 * rget m R.CIS_SLOT_PERIOD else s.slot.len
  let ports := vimap (fun n p => if (rget m R.VPT_EN_EN).testBit n then p else { p with st := .off, await := false }) s.vpt.ports
  netCommit s.regs changed (txnResult 1 0 0 (txnTo .idle { s with
    vpt := { s.vpt with ports := ports }
    regs := m, shadow := [], cis := cis, tmr := tmr, slot := { s.slot with len := slotLen },
    lan := if fld then s.lan.sendsField cfgw else s.lan }))

/-- TXN_BEGIN (R550). -/
def execTxnBegin (s : State) : Host.Outcome State Fault Refusal := .next (hostWr 0xB0020 txnBeginEff s)

/-- TXN_COMMIT (R552). -/
def execTxnCommit (s : State) : Host.Outcome State Fault Refusal := .next (hostWr 0xB0020 txnCommitEff s)

/-- TXN_ROLLBACK (R550). -/
def execTxnRollback (s : State) : Host.Outcome State Fault Refusal := .next (hostWr 0xB0020 txnRollbackEff s)

/-- TXN_APPLY (R553): within 20 µs of the COMMIT; a commit that waits for the commit tick takes force with SLOT_TICK. -/
def execTxnApply (s : State) : Host.Outcome State Fault Refusal :=
  .next (if s.cfg.txn == .pend && !waitsForTick s then applyCommit s else s)

/-- A domain that holds a changed shadow is lost with STATE OPEN: the transaction ends LOST (R555). -/
def txnDomainLost (d : Nat) (s : State) : State :=
  if s.cfg.txn == .open && (txnChanged s).any (fun k => blockDomain (k / 0x10000) == some d) then
    txnResult 4 0 0 (txnTo .idle { s with shadow := [] })
  else s

end Sys2Proof.Machine
end

