-- ==== Sys2Proof/Machine/Field.lean ====
section
/-! DEFINITION. The field die: sampling, filters, test patterns, islands, readback, off-pulse tests, supplies, watchdog
(chapter 11). -/

namespace Sys2Proof.Machine

/-! ### Settings it holds (R355) -/

/-- Word i of a field configuration: inputs 0-31, filters 32-63, outputs 64-83, watchdog 84, scan period 85; the reset
settings until the first has loaded. -/
def fldWord (l : List Word) (i : Nat) : Nat :=
  match l[i]? with
  | some w => w.toNat
  | none => if i < 32 then 0x1F1420 else if i < 64 then 1 else if i < 84 then 0xA else if i = 84 then 4 else 100000

def Fld.siTp (f : Fld) (i : Nat) : Nat := bitsOf (fldWord f.cfg i) 19 16
def Fld.siXchk (f : Fld) (i : Nat) : Bool := bitsOf (fldWord f.cfg i) 20 20 == 1
def Fld.filtLim (f : Fld) (i : Nat) : Nat := bitsOf (fldWord f.cfg (32 + i)) 11 0
def Fld.toff (f : Fld) (t : Nat) : Nat := bitsOf (fldWord f.cfg (64 + t)) 7 0
def Fld.width (f : Fld) (t : Nat) : Nat := bitsOf (fldWord f.cfg (64 + t)) 23 16
def Fld.safeOn (f : Fld) (t : Nat) : Bool := bitsOf (fldWord f.cfg (64 + t)) 9 8 == 3
def Fld.wdScans (f : Fld) : Nat := bitsOf (fldWord f.cfg 84) 3 0
def Fld.period (f : Fld) : Nat := fldWord f.cfg 85

/-- The core of the field die runs while either field supply is above 9.0 V (R20). -/
def State.fldRuns (s : State) : Bool := s.pwr.fsOk != 0

/-- A bit vector from a predicate on its bit numbers. -/
def bvOf (n : Nat) (f : Nat → Bool) : BitVec n := (List.range n).foldl (fun b i => putBit b i (f i)) 0

/-- Outputs of group A, B: SO0-SO7; SO8-SO15 and SL12-SL15 (R349). -/
def grpOuts (g : Fin 2) : BitVec 20 := if g = 0 then 0x000FF else 0xFFF00

/-! ### Fault queue (R601) -/

/-- Count that follows a count: 255 is followed by 1. -/
def nextCnt (c : BitVec 8) : BitVec 8 := if c = 255 then 1 else c + 1

/-- EVT shows the oldest entry and keeps its value on an empty queue. -/
def Fld.show (f : Fld) : Fld :=
  match f.queue with
  | e :: _ => { f with evt := e.cnt ++ e.pin2 ++ e.pin ++ e.code }
  | [] => f

/-- A new field fault merges into an entry of the same source and first pin, or takes an entry. -/
def Fld.fault (f : Fld) (c : Src) (pin pin2 : Nat) : Fld :=
  let code : BitVec 8 := c.code.setWidth 8
  let p := BitVec.ofNat 8 pin
  let q := BitVec.ofNat 8 pin2
  (if f.queue.any (fun (e : FldEntry) => e.code == code && e.pin == p) then
    { f with queue := f.queue.map fun (e : FldEntry) => if e.code == code && e.pin == p then { e with pin2 := q } else e }
  else
    { f with queue := f.queue ++ [(⟨code, p, q, nextCnt f.evtCnt⟩ : FldEntry)], evtCnt := nextCnt f.evtCnt }).show

/-- A fault for each pin of a bit vector, pins numbered from `base`. -/
def Fld.faults {n : Nat} (f : Fld) (c : Src) (b : BitVec n) (base pin2 : Nat) : Fld :=
  (ones b).foldl (fun f i => f.fault c (base + i) pin2) f

/-- The oldest entry goes once frames on two links acknowledge its count. -/
def Fld.ack (f : Fld) : Fld :=
  match f.queue with
  | e :: l =>
    if 2 ≤ ((List.finRange 3).filter fun i => f.accAt[i].isSome && f.eack[i] == e.cnt).length then
      Fld.show { f with queue := l }
    else f
  | [] => f

/-! ### Outputs: commands, clamps, expected states (R367, R369, R380-R384) -/

/-- Islands A, B, C turn their legs off at step 0, one of them at a step above. -/
def stepOff (step : BitVec 2) (l : Fin 3) : Bool := step == 0 || step.toNat == l.val + 1

/-- Targets that island l turns off in a test step (R374). -/
def Fld.pulsed (f : Fld) (l : Fin 3) : BitVec 20 :=
  let b := (List.finRange 2).foldl (fun (b : BitVec 20) (g : Fin 2) => match f.pulse[g] with
    | some p => if p.links.getLsbD l && stepOff p.step l then putBit b p.target.val true else b
    | none => b) 0
  f.strays.foldl (fun b x => if x.link = l && stepOff x.step l then putBit b x.target.val true else b) b

/-- Groups in SAG or MISSING (R377). -/
def Fld.sunk (f : Fld) : BitVec 2 := f.sag ||| f.gone

/-- Outputs whose programmed safe state is ON (R381). -/
def Fld.holdable (f : Fld) : BitVec 20 := bvOf 20 f.safeOn

/-- Outputs held by a core clamp: overload, supply, watchdog; all of them until the watchdog is armed. -/
def Fld.clamped (f : Fld) : BitVec 20 :=
  f.clamp ||| (if f.sunk.getLsbD 0 then grpOuts 0 else 0) ||| (if f.sunk.getLsbD 1 then grpOuts 1 else 0)
    ||| (if f.armed then 0 else 0xFFFFF) ||| (if f.expired then ~~~f.holdable else 0)

/-- Legs AB, BC, CA as the islands command them with the test steps, before the clamps. -/
def Fld.driven (f : Fld) : BitVec 60 :=
  let on := fun (l : Fin 3) => f.cmd[l] &&& ~~~f.pulsed l
  (on 2 &&& on 0) ++ (on 1 &&& on 2) ++ (on 0 &&& on 1)

/-- Legs expected to conduct (R369). -/
def Fld.expLegs (f : Fld) : BitVec 60 :=
  let c := f.clamped
  f.driven &&& ~~~(c ++ c ++ c)

/-- Outputs of which some leg of a leg vector is set. -/
def anyLeg (v : BitVec 60) : BitVec 20 := v.extractLsb' 0 20 ||| v.extractLsb' 20 20 ||| v.extractLsb' 40 20

/-- Outputs expected ON: through a leg, or on the hold-on path (R381). -/
def Fld.expOn (f : Fld) : BitVec 20 :=
  anyLeg f.expLegs ||| (if f.expired && f.armed then f.holdable &&& ~~~f.clamped else 0)

/-- Outputs commanded ON by at least two islands. -/
def Fld.cmdOn (f : Fld) : BitVec 20 :=
  let a := f.cmd[(0 : Fin 3)]
  let b := f.cmd[(1 : Fin 3)]
  let c := f.cmd[(2 : Fin 3)]
  (a &&& b) ||| (b &&& c) ||| (c &&& a)

/-- RESULT, STEP and TARGET of a test that has ended. -/
def testStat (res : Nat) (p : Pulse) (m : Map Word) : Map Word :=
  rput (rput (rput (rput m R.FLD_TEST_STAT_NEW 1) R.FLD_TEST_STAT_RESULT res) R.FLD_TEST_STAT_STEP p.step.toNat)
    R.FLD_TEST_STAT_TARGET p.target

/-- A test is abandoned: it falls due again, with its step (R376). -/
def testAbandon (p : Pulse) (s : State) : State :=
  { s with regs := testStat 2 p s.regs,
           lan := { s.lan with testDue := s.lan.testDue.set p.target (some s.tb), testStep := s.lan.testStep.set p.target p.step } }

/-- A pulse after a change of the commands or the clamps: abandoned once its target is commanded OFF or clamped (R376). -/
def pulseWatch (f : Fld) (p : Pulse) : Pulse :=
  let on := f.cmdOn.getLsbD p.target
  { p with on := p.on || on, abandoned := p.abandoned || f.clamped.getLsbD p.target || (p.on && !on) }

/-- After a change: tests are abandoned; for every output whose expected state changed the instant is noted and its readback
timers are cleared (R369, R384). -/
def fldSettle (s : State) (f : Fld) : State :=
  let g := { f with pulse := f.pulse.map fun (p : Option Pulse) => p.map (pulseWatch f) }
  let dif := anyLeg (s.fld.expLegs ^^^ g.expLegs) ||| (s.fld.expOn ^^^ g.expOn)
  let clear := fun (t : Fin 20) (a : Option Nat) => if dif.getLsbD t then none else a
  let t : State := { s with fld := { g with
    changeAt := vimap (fun t a => if dif.getLsbD t then s.tb else a) g.changeAt
    rbOnSince := vimap clear g.rbOnSince
    rbOffSince := vimap clear g.rbOffSince } }
  f.pulse.toList.foldl (fun (t : State) (p : Option Pulse) => match p with
    | some p => if (pulseWatch f p).abandoned && !p.abandoned then testAbandon p t else t
    | none => t) t

/-! ### Sampling (R351, R352, R358, R359) -/

/-- A group's supply stands above 19.2 V and has for 100 ms. -/
def supplyHigh (s : State) (mv : Nat) (f : Fld) (g : Fin 2) : Bool :=
  decide (1920 < mv) && (f.fsLong.getLsbD g || (match f.fsHighAt[g] with
    | some t => decide (t + 100 * ms ≤ s.tb)
    | none => false))

/-- A group starts with FSx_OK = 1 where its supply has been above 19.2 V for 100 ms, else in SAG or MISSING (R577). -/
def supplyStart (s : State) (fs : Fin 2 → Nat) (f : Fld) (g : Fin 2) : Fld :=
  if supplyHigh s (fs g) f g then f
  else if s.pwr.fsOk.getLsbD g then { f with sag := putBit f.sag g.val true }.fault S.FLD_SAG (0xFE + g.val) 0
  else { f with gone := putBit f.gone g.val true }.fault S.FLD_MISSING (0xFE + g.val) 0

/-- The field configuration that comes into use; the first after a device reset restarts the die's fault state (R602) and
judges the supplies (R577). -/
def fldLoad (s : State) (c : List Word) (fs : Fin 2 → Nat) : State :=
  let f := { s.fld with cfg := c, cfgCrc := fieldCrc c, cfgNew := none }
  if f.cfgLoaded then fldSettle s f
  else
    let f := { f with cfgLoaded := true, siOk := 0xFFFFFFFF, siPat := 0, siThr := 0, soOk := 0xFFFFF, wdg := false, tpHeld := 0, queue := [],
                      find := Vector.replicate 8 0, findPrev := Vector.replicate 8 0, incons := 0, inconsRun := 0 }
    fldSettle s ((List.finRange 2).foldl (supplyStart s fs) f)

/-- Raw states: at or above V_ON reads 1, at or below V_OFF reads 0, unchanged between; both at once is inconsistent and
leaves a free value. -/
def rawOf (io : FieldIn) (prev : BitVec 32) (fv : Word) : BitVec 32 :=
  let both := io.atOn &&& io.atOff
  ((io.atOn ||| (prev &&& ~~~io.atOff)) &&& ~~~both) ||| (fv &&& both)

/-- One integrator and its filtered state (R359). -/
def filtStep (lim : Nat) (raw : Bool) (x : Nat) (si : Bool) : Nat × Bool :=
  let y := if raw then min (x + 1) lim else x - 1
  (y, if y = 0 then false else if y = lim then true else si)

/-- Inputs at one sample instant: raw states, filters, FLD.THR at the second inconsistent sample in a row. -/
def fldInputs (io : FieldIn) (fv : Word) (f : Fld) : Fld :=
  let raw := rawOf io f.raw fv
  let step := fun (i : Fin 32) => filtStep (f.filtLim i) (raw.getLsbD i) f.x[i] (f.si.getLsbD i)
  let both := io.atOn &&& io.atOff
  let bad := both &&& f.incons
  let g := { f with raw := raw, x := Vector.ofFn fun i => (step i).1,
                    si := (List.finRange 32).foldl (fun b (i : Fin 32) => putBit b i.val (step i).2) f.si,
                    incons := both, inconsRun := bad, siOk := f.siOk &&& ~~~bad, siThr := f.siThr ||| bad }
  g.faults S.FLD_THR (bad &&& ~~~f.inconsRun) 0 0

/-- Instants of the latest inconsistent samples. -/
def fldInconsAt (now : Nat) (f : Fld) : Fld :=
  { f with inconsAt := vimap (fun i a => if f.incons.getLsbD i then some now else a) f.inconsAt }

/-! ### Test patterns (R361-R364) -/

/-- Findings of a check instant: inputs that read 1 on both sides, judged by their generator. -/
def tpFindings (f : Fld) (g : Fin 8) (low both : BitVec 32) : BitVec 32 :=
  both &&& bvOf 32 fun i =>
    if f.siTp i = g.val then !low.getLsbD i
    else if f.siTp i < 8 then low.getLsbD i
    else f.siXchk i && low.getLsbD i

/-- The check whose second sample has come: a finding in two frames in a row takes SI_OK down and is a fault. -/
def tpJudge (rawBefore : BitVec 32) (f : Fld) : Fld :=
  match f.check with
  | none => f
  | some (g, low) =>
    let now := tpFindings f g low (rawBefore &&& f.raw)
    let bad := now &&& f.find[g]
    let new := bad &&& ~~~f.findPrev[g]
    let miss := bvOf 32 fun i => f.siTp i == g.val
    let h := { f with check := none, find := f.find.set g now, findPrev := f.findPrev.set g f.find[g],
                      siOk := f.siOk &&& ~~~bad, siPat := f.siPat ||| bad }
    (h.faults S.FLD_TPAT (new &&& miss) 0 (64 + g)).faults S.FLD_CROSS (new &&& ~~~miss) 0 (64 + g)

/-! ### Readback and legs (R368-R372) -/

/-- RB and RBL at one sample (R368). -/
def rbOf (f : Fld) (io : FieldIn) : BitVec 20 :=
  let low : BitVec 16 := (if f.low.getLsbD 0 then 0x00FF else 0) ||| (if f.low.getLsbD 1 then 0xFF00 else 0)
  let so := io.so15 ||| (io.so11 &&& low) ||| (f.rb.extractLsb' 0 16 &&& ~~~io.so5)
  io.sl20 ++ so

/-- Outputs whose checks of R370 are not suspended: 100 µs since a change or an off-pulse, and no off-pulse test of their own. -/
def checkable (now : Nat) (f : Fld) : BitVec 20 :=
  let under : BitVec 20 := (List.finRange 2).foldl (fun b (g : Fin 2) => match f.pulse[g] with
    | some p => putBit b p.target.val true
    | none => b) (f.strays.foldl (fun b x => putBit b x.target.val true) 0)
  (List.finRange 20).foldl (fun b (t : Fin 20) => putBit b t.val (!under.getLsbD t && decide (f.changeAt[t] + 100 * us ≤ now))) 0

/-- SO that share the node of a step-0 target: both outputs lose their fault bit, FLD.CROSS names them (R372). -/
def crossJudge (f : Fld) : Fld :=
  (List.finRange 2).foldl (fun f (g : Fin 2) => match f.after[g] with
    | none => f
    | some (i, js) =>
      let hit := js &&& f.rb
      let ok := if hit = 0 then f.soOk else putBit (f.soOk &&& ~~~hit) i.val false
      { f with after := f.after.set g none, soOk := ok }.faults S.FLD_CROSS hit 32 (32 + i)) f

/-- Output checks of one sample (R370): legs, SL that carry current, readback timers, thermal shutdown. -/
def fldOutputs (now : Nat) (io : FieldIn) (f : Fld) : Fld :=
  let c := checkable now f
  let free := c &&& ~~~f.clamped
  let legs := io.legCA ++ io.legBC ++ io.legAB
  let exp := f.expLegs
  let on := f.expOn
  let legOn := legs &&& ~~~exp &&& (free ++ free ++ free)
  let legOff := exp &&& ~~~legs &&& (free ++ free ++ free)
  let sl := f.rb &&& ~~~on &&& c &&& 0xF0000
  let stuck := f.rb &&& ~~~on &&& c &&& 0x0FFFF
  let none' := ~~~f.rb &&& on &&& c &&& 0x0FFFF
  let hot := io.thermal &&& ~~~f.clamp
  let since := fun (b : BitVec 20) (t : Fin 20) (a : Option Nat) => if b.getLsbD t then some (a.getD now) else none
  let g := { f with legs := legs, legOn := legOn, legOnRun := legOn &&& f.legOn, legOff := legOff, legOffRun := legOff &&& f.legOff,
                    slOn := sl, slOnRun := sl &&& f.slOn, thermal := io.thermal, stuckHeld := f.stuckHeld &&& stuck,
                    rbOnSince := vimap (since stuck) f.rbOnSince, rbOffSince := vimap (since none') f.rbOffSince,
                    soOk := f.soOk &&& ~~~(anyLeg (legOn &&& f.legOn)) &&& ~~~(sl &&& f.slOn), clamp := f.clamp ||| hot }
  let g := g.faults S.FLD_LEG_ON (anyLeg (legOn &&& f.legOn &&& ~~~f.legOnRun)) 32 0
  let g := g.faults S.FLD_LEG_OFF (anyLeg (legOff &&& f.legOff &&& ~~~f.legOffRun)) 32 0
  let g := g.faults S.FLD_STUCK (sl &&& f.slOn &&& ~~~f.slOnRun) 32 0
  g.faults S.FLD_OVL hot 32 0

/-- The legs AB, BC, CA of one output. -/
def legsOf (v : BitVec 60) (t : Nat) : BitVec 3 := bvOf 3 fun i => v.getLsbD (20 * i + t)

/-- Off-pulses under way take note of the sample (R372, R374). -/
def pulseSample (f : Fld) : Fld :=
  let exp := f.expLegs
  { f with pulse := f.pulse.map fun (p : Option Pulse) => p.map fun (p : Pulse) =>
    { p with rbIn := f.rb, legs := legsOf f.legs p.target, expect := legsOf exp p.target, sampled := true } }

/-- The sample frame (R352). -/
def sampleFrame (f : Fld) : Frame :=
  let flags : BitVec 5 := bvOf 5 fun i =>
    if i < 2 then !f.sunk.getLsbD i else if i < 4 then f.low.getLsbD (i - 2) else f.wdg
  sealFrame [BitVec.ofNat 32 (f.snum.toNat + 65536 * f.fpos), f.si, f.siOk, f.rb.setWidth 32,
    BitVec.ofNat 32 (f.soOk.toNat + 2 ^ 20 * flags.toNat), f.cfgCrc, f.evt]

/-- Everything that a sample instant does. -/
def fieldSampleEff (io : FieldIn) (s : State) : State :=
  let s := match s.fld.sampleAt with | some a => if s.fld.links != 0 then s.at (a + 2500) else s | none => s
  let fs := fun (g : Fin 2) => if g = 0 then io.fsA else io.fsB
  let high := vimap (fun g (a : Option Nat) => if 1920 < (fs g).toNat then some (a.getD s.tb) else none) s.fld.fsHighAt
  let long := s.fld.fsLong &&& bvOf 2 fun g => high.toList.getD g none |>.isSome
  let s := { s with fld := { s.fld with fs := Vector.ofFn fs, fsHighAt := high, fsLong := long } }
  let s := match s.fld.cfgNew with | some c => fldLoad s c (fun g => (fs g).toNat) | none => s
  let before := s.fld.raw
  let f := tpJudge before (fldInconsAt s.tb (fldInputs io s.fv { s.fld with sampleAt := some s.tb }))
  let f := pulseSample (fldOutputs s.tb io (crossJudge { f with rb := rbOf f io }))
  let s : State := fldSettle (s.took 1) f
  let fr := sampleFrame s.fld
  let s : State := { s with fld := { s.fld with snum := s.fld.snum + 1, fpos := (s.fld.fpos + 1) % 400 } }
  if s.fld.links = 0 then s else s.send [.sample s.fld.links fr]

/-- FIELD_SAMPLE (R351): 2,500 ticks after the one before while a link is present. -/
def execFieldSample (io : FieldIn) (s : State) : Host.Outcome State Fault Refusal :=
  .next (if s.fldRuns then fieldSampleEff io s else s)

/-! ### Test pulses (R361, R363, R365) -/

/-- The latest sample instant begins the interval of generator g. -/
def tpInterval (f : Fld) (g : Fin 8) : Bool := (f.fpos + 399) % 400 == 50 * g.val

/-- A generator may drive: neither held off for overload nor in a group in SAG or MISSING. -/
def tpFree (f : Fld) (g : Fin 8) : Bool := !f.tpHeld.getLsbD g && !f.sunk.getLsbD (g.val / 4)

/-- Generator g is in its off-pulse at an instant (R361). -/
def Fld.tpLow (f : Fld) (now : Nat) (g : Fin 8) : Bool :=
  match f.tpPulse with | some p => p.1 == g && decide (p.2 ≤ now + 12 * us ∧ now < p.2) | none => false

/-- TP_PULSE (R361): 4 µs after the instant, for 12 µs. -/
def execTpPulse (g : Fin 8) (s : State) : Host.Outcome State Fault Refusal :=
  .next (match s.fld.sampleAt with
    | some a =>
      if s.fldRuns && tpInterval s.fld g && tpFree s.fld g then
        let t := s.at (a + 4 * us)
        { t with fld := { t.fld with tpPulse := some (g, t.tb + 12 * us) } }
      else s
    | none => s)

/-- TP_CHECK (R363): 15 µs after the instant; the finding is taken at the next sample instant. -/
def execTpCheck (g : Fin 8) (low : BitVec 32) (s : State) : Host.Outcome State Fault Refusal :=
  .next (match s.fld.sampleAt with
    | some a =>
      if s.fldRuns && tpInterval s.fld g then
        let t := s.at (a + 15 * us)
        { t with fld := { t.fld with check := some (g, low) } }
      else s
    | none => s)

/-- TP_OVL_TIMER (R365). -/
def execTpOvlTimer (g : Fin 8) (s : State) : Host.Outcome State Fault Refusal :=
  .next (if s.fldRuns && tpFree s.fld g then
      { s with fld := { s.fld with tpHeld := putBit s.fld.tpHeld g true }.fault S.FLD_TP_OVL (64 + g) 0 }
    else s)

/-! ### Drive frames (R353, R354, R371, R374, R380, R382) -/

/-- Test field of a group: target and step. -/
def testField (w : BitVec 16) (g : Fin 2) : Nat × Nat :=
  if g = 0 then (bitsOf w.toNat 4 0, bitsOf w.toNat 6 5) else (bitsOf w.toNat 12 8, bitsOf w.toNat 14 13)

/-- A target of the group. -/
def testTargetOk (g : Fin 2) (t : Nat) : Bool := if g = 0 then decide (t < 8) else decide (8 ≤ t ∧ t < 20)

/-- An island acts on the test field of its frame (R374): it starts a pulse, takes part in the one its scan started, or acts alone. -/
def pulseStart (now : Nat) (l : Fin 3) (w : BitVec 16) (r : BitVec 16) (f : Fld) (g : Fin 2) : Fld :=
  let t := testField w g
  if !testTargetOk g t.1 then f
  else match f.pulse[g] with
    | none =>
      let p : Pulse :=
        { target := ⟨t.1 % 20, Nat.mod_lt _ (by decide)⟩, step := BitVec.ofNat 2 t.2, links := putBit 0 l.val true, refresh := r,
          at' := now, rbBefore := f.rb, rbIn := f.rb, legs := 0, expect := 0, sampled := false, on := false, abandoned := false }
      { f with pulse := f.pulse.set g (some p) }
    | some p =>
      if p.refresh == r && p.target.val == t.1 && p.step.toNat == t.2 then
        { f with pulse := f.pulse.set g (some { p with links := putBit p.links l.val true }) }
      else { f with strays := ⟨g, l, ⟨t.1 % 20, Nat.mod_lt _ (by decide)⟩, BitVec.ofNat 2 t.2, now⟩
                      :: f.strays.filter fun x => x.grp != g || x.link != l }

/-- The core compares the test fields of the frames accepted with one REFRESH: where they differ, no verdict is taken and FLD.TSYNC is
raised (R376). -/
def testCompare (r : BitVec 16) (f : Fld) (g : Fin 2) : Fld :=
  let from' := (List.finRange 3).filter fun l => f.accAt[l].isSome && f.refresh[l] == some r
  let fields := from'.map fun l => testField f.test[l] g
  if fields.all (· == fields.headD (0, 0)) then f
  else
    let f := { f with pulse := f.pulse.set g (f.pulse[g].map fun (p : Pulse) => { p with differ := p.differ || p.refresh == r }) }
    if f.tsync[g] == some r then f else { f with tsync := f.tsync.set g (some r) }.fault S.FLD_TSYNC 0xFD 0xFD

/-- Frames on two links in each of two scans in a row end the expired state (R382). -/
def wdRecover (l : Fin 3) (r : BitVec 16) (f : Fld) : Fld :=
  let same := f.accRefresh == some r
  let follows := match f.accRefresh with | some a => r == a + 1 && decide (2 ≤ popcount f.accLinks) | none => false
  let links := if same then putBit f.accLinks l.val true else putBit (0 : BitVec 3) l.val true
  let n := if same || follows then f.recover else 0
  let n := if popcount links = 2 && !(same && decide (2 ≤ popcount f.accLinks)) then n + 1 else n
  { f with accRefresh := some r, accLinks := links, recover := n, expired := f.expired && decide (n < 2) }

/-- Overloaded outputs are released that frames on two links command OFF (R371). -/
def ovlRelease (f : Fld) : Fld :=
  let off := fun (t : Nat) => (List.finRange 3).filter fun l => f.accAt[l].isSome && !f.cmd[l].getLsbD t
  { f with clamp := f.clamp &&& bvOf 20 fun t => decide ((off t).length < 2) }

/-- An accepted drive frame. -/
def driveEff (l : Fin 3) (f : Frame) (s : State) : State :=
  let r := BitVec.ofNat 16 (fw f 0)
  let w := BitVec.ofNat 16 (fw f 2)
  let d := s.fld
  let d := { d with cmd := d.cmd.set l (BitVec.ofNat 20 (fw f 1)), refresh := d.refresh.set l (some r),
                    eack := d.eack.set l (BitVec.ofNat 8 (fw f 0 / 65536)), test := d.test.set l w, accAt := d.accAt.set l (some s.tb) }
  if s.fldRuns then
    let d := { d with frameAt := some s.tb, armed := d.armed || d.cfgLoaded }
    fldSettle s ([0, 1].foldl (testCompare r) ([0, 1].foldl (pulseStart s.tb l w r) (ovlRelease (wdRecover l r d)).ack))
  else fldSettle s d

/-- Field of FLD_LINK_ERR of a link. -/
def linkErr (l : Fin 3) : RegField := match l with | 0 => R.FLD_LINK_ERR_A | 1 => R.FLD_LINK_ERR_B | 2 => R.FLD_LINK_ERR_C

/-- DRIVE_FRAME_RECEIVE (R354): on a link that carries symbols. -/
def execDriveFrameReceive (l : Fin 3) (f : Frame) (s : State) : Host.Outcome State Fault Refusal :=
  .next (if !s.fld.links.getLsbD l then s
    else if !(frameGood f && f.length == 4) then
      let t := s.add (linkErr l) 1
      if s.fldRuns then { t with fld := t.fld.fault S.FLD_FRAME 0xFD l } else t
    else if s.fld.refresh[l] == some (BitVec.ofNat 16 (fw f 0)) then s
    else driveEff l f s)

/-- ISLAND_TIMEOUT (R354): 1.5 scan periods without an accepted frame. -/
def execIslandTimeout (l : Fin 3) (s : State) : Host.Outcome State Fault Refusal :=
  .next (match s.fld.accAt[l] with
    | some a =>
      let t := s.at (a + s.fld.period + s.fld.period / 2)
      fldSettle t { t.fld with cmd := t.fld.cmd.set l 0, accAt := t.fld.accAt.set l none }
    | none => s)

/-- The device with a lane changed. -/
def State.lane (s : State) (l : Fin 3) (f : Lane → Lane) : State :=
  { s with lan := { s.lan with lanes := vmod s.lan.lanes l f } }

/-- A link stops toggling: its island releases its legs (R21). -/
def linkSilent (l : Fin 3) (s : State) : State :=
  let t := fldSettle s { s.fld with links := putBit s.fld.links l.val false, cmd := s.fld.cmd.set l 0, accAt := s.fld.accAt.set l none }
  t.lane l fun x => { x with quietAt := some (x.quietAt.getD s.tb) }

/-- FDL_LINK_SILENT (R21). -/
def execFdlLinkSilent (l : Fin 3) (s : State) : Host.Outcome State Fault Refusal :=
  .next (if s.fld.links.getLsbD l then linkSilent l s else s)

/-- FDL_LINK_SYNC_GAIN (R351): the lane's domain is on; the first link after a reset sets the phase. -/
def execFdlLinkSyncGain (l : Fin 3) (s : State) : Host.Outcome State Fault Refusal :=
  .next (if s.dom l && !s.lan.lanes[l].stopped then
      let t := s.lane l fun x => { x with quietAt := none }
      { t with fld := { t.fld with links := putBit t.fld.links l.val true } }
    else s)

/-! ### Off-pulse tests (R372-R376) -/

/-- Faults that a test found: a leg that still conducts, readback with no leg, a leg that fails, no ON state (R374, R375). -/
def testFaults (p : Pulse) : List Src :=
  let rb := p.rbIn.getLsbD p.target
  (if p.legs &&& ~~~p.expect = 0 then [] else [S.FLD_LEG_ON])
    ++ (if p.legs = 0 ∧ rb = true then [S.FLD_STUCK] else [])
    ++ (if p.expect &&& ~~~p.legs = 0 then [] else [S.FLD_LEG_OFF])
    ++ (if p.legs = p.expect ∧ p.expect ≠ 0 ∧ rb = false then [S.FLD_OVL] else [])

/-- SO that a step-0 pulse of another output took down while they were expected OFF (R372). -/
def pulledDown (f : Fld) (p : Pulse) : BitVec 20 :=
  if p.step = 0 ∧ p.sampled = true then putBit (p.rbBefore &&& ~~~p.rbIn &&& ~~~f.expOn &&& 0x0FFFF) p.target.val false else 0

/-- The end of an off-pulse: no verdict, abandoned, or judged. -/
def pulseEnd (g : Fin 2) (p : Pulse) (s : State) : State :=
  let watch := pulledDown s.fld p
  let f := { s.fld with pulse := s.fld.pulse.set g none, changeAt := s.fld.changeAt.set p.target s.tb,
                        after := s.fld.after.set g (if watch = 0 then none else some (p.target, watch)) }
  if p.differ then fldSettle { s with regs := testStat 3 p s.regs } f
  else if p.abandoned then fldSettle s f
  else if !p.on || !p.sampled then testAbandon p (fldSettle s f)
  else
    let l := testFaults p
    let f := l.foldl (fun f c => f.fault c (32 + p.target) 0) f
    let f := { f with soOk := if l.contains S.FLD_LEG_ON || l.contains S.FLD_STUCK then putBit f.soOk p.target.val false else f.soOk,
                      clamp := if l.contains S.FLD_OVL then putBit f.clamp p.target.val true else f.clamp }
    fldSettle { s with regs := testStat (if l.isEmpty then 0 else 1) p s.regs } f

/-- The island tests of a group that end by an instant. -/
def strayEnds (g : Fin 2) (s : State) : State :=
  let ended := s.fld.strays.filter fun x => x.grp == g && decide (x.at' + s.fld.width x.target * 1000 ≤ s.tb)
  fldSettle s { s.fld with
    strays := s.fld.strays.filter fun x => !ended.contains x
    changeAt := ended.foldl (fun v x => v.set x.target s.tb) s.fld.changeAt }

/-- The next end of an off-pulse in a group: its pulse, or a test on which one island acts. -/
def nextPulseEnd (g : Fin 2) (f : Fld) : Option Nat :=
  (((f.pulse[g].toList).map fun p => p.at' + f.width p.target * 1000)
    ++ ((f.strays.filter fun x => x.grp == g).map fun x => x.at' + f.width x.target * 1000)).min?

/-- OFF_PULSE_END (R374): at the end of the width set. -/
def execOffPulseEnd (grp : Fin 2) (s : State) : Host.Outcome State Fault Refusal :=
  .next (match nextPulseEnd grp s.fld with
    | none => s
    | some e =>
      let t := strayEnds grp (s.at e)
      match t.fld.pulse[grp] with
      | some p => if p.at' + t.fld.width p.target * 1000 ≤ e then pulseEnd grp p t else t
      | none => t)

/-! ### Output timers (R370, R371) -/

/-- STUCK_TIMER_EXPIRE (R370): RB has stayed 1 for TOFF_MS. -/
def execStuckTimerExpire (t : Fin 20) (s : State) : Host.Outcome State Fault Refusal :=
  .next (match s.fld.rbOnSince[t] with
    | some a =>
      if s.fld.stuckHeld.getLsbD t || !s.fldRuns then s
      else
        let s := s.at (a + s.fld.toff t * ms)
        { s with fld := { s.fld with soOk := putBit s.fld.soOk t.val false, stuckHeld := putBit s.fld.stuckHeld t.val true }.fault
                    S.FLD_STUCK (32 + t) 0 }
    | none => s)

/-- OUTPUT_OVL_TIMER (R370, R371): RB has stayed 0 for 1 ms. -/
def execOutputOvlTimer (t : Fin 20) (s : State) : Host.Outcome State Fault Refusal :=
  .next (match s.fld.rbOffSince[t] with
    | some a =>
      if s.fldRuns then
        let s := s.at (a + ms)
        fldSettle s ({ s.fld with clamp := putBit s.fld.clamp t.val true, rbOffSince := s.fld.rbOffSince.set t none }.fault
          S.FLD_OVL (32 + t) 0)
      else s
    | none => s)

/-- GROUP_OVL_TIMER (R371): all SO of the group are clamped. -/
def execGroupOvlTimer (g : Fin 2) (s : State) : Host.Outcome State Fault Refusal :=
  .next (if s.fldRuns && s.pwr.fsOk.getLsbD g then
      fldSettle s ({ s.fld with clamp := s.fld.clamp ||| (grpOuts g &&& 0x0FFFF) }.fault S.FLD_GRP_OVL (0xFE + g) 0)
    else s)

/-! ### Supplies (R377, R378) -/

/-- FS_LOW_ENTER (R377). -/
def execFsLowEnter (g : Fin 2) (s : State) : Host.Outcome State Fault Refusal :=
  .next (if s.fldRuns && s.fld.cfgLoaded && !s.fld.low.getLsbD g then
      { s with fld := { s.fld with low := putBit s.fld.low g.val true }.fault S.FLD_LOW (0xFE + g) 0 }
    else s)

/-- FS_LOW_LEAVE (R377). -/
def execFsLowLeave (g : Fin 2) (s : State) : Host.Outcome State Fault Refusal :=
  .next (if s.fldRuns then { s with fld := { s.fld with low := putBit s.fld.low g.val false } } else s)

/-- A group enters SAG or MISSING. -/
def supplyFault (c : Src) (g : Fin 2) (f : Fld) : Fld :=
  { f with sag := if c == S.FLD_SAG then putBit f.sag g.val true else f.sag,
           gone := if c == S.FLD_MISSING then putBit f.gone g.val true else f.gone,
           fsHighAt := f.fsHighAt.set g none, fsLong := putBit f.fsLong g.val false }.fault c (0xFE + g) 0

/-- FS_SAG (R377). -/
def execFsSag (g : Fin 2) (s : State) : Host.Outcome State Fault Refusal :=
  .next (if s.fldRuns && s.fld.cfgLoaded && !s.fld.sag.getLsbD g then fldSettle s (supplyFault S.FLD_SAG g s.fld) else s)

/-- FS_MISSING (R377): the AO monitor bit falls too (R31); with both supplies gone the core stops, every output OFF (R20). -/
def execFsMissing (g : Fin 2) (s : State) : Host.Outcome State Fault Refusal :=
  .next (if !s.pwr.fsOk.getLsbD g then s
    else
      let t := { s with pwr := { s.pwr with fsOk := putBit s.pwr.fsOk g.val false } }
      if t.fldRuns && t.fld.cfgLoaded && !t.fld.gone.getLsbD g then fldSettle t (supplyFault S.FLD_MISSING g t.fld)
      else
        let gone := if t.fld.cfgLoaded && !t.fldRuns then 3 else t.fld.gone
        fldSettle t { t.fld with gone := gone, fsHighAt := t.fld.fsHighAt.set g none, fsLong := putBit t.fld.fsLong g.val false })

/-- FIELD_SUPPLY_RETURN (R31). -/
def execFieldSupplyReturn (g : Fin 2) (s : State) : Host.Outcome State Fault Refusal :=
  .next { s with pwr := { s.pwr with fsOk := putBit s.pwr.fsOk g.val true } }

/-! ### Watchdog (R380-R382) -/

/-- Every pulse ends, without a verdict (R384). -/
def endPulses (s : State) : State :=
  let t := s.fld.pulse.toList.foldl (fun (t : State) (p : Option Pulse) => match p with
    | some p => if p.abandoned then t else testAbandon p t
    | none => t) s
  fldSettle t { t.fld with pulse := Vector.replicate 2 none, strays := [] }

/-- WATCHDOG_EXPIRE (R381): no sooner than 0.95 of its time after the latest accepted frame (R380). -/
def execWatchdogExpire (s : State) : Host.Outcome State Fault Refusal :=
  .next (match s.fld.frameAt with
    | some a =>
      if s.fldRuns && s.fld.armed && !s.fld.expired then
        let t := s.at (a + s.fld.wdScans * s.fld.period * 95 / 100)
        endPulses (fldSettle t { t.fld with expired := true, wdg := true, recover := 0, accRefresh := none, accLinks := 0 })
      else s
    | none => s)

/-! ### Configuration and deliberate reset (R355, R378, R382, R383) -/

/-- The good configuration frames on links that carry symbols (R355, R487). -/
def configFrames (links : BitVec 3) (frames : Vector (Option Frame) 3) : List Frame :=
  (List.finRange 3).filterMap fun l =>
    frames[l].filter fun f => links.getLsbD l && frameGood f && f.length == 87

/-- The configuration that at least two of some frames carry, complete and equal. -/
def configVote (l : List Frame) : Option (List Word) :=
  (l.find? fun f => decide (2 ≤ (l.filter (· == f)).length)).map List.dropLast

/-- FIELD_CONFIG_RECEIVE (R355): complete and equal on at least two links; a frame that fails its CRC is discarded. -/
def execFieldConfigReceive (frames : Vector (Option Frame) 3) (s : State) : Host.Outcome State Fault Refusal :=
  .next (match configVote (configFrames s.fld.links frames) with
    | some c => if s.fldRuns then { s with fld := { s.fld with cfgNew := some c } } else s
    | none => s)

/-- Inputs without a finding at any check of the last two frames (R383). -/
def patClean (f : Fld) : BitVec 32 :=
  ~~~((List.finRange 8).foldl (fun b g => b ||| f.find[g] ||| f.findPrev[g]) (0 : BitVec 32))

/-- Inputs without an inconsistent sample in the last 10 ms (R383). -/
def thrClean (now : Nat) (f : Fld) : BitVec 32 :=
  bvOf 32 fun i => match f.inconsAt.toList.getD i none with | some a => decide (a + 10 * ms < now) | none => true

/-- Inputs whose SI_OK may return: each kind of fault that took it down meets its condition (R383). -/
def siClean (now : Nat) (f : Fld) : BitVec 32 := (patClean f ||| ~~~f.siPat) &&& (thrClean now f ||| ~~~f.siThr)

/-- Outputs whose fault bit may return: expected OFF, RB or RBL 0, no leg conducts. -/
def soClean (f : Fld) : BitVec 20 := ~~~(f.expOn ||| f.rb ||| anyLeg f.legs)

/-- The groups whose supply has stayed above 19.2 V for 100 ms. -/
def supplyGood (now : Nat) (f : Fld) : BitVec 2 :=
  f.fsLong ||| bvOf 2 fun g => match f.fsHighAt.toList.getD g none with | some a => decide (a + 100 * ms ≤ now) | none => false

/-- The clearings of a deliberate reset. -/
def fldClear (s : State) : State :=
  let f := s.fld
  let good := supplyGood s.tb f
  fldSettle s { f with tpHeld := 0, sag := f.sag &&& ~~~good, gone := f.gone &&& ~~~good, wdg := false,
                       siOk := f.siOk ||| siClean s.tb f, siPat := f.siPat &&& ~~~patClean f, siThr := f.siThr &&& ~~~thrClean s.tb f,
                       soOk := f.soOk ||| soClean f }

/-- FIELD_RESET_FRAME (R528): delivered on at least two links in a scan in which the lanes sent it. -/
def execFieldResetFrame (links : BitVec 3) (s : State) : Host.Outcome State Fault Refusal :=
  .next (if s.lan.fldReset && s.fldRuns && decide (2 ≤ popcount (links &&& s.fld.links)) then
      fldClear { s with lan := { s.lan with fldReset := false } }
    else s)

end Sys2Proof.Machine
end

