-- ==== Sys2Proof/Machine/Ports.lean ====
section
/-! DEFINITION. Valve ports: discovery, the slot exchange, the sluice at the port, bursts, link loss (chapter 06). -/

namespace Sys2Proof.Machine

/-- The device with a valve port changed. -/
def State.port (s : State) (n : Fin 16) (f : Port → Port) : State :=
  { s with vpt := { s.vpt with ports := vmod s.vpt.ports n f } }

/-- A port is enabled and has its domain. -/
def State.portOn (s : State) (n : Fin 16) : Bool :=
  s.dom 7 && (s.r R.VPT_EN_EN).testBit n && !s.vpt.ports[n].dead

/-! ### Frames (R174-R177) -/

/-- DISCOVER. -/
def discoverFrame (n : Nat) (dseq : BitVec 8) : Frame :=
  sealFrame [BitVec.ofNat 32 (2 + n * 2 ^ 16 + dseq.toNat * 2 ^ 24)]

/-- CONFIG. -/
def configFrame (n : Nat) (cfgid : BitVec 8) (len : Nat) (cable : BitVec 8) : Frame :=
  sealFrame [BitVec.ofNat 32 (3 + n * 2 ^ 16 + cfgid.toNat * 2 ^ 24), BitVec.ofNat 32 (len % 2 ^ 17),
    BitVec.ofNat 32 cable.toNat]

/-- HALT. -/
def haltFrame (seq : BitVec 8) : Frame := sealFrame [BitVec.ofNat 32 (4 + seq.toNat * 2 ^ 16)]

/-- The body of FIRE: five bits a valve (R176). -/
def fireBody (fire : Nat → Bool) (phase : Nat → Nat) : List Word :=
  let bits := ((List.range 128).map fun v => (b2n (fire v) + 2 * (phase v % 16)) * 2 ^ (5 * v)).sum
  (List.range 20).map fun i => BitVec.ofNat 32 (bits / 2 ^ (32 * i))

/-- FIRE (R175, R176, R189). -/
def fireFrame (armed : Bool) (burst : Option (BitVec 7)) (seq cfgid : BitVec 8) (fire : Nat → Bool) (phase : Nat → Nat) :
    Frame :=
  sealFrame (BitVec.ofNat 32 (1 + 16 * b2n armed + 32 * b2n burst.isSome + 256 * (burst.getD 0).toNat
    + seq.toNat * 2 ^ 16 + cfgid.toNat * 2 ^ 24) :: fireBody fire phase)

/-! ### Drops and link loss (R201-R204) -/

/-- A frame is dropped and counted (R201). -/
def vpDrop (n : Fin 16) (crc : Bool) (s : State) : State :=
  raise S.VPT_FRAME 0 (s.add (if crc then R.VPT_PORT_ERR_CRC else R.VPT_PORT_ERR_VIOL) 1 n)

/-- Link loss (R204). -/
def portLoss (n : Fin 16) (cause : Nat) (s : State) : State :=
  raise S.VPT_LINK (n.val + 16 * cause)
    { s with vpt := { s.vpt with ports := vmod s.vpt.ports n fun p => { p with st := .lost, await := false, halt := false } },
             regs := rput (radd s.regs R.VPT_PORT_MISS_LOSSES 1 n) R.VPT_READY_LOSS
               (s.r R.VPT_READY_LOSS ||| 2 ^ n.val) }

/-- What a received frame of one type and length meets first: out of synchronisation it is discarded (R173); a bad CRC,
another type or length, or a port that does not expect it drops it (R201). -/
def vpReceive (n : Fin 16) (f : Frame) (typ words : Nat) (expected : Bool) (eff : State → State) (s : State) : State :=
  if !s.dom 7 || !s.vpt.ports[n].sync then s
  else if f.length != words then vpDrop n false s
  else if !frameGood f then vpDrop n true s
  else if fw f 0 % 16 != typ || !expected then vpDrop n false s
  else eff s

/-! ### Discovery (R182-R186) -/

/-- A DISCOVER leaves, and the port searches. -/
def discover (n : Fin 16) (s : State) : State :=
  let d := s.vpt.ports[n].dseq + 1
  (s.port n fun p => { p with st := .search, dseq := d, await := false }).send [.port n (discoverFrame n d)]

/-- DISCOVER_SEND (R182): an enabled port that is not ready, where link loss leads back to discovery (R204). -/
def execDiscoverSend (n : Fin 16) (s : State) : Host.Outcome State Fault Refusal :=
  let p := s.vpt.ports[n]
  .next (if s.portOn n && (p.st == .off || p.st == .search || (p.st == .lost && s.rb R.VPT_CTRL_AUTO)) then discover n s
    else s)

/-- CONFIG leaves with a fresh CFGID, the present slot length and the measured line delay (R185). -/
def sendConfig (n : Fin 16) (s : State) : State :=
  let p := s.vpt.ports[n]
  let id := p.cfgid + 1
  (s.port n fun p => { p with st := .config, cfgid := id, await := false }).send
    [.port n (configFrame n id s.slot.len p.cable)]

/-- The identity of an IDENT is accepted (R183). -/
def identOk (s : State) (n : Fin 16) (f : Frame) : Bool :=
  let vendor := bitsOf (fw f 1) 15 0
  let product := bitsOf (fw f 1) 31 16
  let ev := s.r R.VPT_PORT_EXP_MVENDOR n
  let ep := s.r R.VPT_PORT_EXP_MPRODUCT n
  bitsOf (fw f 0) 7 4 == 1 && (ev == 0 || ev == vendor) && (ep == 0 || ep == product)
    && (vendor != 0xFFFF || s.rb R.VPT_PORT_REQ_ALLOW_DEV n)
    && decide (s.r R.VPT_PORT_REQ_MIN_VALVE n ≤ bitsOf (fw f 0) 15 8)

/-- A good IDENT is judged: identity, then line delay (R183, R184); CONFIG follows (R185). -/
def identEff (n : Fin 16) (f : Frame) (rtt : Nat) (s : State) : State :=
  let cable := (rtt - 10000 + 10) / 20
  if !identOk s n f then raise S.VPT_IDENT 0 s
  else if 255 < cable then raise S.VPT_CABLE 0 s
  else
    let h := fw f 0
    let m := rput (rput s.regs R.VPT_PORT_ID_MPRODUCT (bitsOf (fw f 1) 31 16) n) R.VPT_PORT_ID_MVENDOR (bitsOf (fw f 1) 15 0) n
    let m := rput m R.VPT_PORT_SER_SERIAL (fw f 2) n
    let m := rput (rput m R.VPT_PORT_VER_CAP_BURST (bitsOf h 24 24) n) R.VPT_PORT_VER_PVER (bitsOf h 7 4) n
    let m := rput (rput m R.VPT_PORT_VER_FW (bitsOf (fw f 3) 15 8) n) R.VPT_PORT_VER_HW (bitsOf (fw f 3) 7 0) n
    sendConfig n { s with
      regs := m
      vpt := { s.vpt with ports := vmod s.vpt.ports n fun p =>
        { p with cable := BitVec.ofNat 8 cable, nvalve := BitVec.ofNat 8 (bitsOf h 15 8), capBurst := h.testBit 24 } } }

/-- IDENT_RECEIVE (R183). -/
def execIdentReceive (n : Fin 16) (f : Frame) (rtt : Nat) (s : State) : Host.Outcome State Fault Refusal :=
  .next (vpReceive n f 9 6 (s.vpt.ports[n].st == .search) (identEff n f rtt) s)

/-- A good CONFIG_ACK: a matching one with MSTATE READY makes the port READY (R185). -/
def configAckEff (n : Fin 16) (f : Frame) (s : State) : State :=
  let p := s.vpt.ports[n]
  let h := fw f 0
  if bitsOf h 31 24 != p.cfgid.toNat then vpDrop n false s
  else
    let ready := bitsOf h 23 16 == n.val && bitsOf h 6 4 == 1
    s.port n fun p => { p with mstate := BitVec.ofNat 3 (bitsOf h 6 4), st := if ready then .ready else p.st,
                               consec := if ready then 0 else p.consec, armed0 := p.armed0 && !ready,
                               armed1 := p.armed1 && !ready }

/-- CONFIG_ACK_RECEIVE (R185). -/
def execConfigAckReceive (n : Fin 16) (f : Frame) (s : State) : Host.Outcome State Fault Refusal :=
  .next (vpReceive n f 10 2 (s.vpt.ports[n].st == .config) (configAckEff n f) s)

/-- CONFIG_ACK_TIMEOUT (R185): DISCOVER again. -/
def execConfigAckTimeout (n : Fin 16) (s : State) : Host.Outcome State Fault Refusal :=
  .next (if s.portOn n && s.vpt.ports[n].st == .config then discover n s else s)

/-- A change of slot length reconfigures a READY port: HALT, then CONFIG (R186). -/
def reconfigure (n : Fin 16) (s : State) : State :=
  if s.portOn n && s.vpt.ports[n].st == .ready then
    sendConfig n ((s.port n fun p => { p with halt := false }).send [.port n (haltFrame s.vpt.ports[n].seq)])
  else s

/-! ### The slot exchange (R187-R191, R202, R203) -/

/-- Coil status of valve v in a STATUS (R177). -/
def coilOf (f : Frame) (v : Nat) : Nat := fw f (1 + v / 16) / 4 ^ (v % 16) % 4

/-- The coil status of a good STATUS: each change from OK to another code is raised and counted (R205). -/
def coilEff (n : Fin 16) (f : Frame) (s : State) : State :=
  let old := s.vpt.ports[n].coil
  let changed := (List.range 128).filter fun v => bitsOf old.toNat (2 * v + 1) (2 * v) == 0 && coilOf f v != 0
  let new := BitVec.ofNat 256 (((List.range 128).map fun v => coilOf f v * 4 ^ v).sum)
  changed.foldl (fun s v => raise S.VPT_COIL (n.val + 16 * v + 4096 * coilOf f v) (s.stat 8 (128 * n.val + v) 1))
    (s.port n fun p => { p with coil := new })

/-- A request is over: BUSY falls. -/
def burstEnd (flag : RegField) (s : State) : State :=
  { s with regs := rput (rput s.regs R.VPT_BURST_STAT_BUSY 0) flag 1, vpt := { s.vpt with burst := none } }

/-- The answer of a STATUS to a burst request: BPEND, or a refusal after the fourth frame (R199). -/
def burstAnswer (n : Fin 16) (bpend : Bool) (s : State) : State :=
  match s.vpt.burst with
  | some b =>
    if b.port != n || b.accepted || b.tries = 0 then s
    else if bpend then { s with vpt := { s.vpt with burst := some { b with accepted := true } } }
    else if b.tries < 4 then s
    else burstEnd R.VPT_BURST_STAT_REFUSED s
  | none => s

/-- A good STATUS that answers the frame of its own slot, within the bound of R191: the slot is no error slot (R202). -/
def statusAnswer (n : Fin 16) (f : Frame) (s : State) : State :=
  let p := s.vpt.ports[n]
  if bitsOf (fw f 0) 15 8 == p.seq.toNat && p.await then
    burstAnswer n ((fw f 0).testBit 7) (s.port n fun p => { p with consec := 0, await := false })
  else s

/-- A good STATUS: module state, coil status, burst answer, link loss (R187, R202, R203). One whose SEQ is not the slot's
leaves the slot an error slot, and still shows the module's state, so that a module in LOST or FAULT is seen (R181). -/
def statusEff (n : Fin 16) (f : Frame) (s : State) : State :=
  let p := s.vpt.ports[n]
  let h := fw f 0
  let m := bitsOf h 6 4
  if bitsOf h 31 24 != p.cfgid.toNat then vpDrop n false s
  else
    let t := (statusAnswer n f s).port n fun p => { p with mstate := BitVec.ofNat 3 m }
    let t := raiseIf (m == 4) S.VPT_MOD_FAULT 0 (coilEff n f t)
    if m = 3 then portLoss n 1 t
    else if m = 4 then portLoss n 2 t
    else if m = 1 && p.armed0 && p.armed1 then portLoss n 3 t
    else t

/-- STATUS_RECEIVE (R187). -/
def execStatusReceive (n : Fin 16) (f : Frame) (s : State) : Host.Outcome State Fault Refusal :=
  .next (vpReceive n f 11 10 (s.vpt.ports[n].st == .ready) (statusEff n f) s)

/-- An error slot (R202). -/
def errorSlot (n : Fin 16) (s : State) : State :=
  let c := satAdd 8 s.vpt.ports[n].consec.toNat 1
  let t := { s with vpt := { s.vpt with ports := vmod s.vpt.ports n fun p => { p with consec := BitVec.ofNat 8 c, await := false } },
                    regs := radd s.regs R.VPT_PORT_MISS_SLOTS 1 n }
  if s.r R.VPT_ERR_LIM_LIM ≤ c then portLoss n 0 t else t

/-- STATUS_DEADLINE (R202): at T_k + 8,000 ns no good STATUS has come. -/
def execStatusDeadline (n : Fin 16) (s : State) : Host.Outcome State Fault Refusal :=
  .next (if s.dom 7 && s.vpt.ports[n].st == .ready && s.vpt.ports[n].await && s.comes (s.slot.tick s.slot.k + 800) then
      errorSlot n (s.at (s.slot.tick s.slot.k + 800))
    else s)

/-! ### Bursts (R199, R200) -/

/-- The effect of a write of VPT_BURST_CTRL. -/
def burstCtrlEff (val : Word) (s : State) : State :=
  let n : Fin 16 := ⟨bitsOf val.toNat 3 0, by simp [bitsOf]; omega⟩
  let v := bitsOf val.toNat 10 4
  let p := s.vpt.ports[n]
  let s := { s with regs := rput (rput s.regs R.VPT_BURST_CTRL_VALVE v) R.VPT_BURST_CTRL_PORT n }
  if !val.getLsbD 31 || s.rb R.VPT_BURST_STAT_BUSY then s
  else if p.st != .ready || !p.capBurst then s.w R.VPT_BURST_STAT_REFUSED 1
  else { s with regs := rput s.regs R.VPT_BURST_STAT_BUSY 1,
                vpt := { s.vpt with burst := some ⟨n, BitVec.ofNat 7 v, 0, s.slot.k, false⟩ } }

/-- BURST_GO (R199). -/
def execBurstGo (val : BitVec 32) (s : State) : Host.Outcome State Fault Refusal :=
  .next (hostWr 0x30010 (burstCtrlEff val) s)

/-- A good BURST fills VPT_BURST_DATA and sets DONE (R200). -/
def burstEff (n : Fin 16) (f : Frame) (s : State) : State :=
  if bitsOf (fw f 0) 31 24 != s.vpt.ports[n].cfgid.toNat then vpDrop n false s
  else
    let data := (List.range 32).foldl (fun m i => mput 0 m (0x30800 + 4 * i) (f.getD (i + 1) 0)) s.regs
    burstEnd R.VPT_BURST_STAT_DONE { s with regs := rput data R.VPT_BURST_STAT_SEQ (bitsOf (fw f 0) 23 16) }

/-- BURST_RECEIVE (R200): expected while a burst of this port is outstanding. -/
def execBurstReceive (n : Fin 16) (f : Frame) (s : State) : Host.Outcome State Fault Refusal :=
  let expected := match s.vpt.burst with | some b => b.port == n && s.vpt.ports[n].st == .ready | none => false
  .next (vpReceive n f 12 34 expected (burstEff n f) s)

/-- BURST_TIMEOUT (R200): 256 slots after the request. -/
def execBurstTimeout (s : State) : Host.Outcome State Fault Refusal :=
  .next (match s.vpt.burst with
    | some b => if s.dom 7 && decide (b.slot + 256 ≤ s.slot.k) then burstEnd R.VPT_BURST_STAT_TIMEOUT s else s
    | none => s)

/-! ### Line and sluice -/

/-- VP_FRAME_DROP (R201): a frame whose fault the line shows; out of synchronisation it is discarded (R173). -/
def execVpFrameDrop (n : Fin 16) (crc : Bool) (s : State) : Host.Outcome State Fault Refusal :=
  .next (if s.dom 7 && s.vpt.ports[n].sync then vpDrop n crc s else s)

/-- VP_SYNC_LOSS (R173). -/
def execVpSyncLoss (n : Fin 16) (s : State) : Host.Outcome State Fault Refusal :=
  .next (s.port n fun p => { p with sync := false })

/-- VP_SYNC_GAIN (R173). -/
def execVpSyncGain (n : Fin 16) (s : State) : Host.Outcome State Fault Refusal :=
  .next (if s.dom 7 then s.port n fun p => { p with sync := true } else s)

/-- HALT_SEND (R196): every READY port that owes a HALT sends it. -/
def execHaltSend (s : State) : Host.Outcome State Fault Refusal :=
  let owes := fun (n : Fin 16) => s.dom 7 && s.vpt.ports[n].st == .ready && s.vpt.ports[n].halt
  .next (State.send
    { s with vpt := { s.vpt with ports := vimap (fun n p => if owes n then { p with halt := false } else p) s.vpt.ports } }
    (((List.finRange 16).filter owes).map fun n => .port n (haltFrame s.vpt.ports[n].seq)))

/-- The sluice closes: every READY port owes a HALT (R196). -/
def Vpt.closing (v : Vpt) : Vpt :=
  { v with ports := vimap (fun _ p => { p with halt := p.halt || p.st == .ready }) v.ports }

end Sys2Proof.Machine
end

