-- ==== Sys2Proof/Machine/Lanes.lean ====
section
/-! DEFINITION. The safety lanes: sample frames, retirement, second faults, requests for self-test and re-admission, the
repair timer (chapter 08). -/

namespace Sys2Proof.Machine

/-- Ticks in n hours. -/
def hours (n : Nat) : Nat := n * 360000000000

/-! ### Sluice legs and retire lines (R27, R196, R254) -/

/-- The sluice legs change; where the sluice closes, the ports owe a HALT (R196). -/
def setLegs (b : BitVec 3) (v : Vpt) : Vpt :=
  let w := { v with legs := b }
  if v.sluiceOpen && !w.sluiceOpen then w.closing else w

/-- A lane's retire lines are asserted: its evaluator stops, its FDL transmitter is quiet, its sluice leg CLOSED (R254). -/
def laneQuiet (l : Fin 3) (s : State) : State :=
  let t := s.lane l fun x => { x with quietAt := some (x.quietAt.getD s.tb), mid := none, res := none }
  { t with vpt := setLegs (putBit s.vpt.legs l.val false) s.vpt }

/-- Retirements of a lane within the last 24 h of timebase time (R269). -/
def retires24 (s : State) (l : Fin 3) : Nat := (s.lan.lanes[l].retireAt.filter fun t => decide (s.tb ≤ t + hours 24)).length

/-- A lane is retired, for a cause of LAN_RETIRE. -/
def retire (l : Fin 3) (cause : Nat) (s : State) : State :=
  let t := laneQuiet l (s.lane l fun x =>
    { x with retired := true, retireAt := (s.tb :: x.retireAt).take 255, autoDue := some (s.tb + 100000000) })
  (t.w R.LAN_RETIRE_CAUSE cause l).stat 1 l 1

/-! ### Requests and second faults (R263, R264, R269-R274) -/

/-- RESULT and LANE of LAN_CSTAT. -/
def lanResult (res lane : Nat) (s : State) : State :=
  { s with regs := rput (rput (rput s.regs R.LAN_CSTAT_RESULT res) R.LAN_CSTAT_LANE lane) R.LAN_CSTAT_NEW 1 }

/-- A request fails: FAILED; the lane of a TEST that has begun becomes retired (R272). -/
def joinEnd (cause : Nat) (s : State) : State :=
  match s.lan.join with
  | none => s
  | some j =>
    let t := lanResult 3 j.lane { s with lan := { s.lan with join := none } }
    if j.test && j.zero.isSome then retire j.lane cause t else t

/-- A failed self-test or transfer: causes 8 and 9 of LAN_RETIRE, for a lane that stays retired too, with the source. -/
def joinFail (c : Src) (s : State) : State :=
  let cause := if c == S.LAN_STEST then 8 else 9
  let t := match s.lan.join with
    | some j => if j.test then s else s.w R.LAN_RETIRE_CAUSE cause j.lane
    | none => s
  raise c 0 (joinEnd cause t)

/-- A second fault (R264, R273): LAN.SECOND once while its condition lasts; a request under way ends. -/
def secondFault (cond : Nat) (s : State) : State :=
  let first := !s.lan.secondHeld.getLsbD cond && !s.lan.secondNow.getLsbD cond
  raiseIf first S.LAN_SECOND 0 (joinEnd 9 { s with lan := { s.lan with secondNow := putBit s.lan.secondNow cond true } })

/-- A fault of R259 in a lane in service, with its source unless another raising has reported it: it retires the lane where
three are in service, and is a second fault in a recovery window (R259, R264). -/
def laneFault (l : Fin 3) (cause : Nat) (c : Option Src) (s : State) : State :=
  if s.lan.svcCount = 3 then
    let t := retire l cause s
    let t := match c with | some c => raise c 0 t | none => t
    if s.lan.join.isSome then secondFault (8 * l.val + cause) t else t
  else secondFault (8 * l.val + cause) s

/-- RESULT with which a request for lane l is refused, in the order of R269; 0 = none. -/
def laneWhy (s : State) (test : Bool) (l : Fin 3) : Nat :=
  let x := s.lan.lanes[l]
  let anyRetired := (List.finRange 3).any fun i => s.lan.lanes[i].retired
  if s.lan.join.isSome then 5
  else if test then
    if anyRetired then 4 else if !s.inMode [.run, .maintain] then 5 else 0
  else if !x.retired || !s.dom l || s.inMode [.boot, .safeHold, .lockdown] || decide (3 ≤ retires24 s l) then 5
  else 0

/-- A request for one lane is accepted or refused. -/
def laneRequest (test : Bool) (l : Fin 3) (s : State) : State :=
  let why := laneWhy s test l
  if why = 0 then
    lanResult 1 l { s with lan := { s.lan with join := some { lane := l, test := test, step := 0, zero := none, selfDone := false,
                                                              ok := true } } }
  else lanResult why l s

/-- A write of LAN_CTRL: one bit makes a request, several are refused (R269). -/
def lanCtrlEff (readmit test : BitVec 3) (s : State) : State :=
  match (List.finRange 3).filter fun l => readmit.getLsbD l.val || test.getLsbD l.val with
  | [] => s
  | l :: _ => if popcount readmit + popcount test = 1 then laneRequest (test.getLsbD l.val) l s else lanResult 5 l s

/-- LANE_READMIT_REQ (R269). -/
def execLaneReadmitReq (bits : BitVec 3) (s : State) : Host.Outcome State Fault Refusal :=
  .next (hostWr 0x40014 (lanCtrlEff bits 0) s)

/-- LANE_TEST_REQ (R269). -/
def execLaneTestReq (bits : BitVec 3) (s : State) : Host.Outcome State Fault Refusal :=
  .next (hostWr 0x40014 (lanCtrlEff 0 bits) s)

/-- AUTO_READMIT (R274): 1 s after a retirement, once, where R269 allows it. -/
def execAutoReadmit (l : Fin 3) (s : State) : Host.Outcome State Fault Refusal :=
  .next (match s.lan.lanes[l].autoDue with
    | some due =>
      if s.rb R.LAN_CFG_AUTO && s.comes due then
        let t := (s.at due).lane l fun x => { x with autoDue := none }
        if laneWhy t false l = 0 then laneRequest false l t else t
      else s
    | none => s)

/-- The reloaded image of the current bank passes (R293). -/
def reloadOk (s : State) : Bool :=
  match s.cfg.cur, s.lan.image with
  | some b, some im =>
    let img := imageBytes (s.nv.bank b)
    !s.cfg.readsFail && !imageRefused img && (readImage img).sig == im.sig
  | _, _ => false

/-- LANE_SELFTEST_DONE (R270, R272): step 2 ends; the operands give its outcome and whether the reloaded image is refused. -/
def execLaneSelftestDone (pass refuse : Bool) (s : State) : Host.Outcome State Fault Refusal :=
  .next (match s.lan.join with
    | some j =>
      if j.step != 1 || j.selfDone then s
      else if pass && !refuse && reloadOk s then { s with lan := { s.lan with join := some { j with selfDone := true } } }
      else joinFail S.LAN_STEST s
    | none => s)

/-! ### Sample frames and lane SRAM (R240, R43, R44, R259) -/

/-- A sample frame is sound: eight words and its CRC. -/
def sampleGood (f : Frame) : Bool := frameGood f && f.length == 8

/-- The lane keeps its two latest good frames; one that fails is discarded (R240). -/
def laneFrame (l : Fin 3) (f : Frame) (s : State) : State :=
  if !s.dom l || s.lan.lanes[l].stopped then s
  else if !sampleGood f then raise S.FLD_FRAME (0xFD + 256 * l.val) s
  else s.lane l fun x => { x with frames := f :: x.frames.take 1 }

/-- The copy of a good frame reaches the timers on its own receive-only path (R470). -/
def copyFrame (l : Fin 3) (f : Frame) (s : State) : State :=
  if s.dom 4 && sampleGood f then { s with tmr := timerFrame s.regs l (BitVec.ofNat 16 (fw f 0)) (f.getD 1 0) s.tb s.tmr } else s

/-- SAMPLE_FRAME_RECEIVE (R240, R470): at the lane of its link and at the timers. -/
def execSampleFrameReceive (l : Fin 3) (f : Frame) (s : State) : Host.Outcome State Fault Refusal :=
  .next (copyFrame l f (laneFrame l f (s.order 4)))

/-- A lane meets an uncorrectable codeword: it stops at once (R259); before the lanes scan it is retired at once (R262). The source
is raised in a lane that has stopped too (R43). -/
def laneEccU (l : Fin 3) (s : State) : State :=
  let x := s.lan.lanes[l]
  let t := raise S.LAN_ECC_U 0
    (if x.stopped then s else s.lane l fun x => { x with stopped := true, eccStop := true, mid := none, res := none })
  if x.stopped || s.lan.run || x.retired then t else retire l 6 t

/-- A lane's variables after an error that went undetected: a byte of them is free (R41; log entry 6). -/
def laneScramble (l : Fin 3) (s : State) : State :=
  (s.lane l fun x => { x with vars := mput 0 x.vars (s.fv.toNat % 16384) ((s.fv 1).setWidth 8) }).took 2

/-- LANE_SRAM_SCRUB (R44). -/
def execLaneSramScrub (l : Fin 3) (ecc : Ecc) (s : State) : Host.Outcome State Fault Refusal :=
  .next (if !s.dom l then s
    else match ecc with
    | .clean => s
    | .corrected a b => raise S.LAN_ECC_C 0 (s.lane l fun x => { x with eccSym := a :: b.toList })
    | .uncorrectable => laneEccU l s
    | .undetected => laneScramble l s)

/-! ### Repair timer and recurrence (R260, R266) -/

/-- Some lane is retired. -/
def anyRetired (s : State) : Bool := (List.finRange 3).any fun l => s.lan.lanes[l].retired

/-- The repair timer at a scan boundary, `dt` ticks after the one before: it starts, runs, or is reloaded. -/
def repairScan (dt : Nat) (s : State) : State :=
  let full := hours (s.r R.LAN_CFG_REPAIR_H)
  if anyRetired s then
    let left := if s.lan.repairRun then s.keep.repairLeft - dt else if s.keep.repairKept then s.keep.repairLeft else full
    { s with lan := { s.lan with repairRun := true }, keep := { s.keep with repairLeft := left } }
  else if s.lan.svcCount = 3 then
    { s with lan := { s.lan with repairRun := false, repairExpired := false },
             keep := { s.keep with repairLeft := full, repairKept := false } }
  else s

/-- REPAIR_TIMER_EXPIRE (R260): once, and not before the end of Boot (R518). -/
def execRepairTimerExpire (s : State) : Host.Outcome State Fault Refusal :=
  .next (if s.lan.repairRun && !s.lan.repairExpired && s.sys.mode != .boot && s.comes (s.lan.boundary + s.keep.repairLeft) then
      let t := s.at (s.lan.boundary + s.keep.repairLeft)
      raise S.LAN_REPAIR 0 { t with lan := { t.lan with repairExpired := true } }
    else s)

/-- Run and Degraded time since the latest CMP.XY, at a scan boundary `dt` ticks after the one before (R266). -/
def recurScan (dt : Nat) (s : State) : State :=
  if s.keep.recur && s.inMode [.run, .degraded] then { s with keep := { s.keep with recurTicks := s.keep.recurTicks + dt } } else s

/-- RECUR_CLEAR (R266): 24 h of operation in Run or Degraded without CMP.XY. -/
def execRecurClear (s : State) : Host.Outcome State Fault Refusal :=
  let due := s.lan.boundary + (hours 24 - s.keep.recurTicks)
  .next (if s.keep.recur && s.inMode [.run, .degraded] && s.comes due then
      let t := s.at due
      { t with keep := { t.keep with recur := false, recurTicks := 0 } }
    else s)

end Sys2Proof.Machine
end

