-- ==== Sys2Proof/Machine/Descriptors.lean ====
section
/-! DEFINITION. Spoil descriptors: fetching, admission, forwarded parts, completion (chapters 02, 04, 05, R425-R429). -/

namespace Sys2Proof.Machine

/-! ### Fields of a descriptor (R120, R121) -/

def dOp (d : RawDesc) : Nat := bitsOf d.w0.toNat 3 0
def dClass (d : RawDesc) : Nat := bitsOf d.w0.toNat 7 4
def dIrqNow (d : RawDesc) : Bool := d.w0.getLsbD 8
def dQuiet (d : RawDesc) : Bool := d.w0.getLsbD 9
def dTicket (d : RawDesc) : Nat := bitsOf d.w0.toNat 31 16
/-- The arithmetic of R56 is signed and 64 bits wide, so the detection time is read as such (log entry 61). -/
def dDet (d : RawDesc) : Int := ofTwos 64 (d.w1.toNat + 2 ^ 32 * d.w2.toNat)
def dCol (d : RawDesc) : Nat := bitsOf d.w3.toNat 13 0
def dNcol (d : RawDesc) : Nat := bitsOf d.w3.toNat 21 16
def dDur (d : RawDesc) : Nat := bitsOf d.w4.toNat 5 0
def dXdly (d : RawDesc) : Nat := bitsOf d.w4.toNat 15 8
def dDl (d : RawDesc) : Nat := bitsOf d.w4.toNat 23 16

/-- A descriptor breaks R120 or R121. -/
def fmtBad (d : RawDesc) : Bool :=
  let op := dOp d
  let mark := op == 1 || op == 2
  let words := d.w1 == 0 && d.w2 == 0 && d.w3 == 0 && d.w4 == 0
  let t := dTicket d
  decide (5 < op) || bitsOf d.w0.toNat 15 10 != 0 || bitsOf d.w3.toNat 15 14 != 0 || bitsOf d.w3.toNat 31 22 != 0
    || bitsOf d.w4.toNat 7 6 != 0 || bitsOf d.w4.toNat 31 24 != 0 || d.w6 != 0
    || (!mark && dClass d != 0) || (!mark && !words)
    || (op == 1 && dDl d != 0)
    || (match op with
      | 2 => decide (32767 < t) && t != 0xFFFF
      | 3 => decide (32767 < t)
      | 4 => decide (32767 < t)
      | _ => t != 0)

/-- The CRC of word 7 passes (R123, R124). -/
def descCrcOk (d : RawDesc) : Bool := crc32 (frameBytes [d.w0, d.w1, d.w2, d.w3, d.w4, d.w5, d.w6]) == d.w7

/-! ### Fetching (R142, R103, R124) -/

/-- Descriptors in staging. -/
def State.stagedCount (s : State) : Nat := (s.dsc.flights.filter (·.phase == .staged)).length

/-- Entries that the maximum read request size in force allows: 128, 256 or 512 bytes (R79, R142). -/
def CfgSpace.readEntries (c : CfgSpace) : Nat := 4 * 2 ^ min 2 (c.devCtl.toNat / 2 ^ 12 % 8)

/-- Entries of the next read request: at most 16 and what the maximum read request size allows, within head and tail, the room in
staging and the ring's end. -/
def fetchSize (s : State) : Nat :=
  let rg := s.rings[0]
  let size := s.ringSize 0
  let out := s.dsc.fetchOut.sum
  let first := (rg.idx + out) % size
  min (min 16 s.hif.cfg.readEntries) (min ((rg.db + size - rg.idx) % size - out) (min (4096 - s.stagedCount - out) (size - first)))

/-- RING_FETCH (R142), with at most 64 requests outstanding (R79). -/
def execRingFetch (s : State) : Host.Outcome State Fault Refusal :=
  let n := fetchSize s
  let first := (s.rings[0].idx + s.dsc.fetchOut.sum) % s.ringSize 0
  .next (if s.dom 4 && s.dmaOk && s.rings[0].en && !s.rb R.HIF_DMA_STAT_HALT && n != 0 && decide (s.dsc.fetchOut.length < 64) then
      { s with dsc := { s.dsc with fetchOut := s.dsc.fetchOut ++ [n] }, tx := Tx.fetch (s.ringAddr 0 first) first n :: s.tx }
    else s)

/-- One fetched entry enters staging; its CRC is checked and word 7 set to zero (R124). -/
def stageOne (s : State) (d : RawDesc) : State :=
  let ok := descCrcOk d
  let f : Flight := { id := s.dsc.nextId, raw := { d with w7 := 0 }, phase := if ok then .staged else .finished,
                      status := if ok then .ok else .crc }
  let rg := s.rings[0]
  let t := { s with dsc := { s.dsc with flights := s.dsc.flights ++ [f], nextId := s.dsc.nextId + 1 },
                    rings := s.rings.set 0 { rg with idx := (rg.idx + 1) % s.ringSize 0 } }
  let t := ringCount { t with evs := { t.evs with telStgMax := max t.evs.telStgMax t.stagedCount } } 0 false
  raiseIf (!ok) S.HIF_DESC_CRC 0 t

/-- FETCH_COMPLETION (R124): the data of the oldest read request. -/
def execFetchCompletion (ds : List RawDesc) (s : State) : Host.Outcome State Fault Refusal :=
  .next (match s.dsc.fetchOut with
    | n :: l =>
      if s.dom 4 && s.dom 5 && ds.length == n then ds.foldl stageOne { s with dsc := { s.dsc with fetchOut := l } } else s
    | [] => s)

/-- FETCH_ERROR (R103): the k-th oldest request fails and fetching halts. The requests before it go on; it and those after it are
discarded, since fetching restarts at the first entry not yet fetched (log entry 65). -/
def execFetchError (s : State) (k : BitVec 6 := 0) : Host.Outcome State Fault Refusal :=
  .next (if s.dsc.fetchOut.length ≤ k.toNat || !s.dom 5 then s
    else raise S.HIF_DMA_ERR 0
      { s with dsc := { s.dsc with fetchOut := s.dsc.fetchOut.take k.toNat },
               regs := rput (rput s.regs R.HIF_DMA_STAT_HALT 1) R.HIF_DMA_STAT_RING (s.r R.HIF_DMA_STAT_RING ||| 1) })

/-- The effect of a write of HIF_DMA_CTRL. -/
def dmaCtrlEff (val : Word) (s : State) : State := if val.getLsbD 0 then s.w R.HIF_DMA_STAT_HALT 0 else s

/-- DMA_RESUME (R103). -/
def execDmaResume (s : State) : Host.Outcome State Fault Refusal := .next (hostWr 0x10024 (dmaCtrlEff 1) s)

/-! ### From detection time to slots (R55-R63) -/

/-- First ring-wide column that the device owns (R52). -/
def State.colBase (s : State) : Nat := 2048 * s.ringId

/-- A band of cells: local columns with their first slots, rows, smallest and largest target slot. -/
structure Band where
  cols : List (Nat × Int)
  nr : Nat
  kmin : Int
  kmax : Int
deriving DecidableEq, Repr

/-- The band of a mark over the device's own columns that are not suppressed (R56, R230). -/
def bandOf (s : State) (d : RawDesc) : Band :=
  let q := dClass d
  let nr := min (dDur d + 1 + s.r R.CIS_CLS_STRETCH q) 64
  let sdet := s.slot.slotOf (dDet d)
  let own := ((List.range (dNcol d + 1)).map (dCol d + ·)).filter fun c => s.colBase ≤ c ∧ c < s.colBase + 2048
  let cols := ((own.map (· - s.colBase)).filter fun c => !s.cis.suppressed c).map fun c =>
    (c, sdet + s.r R.CIS_DLY_DELAY c + dXdly d + ofTwos 8 (s.r R.CIS_CLS_OFFSET q))
  ⟨cols, nr, minZ (cols.map (·.2)), maxZ (cols.map (·.2)) + nr - 1⟩

/-- Admission lead in ticks (R61). -/
def State.lead (s : State) : Nat := s.r R.CIS_LEAD_LEAD_US * us

/-- Slot k is open to a descriptor admitted now (R61). -/
def slotOpen (s : State) (k : Int) : Bool := decide ((s.tb : Int) + s.lead ≤ s.slot.tickZ k)

/-- The first open slot. -/
def firstOpen (s : State) : Int := s.slot.k0 - (s.slot.e - ((s.tb : Int) + s.lead)) / s.slot.len

/-- A timebase value of 64 bits. -/
def tick64 (s : State) (k : Int) : Nat := (s.slot.tickZ k % 2 ^ 64).toNat

/-- The range tests of R62, R63, R127, R152, R166, R230 and R429. -/
def rangeBad (s : State) (f : Flight) (b : Band) : Bool :=
  let d := f.raw
  let last := dCol d + dNcol d
  let owns := fun (c : Nat) => decide (s.colBase ≤ c ∧ c < s.colBase + 2048)
  let kd := s.slot.slotOf s.tb
  decide (2048 * s.ndev ≤ last)
    || (if f.peer.isSome then !(owns (dCol d) && owns last) else !(owns (dCol d) || owns last))
    || b.cols.isEmpty || decide (kd + 2560 < b.kmax)
    || (dOp d == 2 && decide (b.kmin < kd - 1535))
    || (dOp d == 2 && f.peer.isSome && decide (b.kmin - f.peerDeadline < 2 ∨ 255 < b.kmin - f.peerDeadline))

/-! ### Refusals at admission (R134, R136) -/

/-- The device is locked to the ring's timebase (R419, R422). -/
def State.locked (s : State) : Bool := s.ringId == 0 || s.osr.lock

/-- The mode or the sluice refuses the opcode (R136); an unlocked device refuses a neighbour's part (R427). -/
def inhibited (s : State) (f : Flight) : Bool :=
  let o := dOp f.raw
  !s.inMode [.run, .degraded] || ((o == 1 || o == 2) && !s.vpt.sluiceOpen) || (f.peer.isSome && !s.locked)

/-- Numbers that admitted MARK_SPECs have taken and not yet opened (R126, R157). -/
def takenTickets (fs : List Flight) : List Nat := (fs.filter fun f => f.opens.isSome).filterMap (·.ticket)

/-- Lowest-numbered free ticket (R126). -/
def freeTicket (s : State) : Option Nat :=
  let used := s.tkt.recs.map (·.1) ++ takenTickets s.dsc.flights
  ((List.range (used.length + 1)).find? fun n => !used.contains n).filter (· < 32768)

/-- The number a MARK_SPEC takes. -/
def specTicket (s : State) (d : RawDesc) : Option Nat := if dTicket d = 0xFFFF then freeTicket s else some (dTicket d)

/-- The status with which a MARK or MARK_SPEC is refused (R134). -/
def markRefused (s : State) (f : Flight) (b : Band) : Option Status :=
  let d := f.raw
  if inhibited s f then some .inhibited
  else if dOp d == 2 && (specTicket s d).isNone then some .noTicket
  else if dOp d == 2 && dTicket d != 0xFFFF && (mget s.tkt.recs (dTicket d)).isSome then some .ticketBusy
  else if rangeBad s f b then some .range
  else if decide (dDet d < s.slot.e) || !slotOpen s b.kmax then some .past
  else none

/-! ### Waiting (R137-R141) -/

/-- Credits of the bucket at this instant. -/
def creditsNow (s : State) : Nat := min 102400 (s.dsc.credits + (s.tb - s.dsc.creditAt))

/-- The descriptor whose turn it is: neighbours' parts go ahead of host descriptors (R427). -/
def nextStaged (fs : List Flight) : Option Flight :=
  (fs.find? fun f => f.phase == .staged && f.peer.isSome).or (fs.find? fun f => f.phase == .staged)

/-- A completion entry can be reserved (R141). -/
def cplReserve (s : State) : Bool :=
  let rg := s.rings[1]
  let size := s.ringSize 1
  let waiting := s.dsc.cplq.length + (s.dsc.flights.filter fun f => f.peer.isNone && f.phase != .staged).length
  decide ((rg.idx + size - rg.db) % size + waiting + 1 ≤ size - 1)

/-- The write queues take the codeword writes, at 256 each (R140, R141). -/
def queuesReady (s : State) (ws : List CwWrite) : Bool :=
  (List.finRange 17).all fun p =>
    let n := (ws.filter fun w => s.cis.physOf w.logical == some p).length
    n == 0 || decide (s.cis.phys[p].wq.length + n ≤ 256)

/-- An earlier descriptor that names the same ticket has not completed (R137). -/
def sameTicket (s : State) (f : Flight) : Bool :=
  (dOp f.raw == 2 || dOp f.raw == 3 || dOp f.raw == 4)
    && s.dsc.flights.any fun g => g.phase == .admitted && g.ticket == some (dTicket f.raw)

/-- A FENCE has been admitted and has not completed (R138). -/
def fenceHolds (s : State) : Bool :=
  s.dsc.flights.any fun g => dOp g.raw == 5 && g.phase == .finished && g.status == .ok

/-- Credit, completion entry, no FENCE ahead and fetching not halted, where the descriptor is the host's (R138, R141). -/
def admitReady (s : State) (f : Flight) : Bool :=
  s.dom 4 && !sameTicket s f &&
    (f.peer.isSome || (decide (25 ≤ creditsNow s) && cplReserve s && !fenceHolds s && !s.rb R.HIF_DMA_STAT_HALT))

/-- Change a descriptor. -/
def updFlight (s : State) (id : Nat) (g : Flight → Flight) : State :=
  { s with dsc := { s.dsc with flights := s.dsc.flights.map fun f => if f.id = id then g f else f } }

/-- An admission is made: credit, admission time, telemetry, which counts neighbours' parts too (R61, R139, R145; log entry 69). -/
def admitNow (f : Flight) (s : State) : State :=
  { s with
    dsc := { s.dsc with
      flights := s.dsc.flights.map (fun g => if g.id = f.id then { g with tA := s.tb } else g)
      credits := if f.peer.isSome then s.dsc.credits else creditsNow s - 25
      creditAt := if f.peer.isSome then s.dsc.creditAt else s.tb }
    evs := { s.evs with telAdmit := s.evs.telAdmit + 1 } }

/-- A descriptor finishes at once with a status. -/
def finish (f : Flight) (st : Status) (s : State) : State :=
  updFlight s f.id fun g => { g with phase := .finished, status := st }

/-- The next descriptor has an opcode, keeps R120 and R121, and nothing holds it up; an admission comes last on its REF100 edge
(R600). -/
def withNext (op : Nat) (eff : Flight → State → State) (s : State) : State :=
  match nextStaged s.dsc.flights with
  | some f => if dOp f.raw == op && !fmtBad f.raw && admitReady s f then eff f (s.order 7) else s
  | none => s

/-! ### Forwarded parts (R426-R429) -/

/-- A link is UP. -/
def State.osrUp (s : State) (p : Fin 2) : Bool := s.dom 7 && s.osr.links[p].st == .up

/-- The link towards the eastern (0) or western (1) neighbour: the direct one, else the other way round (R426). -/
def pathTo (s : State) (side : Fin 2) : Option (Fin 2) :=
  if s.osrUp side then some side else if s.osrUp (1 - side) then some (1 - side) else none

/-- RING_ID of a neighbour. -/
def neighbour (s : State) (side : Fin 2) : Nat := if side = 0 then s.ringId + 1 else s.ringId - 1

/-- The part of a mark that a neighbour owns: side, first column, columns less one. -/
def foreignPart (s : State) (d : RawDesc) : Option (Fin 2 × Nat × Nat) :=
  let last := dCol d + dNcol d
  if s.colBase + 2048 ≤ last then some (0, s.colBase + 2048, last - (s.colBase + 2048))
  else if dCol d < s.colBase then some (1, dCol d, s.colBase - 1 - dCol d)
  else none

/-- A FWD frame (R416). -/
def fwdFrame (s : State) (side : Fin 2) (d : RawDesc) (ticket first n : Nat) (kdl : Int) : Frame :=
  sealFrame [BitVec.ofNat 32 (3 + 16 * s.ringId + 256 * neighbour s side + 4096 * dOp d + 65536 * dClass d),
    BitVec.ofNat 32 (s.dsc.fseq.toNat + 65536 * ticket), d.w1, d.w2, BitVec.ofNat 32 (first + 65536 * n),
    BitVec.ofNat 32 (dDur d + 256 * dXdly d), d.w5, lo32 (kdl % 2 ^ 64).toNat, hi32 (kdl % 2 ^ 64).toNat]

/-- Send the part of a descriptor to a neighbour; where no path leads there it has failed (R426). -/
def sendFwd (id : Nat) (side : Fin 2) (d : RawDesc) (ticket first n : Nat) (kdl : Int) (s : State) : State :=
  match (if s.locked then pathTo s side else none) with
  | some p =>
    let fr := fwdFrame s side d ticket first n kdl
    let t := updFlight s id fun f => { f with fwd := some ⟨p, s.dsc.fseq, none⟩ }
    { t with dsc := { t.dsc with fseq := t.dsc.fseq + 1 }, regs := radd t.regs R.OSR_FWD_CNT_SENT 1, tx := Tx.osr p fr :: t.tx }
  | none =>
    (updFlight s id fun f => { f with fwd := some ⟨side, 0, some (.forwardFail, 0)⟩ }).add R.OSR_FWD_CNT_FAIL 1

/-! ### The opcodes (R125) -/

/-- ADMIT_NOP (R125). -/
def execAdmitNop (s : State) : Host.Outcome State Fault Refusal :=
  .next (withNext 0 (fun f s => finish f .ok (admitNow f s)) s)

/-- ADMIT_FENCE (R138): every earlier descriptor has completed and its completion has been written. -/
def execAdmitFence (s : State) : Host.Outcome State Fault Refusal :=
  let first := s.dsc.flights.find? fun f => f.peer.isNone
  .next (withNext 5 (fun f s =>
    if first.map (·.id) == some f.id && s.dsc.cplq.isEmpty then finish f .ok (admitNow f s) else s) s)

/-- ADMIT_INVALID_OPCODE (R121): RANGE, and HIF.DESC_FMT (R135), which a neighbour's part does not raise (DESIGN CHOICE, log entry
70). -/
def execAdmitInvalidOpcode (s : State) : Host.Outcome State Fault Refusal :=
  .next (match nextStaged s.dsc.flights with
    | some f =>
      if fmtBad f.raw && admitReady s f then
        let t := finish f .range (admitNow f (s.order 7))
        if f.peer.isNone then raise S.HIF_DESC_FMT 0 t else t
      else s
    | none => s)

/-- The codeword writes of a mark: its cells in open slots. -/
def markWrites (s : State) (f : Flight) (b : Band) : List CwWrite :=
  bandWrites b.cols b.nr (max b.kmin (firstOpen s)) b.kmax (if dOp f.raw = 2 then .incSpec else .incFirm) (some f.id)

/-- A target cell of a mark lies in a dark logical slice (R224). -/
def bandDark (c : Cis) (b : Band) : Bool :=
  b.cols.any fun e => (c.physOf ⟨e.1 / 128 % 16, Nat.mod_lt _ (by decide)⟩).isNone

/-- Writes go to their queues; a mark with a cell in a dark slice is SLICE_LOST. -/
def beginWrites (f : Flight) (ws : List CwWrite) (st : Status) (drain : Nat) (ticket : Option Nat) (opens : Option Ticket)
    (dark : Bool) (s : State) : State :=
  let t := updFlight s f.id fun g =>
    { g with phase := .admitted, status := st, drain := drain, ticket := ticket, opens := opens, sliceLost := g.sliceLost || dark }
  ws.foldl enqueue t

/-- The part beyond the device's edge follows a mark that the host sent. -/
def forwardMark (f : Flight) (ticket : Nat) (kdl : Int) (s : State) : State :=
  if f.peer.isSome then s
  else match foreignPart s f.raw with
    | some (side, first, n) => sendFwd f.id side f.raw ticket first n kdl s
    | none => s

/-- A MARK is carried out (R62, R125). -/
def markEff (f : Flight) (s : State) : State :=
  let b := bandOf s f.raw
  match markRefused s f b with
  | some st => finish f st (admitNow f s)
  | none =>
    let ws := markWrites s f b
    if !queuesReady s ws then s
    else forwardMark f 0 0
      (beginWrites f ws (if slotOpen s b.kmin then .ok else .late) (tick64 s b.kmin) none none (bandDark s.cis b) (admitNow f s))

/-- ADMIT_MARK (R125). -/
def execAdmitMark (s : State) : Host.Outcome State Fault Refusal := .next (withNext 1 markEff s)

/-- The record of a new ticket (R151). -/
def newTicket (s : State) (f : Flight) (b : Band) (due : Int) : Ticket :=
  let d := f.raw
  let lc := max (dCol d) s.colBase - s.colBase
  let hc := min (dCol d + dNcol d) (s.colBase + 2047) - s.colBase
  { state := .open, gen := s.cis.gen, fwd := f.peer.isSome, cls := BitVec.ofNat 4 (dClass d), nr := BitVec.ofNat 6 (b.nr - 1),
    ncol := BitVec.ofNat 6 (hc - lc), lcol := BitVec.ofNat 11 lc, kmin := b.kmin,
    kofs := BitVec.ofNat 12 (max b.kmin (firstOpen s) - b.kmin).toNat, d := BitVec.ofNat 8 (b.kmin - due).toNat,
    tag := d.w5, drain := tick64 s b.kmin, held := f.peer.isSome, deadline := due.toNat, lostPrimary := false,
    lostMirror := false }

/-- A MARK_SPEC is carried out: bookings and counts; its ticket opens when it completes (R157, R163, R164, R166). -/
def specEff (f : Flight) (s : State) : State :=
  let b := bandOf s f.raw
  match markRefused s f b, specTicket s f.raw with
  | some st, _ => finish f st (admitNow f s)
  | none, none => s
  | none, some t =>
    let due : Int := if f.peer.isSome then f.peerDeadline else b.kmin - max (dDl f.raw) 2
    let from' : Int := if s.slot.tickZ due ≤ s.tb then s.slot.slotOf s.tb else due
    let ws := markWrites s f b
    if !queuesReady s ws then s
    else match bookAll (bookLimit s) t from'.toNat ws s.tkt.books with
      | none => (updFlight s f.id fun g => { g with waited := true }).add R.CIS_RES_WAIT_CNT (if f.waited then 0 else 1)
      | some books =>
        let s' := admitNow f s
        forwardMark f t due
          (beginWrites f ws (if slotOpen s b.kmin then .ok else .late) (tick64 s b.kmin) (some t) (some (newTicket s f b due))
            (bandDark s.cis b) { s' with tkt := { s'.tkt with books := books } })

/-- ADMIT_MARK_SPEC (R157). -/
def execAdmitMarkSpec (s : State) : Host.Outcome State Fault Refusal := .next (withNext 2 specEff s)

/-- The side on which a ticket's own part touches the device's edge (R429). -/
def edgeSide (r : Ticket) : Fin 2 := if r.lcol.toNat + r.ncol.toNat = 2047 then 0 else 1

/-- A CONFIRM or REVOKE is carried out: the ticket's written cells in open slots, and the ticket closes (R159, R160). -/
def closeEff (op : CellOp) (f : Flight) (s : State) : State :=
  let t := dTicket f.raw
  if inhibited s f then finish f .inhibited (admitNow f s)
  else match mget s.tkt.recs t with
    | some r =>
      if r.state == .open && decide ((s.tb : Int) < s.slot.tickZ r.due) then
        let ws := ticketWrites s r (firstOpen s) op (some f.id)
        let hi := ticketMax s r
        let st : Status := if slotOpen s (ticketWritten s r) then .ok else if slotOpen s hi then .late else .past
        if !queuesReady s ws then s
        else
          let s' := admitNow f s
          let s' := { s' with tkt := (s'.tkt.upd t { r with state := .closing f.id }).release t }
          let s' := beginWrites f ws st r.drain (some t) none false s'
          if r.fwd && f.peer.isNone then sendFwd f.id (edgeSide r) f.raw t 0 0 0 s' else s'
      else finish f .ticketUnknown (admitNow f s)
    | none => finish f .ticketUnknown (admitNow f s)

/-- ADMIT_CONFIRM, ADMIT_REVOKE (R159). -/
def execAdmitConfirm (s : State) : Host.Outcome State Fault Refusal := .next (withNext 3 (closeEff .confirm) s)
def execAdmitRevoke (s : State) : Host.Outcome State Fault Refusal := .next (withNext 4 (closeEff .dec) s)

/-! ### Completion (R128-R135, R219) -/

/-- The status of a code. -/
def statusOf (n : Nat) : Option Status :=
  [Status.ok, .late, .past, .range, .crc, .ticketBusy, .ticketUnknown, .noTicket, .inhibited, .sliceLost, .forwardFail][n]?

/-- A descriptor has finished its cell writes and its forwarded part has been answered. -/
def completable (s : State) (f : Flight) : Bool :=
  f.phase == .finished || (f.phase == .admitted && !s.cis.writing f.id
    && (match f.fwd with | some p => p.answer.isSome | none => true))

/-- The next descriptor to complete: a neighbour's part that is done, else the first host descriptor (R131). -/
def nextDone (s : State) : Option Flight :=
  (s.dsc.flights.find? fun f => f.peer.isSome && completable s f).or
    (match s.dsc.flights.find? fun f => f.peer.isNone with
      | some f => if completable s f then some f else none
      | none => none)

/-- The status of a descriptor from its own part and the forwarded one (R134). -/
def finalStatus (f : Flight) : Status :=
  if f.phase == .finished then f.status
  else if f.sliceLost then .sliceLost
  else match f.fwd with
    | none => f.status
    | some p => match p.answer with
      | none => .forwardFail
      | some (st, _) =>
        if st != .ok && st != .late && st != .past then .forwardFail
        else if f.status == .ok && st == .ok then .ok
        else if f.status == .past && st == .past then .past
        else .late

/-- The earliest slot tick written by any part; 0 if none was written. -/
def earliest (s : State) (f : Flight) : Nat :=
  let own := f.written.map fun w => s.slot.tick w.2.slot
  let part := match f.fwd with
    | some p => match p.answer with | some (_, t) => if t = 0 then [] else [t] | none => []
    | none => []
  match own ++ part with | [] => 0 | a :: l => l.foldl min a

/-- DRAIN of a completion (R130). -/
def drainOf (s : State) (f : Flight) (st : Status) : Nat :=
  let o := dOp f.raw
  match st with
  | .ok => if o = 0 then 0 else if o = 5 then s.tb else f.drain
  | .late => if o = 3 ∨ o = 4 then f.drain else earliest s f
  | .sliceLost => earliest s f
  | .forwardFail => earliest s f
  | _ => 0

/-- TICKET of a completion (R126, R129). -/
def ticketOf (f : Flight) (st : Status) : Nat :=
  let o := dOp f.raw
  if st == .crc || 5 < o then dTicket f.raw
  else if o = 2 ∨ o = 3 ∨ o = 4 then f.ticket.getD (dTicket f.raw)
  else 0

/-- The cells a MARK_SPEC wrote on slices still in service lose its count again, but for rows drained since (R65, R219). -/
def undo (f : Flight) (s : State) : State :=
  f.written.foldl (fun s e =>
    if s.cis.physOf e.2.logical == some e.1 && !s.slot.drained e.2.slot then
      writeCells e.1 { e.2 with op := .dec, owner := none } s
    else s) s

/-- The neighbour's part stands: answered OK or LATE. -/
def partStands (f : Flight) : Bool :=
  match f.fwd with
  | some p => (match p.answer with | some (a, _) => a == .ok || a == .late | none => false)
  | none => false

/-- What a completion does to the descriptor's ticket (R157, R219, R429). Where R126 and R157 open no ticket on a status other than
OK or LATE, R133 and R166 open the own part's on FORWARD_FAIL: it opens (log entry 67). -/
def ticketDone (f : Flight) (st : Status) (s : State) : State :=
  match f.ticket, f.opens with
  | none, _ => s
  | some t, some r =>
    if st == .sliceLost then undo f { s with tkt := s.tkt.release t }
    else
      let recs := mins s.tkt.recs t { r with fwd := r.held || partStands f }
      { s with tkt := { s.tkt with recs := recs }, regs := rmax s.regs R.CIS_TKT_OPEN_PEAK recs.length }
  | some t, none => { s with tkt := s.tkt.drop t }

/-- An ANS frame (R416). -/
def ansFrame (s : State) (side : Fin 2) (fseq : BitVec 16) (st : Status) (drain : Nat) : Frame :=
  sealFrame [BitVec.ofNat 32 (4 + 16 * s.ringId + 256 * neighbour s side + 65536 * st.code), BitVec.ofNat 32 fseq.toNat,
    lo32 drain, hi32 drain, 0]

/-- The report of a completion: the answer to a neighbour, or the completion entry with its counts (R129, R135, R148). -/
def report (f : Flight) (st : Status) (drain : Nat) (s : State) : State :=
  match f.peer with
  | some (side, fseq) =>
    match pathTo s side with
    | some p => s.send [.osr p (ansFrame s side fseq st drain)]
    | none => s
  | none =>
    let s := { s with regs := if s.dom 5 then radd s.regs R.HIF_STAT_CNT_CNT 1 st.code else s.regs,
                      evs := { s.evs with telLatePast := s.evs.telLatePast + b2n (st == .late || st == .past) } }
    if dQuiet f.raw && st == .ok then
      if dIrqNow f.raw then
        { s with rings := vmod s.rings 1 (fun r => { r with cnt := 0, since := none }),
                 hif := (s.hif.msi (s.r R.HIF_RING_IRQ_VEC 1)).1, tx := (s.hif.msi (s.r R.HIF_RING_IRQ_VEC 1)).2 ++ s.tx }
      else s
    else flushCpl { s with dsc := { s.dsc with cplq := s.dsc.cplq ++
      [⟨st, BitVec.ofNat 4 (dOp f.raw), false, BitVec.ofNat 16 (ticketOf f st), f.raw.w5, drain, dIrqNow f.raw⟩] } }

/-- A descriptor completes. -/
def completeEff (f : Flight) (s : State) : State :=
  let st := finalStatus f
  let drain := if f.peer.isSome then earliest s f else drainOf s f st
  report f st drain (ticketDone f st
    { s with dsc := { s.dsc with flights := s.dsc.flights.filter fun g => g.id != f.id } })

/-- DESC_COMPLETE (R134). -/
def execDescComplete (s : State) : Host.Outcome State Fault Refusal :=
  .next (match nextDone s with
    | some f => if s.dom 4 then completeEff f s else s
    | none => s)

end Sys2Proof.Machine
end

