-- ==== Sys2Proof/Machine/Osrin.lean ====
section
/-! DEFINITION. The Osrin ring: links, the common timebase, forwarded parts, ring safety words (chapter 13). -/

namespace Sys2Proof.Machine

/-! ### Links (R414-R418, R436) -/

/-- The device with an Osrin link changed. -/
def State.link (s : State) (p : Fin 2) (f : OsrLink → OsrLink) : State :=
  { s with osr := { s.osr with links := vmod s.osr.links p f } }

/-- The links are used: the ring has two devices or more and the block is powered (R414). -/
def State.ringed (s : State) : Bool := s.dom 7 && decide (2 ≤ s.ndev)

/-- DETAIL of an OSR source (R439). -/
def osrDetail (link peer cause : Nat) : Nat := link + 256 * peer + 65536 * cause

/-- A link leaves UP for a cause (R418); where the other link is in its recovery window this is a second fault, and that
link's training is abandoned: it enters LOST (R436). -/
def linkLeave (p : Fin 2) (cause : Nat) (s : State) : State :=
  let o := 1 - p
  let t := s.link p fun k => { k with st := if cause = 1 then .down else .lost, cause := BitVec.ofNat 4 cause, consec := 0,
                                      lostAt := s.tb, window := true, time := none, peerCls := none }
  let t := if s.osr.links[o].window then
      t.link o fun k => { k with st := .lost, cause := 3, lostAt := s.tb }
    else t
  raise S.OSR_LINK (osrDetail p.val s.osr.links[p].peer.toNat cause) t

/-- A frame is dropped (R418): counted, OSR.FRAME, and the link leaves UP at the limit. -/
def osrDrop (p : Fin 2) (crc : Bool) (s : State) : State :=
  let n := satAdd 8 s.osr.links[p].consec.toNat 1
  let t := (s.link p fun k => { k with consec := BitVec.ofNat 8 n }).add
    (if crc then R.OSR_LINK_ERR_CRC else R.OSR_LINK_ERR_VIOL) 1 p
  let t := raise S.OSR_FRAME (osrDetail p.val s.osr.links[p].peer.toNat 0) t
  if t.osr.links[p].st == .up && decide (s.r R.OSR_ERR_LIM_LIM ≤ n) then linkLeave p 2 t else t

/-- OSR_FRAME_DROP (R418). -/
def execOsrFrameDrop (p : Fin 2) (crc : Bool) (s : State) : Host.Outcome State Fault Refusal :=
  .next (if s.ringed && s.osr.links[p].sync then osrDrop p crc s else s)

/-- A frame comes in on link p: dropped where its CRC, TYPE, length or a field fails, else taken (R418). -/
def osrTake (p : Fin 2) (typ len : Nat) (bad : Bool) (f : Frame) (eff : State → State) (s : State) : State :=
  if !s.ringed || !s.osr.links[p].sync then s
  else if !frameGood f then osrDrop p true s
  else if fw f 0 % 16 != typ || f.length != len || bad then osrDrop p false s
  else eff (s.link p fun k => { k with consec := 0 })

/-- A link that has synchronisation starts its training. -/
def trainLink (s : State) (p : Fin 2) : State :=
  if s.ringed && s.osr.links[p].sync && s.osr.links[p].st == .down && !s.osr.links[p].dead then
    s.link p fun k => { k with st := .train }
  else s

/-- OSR_SYNC_GAIN (R417). -/
def execOsrSyncGain (p : Fin 2) (s : State) : Host.Outcome State Fault Refusal :=
  .next (if s.dom 7 && !s.osr.links[p].dead then trainLink (s.link p fun k => { k with sync := true }) p else s)

/-- A link loses synchronisation; one in LOST stays there for its 100 ms (R418). -/
def osrSyncLost (p : Fin 2) (s : State) : State :=
  let was := s.osr.links[p].st == .up
  let t := s.link p fun k => { k with sync := false }
  if was then linkLeave p 1 t else t.link p fun k => { k with st := if k.st == .lost then .lost else .down }

/-- OSR_SYNC_LOSS (R418). -/
def execOsrSyncLoss (p : Fin 2) (s : State) : Host.Outcome State Fault Refusal :=
  .next (if s.dom 7 && s.osr.links[p].sync then osrSyncLost p s else s)

/-- OSR_LOST_EXPIRE (R418): after 100 ms in LOST the link trains again, without synchronisation from DOWN on. -/
def execOsrLostExpire (p : Fin 2) (s : State) : Host.Outcome State Fault Refusal :=
  .next (if s.ringed && s.osr.links[p].st == .lost && s.comes (s.osr.links[p].lostAt + 100 * ms) then
      (s.at (s.osr.links[p].lostAt + 100 * ms)).link p fun k => { k with st := if k.sync then .train else .down }
    else s)

/-! ### HELLO (R416, R417) -/

/-- CLSCRC of the class table in force. -/
def clsCrc (s : State) : Word := crc32 (frameBytes ((List.range 16).map fun q => storedWord s.regs (0x26000 + 4 * q)))

/-- A HELLO frame. -/
def helloFrame (s : State) (reply : Bool) : Frame :=
  sealFrame [BitVec.ofNat 32 (1 + 16 * s.ringId + 256 * s.r R.OSR_ID_NDEV + 4096 * b2n reply), BitVec.ofNat 32 s.period,
    BitVec.ofNat 32 (s.r R.OSR_CFG_RSEND), Config.serial.extractLsb' 0 32, clsCrc s]

/-- HELLO_SEND (R417): a link in TRAIN. -/
def execHelloSend (p : Fin 2) (s : State) : Host.Outcome State Fault Refusal :=
  .next (if s.ringed && s.osr.links[p].st == .train then s.send [.osr p (helloFrame s false)] else s)

/-- RING_ID that must stand at the other end of a link (R413). -/
def peerId (s : State) (p : Fin 2) : Nat := if p = 0 then (s.ringId + 1) % s.ndev else (s.ringId + s.ndev - 1) % s.ndev

/-- One-way delay in ns from a round trip in tenths of ns, rounded down. -/
def oneWay (rtt : Nat) : Nat := (rtt - 10000) / 20

/-- The class tables are compared: OSR.CLS where they differ and either has changed since they were last compared. -/
def judgeCls (p : Fin 2) (peer : Word) (s : State) : State :=
  let pair := (peer, clsCrc s)
  let t := s.link p fun k => { k with peerCls := some pair }
  raiseIf (pair.1 != pair.2 && s.osr.links[p].peerCls != some pair) S.OSR_CLS
    (osrDetail p.val s.osr.links[p].peer.toNat 0) t

/-- The answering HELLO is judged: the link comes UP or stays in TRAIN (R417). -/
def helloJudge (p : Fin 2) (f : Frame) (rtt : Nat) (s : State) : State :=
  let peer := bitsOf (fw f 0) 6 4
  let d := osrDetail p.val peer 0
  let wiring := peer != peerId s p
  let mism := bitsOf (fw f 0) 10 8 != s.r R.OSR_ID_NDEV || bitsOf (fw f 1) 20 0 != s.period
    || bitsOf (fw f 2) 11 0 != s.r R.OSR_CFG_RSEND
  let far := decide (5100 < rtt - 10000)
  let t := s.link p fun k => { k with peer := BitVec.ofNat 3 peer, dly := BitVec.ofNat 8 (min (oneWay rtt) 255) }
  if wiring || mism || far then
    raiseIf (wiring || far) S.OSR_WIRING d (raiseIf mism S.OSR_MATCH d t)
  else
    judgeCls p (f.getD 4 0) (t.link p fun k => { k with st := .up, window := false, consec := 0, peerCls := none })

/-- A field of a HELLO is out of its range: RING_ID in the sender's ring, PERIOD of R236. -/
def helloBad (f : Frame) : Bool :=
  decide (bitsOf (fw f 0) 10 8 < bitsOf (fw f 0) 6 4) || decide (bitsOf (fw f 1) 20 0 < 25000 ∨ 2000000 < bitsOf (fw f 1) 20 0)

/-- HELLO_RECEIVE (R417): a HELLO is answered; an answer is measured and judged. In UP the class tables are compared again. -/
def execHelloReceive (p : Fin 2) (f : Frame) (rtt : Nat) (s : State) : Host.Outcome State Fault Refusal :=
  .next (osrTake p 1 6 (helloBad f) f (fun s =>
    let k := s.osr.links[p]
    if k.st != .train && k.st != .up then s
    else if bitsOf (fw f 0) 12 12 = 0 then
      let t := (s.link p fun k => { k with peer := BitVec.ofNat 3 (bitsOf (fw f 0) 6 4) }).send [.osr p (helloFrame s true)]
      if k.st == .up then judgeCls p (f.getD 4 0) t else t
    else if k.st == .train then helloJudge p f rtt s
    else judgeCls p (f.getD 4 0) (s.link p fun k => { k with dly := BitVec.ofNat 8 (min (oneWay rtt) 255) })) s)

/-- OSR_RTT_MEASURE (R417): the round trip of a link in UP, by a HELLO that the peer answers; a change of the own class table is
noticed here, one of the peer's by the HELLO that it sends. -/
def execOsrRttMeasure (p : Fin 2) (rtt : Nat) (s : State) : Host.Outcome State Fault Refusal :=
  .next (if s.ringed && s.osr.links[p].st == .up then
      let t := (s.link p fun k => { k with dly := BitVec.ofNat 8 (min (oneWay rtt) 255) }).send [.osr p (helloFrame s false)]
      match s.osr.links[p].peerCls with
      | some c => judgeCls p c.1 t
      | none => t
    else s)

/-! ### The common timebase (R419-R424) -/

/-- LOCK that the device sends and reads: always 1 on the master. -/
def lockBit (s : State) : Bool := s.ringId == 0 || s.osr.lock

/-- A TIME frame. L and LNEW read 0 where no slot clock runs and no change is pending (log entry 28). -/
def timeFrame (s : State) : Frame :=
  let hops := if s.ringId = 0 then 0 else s.osr.hops.toNat
  let c := s.slot
  let kc := c.kc.getD (0, 0)
  sealFrame [BitVec.ofNat 32 (2 + 16 * s.ringId + 256 * hops + 4096 * b2n (lockBit s) + 65536 * s.readyMask.toNat),
    lo32 s.tb, hi32 s.tb, lo32 c.e, hi32 c.e, lo32 c.k0, hi32 c.k0, BitVec.ofNat 32 (if c.run then c.len else 0),
    lo32 kc.1, hi32 kc.1, BitVec.ofNat 32 kc.2]

/-- TIME_SEND (R419): on both links. -/
def execTimeSend (s : State) : Host.Outcome State Fault Refusal :=
  .next (if s.ringed then s.send [.osr 0 (timeFrame s), .osr 1 (timeFrame s)] else s)

/-- What a TIME frame says. -/
def timeInfo (f : Frame) (now : Nat) : TimeInfo :=
  { hops := BitVec.ofNat 3 (bitsOf (fw f 0) 10 8), lock := bitsOf (fw f 0) 12 12 == 1,
    ready := BitVec.ofNat 8 (bitsOf (fw f 0) 23 16), at' := now, e := fw f 3 + 2 ^ 32 * fw f 4, k0 := fw f 5 + 2 ^ 32 * fw f 6,
    len := bitsOf (fw f 7) 16 0, kc := fw f 8 + 2 ^ 32 * fw f 9, lnew := bitsOf (fw f 10) 16 0 }

/-- What a link brings as a possible source: UP, LOCK = 1, and a TIME frame within the last 100 µs (R419, R422). -/
def sourceInfo (s : State) (p : Fin 2) : Option TimeInfo :=
  match s.osr.links[p].time with
  | some t => if s.osr.links[p].st == .up && t.lock && decide (s.tb ≤ t.at' + 100 * us) then some t else none
  | none => none

/-- The source link: lowest HOPS, OSR_W on a tie (R419). -/
def sourceLink (s : State) : Option (Fin 2) :=
  match sourceInfo s 0, sourceInfo s 1 with
  | some e, some w => if e.hops.toNat < w.hops.toNat then some 0 else some 1
  | some _, none => some 0
  | none, some _ => some 1
  | none, none => none

/-- The device's estimate of the source's timebase in ticks: TB + DLY, to the nearest tick; within a tick the phase of
the timebase follows the estimate (log entry 28). -/
def timeEstimate (s : State) (p : Fin 2) (f : Frame) : Nat :=
  (10 * (fw f 1 + 2 ^ 32 * fw f 2) + s.osr.links[p].dly.toNat + 5) / 10

/-- The slot clock starts once (R48): alone or as the master at the first multiple of L, else with what the source gives. "That
moment" is the boundary at which Boot ends (DESIGN CHOICE, log entry 59: an example has it 200 ticks later). -/
def slotStart (s : State) : State :=
  if s.slot.run then s
  else if s.ndev < 2 || s.ringId = 0 then
    { s with slot := { s.slot with run := true, e := (s.tb + s.slot.len - 1) / s.slot.len * s.slot.len, k0 := 0, k := 0 } }
  else match (sourceLink s).bind (sourceInfo s) with
    | some t =>
      if t.len = 0 then s
      else
        let k := t.k0 + (s.tb - t.e) / t.len
        let past := decide (t.e < s.tb)
        { s with slot := { s.slot with run := true, e := t.e, k0 := t.k0, len := t.len, k := k, ticked := past },
                 regs := rput s.regs R.CIS_SLOT_PERIOD (t.len / 10),
                 vpt := { s.vpt with launched := if past then some k else none } }
    | none => s

/-- The device becomes unlocked and stays so until the next device reset (R422, R424). -/
def timeStuck (s : State) : State :=
  let t := { s with osr := { s.osr with lock := false, good := 0, stuck := true } }
  raiseIf s.osr.lock S.OSR_TLOCK (osrDetail 15 0 0) t

/-- A slot-length change announced by the source (R424). -/
def takeKc (t : TimeInfo) (s : State) : State :=
  if t.kc = 0 || !s.slot.run || s.slot.k0 = t.kc then s
  else if s.slot.k < t.kc then
    { s with slot := { s.slot with kc := some (t.kc, t.lnew) }, regs := rput s.regs R.CIS_STAT_PEND 1 }
  else timeStuck s

/-- Steering by one TIME frame of the source, with its estimate (R420-R422): the one step, else a slew of at most a tick a
frame; LOCK after 100 frames in a row with no error. -/
def steer (est : Nat) (s : State) : State :=
  if !s.osr.stepped && !s.lan.run && !s.slot.run then
    { s with tb := est, osr := { s.osr with stepped := true, ofs := 0, good := 1, skip := 0, markAt := none },
             adc := s.adc.shift s.tb est, tmr := s.tmr.shift s.tb est, pwr := { s.pwr with mvAt := none },
             cis := { s.cis with ceAt := none }, cfg := { s.cfg with sealAt := s.cfg.sealAt.map fun a => est + a - s.tb } }
  else
    let err : Int := (est : Int) - s.tb
    let o := { s.osr with ofs := 20 * err }
    if !o.lock && decide (1000 < err.natAbs) then { s with osr := { o with stuck := true, good := 0 } }
    else
      let good := if err = 0 then o.good + 1 else 0
      { s with tb := if 0 < err then s.tb + 1 else s.tb,
               osr := { o with good := good, skip := if err < 0 then 1 else 0,
                               lock := o.lock || (!o.stuck && decide (100 ≤ good)) } }

/-- A TIME frame is taken (R419-R424). -/
def timeEff (p : Fin 2) (f : Frame) (s : State) : State :=
  let t := s.link p fun k => { k with time := some (timeInfo f s.tb) }
  if s.ringId = 0 || !s.pwr.refOk || sourceLink t != some p then t
  else
    let est := timeEstimate t p f
    let t := { t with osr := { t.osr with src := some p, hops := (timeInfo f s.tb).hops + 1 } }
    let t := steer est t
    let t := t.link p fun k => { k with time := some (timeInfo f t.tb) }
    let t := takeKc (timeInfo f t.tb) t
    if t.sys.step == 15 then slotStart t else t

/-- A slot length that a TIME frame may carry: none, or CIS_SLOT.PERIOD in ticks. -/
def lenOk (n : Nat) : Bool := decide (n = 0 ∨ (1000 ≤ n ∧ n ≤ 100000))

/-- A field of a TIME frame is out of its range: RING_ID and HOPS in the ring, L, LNEW (R418). -/
def timeBad (s : State) (f : Frame) : Bool :=
  decide (s.ndev ≤ bitsOf (fw f 0) 6 4) || decide (s.ndev ≤ bitsOf (fw f 0) 10 8) || !lenOk (bitsOf (fw f 7) 16 0)
    || !lenOk (bitsOf (fw f 10) 16 0)

/-- Arrival of the latest TIME frame of a valid source. -/
def lastTime (s : State) : Nat :=
  (List.finRange 2).foldl (fun n p => match s.osr.links[p].time with
    | some t => if s.osr.links[p].st == .up && t.lock then max n t.at' else n
    | none => n) 0

/-- TIME_LOCK_TIMEOUT (R422): 100 µs after the latest TIME frame of a valid source. -/
def execTimeLockTimeout (s : State) : Host.Outcome State Fault Refusal :=
  .next (if s.ringed && s.ringId != 0 && s.osr.lock && s.comes (lastTime s + 100 * us) then
      let t := s.at (lastTime s + 100 * us)
      raise S.OSR_TLOCK (osrDetail 15 0 0) { t with osr := { t.osr with lock := false, good := 0 } }
    else s)

/-- RING_SYNC_MARK (R423): at the next multiple of 100,000. -/
def execRingSyncMark (s : State) : Host.Outcome State Fault Refusal :=
  .next (if s.ringed && s.pwr.refOk then
      let t := s.at ((nextEdge s.tb s.osr.markAt + 99999) / 100000 * 100000)
      { t with osr := { t.osr with markAt := some t.tb } }.send [.sync]
    else s)

/-- An edge on RING_SYNC_IN, `ns` after the present tick, lies within 100 ns of the device's own mark plus OSR_SYNC_DLY.NS. -/
def syncGood (s : State) (ns : Nat) : Bool :=
  let d := (10 * s.tb + ns + 1000000 - s.r R.OSR_SYNC_DLY_NS) % 1000000
  decide (d ≤ 100 ∨ 999900 ≤ d)

/-- RING_SYNC_EDGE (R423): within 100 ns of the expected mark, or a failed mark; three in a row raise OSR.TSKEW. -/
def execRingSyncEdge (edge : Option (Fin 10)) (s : State) : Host.Outcome State Fault Refusal :=
  let ok := match edge with | some d => syncGood s d.val | none => false
  .next (if !s.ringed then s
    else if ok then { s with osr := { s.osr with syncFail := 0 } }
    else if s.osr.syncFail < 2 then { s with osr := { s.osr with syncFail := s.osr.syncFail + 1 } }
    else raise S.OSR_TSKEW (osrDetail 15 0 0) { s with osr := { s.osr with syncFail := 0 } })

/-! ### Forwarded parts (R426-R428) -/

/-- A frame for another device is relayed unchanged on the other link. -/
def relay (p : Fin 2) (f : Frame) (s : State) : State := if s.osrUp (1 - p) then s.send [.osr (1 - p) f] else s

/-- The side on which the device with a RING_ID is a neighbour for marks; none where it is not (R425). -/
def sideOf (s : State) (id : Nat) : Option (Fin 2) :=
  if id = s.ringId + 1 then some 0 else if id + 1 = s.ringId then some 1 else none

/-- The descriptor that a FWD frame carries. -/
def fwdDesc (f : Frame) : RawDesc :=
  { w0 := BitVec.ofNat 32 (bitsOf (fw f 0) 15 12 + 16 * bitsOf (fw f 0) 19 16 + 65536 * bitsOf (fw f 1) 31 16), w1 := f.getD 2 0,
    w2 := f.getD 3 0, w3 := BitVec.ofNat 32 (bitsOf (fw f 4) 13 0 + 65536 * bitsOf (fw f 4) 21 16),
    w4 := BitVec.ofNat 32 (bitsOf (fw f 5) 5 0 + 256 * bitsOf (fw f 5) 15 8), w5 := f.getD 6 0, w6 := 0, w7 := 0 }

/-- A neighbour's part enters staging (R427). -/
def stageFwd (side : Fin 2) (f : Frame) (s : State) : State :=
  if s.dom 4 then
    let g : Flight := { id := s.dsc.nextId, raw := fwdDesc f, phase := .staged,
                        peer := some (side, BitVec.ofNat 16 (fw f 1)), peerDeadline := fw f 7 + 2 ^ 32 * fw f 8 }
    { s with dsc := { s.dsc with flights := s.dsc.flights ++ [g], nextId := s.dsc.nextId + 1 } }
  else s

/-- FWD_RECEIVE (R427): opcodes 1-4 between neighbours. -/
def execFwdReceive (p : Fin 2) (f : Frame) (s : State) : Host.Outcome State Fault Refusal :=
  let origin := bitsOf (fw f 0) 6 4
  let dest := bitsOf (fw f 0) 10 8
  let op := bitsOf (fw f 0) 15 12
  let bad := decide (s.ndev ≤ origin) || decide (s.ndev ≤ dest) || origin == s.ringId || op == 0 || decide (4 < op)
    || (dest == s.ringId && (sideOf s origin).isNone)
  .next (osrTake p 3 10 bad f (fun s =>
    if s.osr.links[p].st != .up then s
    else if dest != s.ringId then relay p f s
    else match sideOf s origin with
      | some side => stageFwd side f s
      | none => s) s)

/-- The descriptor that awaits the answer to FSEQ. -/
def awaiting (s : State) (fseq : BitVec 16) : Option Flight :=
  s.dsc.flights.find? fun g => match g.fwd with
    | some w => w.fseq == fseq && w.answer.isNone
    | none => false

/-- The forwarded part of a descriptor is answered. -/
def answered (s : State) (id : Nat) (st : Status) (drain : Nat) : State :=
  updFlight s id fun g => { g with fwd := g.fwd.map fun w => { w with answer := some (st, drain) } }

/-- ANS_RECEIVE (R427, R428): a late answer counts as a dropped frame. -/
def execAnsReceive (p : Fin 2) (f : Frame) (s : State) : Host.Outcome State Fault Refusal :=
  let origin := bitsOf (fw f 0) 6 4
  let dest := bitsOf (fw f 0) 10 8
  let st := statusOf (bitsOf (fw f 0) 23 16)
  let late := dest == s.ringId && (awaiting s (BitVec.ofNat 16 (fw f 1))).isNone
  let bad := decide (s.ndev ≤ origin) || decide (s.ndev ≤ dest) || origin == s.ringId || st.isNone || late
  .next (osrTake p 4 6 bad f (fun s =>
    if s.osr.links[p].st != .up then s
    else if dest != s.ringId then relay p f s
    else match awaiting s (BitVec.ofNat 16 (fw f 1)), st with
      | some g, some st => answered s g.id st (fw f 2 + 2 ^ 32 * fw f 3)
      | _, _ => s) s)

/-- FWD_ANS_TIMEOUT (R428): no answer 150 µs after the part was sent, at the admission of its descriptor. -/
def execFwdAnsTimeout (fseq : BitVec 16) (s : State) : Host.Outcome State Fault Refusal :=
  .next (match awaiting s fseq with
    | some g => if !s.comes (g.tA + 150 * us) then s else (answered (s.at (g.tA + 150 * us)) g.id .forwardFail 0).add R.OSR_FWD_CNT_FAIL 1
    | none => s)

/-! ### Ring safety word (R430-R434) -/

/-- SIDX of the present scan (R432). -/
def ringSidx (s : State) : Nat := s.lan.boundary / s.period % 65536

/-- The lane check of a word: the function of R392 over w0 with HOP = 0, the word and the lane's letter (R432). -/
def ringCheck (w0 word : Word) (l : Nat) : Word :=
  scrc (frameBytes [w0 &&& ~~~(0x700 : Word), word, BitVec.ofNat 32 (0x41 + l)])

/-- The RSW frame of this scan: zero word and check for a lane that is not in service or has no evaluation. -/
def rswFrame (s : State) : Frame :=
  let w0 : Word := BitVec.ofNat 32 (5 + 16 * s.ringId + 256 + 65536 * ringSidx s)
  sealFrame (w0 :: (List.finRange 3).flatMap fun l =>
    match s.lan.lanes[l].mid with
    | some e => if s.lan.inService l then [e.ring, ringCheck w0 e.ring l] else [0, 0]
    | none => [0, 0])

/-- RSW_SEND (R431, R433): on both links. -/
def execRswSend (s : State) : Host.Outcome State Fault Refusal :=
  .next (if s.ringed && s.lan.run && s.pwr.refOk && !s.pwr.refGone then
      let t := (s.at (s.lan.boundary + s.r R.OSR_CFG_RSEND * us)).order 5
      t.send [.osr 0 (rswFrame t), .osr 1 (rswFrame t)]
    else s)

/-- A frame with HOP + 1 and its CRC anew. -/
def nextHop (f : Frame) : Frame := sealFrame ((f.getD 0 0 + 0x100) :: f.dropLast.tail)

/-- RSW_RECEIVE (R433): kept, and relayed once for each ORIGIN, SIDX and direction. -/
def execRswReceive (p : Fin 2) (f : Frame) (s : State) : Host.Outcome State Fault Refusal :=
  let origin := bitsOf (fw f 0) 6 4
  let hop := bitsOf (fw f 0) 10 8
  let bad := decide (s.ndev ≤ origin) || hop == 0 || decide (s.ndev ≤ hop)
  .next (osrTake p 5 8 bad f (fun s =>
    if s.osr.links[p].st != .up || origin == s.ringId then s
    else
      let key := (p, BitVec.ofNat 3 origin, BitVec.ofNat 16 (bitsOf (fw f 0) 31 16))
      let t := { s with lan := { s.lan with ringIn := s.lan.ringIn ++ [(⟨origin % 8, Nat.mod_lt _ (by decide)⟩, f)] } }
      if hop + 1 < s.ndev && !s.lan.ringRelayed.contains key then
        { t with lan := { t.lan with ringRelayed := key :: t.lan.ringRelayed.take 63 } }.send [.osr (1 - p) (nextHop f)]
      else t) s)

/-- The word that at least two passing copies of a frame hold (R434); a zero check fails (R432). -/
def rswWord (f : Frame) : Option Word :=
  let w0 := f.getD 0 0
  let good := (List.range 3).filter fun l =>
    f.getD (2 * l + 2) 0 != 0 && f.getD (2 * l + 2) 0 == ringCheck w0 (f.getD (2 * l + 1) 0) l
  let words := good.map fun l => f.getD (2 * l + 1) 0
  words.find? fun w => decide (2 ≤ (words.filter (· == w)).length)

/-- The first good frame of an origin in this scan. -/
def rswOf (s : State) (i : Fin 8) : Option Frame :=
  (s.lan.ringIn.find? fun e => e.1 == i && bitsOf (fw e.2 0) 31 16 == ringSidx s).map (·.2)

/-- RING_OK and RING_WORD entries of an origin, as the lanes take them to their agreement (R434). -/
def ringEntryOf (s : State) (i : Fin 8) : Option Word :=
  if i.val = s.ringId ∨ s.ndev ≤ i.val then none else (rswOf s i).bind rswWord

/-- A lane whose evaluation has ended delivers its result (R246). -/
def deliver (im : Image) (e : Eval) (l : Lane) : Lane :=
  { l with vars := e.vars, mid := some e, res := some (laneResult im e), outs := outWords im e.vars }

/-- Devices that are reachable on some link: those heard from in the latest scan, and the peers of links in UP (OSR_RING_OK.REACH;
log entry 29). -/
def reachable (s : State) : BitVec 8 :=
  (List.finRange 2).foldl (fun b p => if s.osrUp p then putBit b s.osr.links[p].peer.toNat true else b) s.osr.reach

/-- Those devices and the device itself (R438). -/
def reachMask (s : State) : BitVec 8 := putBit (reachable s) s.ringId true

end Sys2Proof.Machine
end

