-- ==== Sys2Proof/Machine/Power.lean ====
section
/-! DEFINITION. Gated domains: their loss, the late opening at power-up, and the restart on entry to Maintain (R30-R37,
R212, R526). -/

namespace Sys2Proof.Machine

/-- The source of a gated domain. -/
def pwrSource (d : Nat) : Src := ⟨13, BitVec.ofNat 5 (d + 1)⟩

/-- Blocks whose registers lie in a gated domain. -/
def domainBlocks (d : Nat) : List Nat := (List.range 14).filter fun b => blockDomain b == some d

/-- Every gated domain that the configuration powers is powered. -/
def poweredAll (s : State) : Bool :=
  (List.range 9).all fun d => s.pwr.on.getLsbD d || (d == 6 && s.rb R.PWR_DOM_GATE_NT_OFF) || (d == 8 && s.rb R.PWR_DOM_GATE_AN_OFF)

/-! ### Consequences of a loss (R32, R212) -/

/-- A lane's domain is lost: the lane and its comparator stop, its link is quiet and its sluice leg CLOSED. A request under
way for it fails; with two lanes in service the loss of one is a second fault (R264); before the lanes scan the lane is retired
at once (R259, R262). -/
def loseLane (l : Fin 3) (s : State) : State :=
  let t := laneQuiet l (s.lane l fun x => { x with stopped := true, eccStop := false, frames := [], vars := [], outs := [] })
  let t := { t with lan := { t.lan with cmpX := t.lan.cmpX && l != 0, cmpY := t.lan.cmpY && l != 1 } }
  let t := match t.lan.join with
    | some j => if j.lane = l then joinFail (if j.step ≤ 1 then S.LAN_STEST else S.LAN_READMIT) t else t
    | none => t
  if t.lan.lanes[l].retired then t
  else if !t.lan.run then retire l 7 t
  else if t.lan.svcCount = 3 then t
  else secondFault (8 * l.val + 7) t

/-- The physical slices of CS0 (0-7 and S) or of CS1 (8-15). -/
def cs0Slice (p : Nat) : Bool := decide (p < 8) || p == 16

/-- Logical slices that go dark when physical slices of one group fail together: those they served, and in the recovery window of
a migration, which a second fault abandons, its own (R221). -/
def goneDark (mine : Nat → Bool) (c : Cis) : List (Fin 16) :=
  (match c.mig with | some ⟨m, false⟩ => [m] | _ => [])
    ++ (((List.finRange 17).filter fun p => mine p.val).filterMap c.serving).filter fun n =>
      match c.mig with | some ⟨m, false⟩ => n != m | _ => true

/-- Physical slices of one group fail together, with no migration: the logical slices they served go dark. H does not decrease
(R216); in the recovery window of a migration this is a second fault (R221). -/
def dropSlices (mine : Nat → Bool) (c : Cis) : Cis :=
  let second := match c.mig with | some ⟨_, false⟩ => true | _ => false
  { c with
    cells := c.cells.filter fun e => !mine (e.1 / 327680)
    phys := vimap (fun p x => if mine p.val then { failed := true, h := x.h } else if second && p = 16 then { x with wq := [] } else x) c.phys
    dark := (goneDark mine c).foldl (fun d n => putBit d n.val true) c.dark
    served := if mine 16 || second then none else c.served
    spareOk := c.spareOk && !mine 16
    mig := c.mig.map fun m => { m with abandoned := true }
    op := match c.op with | some (k, p) => if mine p.val then none else some (k, p) | none => none }

/-- CS0 is lost: slices 0-7 and S fail together, with the sources of a failed S and of each slice gone dark. -/
def loseCs0 (s : State) : State :=
  let gone := (List.finRange 17).filter fun p => cs0Slice p.val
  let lost := gone.flatMap fun p => s.cis.phys[p].wq
  let darks := (goneDark cs0Slice s.cis).map fun n => (S.CIS_SLC_DARK, n.val)
  let busy := match s.cis.op with | some (_, p) => cs0Slice p.val | none => false
  let t := { s with cis := dropSlices cs0Slice s.cis,
                    dsc := { s.dsc with flights := loseOwners lost s.dsc.flights },
                    regs := if busy then rput s.regs R.CIS_SLC_CSTAT_BUSY 0 else s.regs }
  raiseAll ((if s.cis.phys[16].failed then [] else [(S.CIS_SPARE_FAIL, 0)]) ++ darks) (countDark lost.length t)

/-- CS1 is lost: its slices, the descriptor unit with its queues, tickets, tables, timers and check-value units. -/
def loseCs1 (s : State) : State :=
  let c := dropSlices (fun p => !cs0Slice p) s.cis
  { s with
    regs := s.regs.filter fun e => !decide (0x90100 ≤ e.1 ∧ e.1 < 0x90300)
    cis := { c with phys := c.phys.map (fun x => { x with wq := [] }), op := none, retained := [], gen := false,
                    dlyLost := BitVec.allOnes 256, retLost := BitVec.allOnes 256, clsHit := none, clsGone := true }
    dsc := { nextId := s.dsc.nextId, fseq := s.dsc.fseq, creditAt := s.tb }
    tkt := {}
    evs := { s.evs with staging := [] }
    tmr := {}
    crc := Vector.replicate 4 {}
    smp := { s.smp with inc := [], tot := [], restored := false, store := none, final := false } }

/-- HS is lost: the host link drops and the endpoint takes its reset state. -/
def loseHs (s : State) : State :=
  let t := endpointReset s
  { t with hif := { perstN := s.hif.perstN, silent := s.hif.silent, latch := true } }

/-- VP is lost: every valve port, the Osrin links and the sluice. -/
def loseVp (s : State) : State :=
  { s with
    vpt := { s.vpt with ports := vimap (fun _ p => { dead := p.dead }) s.vpt.ports, legs := 0, burst := none }
    osr := { s.osr with links := vimap (fun _ k => { dead := k.dead }) s.osr.links, lock := false, good := 0, src := none, skip := 0 } }

/-- What the loss of a gated domain brings (R32); a transaction that holds its fields ends (R555). -/
def loseDomain (d : Nat) (s : State) : State :=
  let s := txnDomainLost d s
  match d with
  | 0 => loseLane 0 s
  | 1 => loseLane 1 s
  | 2 => loseLane 2 s
  | 3 => loseCs0 s
  | 4 => loseCs1 s
  | 5 => loseHs s
  | 6 => { s with net := { s.net with ports := vimap (fun _ p => { dead := p.dead }) s.net.ports, exch := [], mdio := false } }
  | 7 => loseVp s
  | _ => { s with adc := s.adc.off }

/-- A gate closes on a fault of its supply: the domain is lost and its source raised. -/
def tripDomain (d : Nat) (s : State) : State :=
  let t := { s with pwr := { s.pwr with on := putBit s.pwr.on d false, lost := putBit s.pwr.lost d true,
                                        waiting := putBit s.pwr.waiting d false } }
  raise (pwrSource d) 0 (loseDomain d t)

/-- DOMAIN_OPEN_TIMEOUT (R37): still outside its limits 100 ms after its step. -/
def execDomainOpenTimeout (d : Fin 9) (s : State) : Host.Outcome State Fault Refusal :=
  .next (if s.pwr.waiting.getLsbD d then tripDomain d s else s)

/-- A gate opens in the power-up sequence. -/
def openDomain (d : Nat) (s : State) : State :=
  let t := { s with pwr := { s.pwr with on := putBit s.pwr.on d true, waiting := putBit s.pwr.waiting d false } }
  if d = 8 then { t with adc := { t.adc with refOk := true } } else t

/-! ### Restart on entry to Maintain (R34, R526) -/

/-- Registers of a domain, or their shadows, at their reset values, then as the current bank stores them (R34, R537). -/
def domainRegs (d : Nat) (m : Map Word) (s : State) : Map Word :=
  let blocks := domainBlocks d
  let mine := fun (off : Nat) => blocks.contains (off / 0x10000)
  let base := m.filter fun e => !mine e.1
  match s.cfg.cur with
  | some b => loadEntries base ((regSection (s.nv.bank b)).filter fun e => mine e.1)
  | none => base

/-- CS0 returns: slices 0-7 and S run TEST; each that passes serves its logical slice, with S idle. -/
def restartCs0 (fail : BitVec 17) (c : Cis) : Cis :=
  { c with
    phys := vimap (fun p x => if cs0Slice p.val then { failed := fail.getLsbD p, testPass := !fail.getLsbD p, h := x.h } else x) c.phys
    dark := (List.range 8).foldl (fun d n => putBit d n (fail.getLsbD n)) c.dark
    served := none, spareOk := !fail.getLsbD 16 }

/-- The slot clock, which runs in AO, meets the stored PERIOD that a restart of CS1 loads (R34, R49). Alone, a length that differs
takes force at the next slot tick, as a new epoch; on a ring's master it is announced under R424; a follower keeps the length of
its source (R48). R75 is not asked (DESIGN CHOICE, log entry 60). -/
def restartLength (s : State) : State :=
  let len := 10 * s.r R.CIS_SLOT_PERIOD
  if !s.slot.run || len = s.slot.len then s
  else if s.ndev < 2 then { s with slot := { s.slot with pend := some len }, regs := rput s.regs R.CIS_STAT_PEND 1 }
  else if s.ringId = 0 then
    { s with slot := { s.slot with kc := some (s.slot.k + 64, len) }, regs := rput s.regs R.CIS_STAT_PEND 1 }
  else s.w R.CIS_SLOT_PERIOD (s.slot.len / 10)

/-- CS1 returns: its slices are empty and in service, the tables are loaded, every ticket is free. -/
def restartCs1 (s : State) : State :=
  let c := s.cis
  restartLength { s with
    cis := { c with phys := vimap (fun p x => if cs0Slice p.val then x else { h := x.h }) c.phys,
                    dark := (List.range 8).foldl (fun d n => putBit d (n + 8) false) c.dark,
                    retained := [], gen := false, dlyLost := 0, retLost := 0, clsHit := none, clsGone := false }
    dsc := { s.dsc with creditAt := s.tb }
    crc := Vector.ofFn fun u => crcStartUnit s.regs u.val }

/-- A gate reopens on entry to Maintain and the domain's blocks restart. -/
def restartDomain (fail : BitVec 17) (s : State) (d : Nat) : State :=
  let t := { s with pwr := { s.pwr with on := putBit s.pwr.on d true, lost := putBit s.pwr.lost d false }, regs := domainRegs d s.regs s
                    shadow := if s.cfg.txn == .idle then s.shadow else domainRegs d s.shadow s }
  match d with
  | 3 => { t with cis := restartCs0 fail t.cis }
  | 4 => restartCs1 t
  | 8 => { t with adc := t.adc.restart }
  | _ => t

/-- Lost domains other than the lanes' reopen where their supply has stayed within limits for 10 ms. -/
def restartDomains (recovered : BitVec 9) (fail : BitVec 17) (s : State) : State :=
  ((List.range 9).filter fun d => decide (3 ≤ d) && s.pwr.lost.getLsbD d && recovered.getLsbD d).foldl (restartDomain fail) s

end Sys2Proof.Machine
end

