-- ==== Sys2Proof/Machine/Reset.lean ====
section
/-! DEFINITION. The device reset (R517, R518): what it keeps, what takes its reset value. -/

namespace Sys2Proof.Machine

/-- Causes of SYS_RST_CAUSE. -/
def causePower : BitVec 4 := 1
def causePin : BitVec 4 := 2
def causeChip : BitVec 4 := 4
def causeRestart : BitVec 4 := 8

/-- A device reset: every state takes its reset value except what R518 keeps, the levels of pins and supplies, the JTAG
port, and the model's own queue, output log and free-value counter. The power-up sequence starts anew (R519), with a new check of
REF100 (R25); the timebase holds its value until it is accepted (R464). -/
def deviceReset (cause : BitVec 4) (s : State) : State :=
  let retired := (List.finRange 3).any fun l => s.lan.lanes[l].retired
  { State.reset with
    tb := s.tb
    nv := s.nv
    pwr := { aoOk := s.pwr.aoOk, rstLow := s.pwr.rstLow, testMode := s.pwr.testMode, testHold := s.pwr.testMode,
             fsOk := s.pwr.fsOk, aoSince := s.pwr.aoSince }
    keep := { s.keep with cause := cause, repairKept := retired,
                          repairLeft := if retired then s.keep.repairLeft else 2880000000000 }
    hif := { perstN := s.hif.perstN }
    fld := { fsHighAt := s.fld.fsHighAt, fsLong := s.fld.fsLong }
    osr := { ringId := s.osr.ringId }
    sys := { zero := s.tb, chipBoot := cause == causeChip }
    jtag := s.jtag
    tx := s.tx
    pending := s.pending
    edge := s.edge
    free := s.free }

end Sys2Proof.Machine
end

