-- ==== Sys2Proof/Machine/Sump.lean ====
section
/-! DEFINITION. The sump: counting once a second, storing and restoring (R557-R565). -/

namespace Sys2Proof.Machine

/-- Bin of a value: how many steps it lies above the lower end, 0-63. -/
def statBin (v lo step : Nat) : Nat := min ((v - lo) / step) 63

/-- Kind 4: junction temperature from the latest ADC-P result, where it is not older than 1 s. -/
def countTemp (src base : Nat) (s : State) : State :=
  match mread none s.adc.res src with
  | some x => if s.tb ≤ x.stamp + 100000000 then s.stat 4 (base + statBin x.value.toNat 1024 256) 1 else s
  | none => s

/-- The counts of one second (R557 kinds 0, 4, 5, 6). -/
def secondEff (mv : Vector (BitVec 16) 14) (s : State) : State :=
  let s := { s with pwr := { s.pwr with mv := mv, mvAt := some s.tb } }
  let s := s.stat 0 s.sys.mode.num 1
  let s := countTemp 17 64 (countTemp 16 0 s)
  let s := (s.stat 5 (statBin (10 * s.fld.fs[0].toNat) 12000 500) 1).stat 5 (64 + statBin (10 * s.fld.fs[1].toNat) 12000 500) 1
  (List.finRange 5).foldl (fun s d => s.stat 6 (64 * d.val + statBin (mv[d.val]).toNat 640 5) 1) s

/-- STATS_SECOND (R557): at a timebase multiple of 100,000,000. -/
def execStatsSecond (mv : Vector (BitVec 16) 14) (s : State) : Host.Outcome State Fault Refusal :=
  .next (if s.pwr.aoOk && s.pwr.refOk then secondEff mv (s.at (nextMultiple 100000000 0 (nextEdge s.tb s.pwr.mvAt))) else s)

/-- Totals with the increments taken in, saturating (step 1 of R561). -/
def mergeTotals (tot inc : Map Nat) : Map Nat :=
  inc.foldl (fun m e => mput 0 m e.1 (min (mread 0 m e.1 + e.2) (2 ^ kindWidth (e.1 / 4096) - 1))) tot

/-- The slot after slot k that is not marked bad, within n tries. -/
def nextSlot (bad : BitVec 6) (k : Nat) : Nat → Option (Fin 6)
  | 0 => none
  | n + 1 => if bad.getLsbD (k % 6) then nextSlot bad (k + 1) n else some ⟨k % 6, Nat.mod_lt _ (by decide)⟩

/-- The slot that the next store writes: the one after the newest; slot 0 with no valid record (R561, R563). -/
def Smp.target (p : Smp) : Option (Fin 6) :=
  nextSlot p.bad (match p.slot with | some k => k.val + 1 | none => 0) 6

/-- Power may be removed (step 4 of R531). -/
def pdnDone (s : State) : State :=
  { s with sys := { s.sys with pdnBusy := false, pdnReady := true },
           regs := rput (rput s.regs R.SYS_REQ_STAT_PDN_BUSY 0) R.SYS_REQ_STAT_PDN_READY 1 }

/-- A store that ends, or is abandoned: the hour starts again; after the store of step 3 of R531 the power-down is ready. -/
def storeEnd (s : State) : State :=
  let t := { s with smp := { s.smp with store := none, final := false, at' := some s.tb } }
  if s.smp.final then pdnDone t else t

/-- A store begins: increments into totals, the slot erased (R561). -/
def storeBegin (final : Bool) (s : State) : State :=
  match s.smp.target with
  | none => storeEnd (raise S.SMP_STORE (512 + 7) { s with smp := { s.smp with final := final } })
  | some k =>
    { s with smp := { s.smp with tot := mergeTotals s.smp.tot s.smp.inc, inc := [], store := some k, final := final },
             nv := { s.nv with slots := s.nv.slots.set k none } }

/-- SUMP_STORE_START (R561): an hour after the previous restore or store, or at step 3 of R531; none while CS1 is off. -/
def execSumpStoreStart (s : State) : Host.Outcome State Fault Refusal :=
  let pdn := s.sys.pdnBusy && !s.sys.pdnHold && s.cfg.cmd.isNone
  .next (if s.smp.store.isSome || s.sys.pdnReady then s
    else if pdn && !(s.dom 4 && s.smp.restored) then pdnDone s
    else if !(s.dom 4 && s.smp.restored) then s
    else if pdn then storeBegin true s
    else match s.smp.at' with
      | some a => if s.comes (a + 360000000000) then storeBegin false (s.at (a + 360000000000)) else s
      | none => s)

/-- SEQ of the next record: one above the newest valid record, skipping 0 (R563). -/
def Smp.nextSeq (p : Smp) : Word :=
  match p.slot with
  | none => 1
  | some _ => if p.seq + 1 = 0 then 1 else p.seq + 1

/-- SUMP_STORE_DONE (R561, R563): the record is in place, or its slot failed and the next is tried at once. -/
def execSumpStoreDone (ok : Bool) (s : State) : Host.Outcome State Fault Refusal :=
  .next (match s.smp.store with
    | none => s
    | some k =>
      if ok then
        let q := s.smp.nextSeq
        storeEnd { s with nv := { s.nv with slots := s.nv.slots.set k (some ⟨q, s.smp.tot⟩) },
                          smp := { s.smp with slot := some k, seq := q } }
      else
        let bad := putBit s.smp.bad k.val true
        let t := raise S.SMP_STORE (k.val + 256) { s with smp := { s.smp with bad := bad } }
        match nextSlot bad (k.val + 1) 6 with
        | some j => { t with smp := { t.smp with store := some j }, nv := { t.nv with slots := t.nv.slots.set j none } }
        | none => storeEnd (raise S.SMP_STORE (k.val + 512) t))

/-- The newest valid record (R563). -/
def newestRecord (n : Nv) (uncorr : BitVec 6) : Option (Fin 6 × SumpRec) :=
  (List.finRange 6).foldl (fun best k =>
    match n.slots[k] with
    | some r =>
      if uncorr.getLsbD k.val then best
      else match best with
        | some (_, b) => if newer r.seq.toNat b.seq.toNat then some (k, r) else best
        | none => some (k, r)
    | none => best) none

/-- What a restore meets in the records that it reads (R42, R43, R567): a corrected codeword raises SMP.ECC_C with its page and
symbol position, which is noted; an uncorrectable one raises SMP.ECC_U. -/
def restoreEcc (hits : List (BitVec 5 × Option (BitVec 6))) (s : State) : State :=
  (hits.filter fun h => (s.nv.slots.toArray.getD (h.1.toNat / 5) none).isSome).foldl (fun s h =>
    match h.2 with
    | some sym => raise S.SMP_ECC_C (h.1.toNat + 65536 * sym.toNat) { s with smp := { s.smp with eccSym := some sym } }
    | none => raise S.SMP_ECC_U (h.1.toNat + 63 * 65536) s) s

/-- Totals from the newest valid record, increments cleared, counting starts (R560, R563). -/
def restoreEff (hits : List (BitVec 5 × Option (BitVec 6))) (s : State) : State :=
  let s := restoreEcc hits s
  let uncorr := hits.foldl (fun (m : BitVec 6) h => if h.2.isNone then putBit m (h.1.toNat / 5) true else m) 0
  let best := newestRecord s.nv uncorr
  { s with smp := { s.smp with
      inc := [], restored := true, at' := some s.tb, fresh := best.isNone, slot := best.map (·.1),
      seq := (match best with | some (_, r) => r.seq | none => 0),
      tot := (match best with | some (_, r) => r.tot | none => []) } }

/-- Step 7 of R519 ends: internal steps complete, MS recorded, the partner wait begins. -/
def bootInternal (s : State) : State :=
  if s.sys.mode == .boot && !s.sys.internal then
    { s with sys := { s.sys with internal := true, pwaitAt := some s.tb },
             regs := rput s.regs R.SYS_BOOT_MS (min ((s.tb - s.sys.zero) / ms) 65535) }
  else s

/-- SUMP_RESTORE (R560): at step 7 of Boot, once the load of step 5 is done, and when CS1 has reopened under R526. -/
def execSumpRestore (hits : List (BitVec 5 × Option (BitVec 6))) (s : State) : Host.Outcome State Fault Refusal :=
  .next (if s.smp.restored || !s.pwr.aoOk then s
    else if s.sys.mode == .boot && !s.sys.loaded then s
    else if s.dom 4 then bootInternal (restoreEff hits s)
    else bootInternal s)

end Sys2Proof.Machine
end

