-- ==== Sys2Proof/Machine/Modes.lean ====
section
/-! DEFINITION. Modes, requests, deliberate reset, power-down, partners, forced raisings, block and chip reactions, the
ERR_N pin (chapters 16 and 17). -/

namespace Sys2Proof.Machine

/-! ### Mode changes (R48, R513, R514) -/

/-- Boot ends: step 15, and the slot clock starts (R48); after a CHIP reaction its instant is noted (R503). -/
def bootExit (s : State) : State :=
  slotStart { s with sys := { s.sys with step := 15, chipEnd := if s.sys.chipBoot then some s.tb else s.sys.chipEnd } }

/-- The device does not leave Boot: LA, LB, LC, CS1 or VP is unpowered (R38), its ring wiring is wrong (R414), or it is a ring
follower that is not locked (R438). -/
def bootHeld (s : State) : Bool :=
  s.sys.mode == .boot && (!([0, 1, 2, 4, 7] : List Nat).all s.pwr.on.getLsbD || s.osr.wiringBad
    || (decide (2 ≤ s.ndev) && s.ringId != 0 && !s.osr.lock))

/-- The mode in which a Boot that R38 holds will end: Lockdown before Safe-hold before any other. -/
def leaveMode (before : Option Mode) (m : Mode) : Mode :=
  match before with
  | some .lockdown => .lockdown
  | some .safeHold => if m == .lockdown then .lockdown else .safeHold
  | _ => m

/-- The mode changes; out of Boot only once R38 allows it (log entry 56). The S3 sources of a Safe-hold that is left are
forgotten (R529). -/
def setMode (m : Mode) (s : State) : State :=
  if s.sys.mode == m then s
  else if bootHeld s then { s with sys := { s.sys with leave := some (leaveMode s.sys.leave m) } }
  else
    let was := s.sys.mode
    let t := { s with sys := { s.sys with prev := was, mode := m, s3 := if was == .safeHold then [] else s.sys.s3 } }
    if was == .boot then bootExit t else t

/-- A domain of R38 has opened, or a ring follower has locked: a Boot that only waited for it ends. -/
def bootLeave (s : State) : State :=
  match s.sys.leave with
  | some m => if bootHeld s then s else setMode m { s with sys := { s.sys with leave := none } }
  | none => s

/-- TIME_RECEIVE (R420): with its lock a follower may leave a Boot that waits for it (R438). -/
def execTimeReceive (p : Fin 2) (f : Frame) (s : State) : Host.Outcome State Fault Refusal :=
  .next (osrTake p 2 12 (timeBad s f) f
    (fun s => if s.osr.links[p].st == .up then bootLeave (timeEff p f s) else s) s)

/-- The device enters Safe-hold, unless it is in it or in Lockdown. -/
def enterHold (s : State) : State :=
  if s.inMode [.safeHold, .lockdown] then s
  else setMode .safeHold { s with sys := { s.sys with holdFrom := s.sys.mode } }

/-- Run, or Degraded where a lane is retired (R262). -/
def runMode (s : State) : Mode := if anyRetired s then .degraded else .run

/-! ### Partners (R207, R399, R438, R524, R525) -/

/-- The required host is ready: judged, as every partner, from the agreed map. -/
def hostReady (s : State) : Bool := !s.rb R.SYS_PARTNER_HOST || s.lan.map.bit 106

/-- Required valve ports that are not ready. -/
def portsMissing (s : State) : List Nat :=
  ((List.finRange 16).filter fun (n : Fin 16) =>
    (s.r R.VPT_EN_EN).testBit n && s.rb R.VPT_PORT_REQ_REQ n && !s.lan.map.bit (128 + n)).map (·.val)

/-- Required connections that are not ready. -/
def connsMissing (s : State) : List Nat :=
  ((List.finRange 32).filter fun (n : Fin 32) =>
    s.rb R.NET_CONN_CFG_REQ n && !s.lan.map.bit (168 + n)).map (·.val)

/-- The ring's condition holds, and a follower is locked. -/
def ringReady' (s : State) : Bool :=
  decide (s.ndev < 2) || (s.locked && (match s.r R.OSR_CFG_REQ with
    | 0 => (reachMask s).getLsbD 0
    | 1 => decide ((reachMask s).toNat % 2 ^ s.ndev = 2 ^ s.ndev - 1)
    | _ => s.osrUp 0 && s.osrUp 1))

/-- The partners are judged: the bits of SYS_PARTNER. -/
def judgePartners (s : State) : State :=
  let h := hostReady s
  let p := (portsMissing s).isEmpty
  let c := (connsMissing s).isEmpty
  let r := ringReady' s
  let all := h && p && c && r
  let m := rput (rput s.regs R.SYS_PARTNER_HOST_RDY (b2n h)) R.SYS_PARTNER_PORTS (b2n p)
  let m := rput (rput m R.SYS_PARTNER_CONN (b2n c)) R.SYS_PARTNER_RING (b2n r)
  { s with regs := rput m R.SYS_PARTNER_ALL (b2n all), sys := { s.sys with partners := all } }

/-- DETAIL of SYS.PARTNER: kind and index of the first missing partner. -/
def partnerDetail (s : State) : Nat :=
  if !hostReady s then 0
  else match portsMissing s with
    | n :: _ => 1 + 256 * n
    | [] => match connsMissing s with
      | n :: _ => 2 + 256 * n
      | [] => 3

/-- PARTNER_WAIT_EXPIRE (R525): PWAIT × 100 ms after step 7; nothing is raised where every partner is ready then. -/
def execPartnerWaitExpire (s : State) : Host.Outcome State Fault Refusal :=
  .next (match s.sys.pwaitAt with
    | some t0 =>
      let due := t0 + s.r R.SYS_PARTNER_PWAIT * 100 * ms
      if s.sys.mode == .boot && s.comes due then
        let t := s.at due
        let t := { t with sys := { t.sys with pwaitAt := none } }
        if t.sys.partners then t else raise S.SYS_PARTNER (partnerDetail t) (t.w R.SYS_BOOT_PWAIT_EXP 1)
      else s
    | none => s)

/-! ### Mode requests (R516) -/

/-- MODE and MODE_WHY of SYS_REQ_STAT. -/
def reqResult (res why : Nat) (s : State) : State :=
  { s with regs := rput (rput (rput s.regs R.SYS_REQ_STAT_MODE res) R.SYS_REQ_STAT_MODE_WHY why) R.SYS_REQ_STAT_NEW 1 }

/-- A power-down is under way or complete. -/
def pdnActive (s : State) : Bool := s.sys.pdnBusy || s.sys.pdnReady

/-- A write of SYS_MODE_REQ: TARGET takes the value; with GO a request is made, or refused with reason 6 or 4. -/
def modeReqEff (val : Word) (s : State) : State :=
  let target := bitsOf val.toNat 2 0
  let s := s.w R.SYS_MODE_REQ_TARGET target
  if !val.getLsbD 31 then s
  else if pdnActive s then reqResult 3 6 s
  else if s.sys.req.isSome || s.sys.reqAgreed.isSome then reqResult 3 4 s
  else reqResult 1 0 { s with sys := { s.sys with req := some ⟨BitVec.ofNat 3 target, s.tb⟩ } }

/-- The word that requests a target. -/
def modeReqWord (target : Nat) : Word := BitVec.ofNat 32 (0x80000000 + target)

/-- MODE_REQ_CONFIGURE, MODE_REQ_RUN, MODE_REQ_MAINTAIN (R516). -/
def execModeReqConfigure (s : State) : Host.Outcome State Fault Refusal := .next (hostWr 0x14 (modeReqEff (modeReqWord 1)) s)
def execModeReqRun (s : State) : Host.Outcome State Fault Refusal := .next (hostWr 0x14 (modeReqEff (modeReqWord 3)) s)
def execModeReqMaintain (s : State) : Host.Outcome State Fault Refusal := .next (hostWr 0x14 (modeReqEff (modeReqWord 4)) s)

/-- R514 has a transition from the present mode to a requested target. -/
def hasTransition (s : State) (target : Nat) : Bool :=
  match target with
  | 1 => s.inMode [.boot, .commission, .maintain, .safeHold]
  | 3 => s.inMode [.maintain]
  | 4 => s.inMode [.boot, .run, .degraded]
  | _ => false

/-- The reason for which a scan refuses a request, in the order 1, 5, 2, 3; 0 = none. A request out of a Boot that R38 holds has
no transition (log entry 56). -/
def reqWhy (s : State) (target : Nat) : Nat :=
  if !hasTransition s target || bootHeld s then 1
  else if s.sys.mode == .boot && !s.sys.internal then 5
  else if target = 1 && !s.cfg.key then 2
  else if target = 3 && !(s.sys.partners && poweredAll s) then 3
  else 0

/-- Phase 1 judges a request made at least 2 µs before the boundary. -/
def judgeReq (s : State) : State :=
  match s.sys.req with
  | none => s
  | some q =>
    if s.lan.boundary < q.at' + 2 * us then s
    else
      let t := { s with sys := { s.sys with req := none } }
      let why := reqWhy t q.target.toNat
      if why = 0 then { t with sys := { t.sys with reqAgreed := some q.target } } else reqResult 3 why t

/-- What a trigger earlier in R515 overtakes is refused with reason 7. -/
def overtakeReq (s : State) : State :=
  if s.sys.reqAgreed.isSome then reqResult 3 7 { s with sys := { s.sys with reqAgreed := none } } else s

/-- An agreed request takes effect at the boundary. -/
def takeReq (recovered : BitVec 9) (fail : BitVec 17) (s : State) : State :=
  match s.sys.reqAgreed with
  | none => s
  | some q =>
    let t := { s with sys := { s.sys with reqAgreed := none } }
    if bootHeld t then reqResult 3 1 t
    else
    let t := reqResult 2 0 t
    match q.toNat with
    | 1 => setMode .configure t
    | 3 => setMode (runMode t) t
    | _ => restartDomains recovered fail (setMode .maintain t)

/-! ### Deliberate reset (R527-R530) -/

/-- DRST and DRST_WHY of SYS_REQ_STAT. -/
def drstResult (res why : Nat) (s : State) : State :=
  { s with regs := rput (rput (rput s.regs R.SYS_REQ_STAT_DRST res) R.SYS_REQ_STAT_DRST_WHY why) R.SYS_REQ_STAT_NEW 1 }

/-- A write of SYS_CTRL.DRST. -/
def drstEff (s : State) : State := drstResult 1 0 { s with sys := { s.sys with drst := some (s.sys.drst.getD s.tb) } }

/-- A write of SYS_CTRL.RESTART (R517). -/
def restartEff (s : State) : State :=
  if s.inMode [.configure, .commission, .maintain, .safeHold] then deviceReset causeRestart s else reqResult 3 1 s

/-- A write of SYS_CTRL.PDN (R531). -/
def pdnEff (s : State) : State :=
  if pdnActive s then reqResult 3 6 s
  else if !s.inMode [.configure, .commission, .maintain, .safeHold] then reqResult 3 1 s
  else
    let t := { s with sys := { s.sys with pdnBusy := true, pdnHold := s.lan.run }, regs := rput s.regs R.SYS_REQ_STAT_PDN_BUSY 1 }
    if t.lan.run then t else enterHold t

/-- A write of SYS_CTRL: another KEY, or more than one action, is discarded with SYS.ACCESS (R527). -/
def sysCtrlEff (val : Word) (s : State) : State :=
  let n := val.toNat
  if bitsOf n 15 8 != 0xD5 || decide (1 < popcount (val.extractLsb' 0 3)) then raiseAccess 0 true 0x18 s
  else if val.getLsbD 0 then drstEff s
  else if val.getLsbD 1 then restartEff s
  else if val.getLsbD 2 then pdnEff s
  else s

/-- A write of SYS_CTRL with one action and a key. -/
def sysCtrlWr (act : Nat) (key : BitVec 8) (s : State) : Host.Outcome State Fault Refusal :=
  .next (hostWr 0x18 (sysCtrlEff (BitVec.ofNat 32 (act + 256 * key.toNat))) s)

/-- DELIBERATE_RESET (R527). -/
def execDeliberateReset (key : BitVec 8) (s : State) : Host.Outcome State Fault Refusal := sysCtrlWr 1 key s

/-- RESTART (R517). -/
def execRestart (key : BitVec 8) (s : State) : Host.Outcome State Fault Refusal := sysCtrlWr 2 key s

/-- POWER_DOWN (R531). -/
def execPowerDown (key : BitVec 8) (s : State) : Host.Outcome State Fault Refusal := sysCtrlWr 4 key s

/-- The reason for which the drive phase refuses a deliberate reset (R528); 0 = none. -/
def drstWhy (s : State) : Nat :=
  if s.keep.lockdown then 1
  else if s.lan.svcCount < 2 || s.lan.repairExpired then 2
  else if s.lan.verdict.map (fun w => w.toNat % 16) != some 0 then 3
  else if pdnActive s then 6
  else 0

/-- Every bit of a field pin that DETAIL names meets a condition: SI bits, output bits. -/
def pinsMeet (detail : Word) (si : BitVec 32) (so : BitVec 20) : Bool :=
  [bitsOf detail.toNat 7 0, bitsOf detail.toNat 15 8].all fun p =>
    if p < 32 then si.getLsbD p else if p < 52 then so.getLsbD (p - 32) else true

/-- The condition of a field source for leaving Safe-hold (R378, R383, R529). -/
def fldClearOk (s : State) (c : Src) (detail : Word) : Bool :=
  let f := s.fld
  let p := bitsOf detail.toNat 7 0
  let g := p - 0xFE
  if c == S.FLD_TPAT then (patClean f).getLsbD p
  else if c == S.FLD_THR then (thrClean s.tb f).getLsbD p
  else if c == S.FLD_CROSS then
    if p < 32 then (patClean f).getLsbD p else pinsMeet detail (BitVec.allOnes 32) (soClean f)
  else if c == S.FLD_STUCK || c == S.FLD_LEG_ON then (soClean f).getLsbD (p - 32)
  else if c == S.FLD_TP_OVL then !f.tpHeld.getLsbD (p - 64)
  else if c == S.FLD_SAG || c == S.FLD_MISSING then (supplyGood s.tb f).getLsbD g
  else if c == S.FLD_LOW then !f.low.getLsbD g
  else if c == S.FLD_OVL then !f.clamp.getLsbD (p - 32)
  else if c == S.FLD_GRP_OVL then f.clamp &&& (if g = 0 then 0x000FF else 0x0FF00) == 0
  else if c == S.FLD_WDG then !f.expired
  else if c == S.FLD_CFG then (match s.lan.sample with | some x => x.getD 5 0 == s.lan.fldCrc | none => false)
  else true

/-- The condition of one S3 source (R529), other than SYS.CHIP_LOOP. -/
def s3Clear (s : State) (c : Src) (detail : Word) : Bool :=
  if c.blk = 5 then fldClearOk s c detail
  else if c == S.CMP_XY then !s.rb R.LAN_CMP_STAT_X_FAIL && !s.rb R.LAN_CMP_STAT_Y_FAIL
  else if c == S.CFG_SEAL then s.cfg.seal0 && s.cfg.seal1
  else if c == S.PWR_AO then decide (s.pwr.aoSince + 100 * ms ≤ s.lan.boundary)
  else !(c == S.SYS_STEST || c == S.LAN_REPAIR || c == S.CMP_KAP || c == S.PWR_REFCLK)

/-- The condition of the source recorded in SYS_FLT_CHIP, which records no DETAIL: for a field source no pin that it may name is
still faulty (R529; DESIGN CHOICE, log entry 86). -/
def chipClear (s : State) (c : Src) : Bool :=
  let f := s.fld
  if c == S.FLD_TPAT || c == S.FLD_THR then f.siOk == BitVec.allOnes 32
  else if c == S.FLD_CROSS then f.siOk == BitVec.allOnes 32 && f.soOk == BitVec.allOnes 20
  else if c == S.FLD_STUCK || c == S.FLD_LEG_ON then f.soOk == BitVec.allOnes 20
  else if c == S.FLD_TP_OVL then f.tpHeld == 0
  else if c == S.FLD_SAG || c == S.FLD_MISSING then f.sunk == 0
  else if c == S.FLD_LOW then f.low == 0
  else if c == S.FLD_OVL || c == S.FLD_GRP_OVL then f.clamp == 0
  else s3Clear s c 0

/-- Every S3 source raised since Safe-hold was entered meets its condition (R529). -/
def holdClear (s : State) : Bool :=
  s.sys.s3.all fun e =>
    if e.1 == S.SYS_CHIP_LOOP then
      (match s.keep.chip with | some (b, c) => chipClear s ⟨b, c⟩ | none => true)
    else s3Clear s e.1 e.2

/-- The mode entered on leaving Safe-hold (R530). -/
def holdTarget (s : State) : Mode :=
  if s.sys.holdFrom == .configure then .configure
  else if !s.cfg.validated then .commission
  else if s.sys.holdFrom == .maintain || !s.sys.partners || !poweredAll s then .maintain
  else runMode s

/-- The pins and field groups whose fault remains: SI_OK, SO_OK or SL_OK is still 0 (R383), or FSx_OK is (R378). -/
def brokenPins (f : Fld) : List Nat :=
  ones f.siOk.not ++ (ones f.soOk.not).map (32 + ·) ++ (ones f.sunk).map (0xFE + ·)

/-- The groups of those pins: a reset never releases a function whose fault remains (R341, R383). -/
def brokenGroups (s : State) : BitVec 16 :=
  match s.lan.image with
  | none => 0
  | some im => (brokenPins s.fld).foldl (fun g p => g ||| pinGroups s.regs im p) 0

/-- The groups in Safe-hold leave it at the boundary after the reset, but for those whose field fault remains (R383, R528). -/
def drstGroups (s : State) : State :=
  if s.sys.drstDone then { s with sys := { s.sys with grpHold := s.sys.grpHold &&& brokenGroups s } } else s

/-- The reset completes at the boundary of scan k + 1: device Safe-hold is left where R529 allows it. -/
def drstBoundary (recovered : BitVec 9) (fail : BitVec 17) (s : State) : State :=
  if !s.sys.drstDone then s
  else
    let t := { s with sys := { s.sys with drstDone := false } }
    if t.sys.mode != .safeHold then drstResult 2 0 t
    else if !holdClear t then drstResult 3 4 t
    else
      let m := holdTarget t
      let t := overtakeReq (setMode m (drstResult 2 0 t))
      if m == .maintain then restartDomains recovered fail t else t

/-! ### Forced raisings, BLK and CHIP (R502-R505) -/

/-- A write of xxx_FLT_FORCE. -/
def forceEff (blk : Nat) (val : Word) (s : State) : State :=
  let off := fltOff blk 0xF004
  if s.inMode [.configure, .commission, .maintain] && s.cfg.key then
    let srcs := (ones val).map fun c => (⟨BitVec.ofNat 4 blk, BitVec.ofNat 5 c⟩ : Src)
    (srcs.filter fun c => (srcRow c).isSome).foldl (fun s c =>
      raiseWith { src := c, detail := mread 0 s.regs (fltOff blk 0xF008), acc := ⟨0, 1, BitVec.ofNat 32 off, s.tb⟩, forced := true } s) s
  else raiseAccess blk true off s

/-- FAULT_FORCE (R504). -/
def execFaultForce (blk : Fin 16) (val : BitVec 32) (s : State) : Host.Outcome State Fault Refusal :=
  .next (if blk.val < 14 then hostWr (fltOff blk 0xF004) (forceEff blk val) s else s)

/-- The effect of BLK on its block (R502). -/
def blkEff (blk : Nat) (s : State) : State :=
  match blk with
  | 1 => flrEff s
  | 3 => { s with vpt := { s.vpt with ports := vimap (fun n p =>
      if s.portOn n then { p with st := .search, await := false, halt := false } else p) s.vpt.ports } }
  | 6 => netReset s
  | 7 => (List.finRange 2).foldl (fun s p =>
      let t := if s.osr.links[p].st == .up then linkLeave p 1 s else s.link p fun k => { k with st := .down }
      trainLink t p) s
  | 8 => adcBlk s
  | 10 =>
    let m := s.regs.filter fun e => !decide (0xA0000 ≤ e.1 ∧ e.1 < 0xAF000)
    { s with regs := m, crc := Vector.ofFn fun u => crcStartUnit m u.val }
  | _ => s

/-- BLK_RESET (R501, R502): 2-10 µs after the raising. -/
def execBlkReset (blk : Fin 16) (s : State) : Host.Outcome State Fault Refusal :=
  .next (if s.sys.blkDue.getLsbD blk then
      let t := { s with sys := { s.sys with blkDue := putBit s.sys.blkDue blk false } }
      if t.blockUp blk then blkEff blk t else t
    else s)

/-- CHIP_RESET (R503): 100 µs after the raising. -/
def execChipReset (s : State) : Host.Outcome State Fault Refusal :=
  .next (match s.sys.chipDue with
    | none => s
    | some (c, due) =>
      if !s.comes due then s else
      let t := s.at due
      let t := { t with sys := { t.sys with chipDue := none } }
      let soon := match t.sys.chipEnd with | some e => decide (t.tb ≤ e + 6000000000) | none => false
      if t.keep.lockdown then t
      else if soon then raise S.SYS_CHIP_LOOP 0 t
      else
        let t := t.stat 1 5 1
        deviceReset causeChip { t with keep := { t.keep with chip := some (c.blk, c.code) } })

/-! ### ERR_N (R506-R509) -/

/-- Pump mode. -/
def pumpMode (s : State) : Bool := s.rb R.SYS_ERR_CFG_MODE

/-- Instant at which the minimum width ends. -/
def errEnd (s : State) : Nat := s.sys.epinAt + s.r R.SYS_ERR_CFG_MIN_MS * ms

/-- A write of SYS_ERR_REL.REL. -/
def errRelEff (s : State) : State :=
  if s.keep.lockdown || !s.sys.errLatch then s
  else if pumpMode s || decide (errEnd s ≤ s.tb) then { s with sys := { s.sys with errLatch := false, errRelWait := false } }
  else { s with sys := { s.sys with errRelWait := true } }

/-- ERR_RELEASE (R509). -/
def execErrRelease (s : State) : Host.Outcome State Fault Refusal := .next (hostWr 0xF408 errRelEff s)

/-- ERR_MIN_WIDTH_END (R509). -/
def execErrMinWidthEnd (s : State) : Host.Outcome State Fault Refusal :=
  .next (if s.sys.errRelWait && s.comes (errEnd s) then
      let t := s.at (errEnd s)
      { t with sys := { t.sys with errLatch := false, errRelWait := false } }
    else s)

/-- ERR_N is held low whatever the mode and the reactions (R506, R603). -/
def errHeld (s : State) : Bool :=
  !s.sys.errArmed || s.lan.image.isNone || s.keep.lockdown || s.sys.mode == .lockdown || !s.pwr.refOk || !s.pwr.aoOk || s.pwr.rstLow
    || s.pwr.testHold

/-- Lanes whose latest token is younger than 2.5 × t_scan. -/
def freshTokens (s : State) : Nat :=
  ((List.finRange 3).filter fun l => match s.lan.lanes[l].tokenAt with
    | some t => decide (s.tb ≤ t + 5 * s.period / 2)
    | none => false).length

/-- The conditions under which the square wave runs (R507). -/
def pumpRuns (s : State) : Bool := pumpMode s && !s.sys.errLatch && decide (2 ≤ freshTokens s) && !errHeld s

/-- Level of ERR_N. -/
def errPin (s : State) : Bool := !errHeld s && (if pumpMode s then pumpRuns s && s.sys.pump && s.sys.wave else !s.sys.errLatch)

/-- PUMP_SQUARE_WAVE_EDGE (R507): at each half period of SYS_ERR_CFG.HZ, in whole ticks (log entry 87). -/
def execPumpSquareWaveEdge (s : State) : Host.Outcome State Fault Refusal :=
  let t := if s.sys.pump then s.at (s.sys.waveAt + 50000000 / s.r R.SYS_ERR_CFG_HZ) else s
  .next (if pumpRuns t then { t with sys := { t.sys with pump := true, wave := !t.sys.wave, waveAt := t.tb } }
    else { s with sys := { s.sys with pump := false, wave := false } })

/-- The instant from which fewer than two tokens are younger than 2.5 × t_scan. -/
def tokenEnd (s : State) : Nat :=
  let l := (List.finRange 3).filterMap fun i => s.lan.lanes[i].tokenAt
  match l with
  | a :: b :: rest => (rest.foldl (fun (p : Nat × Nat) t => if p.1 ≤ t then (t, p.1) else (p.1, max p.2 t)) (max a b, min a b)).2
      + 5 * s.period / 2 + 1
  | _ => 0

/-- PUMP_TOKEN_EXPIRE (R507). -/
def execPumpTokenExpire (s : State) : Host.Outcome State Fault Refusal :=
  .next (if s.sys.pump && s.comes (tokenEnd s) then
      let t := s.at (tokenEnd s)
      { t with sys := { t.sys with pump := false, wave := false } }
    else s)

end Sys2Proof.Machine
end

