-- ==== Sys2Proof/Machine/Scan.lean ====
section
/-! DEFINITION. The scan boundary and phase 1: transitions, hold requests, input agreement, pace, field reports (R236-R242,
R256, R270, R281-R283, R497, R514, R527, R601). -/

namespace Sys2Proof.Machine

/-! ### Self-test and re-admission at a boundary (R270, R271) -/

/-- Lanes in service, in order. -/
def voters (s : State) : List (Fin 3) := (List.finRange 3).filter s.lan.inService

/-- Step 1: zero. A TEST asserts the retire lines; the lane is reset. -/
def joinZero (j : Join) (s : State) : State :=
  let t := { s with lan := { s.lan with join := some { j with step := 1, zero := some s.lan.boundary } } }
  let t := if j.test then laneQuiet j.lane t else t
  t.lane j.lane fun x => { x with stopped := false, eccStop := false, vars := [], frames := [], outs := [], own := none }

/-- Step 3: the two lanes in service send their live set, which must be equal. -/
def joinTransfer (j : Join) (s : State) : State :=
  match voters s with
  | [a, b] =>
    if s.lan.lanes[a].vars = s.lan.lanes[b].vars then
      { s with lan := { s.lan with join := some { j with step := 2 } } }.lane j.lane fun x => { x with vars := s.lan.lanes[a].vars }
    else joinFail S.LAN_READMIT s
  | _ => joinFail S.LAN_READMIT s

/-- Step 5: the lane is admitted, with the comparator of its domain (R268). -/
def joinAdmit (j : Join) (s : State) : State :=
  let t := s.lane j.lane fun x => { x with retired := false, quietAt := none, autoDue := none }
  lanResult 2 j.lane ({ t with lan := { t.lan with join := none, cmpX := t.lan.cmpX || j.lane == 0, cmpY := t.lan.cmpY || j.lane == 1 }
    }.w R.LAN_IN_CNT_CONSEC 0 j.lane)

/-- A request under way at a scan boundary. -/
def joinScan (s : State) : State :=
  match s.lan.join with
  | none => s
  | some j =>
    match j.step with
    | 0 => joinZero j s
    | 1 => if j.selfDone && decide (j.zero.getD s.lan.boundary + 12 * ms ≤ s.lan.boundary) then joinTransfer j s else s
    | 2 => { s with lan := { s.lan with join := some { j with step := 3 } } }
    | _ => joinAdmit j s

/-! ### Opening a scan (R236, R237, R244) -/

/-- The boundary at which the next scan begins: a multiple of PERIOD. -/
def nextBoundary (s : State) : Nat := if s.lan.run then s.lan.boundary + s.period else nextMultiple s.period 0 s.tb

/-- The lanes may begin a scan: configuration loaded, on a ring follower after the timebase step of R421; a scan under way has
reached its drive phase. -/
def scanReady (s : State) : Bool :=
  s.sys.loaded && s.lan.image.isSome && s.pwr.aoOk && s.pwr.refOk && !s.pwr.refGone && !s.pwr.rstLow && !s.pwr.testHold
    && (decide (s.ndev < 2) || decide (s.ringId = 0) || s.osr.stepped) && (!s.lan.run || s.lan.phase == 0)

/-- A lane at the start of a scan: everything outside the live set is zero. -/
def openLane (im : Option Image) (x : Lane) : Lane :=
  { x with vars := (match im with | some im => clearDead im x.vars | none => x.vars), mid := none, res := none }

/-- The scan at boundary b opens; the timers of the lanes count the time since the boundary before. -/
def openScan (b : Nat) (s : State) : State :=
  let dt := if s.lan.run then b - s.lan.boundary else 0
  let t := { s with
    lan := { s.lan with run := true, phase := 1, boundary := b, scanNo := s.lan.scanNo + 1, verdict := none, forceOff := false,
                        hostReset := false, ringIn := [], secondHeld := s.lan.secondNow, secondNow := 0,
                        lanes := s.lan.lanes.map (openLane s.lan.image) }
    sys := { s.sys with errArmed := true, drstScan := false, step := if s.sys.step = 6 then 7 else s.sys.step } }
  recurScan dt (repairScan dt (joinScan t))

/-! ### Transitions at a boundary (R514, R515) -/

/-- Retirement and admission: Run to Degraded, Degraded to Run. -/
def laneTransitions (s : State) : State :=
  if s.sys.mode == .run && anyRetired s then overtakeReq (setMode .degraded s)
  else if s.sys.mode == .degraded && s.lan.svcCount == 3 && s.lan.cmpX && s.lan.cmpY then overtakeReq (setMode .run s)
  else s

/-- VALIDATE is done: Commission ends once three lanes are in service (R549). -/
def validatedRun (s : State) : State :=
  if s.sys.mode == .commission && s.sys.validated && s.lan.svcCount == 3 then
    setMode .run { s with sys := { s.sys with validated := false } }
  else s

/-- Boot ends as phase 1 of the scan before agreed; after a CHIP reaction in Safe-hold (R503). -/
def bootEnd (s : State) : State :=
  if s.sys.bootAgreed && s.sys.mode == .boot && !bootHeld s then
    if !s.cfg.validated then setMode .commission s
    else if s.sys.chipBoot then enterHold s
    else setMode (runMode s) s
  else s

/-- The changes that take effect at the boundary, in the order of R515. -/
def transitions (io : ScanIn) (s : State) : State :=
  let t := drstBoundary io.recovered io.testFail (drstGroups s)
  let t := bootEnd (validatedRun (takeReq io.recovered io.testFail (laneTransitions t)))
  { t with sys := { t.sys with bootAgreed := false } }

/-! ### Hold requests and the deliberate reset (R497, R527) -/

/-- Hold requests that are agreed in this scan: those made 2 µs before its boundary, or any in the lanes' first scan. -/
def takeHolds (first : Bool) (s : State) : State :=
  let due := s.sys.holds.filter fun h => first || decide (h.at' + 2 * us ≤ s.lan.boundary)
  let groups := due.foldl (fun (g : BitVec 16) (h : HoldReq) => g ||| h.groups) 0
  { s with sys := { s.sys with holds := s.sys.holds.filter (fun h => !due.contains h), acts := s.sys.acts ++ due,
                               grpHold := s.sys.grpHold ||| groups } }

/-- The host's request, 2 µs before the boundary: HOST_RESET is 1 in this scan. -/
def hostResetScan (s : State) : State :=
  match s.sys.drst with
  | some a =>
    if a + 2 * us ≤ s.lan.boundary then
      { s with lan := { s.lan with hostReset := true }, sys := { s.sys with drst := none, drstScan := true } }
    else s
  | none => s

/-- The operator's request: the input of SYS_DRST_CFG falls after 100 ms to 5 s at 1. -/
def inputResetScan (before : Bool) (s : State) : State :=
  let i := s.r R.SYS_DRST_CFG_SI
  let b := s.lan.boundary
  let now := decide (i < 32) && s.lan.map.bit i
  if now then { s with lan := { s.lan with drstRose := if before then s.lan.drstRose else some b } }
  else
    let held := match s.lan.drstRose with | some r => before && decide (r + 100 * ms ≤ b ∧ b ≤ r + 5000 * ms) | none => false
    let t := { s with lan := { s.lan with drstRose := none } }
    if held then drstResult 1 0 { t with sys := { t.sys with drstScan := true } } else t

/-! ### The sample (R240, R241) -/

/-- Of two sample numbers, a is the more recent. -/
def snumHigher (a b : Nat) : Bool := decide (1 ≤ (a + 65536 - b) % 65536 ∧ (a + 65536 - b) % 65536 ≤ 32767)

/-- The frame of a sample number that a lane holds. -/
def frameOf (s : State) (n : Nat) (l : Fin 3) : Option Frame := s.lan.lanes[l].frames.find? fun f => fw f 0 % 65536 == n

/-- The highest number that at least two lanes in service hold. -/
def agreedSnum (s : State) : Option Nat :=
  let v := voters s
  let nums := v.flatMap fun l => s.lan.lanes[l].frames.map fun f => fw f 0 % 65536
  (nums.filter fun n => decide (2 ≤ (v.filter fun l => (frameOf s n l).isSome).length)).foldl
    (fun (best : Option Nat) n => match best with | some m => if snumHigher n m then some n else best | none => some n) none

/-- Bits that at least two of some copies hold at 1. -/
def major {n : Nat} : List (BitVec n) → BitVec n
  | [] => 0
  | a :: l => l.foldl (fun b x => b ||| (a &&& x)) 0 ||| major l

/-- The word that at least two of some copies hold. -/
def wordVote (l : List Word) : Option Word := l.find? fun v => decide (2 ≤ (l.filter (· == v)).length)

/-- The bit entries that a sample frame fills. -/
def frameBits (f : Frame) : BitVec 200 :=
  BitVec.ofNat 200 (fw f 1 + 2 ^ 32 * fw f 2 + 2 ^ 64 * (fw f 3 % 2 ^ 20) + 2 ^ 84 * (fw f 4 % 2 ^ 22))

/-- The agreed sample: its number with bit 31 set, bits as agreed, and words 5 and 6 voted whole (log entry 33). -/
def agreedSample (n : Nat) (frames : List Frame) (bits : BitVec 200) (before : Option Frame) : Frame :=
  let old := before.getD []
  let b := bits.toNat
  let word := fun i => (wordVote (frames.map fun f => f.getD i 0)).getD (old.getD i 0)
  let flags := major (frames.map fun f => f.getD 4 0)
  [BitVec.ofNat 32 (n + 2 ^ 31), BitVec.ofNat 32 b, BitVec.ofNat 32 (b / 2 ^ 32), BitVec.ofNat 32 (b / 2 ^ 64 % 2 ^ 20),
   BitVec.ofNat 32 (b / 2 ^ 84 % 2 ^ 22) ||| (flags &&& 0x01C00000), word 5, word 6]

/-! ### The input map (R241, R281-R283) -/

/-- The bit entries that do not come from the field die. The ring's entries follow at RAGREE. -/
def plainBits (silent : Bool) (s : State) : BitVec 200 :=
  let ports := (List.finRange 16).foldl (fun (b : BitVec 16) n => putBit b n.val (s.vpt.ports[n].st == .ready)) 0
  let live := ~~~s.cis.dark
  let conns := s.r R.NET_CONN_OK_OK
  BitVec.ofNat 200 (2 ^ 106 * b2n (!silent) + 2 ^ 107 * b2n s.lan.hostReset + 2 ^ 108 * b2n (s.lan.svcCount == 3)
    + 2 ^ 112 * (~~~s.sys.grpHold).toNat + 2 ^ 128 * ports.toNat + 2 ^ 144 * live.toNat + 2 ^ 168 * conns)

/-- R281 lists a bit index; the ring's entries, 160-167, are agreed at RAGREE. -/
def bitListed (ring : Bool) (i : Nat) : Bool :=
  if ring then decide (160 ≤ i ∧ i < 168)
  else decide (i < 109) || decide (112 ≤ i ∧ i < 160) || decide (168 ≤ i ∧ i < 200)

/-- A lane's copy of the bit entries. -/
def laneBits (ex : Exchange) (ring : Bool) (base : BitVec 200) (l : Fin 3) : BitVec 200 :=
  ex.flips.foldl (fun b x => if x.lane = l && !x.word && bitListed ring x.index then putBit b x.index (x.value.getLsbD 0) else b) base

/-- A lane's copy of a word entry. -/
def laneWord (ex : Exchange) (i : Nat) (base : Word) (l : Fin 3) : Word :=
  match ex.flips.find? fun x => x.lane = l && x.word && x.index == i with
  | some x => x.value
  | none => base

/-- The word entries that the lanes vote on: index and what the lanes hold; none where there is nothing new to agree. -/
def wordEntries (s : State) : List (Nat × Option Word) :=
  let b := s.lan.boundary
  let aval := (List.range 48).map fun i => (i, (adcSnap s.adc (i / 24) (i % 24) b).map fun x => x.value.setWidth 32)
  let conn := (List.finRange 32).flatMap fun n => (List.range 4).map fun j =>
    (256 + 4 * n.val + j, some (if s.net.conns[n].ok then s.net.conns[n].data.extractLsb' (32 * j) 32 else 0))
  aval ++ (96, some (BitVec.ofNat 32 s.sys.mode.num)) :: conn

/-- One word entry agreed from the copies of some lanes: the map, and the analog entries agreed. -/
def agreeWord (ex : Exchange) (lanes : List (Fin 3)) (acc : Map Word × BitVec 48) (e : Nat × Option Word) : Map Word × BitVec 48 :=
  match e.2.bind fun base => wordVote (lanes.map (laneWord ex e.1 base)) with
  | some w => (mput 0 acc.1 e.1 w, if e.1 < 48 then putBit acc.2 e.1 true else acc.2)
  | none => acc

/-- Completion stamps of the analog entries: renewed where the agreed value comes from a conversion. -/
def agreeStamps (s : State) (old : Map Nat) (fresh : BitVec 48) : Map Nat :=
  (ones fresh).foldl (fun m i => match adcSnap s.adc (i / 24) (i % 24) s.lan.boundary with
    | some x => mput 0 m i (x.stamp + 1)
    | none => m) old

/-- Age in µs of an analog entry at the boundary: all ones until its first agreed conversion. Stamps are kept one above the
instant, so that 0 is no stamp. -/
def ageWord (b : Nat) (stamps : Map Nat) (i : Nat) : Word :=
  match mread 0 stamps i with
  | 0 => 0xFFFFFFFF
  | t + 1 => BitVec.ofNat 32 (min ((b - t) / us) 0xFFFFFFFF)

/-- The agreed map and its stamps, formed from the copies of some lanes over those of the scan before (R241, R283); `base` gives
each lane's bit entries. -/
def mapFrom (ex : Exchange) (s : State) (base : Fin 3 → BitVec 200) (lanes : List (Fin 3)) (old : InMap × Map Nat) :
    InMap × Map Nat :=
  let words := (wordEntries s).foldl (agreeWord ex lanes) (old.1.words.filter fun e => !decide (128 ≤ e.1 ∧ e.1 < 136), 0)
  let stamps := agreeStamps s old.2 words.2
  (⟨major (lanes.map fun l => laneBits ex false (base l) l),
    (List.range 48).foldl (fun (m : Map Word) i => mput 0 m (48 + i) (ageWord s.lan.boundary stamps i)) words.1⟩, stamps)

/-- A lane's own copy differs from the agreed map in some entry. -/
def copyDiffers (ex : Exchange) (s : State) (base : Fin 3 → BitVec 200) (map : InMap) (l : Fin 3) : Bool :=
  laneBits ex false (base l) l != map.bits
    || (wordEntries s).any fun e => match e.2 with | some w => laneWord ex e.1 w l != mread 0 map.words e.1 | none => false

/-- The copies that lane l has: its own, and those of the present lanes whose link to it works (R242). -/
def heard (ex : Exchange) (s : State) (l : Fin 3) : List (Fin 3) :=
  (voters s).filter fun m => decide (m = l) || (!ex.absent.getLsbD m.val && !ex.cut.getLsbD (3 * m.val + l.val))

/-- A link to lane l from a present lane in service fails. -/
def linkCut (ex : Exchange) (s : State) (l : Fin 3) : Bool :=
  (voters s).any fun m => decide (m ≠ l) && !ex.absent.getLsbD m.val && ex.cut.getLsbD (3 * m.val + l.val)

/-- What a lane forms by itself where links to it fail; none where that is what the others have (log entry 77). -/
def ownMap (cut : Bool) (before : Option (InMap × Map Nat)) (form : Option (InMap × Map Nat) → InMap × Map Nat)
    (all : InMap × Map Nat) : Option (InMap × Map Nat) :=
  if cut || before.isSome then (if form before = all then none else some (form before)) else none

/-- Input agreement: the agreed sample, the agreed maps, the minority lanes. -/
def agree (ex : Exchange) (silent : Bool) (s : State) : State × BitVec 3 :=
  let present := (voters s).filter fun l => !ex.absent.getLsbD l.val
  let n := agreedSnum s
  let frame := fun (l : Fin 3) => n.bind fun n => frameOf s n l
  let base := fun l => plainBits silent s ||| (match frame l with | some f => frameBits f | none => 0)
  let shared := (s.lan.map, s.lan.stamps)
  let all := mapFrom ex s base present shared
  let sample := match n with
    | some n => some (agreedSample n (present.filterMap frame) all.1.bits s.lan.sample)
    | none => s.lan.sample.map fun f => 0 :: 0 :: 0 :: 0 :: 0 :: f.drop 5
  let lanes := vimap (fun l (x : Lane) =>
    { x with own := ownMap (linkCut ex s l) x.own (fun before => mapFrom ex s base (heard ex s l) (before.getD shared)) all }) s.lan.lanes
  let minor := (voters s).foldl (fun (m : BitVec 3) l => putBit m l.val
    (ex.absent.getLsbD l.val || (n.isSome && (frame l).isNone) || copyDiffers ex s base all.1 l)) 0
  ({ s with lan := { s.lan with map := all.1, stamps := all.2, sample := sample, lanes := lanes } }, minor)

/-- The second minority scan of a lane in a row retires it where three are in service; two lanes in service that disagree in two
scans in a row are a second fault (R242). -/
def judgeMinority (v : List (Fin 3)) (hit : BitVec 3) (s : State) : State :=
  if v.length = 3 then
    (v.filter fun (l : Fin 3) => hit.getLsbD l.val && decide (2 ≤ s.r R.LAN_IN_CNT_CONSEC l)).foldl
      (fun s l => laneFault l 5 (some S.LAN_IN_AGREE) s) s
  else if v.length = 2 && s.lan.sdis && s.lan.sdisBefore then secondFault 24 s
  else s

/-- Lanes in a minority have it counted, in this scan and in a row (R242). -/
def countMinority (before : Vector Nat 3) (hit : List (Fin 3)) (m : Map Word) : Map Word :=
  hit.foldl (fun m (l : Fin 3) => rput (radd m R.LAN_IN_CNT_MINORITY 1 l) R.LAN_IN_CNT_CONSEC (min (before[l] + 1) 255) l) m

/-- Minority scans of the lanes in service at phase 1 (R242). -/
def minority (minor : BitVec 3) (s : State) : State :=
  let v := voters s
  let before := Vector.ofFn fun (l : Fin 3) => s.r R.LAN_IN_CNT_CONSEC l
  let m := v.foldl (fun m (l : Fin 3) => rput m R.LAN_IN_CNT_CONSEC 0 l) s.regs
  judgeMinority v minor { s with
    regs := countMinority before (v.filter fun l => minor.getLsbD l.val) m
    lan := { s.lan with sdis := v.length == 2 && minor != 0, sdisBefore := s.lan.sdis, minor := minor, consec := before } }

/-! ### The pace monitor (R145, R256, R257) -/

/-- Predicted evaluation time of N blocks in 1/65,536 ps: N × t_r × K (R256). -/
def paceTime (l : Fin 3) (ring n : Nat) : Nat := n * (ring * Config.paceK l)

/-- The window in the same unit. -/
def paceWindow (win : Nat) : Nat := 65536 * 10000 * win

/-- Margin in percent (R257). -/
def paceMargin (p w : Nat) : Nat := 100 * (w - p) / w

/-- The pace of one lane in service: LAN_PACE, the histogram, the telemetry minimum and LAN.PACE_LOW. -/
def paceLane (io : ScanIn) (s : State) (l : Fin 3) : State :=
  match s.lan.image with
  | none => s
  | some im =>
    if !s.lan.inService l then { s.w R.LAN_PACE_MARGIN 0xFF l with lan := { s.lan with paceGood := putBit s.lan.paceGood l.val false } }
    else
      let p := paceTime l io.ring[l] im.blocks.length
      let m := paceMargin p (paceWindow im.win)
      let regs := rput (rput (rput s.regs R.LAN_PACE_MARGIN m l) R.LAN_PACE_PRED (min ((p + 655359999) / 655360000) 65535) l)
        R.LAN_PACE_MIN (min m (s.r R.LAN_PACE_MIN l)) l
      let t := { s with regs := regs,
                        lan := { s.lan with paceGood := putBit s.lan.paceGood l.val (decide (10 ≤ m)) },
                        evs := { s.evs with telMargin := vmod s.evs.telMargin l fun x => BitVec.ofNat 8 (min m x.toNat) } }
      raiseIf (decide (m < 10) && s.lan.paceGood.getLsbD l.val) S.LAN_PACE_LOW 0 (t.stat 3 (64 * l.val + min m 63) 1)

/-! ### Reports of the field die (R355, R382, R385, R601) -/

/-- Word i of the agreed sample. -/
def sampleWord (s : State) (i : Nat) : Nat := fw (s.lan.sample.getD []) i

/-- The fault in EVT is raised once for each count, and acknowledged. -/
def fieldEvent (s : State) : State :=
  let evt := sampleWord s 6
  let cnt := BitVec.ofNat 8 (evt / 2 ^ 24)
  let c : Src := ⟨5, BitVec.ofNat 5 evt⟩
  let t := { s with lan := { s.lan with eack := cnt, evtCnt := cnt } }
  raiseIf (cnt != 0 && cnt != s.lan.evtCnt && decide (evt % 256 < 32) && (srcRow c).isSome) c
    (evt / 256 % 65536 + (if c == S.FLD_FRAME then 65536 else 0)) t

/-- FLD.WDG as the bit appears; FLD.CFG as the agreed CFGCRC begins to differ. -/
def fieldState (wdgBefore : Bool) (s : State) : State :=
  let t := raiseIf ((sampleWord s 4).testBit 24 && !wdgBefore) S.FLD_WDG 0xFDFD s
  let check := match s.lan.fldCheckFrom with | some b => decide (b ≤ s.lan.boundary) && s.lan.sample.isSome | none => false
  if check then
    let bad := BitVec.ofNat 32 (sampleWord s 5) != s.lan.fldCrc
    raiseIf (bad && !s.lan.fldBad) S.FLD_CFG 0xFDFD { t with lan := { t.lan with fldBad := bad } }
  else t

/-! ### The boundary -/

/-- Boot may end at the next boundary: internal steps complete, partners ready, and R38 allows it. -/
def judgeBoot (s : State) : State :=
  { s with sys := { s.sys with bootAgreed := s.sys.mode == .boot && s.sys.internal && s.sys.partners && !bootHeld s } }

/-- Phase 1 (R238): what the lanes agree, find and judge. -/
def phase1 (io : ScanIn) (s : State) : State :=
  let before := s.lan.map.bit (s.r R.SYS_DRST_CFG_SI % 32)
  let wdg := (sampleWord s 4).testBit 24
  let t := netPhase1 s.lan.boundary (hostResetScan s)
  let h := judgeSilent t
  let a := agree io.ex h.1 t
  let t := minority a.2 (inputResetScan before (takeSilent (!a.1.lan.map.bit 106) h.2 a.1))
  let t := (List.finRange 3).foldl (paceLane io) t
  judgeBoot (judgeReq (judgePartners (fieldState wdg (fieldEvent t))))

/-- The boundary is offered as a capture trigger (R479). -/
def scanCaptures (s : State) : State :=
  if s.dom 4 then { s with tmr := offerCap s.regs s.tmr s.tb fun n k => capTrig s.regs n k == 4 } else s

/-- SCAN_BOUNDARY (R236-R242). -/
def execScanBoundary (io : ScanIn) (s : State) : Host.Outcome State Fault Refusal :=
  .next (if scanReady s then
      let b := nextBoundary s
      let first := !s.lan.run
      phase1 io (takeHolds first (transitions io (openScan b (scanCaptures ((s.at b).order 5)))))
    else s)

end Sys2Proof.Machine
end

