-- ==== Sys2Proof/Machine/Phases.lean ====
section
/-! DEFINITION. Evaluation, comparison and drive: phases 2 to 4 of a scan (R238, R243-R255, R258, R259, R265-R267, R295,
R300, R353, R373, R375, R400, R497, R499, R515, R528, R558, R559). -/

namespace Sys2Proof.Machine

/-! ### Phase 2: evaluation -/

/-- Lanes that evaluate: those in service, and a joining lane in its transfer scans; none that has stopped. -/
def evaluators (s : State) : List (Fin 3) :=
  (List.finRange 3).filter fun l => !s.lan.lanes[l].stopped
    && (s.lan.inService l || (match s.lan.join with | some j => j.lane == l && decide (2 ≤ j.step) | none => false))

/-- Upsets of a lane's variables during the evaluation. -/
def upset (l : Fin 3) (us' : List LaneUpset) (v : Map Byte) : Map Byte :=
  us'.foldl (fun m u => if u.lane = l then mput 0 m u.addr.toNat u.value else m) v

/-- One lane evaluates: alone to the end, in a ring to its ring point (R430); a lane that does not finish in the window
delivers nothing (R258). -/
def evalLane (io : EvalIn) (ring : Bool) (im : Image) (inp : InMap) (l : Fin 3) (x : Lane) : Lane :=
  let e := evalPre im inp (upset l io.upsets x.vars)
  if io.late.getLsbD l.val then
    let e := evalPost im inp e
    { x with vars := e.vars, outs := outWords im e.vars }
  else if ring then { x with mid := some e }
  else deliver im (evalPost im inp e) x

/-- The lanes scan, and REF100 has not been lost (R26, R237). -/
def State.clocked (s : State) : Bool := s.lan.run && s.pwr.refOk && !s.pwr.refGone

/-- Phase 2: lanes that halt or meet an uncorrectable codeword stop; the others evaluate. -/
def evalEff (io : EvalIn) (s : State) : State :=
  match s.lan.image with
  | none => s
  | some im =>
    let t := (evaluators s).foldl (fun s l =>
      if io.eccU.getLsbD l.val then laneEccU l s
      else if io.halted.getLsbD l.val then s.lane l fun x => { x with stopped := true, eccStop := false }
      else s.lane l (evalLane io s.ringed im (s.lan.mapOf l) l)) s
    { t with lan := { t.lan with phase := 2 } }

/-- EVAL_PHASE (R295): 20 µs after the boundary. -/
def execEvalPhase (io : EvalIn) (s : State) : Host.Outcome State Fault Refusal :=
  .next (if s.clocked && s.lan.phase == 1 then evalEff io ((s.at (s.lan.boundary + 20 * us)).order 5) else s)

/-! ### Phase 2: the ring agreement (R430, R434) -/

/-- Lane l's copy of an origin's entries; its RING_OK and its word may be upset apart. -/
def ringCopy (ex : Exchange) (s : State) (i : Fin 8) (l : Fin 3) : Bool × Word :=
  ((laneBits ex true (putBit 0 (160 + i.val) (ringEntryOf s i).isSome) l).getLsbD (160 + i.val),
   laneWord ex (128 + i.val) ((ringEntryOf s i).getD 0) l)

/-- An origin's entries agreed from the copies of some lanes: without an agreed word, none (R434). -/
def ringAgreed (ex : Exchange) (s : State) (lanes : List (Fin 3)) (i : Fin 8) : Option Word :=
  let copies := lanes.map (ringCopy ex s i)
  if decide (2 ≤ (copies.filter (·.1)).length) then wordVote (copies.map (·.2)) else none

/-- A map with the ring's entries. -/
def ringMap (e : Fin 8 → Option Word) (m : InMap) : InMap :=
  ⟨(List.finRange 8).foldl (fun b i => putBit b (160 + i.val) (e i).isSome) m.bits,
   (List.finRange 8).foldl (fun w i => mput 0 w (128 + i.val) ((e i).getD 0)) m.words⟩

/-- The maps after the ring agreement, and the lanes in a minority in it. -/
def ringVote (ex : Exchange) (s : State) : State × BitVec 3 :=
  let all := ringAgreed ex s ((voters s).filter fun l => !ex.absent.getLsbD l.val)
  let own := fun (l : Fin 3) => if s.lan.lanes[l].own.isSome || linkCut ex s l then
      some (ringMap (ringAgreed ex s (heard ex s l)) (s.lan.mapOf l), ((s.lan.lanes[l].own).map (·.2)).getD s.lan.stamps)
    else none
  let lanes := vimap (fun l (x : Lane) => { x with own := own l }) s.lan.lanes
  let minor := (voters s).foldl (fun (m : BitVec 3) l => putBit m l.val
    (ex.absent.getLsbD l.val || (List.finRange 8).any fun i => ringCopy ex s i l != ((all i).isSome, (all i).getD 0))) 0
  let ok := (List.finRange 8).foldl (fun (b : BitVec 8) i => putBit b i.val (all i).isSome) 0
  let far := (List.finRange 8).foldl (fun (b : BitVec 8) i => putBit b i.val (rswOf s i).isSome) 0
  ({ s with lan := { s.lan with map := ringMap all s.lan.map, lanes := lanes }, osr := { s.osr with ok := ok, reach := far } }, minor)

/-- A lane in a minority here that was in none in phase 1 has this scan counted now (R242, R434). -/
def ringMinority (minor : BitVec 3) (s : State) : State :=
  let v := voters s
  let hit := minor &&& ~~~s.lan.minor
  judgeMinority v hit { s with
    regs := countMinority s.lan.consec (v.filter fun l => hit.getLsbD l.val) s.regs
    lan := { s.lan with sdis := s.lan.sdis || (v.length == 2 && minor != 0), minor := s.lan.minor ||| minor } }

/-- The ring entries are agreed, and every lane that evaluates goes on after its ring point (R430, R434). -/
def ringAgreeEff (ex : Exchange) (s : State) : State :=
  let a := ringVote ex s
  let t := ringMinority a.2 a.1
  match t.lan.image with
  | some im => { t with lan := { t.lan with lanes := vimap (fun l (x : Lane) =>
      match x.mid with | some e => deliver im (evalPost im (t.lan.mapOf l) e) x | none => x) t.lan.lanes } }
  | none => t

/-- RING_AGREE (R434): at RAGREE. -/
def execRingAgree (s : State) (ex : Exchange := ⟨[], 0, 0⟩) : Host.Outcome State Fault Refusal :=
  .next (if s.ringed && s.clocked then
      ringAgreeEff ex ((s.at (s.lan.boundary + s.r R.OSR_CFG_RSEND * us + 120 * us * (s.ndev - 1) + 10 * us)).order 5)
    else s)

/-! ### Phase 3: the verdict (R247, R248) -/

/-- A comparator sees a difference of two 192-bit words, but in positions to which it is blind. -/
def sees (blind a b : BitVec 192) : Bool := (a ^^^ b) &&& ~~~blind != 0

/-- The pattern check: an equal pair, and one that differs in the bit numbered scan number mod 192 (R248). -/
def patternOk (blind : BitVec 192) (scanNo : BitVec 32) : Bool :=
  !sees blind 0 0 && sees blind 0 (1 <<< (scanNo.toNat % 192))

/-- What the comparators find: code, the minority lane, and a lane of the majority. -/
structure Finding where
  code : Nat
  minor : Option (Fin 3)
  major : Option (Fin 3)
deriving DecidableEq, Repr

/-- Two lanes delivered results that a comparator finds equal. -/
def sameResult (blind : BitVec 192) (s : State) (a b : Fin 3) : Bool :=
  match s.lan.lanes[a].res, s.lan.lanes[b].res with
  | some x, some y => !sees blind x.bits y.bits
  | _, _ => false

/-- The comparison of the lanes in service. Fewer than two leave no two equal results (log entry 35). -/
def finding (blind : BitVec 192) (s : State) : Finding :=
  let same := sameResult blind s
  match voters s with
  | [a, b, c] =>
    if same a b && same b c then ⟨0, none, some a⟩
    else if same b c then ⟨1, some a, some b⟩
    else if same a c then ⟨2, some b, some a⟩
    else if same a b then ⟨3, some c, some a⟩
    else ⟨4, none, none⟩
  | [a, b] => if same a b then ⟨0, none, some a⟩ else ⟨5, none, none⟩
  | _ => ⟨4, none, none⟩

/-- The minority result differs from the majority only in bits [191:128], the digest. -/
def digOnly (blind : BitVec 192) (s : State) (f : Finding) : Bool :=
  match f.minor, f.major with
  | some m, some a => (match s.lan.lanes[m].res, s.lan.lanes[a].res with
    | some x, some y => sees blind x.bits y.bits && !sees (blind ||| (BitVec.allOnes 192 <<< 128)) x.bits y.bits
    | _, _ => false)
  | _, _ => false

/-- The minority or split result is absent. -/
def absentBit (s : State) (f : Finding) : Bool :=
  match f.minor with
  | some m => s.lan.lanes[m].res.isNone
  | none => f.code == 5 && (voters s).any fun l => s.lan.lanes[l].res.isNone

/-- The joining lane's result equals the agreed result. -/
def joinBit (blind : BitVec 192) (s : State) (f : Finding) : Bool :=
  match s.lan.join, f.major with
  | some j, some a => decide (2 ≤ j.step) && sameResult blind s a j.lane
  | _, _ => false

/-- The verdict word that a comparator forms: one that is blind to nothing is sound. -/
def verdictWord (blind : BitVec 192) (s : State) : BitVec 8 :=
  let f := finding blind s
  BitVec.ofNat 8 (f.code + 16 * b2n (patternOk blind s.lan.scanNo) + 32 * b2n (joinBit blind s f) + 64 * b2n (digOnly blind s f)
    + 128 * b2n (absentBit s f))

/-! ### Phase 3: comparators (R249, R265-R267) -/

/-- The known answers go on: a wrong one is recorded; after the second scan CMP.XY, at S4 where it recurs. -/
def knownAnswers (io : CmpIn) (s : State) : State :=
  match s.lan.ka with
  | none => s
  | some n =>
    let m := if s.lan.cmpX && (io.kaFailX || io.blindX != 0) then rput s.regs R.LAN_CMP_STAT_X_FAIL 1 else s.regs
    let m := if s.lan.cmpY && (io.kaFailY || io.blindY != 0) then rput m R.LAN_CMP_STAT_Y_FAIL 1 else m
    if n ≤ 1 then
      let t := { s with regs := rput m R.LAN_CMP_STAT_KA_DONE 1, lan := { s.lan with ka := none, forceOff := true } }
      let t := raise S.CMP_XY 0 t
      { t with keep := { t.keep with recur := true, recurTicks := 0 } }
    else { s with regs := m, lan := { s.lan with ka := some (n - 1), forceOff := true } }

/-- A comparator fault: outputs OFF in this scan, known answers in the next two. -/
def comparatorFault (s : State) : State :=
  { s with lan := { s.lan with forceOff := true, ka := some (s.lan.ka.getD 2) } }

/-- The two words are checked: what is acted on, if anything. -/
def checkWords (x y : BitVec 8) (s : State) : State :=
  let pat := fun (w : BitVec 8) => w.getLsbD 4
  let legal := fun (w : BitVec 8) => decide (w.toNat % 16 ≤ 5)
  match s.lan.cmpX, s.lan.cmpY with
  | true, true =>
    if x = y && pat x && pat y && legal x then { s with lan := { s.lan with verdict := some x } } else comparatorFault s
  | false, false => secondFault 26 { s with lan := { s.lan with forceOff := true } }
  | one, _ =>
    let w := if one then x else y
    if (w ^^^ verdictWord 0 s) &&& 0x3F = 0 then { s with lan := { s.lan with verdict := some w } }
    else raise S.CMP_KAP 0 { s with lan := { s.lan with forceOff := true } }

/-! ### Phase 3: effects (R250, R259, R272, R300, R558) -/

/-- The lane in the minority is retired, for the cause that its word and its state give. -/
def retireMinority (w : BitVec 8) (l : Fin 3) (s : State) : State :=
  let x := s.lan.lanes[l]
  if w.getLsbD 7 then
    if !s.dom l then laneFault l 7 none s
    else if x.eccStop then laneFault l 6 none s
    else if x.stopped then laneFault l 4 (some S.LAN_MISSING) s
    else laneFault l 3 (some S.LAN_OVERRUN) s
  else if w.getLsbD 6 then laneFault l 2 (some S.LAN_DIGEST) s
  else laneFault l 1 (some S.LAN_VOTE) s

/-- One report of a fault output that changed from 1 to 0. -/
def blockReport (s : State) (e : Nat × BitVec 8 × Nat) : State :=
  let m := rput (rput (rput (rput s.regs R.LAN_BLK_FLT_NEW 1) R.LAN_BLK_FLT_TYPE e.2.1.toNat) R.LAN_BLK_FLT_OUT e.2.2)
    R.LAN_BLK_FLT_BLOCK e.1
  raise S.LAN_BLK (e.1 + 4096 * e.2.2 + 65536 * e.2.1.toNat) { s with regs := radd m R.LAN_BLK_CNT_CNT 1 }

/-- Fault outputs with REPORT that changed from 1 to 0: block, type, output. -/
def blockReports (im : Image) (before after : List (BitVec 4)) : List (Nat × BitVec 8 × Nat) :=
  (im.blocks.zipIdx).flatMap fun e =>
    if e.1.opt.getLsbD 7 then
      (((faultOuts e.1.typ).filter fun o => (before.getD e.2 0).getLsbD o && !(after.getD e.2 0).getLsbD o)).map
        fun o => (e.2, e.1.typ, o)
    else []

/-- The interval of R558 from the agreed sample's instant; none without an agreed sample. -/
def reactionTime (s : State) : Option Nat :=
  match s.fld.sampleAt with
  | some a =>
    if sampleWord s 0 < 2 ^ 31 then none
    else some (s.lan.boundary + 35 * us + s.win - (a - 2500 * ((s.fld.snum.toNat + 65535 + 65536 - sampleWord s 0 % 65536) % 65536)))
  | none => none

/-- A reaction-time count for each OUT target whose command turned from 1 to 0. -/
def countReactions (im : Image) (cmds : BitVec 21) (s : State) : State :=
  match reactionTime s with
  | some d =>
    let n := ((im.blocks.filter fun m => m.typ == 0x70).filter fun m =>
      s.lan.cmdPrev.getLsbD (outTarget m) && !cmds.getLsbD (outTarget m)).length
    if n = 0 then s else s.stat 2 (min (32 * d / s.period) 63) n
  | none => s

/-- A lane of the majority that a verdict's CODE names: for AGREE and MIN_x. -/
def codeMajor (s : State) (code : Nat) : Option (Fin 3) :=
  match code with
  | 0 => (voters s).head?
  | 1 => some 1
  | 2 => some 0
  | 3 => some 0
  | _ => none

/-- What a verdict of AGREE or MIN_x releases: hold requests, payloads, reports, reaction times. -/
def release (a : Fin 3) (s : State) : State :=
  match s.lan.image, s.lan.lanes[a].res with
  | some im, some r =>
    let x := s.lan.lanes[a]
    let t := countReactions im r.cmds (blockReports im s.lan.outsPrev x.outs |>.foldl blockReport s)
    { t with
      sys := { t.sys with grpHold := t.sys.grpHold ||| r.holds }
      lan := { t.lan with pay := (match x.mid with | some e => e.pay | none => t.lan.pay), cmdPrev := r.cmds, outsPrev := x.outs } }
  | _, _ => s

/-- The verdict acts by its CODE: retirement, LAN.NOMAJ, a second fault; what a majority releases (R250, R300). -/
def actVerdict (s : State) : State :=
  match s.lan.verdict with
  | none => s
  | some w =>
    let s := match codeMajor s (w.toNat % 16) with | some a => release a s | none => s
    match w.toNat % 16 with
    | 1 => retireMinority w 0 s
    | 2 => retireMinority w 1 s
    | 3 => retireMinority w 2 s
    | 4 => raise S.LAN_NOMAJ 0 s
    | 5 => secondFault 25 s
    | _ => s

/-- A transfer scan without JOIN fails the request. -/
def judgeJoin (s : State) : State :=
  match s.lan.join with
  | some j =>
    let joined := match s.lan.verdict with | some w => w.getLsbD 5 | none => false
    if decide (2 ≤ j.step) && !joined then joinFail S.LAN_READMIT s else s
  | none => s

/-- LAN_VERDICT and the digests of the scan. -/
def verdictRegs (x y : BitVec 8) (s : State) : Map Word :=
  let m := rput (rput (rput s.regs R.LAN_VERDICT_X x.toNat) R.LAN_VERDICT_Y y.toNat) R.LAN_VERDICT_SCAN (s.lan.scanNo.toNat % 65536)
  (List.finRange 3).foldl (fun m l => match s.lan.lanes[l].res with
    | some r => rput (rput m R.LAN_DIG_LO_DIG (r.digest.extractLsb' 0 32).toNat l) R.LAN_DIG_HI_DIG (r.digest.extractLsb' 32 32).toNat l
    | none => m) m

/-- Upsets of the results as they are delivered (R246). -/
def upsetResults (us' : List ResultUpset) (s : State) : State :=
  us'.foldl (fun (s : State) u => s.lane u.lane fun x => { x with res := x.res.map fun r =>
    ⟨r.cmds ^^^ u.cmds, r.holds ^^^ u.holds, r.crc ^^^ u.crc, r.digest ^^^ u.digest⟩ }) s

/-- Phase 3. -/
def compareEff (io : CmpIn) (s : State) : State :=
  let s := upsetResults io.results s
  let x := if s.lan.cmpX then verdictWord io.blindX s ^^^ io.xorX else 0
  let y := if s.lan.cmpY then verdictWord io.blindY s ^^^ io.xorY else 0
  let t := knownAnswers io { s with regs := verdictRegs x y s, lan := { s.lan with phase := 3 } }
  judgeJoin (actVerdict (checkWords x y t))

/-- COMPARE_PHASE (R250): 20 µs + W after the boundary. -/
def execComparePhase (io : CmpIn) (s : State) : Host.Outcome State Fault Refusal :=
  .next (if s.clocked && s.lan.phase == 2 then compareEff io ((s.at (s.lan.boundary + 20 * us + s.win)).order 5) else s)

/-! ### Phase 4: mode consequences (R497, R499, R515, R559) -/

/-- Sources whose Safe-hold is a device stop. -/
def stopSources : List Src :=
  [S.LAN_NOMAJ, S.LAN_SECOND, S.LAN_REPAIR, S.CMP_XY, S.CMP_KAP, S.SYS_STEST, S.SYS_CHIP_LOOP, S.FLD_WDG, S.FLD_CFG, S.PWR_AO,
   S.PWR_REFCLK]

/-- A raising, not by force, that counts as a device stop. -/
def isStop (h : HoldReq) : Bool :=
  !h.forced && (h.sev == 4 || (h.sev == 3 && stopSources.contains h.src))

/-- What is overtaken by a Safe-hold or Lockdown of this scan: an agreed request, a deliberate reset, the end of Boot. -/
def overtaken (s : State) : State :=
  let t := overtakeReq { s with sys := { s.sys with bootAgreed := false } }
  if t.sys.drstScan then drstResult 3 7 { t with sys := { t.sys with drstScan := false } } else t

/-- The raisings that act in this scan: groups at S2, Safe-hold at S3, Lockdown at S4; a power-down enters Safe-hold. -/
def actHolds (s : State) : State :=
  let acts := s.sys.acts
  let groups := (acts.filter (·.sev == 2)).foldl (fun (g : BitVec 16) (h : HoldReq) => g ||| h.groups) s.sys.grpHold
  let t := { s with sys := { s.sys with acts := [], grpHold := groups, pdnHold := false } }
  let locked := acts.any fun h => decide (4 ≤ h.sev.toNat)
  if s.sys.mode == .lockdown then t
  else if locked || s.sys.pdnHold || acts.any (fun h => decide (3 ≤ h.sev.toNat)) then
    let u := if locked then setMode .lockdown t else enterHold t
    let u := if u.sys.mode != t.sys.mode && acts.any isStop then u.stat 1 4 1 else u
    overtaken u
  else t

/-- The deliberate reset of this scan (R528): the field reset frame leaves, hold requests are withdrawn. -/
def actReset (s : State) : State :=
  if s.sys.drstScan then
    let why := drstWhy s
    if why = 0 then
      { s with lan := { s.lan with fldReset := true }, sys := { s.sys with drstScan := false, drstDone := true, holds := [] } }
    else drstResult 3 why { s with sys := { s.sys with drstScan := false }, lan := { s.lan with fldReset := false } }
  else { s with lan := { s.lan with fldReset := false } }

/-! ### Phase 4: commands and off-pulse tests (R251, R253, R255, R373, R375) -/

/-- Outputs of groups in Safe-hold. -/
def heldOutputs (s : State) : BitVec 21 :=
  match s.lan.image with
  | some im => im.blocks.foldl (fun (b : BitVec 21) m =>
      if m.typ == 0x70 && s.sys.grpHold.getLsbD m.group.toNat then putBit b (outTarget m) true else b) 0
  | none => BitVec.allOnes 21

/-- Outputs follow the image in this scan. -/
def follows (s : State) : Bool := s.inMode [.commission, .run, .maintain, .degraded] && !s.lan.forceOff

/-- A lane's commands in this drive phase. -/
def laneCmds (s : State) (l : Fin 3) : BitVec 21 :=
  if follows s then (match s.lan.lanes[l].res with | some r => r.cmds &&& ~~~heldOutputs s | none => 0) else 0

/-- The lanes that send: in service and running. -/
def drivers (s : State) : List (Fin 3) := (voters s).filter fun l => !s.lan.lanes[l].stopped && s.dom l

/-- Off-pulse period of a target in ticks; 0 = none. -/
def testPeriod (s : State) (t : Nat) : Nat := s.r R.FLD_SO_CFG_PERIOD t * 100000000

/-- The target of group g whose test is due and may be requested: the lowest. -/
def dueTarget (s : State) (cmds : BitVec 21) (g : Fin 2) : Option (Fin 20) :=
  if s.fld.pulse[g].isSome then none
  else (List.finRange 20).find? fun t =>
    (grpOuts g).getLsbD t.val && cmds.getLsbD t.val && (decide (t.val < 16) || cmds.getLsbD (t.val - 4))
      && decide (testPeriod s t ≠ 0)
      && (match s.lan.testDue[t] with | some d => decide (d ≤ s.lan.boundary) | none => false)

/-- The step of a target's next test: the steps of retired lanes are skipped. -/
def testStepOf (s : State) (t : Fin 20) : BitVec 2 :=
  let k := s.lan.testStep[t]
  let skip := fun (k : BitVec 2) => decide (k ≠ 0) && (List.finRange 3).any fun l => decide (l.val + 1 = k.toNat) && s.lan.lanes[l].retired
  if !skip k then k else if !skip (k + 1) then k + 1 else if !skip (k + 2) then k + 2 else k + 3

/-- The tests requested in this drive phase: the fields of word 2, and the rotation after them. -/
def testPhase (cmds : BitVec 21) (s : State) : State × Word :=
  let b := s.lan.boundary
  let due := vimap (fun (t : Fin 20) (d : Option Nat) =>
    if testPeriod s t ≠ 0 && cmds.getLsbD t.val && d.isNone then some (b + testPeriod s t) else d) s.lan.testDue
  let s := { s with lan := { s.lan with testDue := due } }
  let ask := fun (g : Fin 2) => (dueTarget s cmds g).map fun t => (t, testStepOf s t)
  let field := fun (g : Fin 2) => match ask g with | some (t, k) => t.val + 32 * k.toNat | none => 31
  let s' := ([0, 1] : List (Fin 2)).foldl (fun (s : State) g => match ask g with
    | some (t, k) => { s with lan := { s.lan with testDue := s.lan.testDue.set t (some (b + testPeriod s t)),
                                                  testStep := s.lan.testStep.set t (k + 1) } }
    | none => s) s
  (s', BitVec.ofNat 32 (field 0 + 256 * field 1))

/-- The frames that a lane sends: the drive frame, a field reset frame, a new field configuration. -/
def laneFrames (s : State) (tests : Word) (l : Fin 3) : List Tx :=
  let r := s.lan.refresh.toNat
  let drive := sealFrame [BitVec.ofNat 32 (r + 65536 * s.lan.eack.toNat), ((laneCmds s l).extractLsb' 0 20).setWidth 32, tests]
  let reset := if s.lan.fldReset then [Tx.fdlReset l (sealFrame [BitVec.ofNat 32 (0xA5 + 65536 * r), 0, 0])] else []
  let cfg := match s.lan.fldSend with | some c => [Tx.fdlConfig l (sealFrame c)] | none => []
  Tx.fdl l drive :: (reset ++ cfg)

/-- Drive frames leave; the refresh number advances. -/
def sendDrives (s : State) : State :=
  let cmds := match drivers s with | l :: _ => laneCmds s l | [] => 0
  let p := testPhase cmds s
  let t := p.1.send ((drivers p.1).flatMap (laneFrames p.1 p.2))
  let sent := match t.lan.fldSend with
    | some c => { t.lan with fldSend := none, fldSent := c, fldCheckFrom := some (t.lan.boundary + 2 * t.period) }
    | none => t.lan
  { t with lan := { sent with refresh := sent.refresh + 1 } }

/-- A lane's sluice leg: OPEN only under all conditions of R253. -/
def laneLeg (s : State) (l : Fin 3) : Bool :=
  (drivers s).contains l && (laneCmds s l).getLsbD 20 && (s.lan.mapOf l).bit 106 && !s.sys.grpHold.getLsbD 0
    && s.inMode [.run, .degraded] && s.dom 7

/-- Sluice legs, pump tokens. -/
def driveLines (s : State) : State :=
  let legs : BitVec 3 := (List.finRange 3).foldl (fun (b : BitVec 3) l => putBit b l.val (laneLeg s l)) 0
  let lanes := vimap (fun (l : Fin 3) (x : Lane) => if (drivers s).contains l then { x with tokenAt := some s.tb } else x) s.lan.lanes
  { s with vpt := setLegs legs s.vpt, lan := { s.lan with lanes := lanes } }

/-- A verdict of AGREE or MIN_x was acted on. -/
def sendsPayload (s : State) : Bool := match s.lan.verdict with | some w => decide (w.toNat % 16 ≤ 3) | none => false

/-- Phase 4. -/
def driveEff4 (s : State) : State :=
  let t := driveLines (sendDrives (actReset (actHolds s)))
  netPhase4 (sendsPayload t) { t with lan := { t.lan with phase := 0 } }

/-- DRIVE_PHASE (R251): 30 µs + W after the boundary. -/
def execDrivePhase (s : State) : Host.Outcome State Fault Refusal :=
  .next (if s.clocked && s.lan.phase == 3 then driveEff4 ((s.at (s.lan.boundary + 30 * us + s.win)).order 5) else s)

end Sys2Proof.Machine
end

