-- ==== Sys2Proof/Machine/Boot.lean ====
section
/-! DEFINITION. Power-up, reset pins, supply trips, and the steps of Boot up to the load (R25, R26, R32, R37, R39, R212, R292,
R355, R414, R517-R523, R540, R541, R603). -/

namespace Sys2Proof.Machine

/-! ### Supplies and reference (R25, R26, R32, R39, R464) -/

/-- VDD_AO is below its limits: every gate is closed, and of the logic die only the nonvolatile memory and the pins are left. The
field die, supplied from FS_A and FS_B, keeps its state, so that R21 and R22 bring its outputs to their safe state; it takes its
reset state with the device reset of the next power-up (R518; DESIGN CHOICE, log entry 57: the spec names no end of it before). -/
def aoDown (s : State) : State :=
  { State.reset with
    nv := s.nv
    pwr := { aoOk := false, rstLow := s.pwr.rstLow, testMode := s.pwr.testMode, fsOk := s.pwr.fsOk }
    hif := { perstN := s.hif.perstN }
    fld := s.fld
    tx := s.tx
    pending := s.pending
    free := s.free }

/-- VDD_AO_LOSS (R39): a store under way is lost with the rest. -/
def execVddAoLoss (s : State) : Host.Outcome State Fault Refusal :=
  .next (if s.pwr.aoOk then aoDown (s.order 1) else s)

/-- POWER_UP (R517): VDD_AO enters its limits; the timebase is 0 and the power-up sequence starts (R464, R519). `fsHigh`:
field supplies that have stood above 19.2 V for 100 ms by then (R577). The session counter starts at an open value (R396; log
entry 9). -/
def execPowerUp (rstN testMode : Bool) (ringId : BitVec 3) (fsHigh : BitVec 2) (s : State) : Host.Outcome State Fault Refusal :=
  .next (if s.pwr.aoOk then s
    else
      let t := aoDown s
      { t with keep := { session := (s.fv).setWidth 16 }
               free := s.free + 1
               pwr := { fsOk := s.pwr.fsOk, rstLow := !rstN, testMode := testMode, testHold := testMode }
               fld := { fsLong := fsHigh &&& s.pwr.fsOk }
               osr := { ringId := ringId } })

/-- REF100_ACCEPT (R25): the timebase starts, or continues from the held value (R464). -/
def execRef100Accept (dev : BitVec 16) (s : State) : Host.Outcome State Fault Refusal :=
  .next (if s.pwr.aoOk && !s.pwr.refOk && !s.pwr.rstLow then
      { s with pwr := { s.pwr with refOk := true, seqStep := max 2 s.pwr.seqStep,
                                   acceptTb := if s.pwr.seqStep ≤ 1 then s.tb else s.pwr.acceptTb }
               edge := 0,
               regs := rput s.regs R.PWR_REF_STAT_DEV dev.toNat }
    else s)

/-- REF100_LOST (R25, R26): PWR.REFCLK; the timebase stops; the lanes stop refreshing their links, so every sluice leg goes OFF,
and no phase of theirs runs before a device reset. -/
def execRef100Lost (s : State) : Host.Outcome State Fault Refusal :=
  .next (if s.pwr.aoOk && s.pwr.refOk then
      raise S.PWR_REFCLK 0 { s with pwr := { s.pwr with refOk := false, refGone := true }, regs := rput s.regs R.PWR_REF_STAT_LOST 1,
                                    vpt := setLegs 0 s.vpt }
    else s)

/-- The gates of a step of the power-up sequence and its time in µs. -/
def seqGates (step : Nat) : List Nat × Nat :=
  match step with
  | 3 => ([8], 40)
  | 4 => ([0, 1, 2], 240)
  | 5 => ([3, 4], 340)
  | 6 => ([7], 440)
  | 7 => ([6], 540)
  | 8 => ([5], 640)
  | _ => ([], 740)

/-- Step 9: the gates of NT and AN close where the bank leaves them off (R35, R540); the self-tests begin. -/
def seqEnd (s : State) : State :=
  let f := step1Flags s.nv
  let on := if f.getLsbD 0 then putBit s.pwr.on 6 false else s.pwr.on
  let on := if f.getLsbD 1 then putBit on 8 false else on
  let waiting := if f.getLsbD 0 then putBit s.pwr.waiting 6 false else s.pwr.waiting
  let waiting := if f.getLsbD 1 then putBit waiting 8 false else waiting
  { s with pwr := { s.pwr with on := on, waiting := waiting, seqStep := 9 }
           regs := rput (rput s.regs R.PWR_DOM_GATE_NT_OFF (b2n (f.getLsbD 0))) R.PWR_DOM_GATE_AN_OFF (b2n (f.getLsbD 1))
           cfg := { s.cfg with step1 := f }
           adc := if f.getLsbD 1 then {} else s.adc
           sys := { s.sys with step := 2 } }

/-- One step of the sequence: a gate whose supply is not within limits waits (R37). -/
def seqEff (inLimits : BitVec 12) (s : State) : State :=
  let n := max 3 (s.pwr.seqStep + 1)
  let g := seqGates n
  let t := s.at (s.pwr.acceptTb + (g.2 - 20) * us)
  if n ≥ 9 then seqEnd t
  else
    let t := g.1.foldl (fun (s : State) d =>
      if inLimits.getLsbD d then openDomain d s else { s with pwr := { s.pwr with waiting := putBit s.pwr.waiting d true } }) t
    { t with pwr := { t.pwr with seqStep := n } }

/-- POWERUP_SEQ_STEP (R37). -/
def execPowerupSeqStep (inLimits : BitVec 12) (s : State) : Host.Outcome State Fault Refusal :=
  .next (if s.pwr.aoOk && s.pwr.refOk && !s.pwr.rstLow && !s.pwr.testHold && decide (s.pwr.seqStep < 9) then seqEff inLimits s else s)

/-- DOMAIN_LATE_OPEN (R37): its supply has come within limits. -/
def execDomainLateOpen (d : Fin 9) (s : State) : Host.Outcome State Fault Refusal :=
  .next (if s.pwr.waiting.getLsbD d && s.pwr.refOk then bootLeave (openDomain d s) else s)

/-- LANE_GATE_REOPEN (R33): the supply has stayed within limits for 10 ms; the lane stays retired. -/
def execLaneGateReopen (l : Fin 3) (s : State) : Host.Outcome State Fault Refusal :=
  .next (if s.pwr.lost.getLsbD l && s.pwr.aoOk && s.pwr.refOk then
      bootLeave { s with pwr := { s.pwr with on := putBit s.pwr.on l true, lost := putBit s.pwr.lost l false } }
    else s)

/-- VDD_AO above its upper limit (R32): the 100 ms of R529 run from here (log entry 36). -/
def aoOver (s : State) : State :=
  raise S.PWR_AO 0 { s with pwr := { s.pwr with aoSince := s.tb },
                            regs := rput s.regs R.PWR_OV_FLAG_OV (s.r R.PWR_OV_FLAG_OV ||| 2048) }

/-- DOMAIN_TRIP (R32): the flag, the gate, the loss and the source. -/
def execDomainTrip (d : Fin 10) (high : Bool) (s : State) : Host.Outcome State Fault Refusal :=
  .next (if d.val = 9 then
      (if !s.pwr.aoOk then s else if high then aoOver (s.order 1) else aoDown (s.order 1))
    else if s.pwr.aoOk && s.pwr.on.getLsbD d then
      let f := if high then R.PWR_OV_FLAG_OV else R.PWR_UV_FLAG_UV
      tripDomain d ((s.order 1).w f (s.r f ||| 2 ^ d.val))
    else s)

/-! ### Reset and test pins (R517, R603) -/

/-- Every gate but AO closes at once: the domains lose their state, no lane scans, the links are quiet (R39, R603). -/
def gatesClosed (s : State) : State :=
  let t := loseVp (loseHs (loseCs1 s))
  { t with
    pwr := { t.pwr with on := 0, waiting := 0, testMode := true, testHold := true }
    cis := { t.cis with cells := [] }
    adc := t.adc.off
    net := { t.net with ports := vimap (fun _ p => { dead := p.dead }) t.net.ports, exch := [], mdio := false }
    lan := { t.lan with run := false, phase := 0, join := none, cmpX := false, cmpY := false,
                        lanes := vimap (fun _ (x : Lane) => { x with stopped := true, frames := [], vars := [], mid := none, res := none })
                          t.lan.lanes } }

/-- TEST_MODE_RISE (R603). -/
def execTestModeRise (s : State) : Host.Outcome State Fault Refusal :=
  .next (if s.pwr.aoOk then gatesClosed (s.order 1) else { s with pwr := { s.pwr with testMode := true } })

/-- RST_N_ASSERT (R517): low for 1 µs or longer. -/
def execRstNAssert (s : State) : Host.Outcome State Fault Refusal :=
  .next (if !s.pwr.aoOk then { s with pwr := { s.pwr with rstLow := true } }
    else if s.pwr.rstLow then s
    else
      let t := deviceReset causePin (s.order 1)
      { t with pwr := { t.pwr with rstLow := true } })

/-- RST_N_RELEASE (R517): RING_ID is read and Boot begins, unless TEST_MODE is high (R414, R603). -/
def execRstNRelease (ringId : BitVec 3) (testMode : Bool) (s : State) : Host.Outcome State Fault Refusal :=
  .next (if !s.pwr.rstLow then s
    else if !s.pwr.aoOk then { s with pwr := { s.pwr with rstLow := false, testMode := testMode } }
    else
      let s := s.order 1
      { s with pwr := { s.pwr with rstLow := false, testMode := testMode, testHold := testMode }
               osr := { s.osr with ringId := ringId }
               sys := { s.sys with zero := s.tb } })

/-! ### Self-tests (R212, R521) -/

/-- Slice tests: S first, then the others in order; S takes over at once, with no notice. -/
def sliceTests (fail : BitVec 17) (s : State) : State :=
  let s := { s with cis := { s.cis with spareOk := true } }
  ((16 : Fin 17) :: ((List.finRange 17).filter (·.val < 16))).foldl (fun (s : State) p =>
    if !fail.getLsbD p.val || s.cis.phys[p].failed || !s.sliceOn p then s
    else
      let t := failSlice p (raise S.CIS_SLC_TEST p.val s)
      match t.cis.mig with
      | some m => raise S.CIS_MIGRATE m.logical.val (({ t with cis := { t.cis with mig := none } }).stat 1 3 1)
      | none => t) (if s.sliceOn 16 then s else { s with cis := { s.cis with spareOk := false } })

/-- Lanes that fail are retired; two or more are a failure of the block. -/
def laneTests (fail : BitVec 3) (s : State) : State :=
  ((List.finRange 3).filter fun l => fail.getLsbD l.val && !s.lan.lanes[l].retired).foldl
    (fun s l => retire l 8 (raise S.LAN_STEST 0 s)) s

/-- Ports and links whose loopback fails stay down. -/
def loopbacks (r : SelfTests) (s : State) : State :=
  let t := { s with
    vpt := { s.vpt with ports := vimap (fun n p => { p with dead := r.ports.getLsbD n.val }) s.vpt.ports }
    osr := { s.osr with links := vimap (fun n k => { k with dead := r.osrin.getLsbD n.val }) s.osr.links }
    net := { s.net with ports := vimap (fun n p => { p with dead := r.net.getLsbD n.val }) s.net.ports } }
  raiseAll ((ones r.ports).map (fun n => (S.VPT_LINK, n)) ++ (ones r.osrin).map (fun n => (S.OSR_LINK, osrDetail n 0 0))
    ++ (ones r.net).map fun n => (S.NET_PATH, n)) t

/-- Boot calibration of one converter; one that is halted makes none (R456). -/
def bootCal (c : Fin 2) (r : CalResult) (s : State) : State :=
  if s.dom 8 && !s.adc.conv[c].halted then calResult c r.offset r.gain s else s

/-- Boot calibrations, ADC-P first. -/
def bootCals (r : SelfTests) (s : State) : State := bootCal 1 r.calQ (bootCal 0 r.calP s)

/-- The outcomes of the tests that ran: nothing in an unpowered domain is tested, and a halted converter makes no calibration (R456). -/
def testsRan (r : SelfTests) (s : State) : SelfTests :=
  let on := fun (n : Nat) (f : Nat → Bool) => BitVec.ofNat n (((List.range n).map fun i => if f i then 2 ^ i else 0).foldl (· + ·) 0)
  let conv := fun (c : Fin 2) (x : CalResult) => if s.dom 8 && !s.adc.conv[c].halted then x else { offset := 0, gain := 32768 }
  { r with
    lanes := r.lanes &&& on 3 s.dom
    slices := r.slices &&& on 17 fun i => s.dom (if i < 8 ∨ i = 16 then 3 else 4)
    workSram := r.workSram && s.dom 4
    cmp := r.cmp &&& on 2 s.dom
    ports := if s.dom 7 then r.ports else 0
    osrin := if s.dom 7 then r.osrin else 0
    net := if s.dom 6 then r.net else 0
    calP := conv 0 r.calP
    calQ := conv 1 r.calQ }

/-- Blocks that fail: all of them for SYS_STEST, and those that raise SYS.STEST. -/
def failedBlocks (r : SelfTests) : List (Nat × Bool) :=
  let bad := fun (c : CalResult) => !calGood c.offset c.gain
  [(2, r.workSram), (4, decide (2 ≤ popcount r.lanes) || r.cmp != 0 || r.units), (5, r.field)].filter (·.2)
    ++ ([(2, r.slices != 0), (3, r.ports != 0), (4, r.lanes != 0), (6, r.net != 0), (7, r.osrin != 0), (8, bad r.calP || bad r.calQ)].filter
      (·.2)).map fun e => (e.1, false)

/-- What the self-tests leave. -/
def selftestEff (r : SelfTests) (s : State) : State :=
  let r := testsRan r s
  let bits := (failedBlocks r).foldl (fun n e => n ||| 2 ^ e.1) 0
  let s := { s.w R.SYS_STEST_FAIL bits with
    lan := { s.lan with cmpX := s.dom 0 && !r.cmp.getLsbD 0, cmpY := s.dom 1 && !r.cmp.getLsbD 1 } }
  let s := bootCals r (loopbacks r (sliceTests r.slices (laneTests r.lanes s)))
  let s := raiseAll (((failedBlocks r).filter (·.2)).map fun e => (S.SYS_STEST, 65536 * e.1)) s
  if s.keep.lockdown then setMode .lockdown { s with sys := { s.sys with step := 3 } } else { s with sys := { s.sys with step := 4 } }

/-- BOOT_SELFTEST_DONE (R521): the sequence has ended and no domain still waits; with the Lockdown latch set Boot ends here. -/
def execBootSelftestDone (r : SelfTests) (s : State) : Host.Outcome State Fault Refusal :=
  .next (if s.sys.mode == .boot && s.sys.step == 2 && s.pwr.waiting == 0 then selftestEff r s else s)

/-! ### Configuration read (R540, R541, R543) -/

/-- No configuration is loaded: Configure (R523). -/
def bootRefuse (c : List (Src × Nat)) (s : State) : State :=
  setMode .configure (raiseAll c { s with regs := rput (rput s.regs R.PWR_DOM_GATE_NT_OFF 0) R.PWR_DOM_GATE_AN_OFF 0 })

/-- The selected bank is read: its flags, the stepping and domain checks, the first seal comparison. -/
def readBank (b : Fin 2) (raised : List (Src × Nat)) (r0 r1 r2 : BitVec 8) (s : State) : State :=
  let m := s.nv.bank b
  let f := offFlags m
  let t := raiseAll raised { s with
    cfg := { s.cfg with cur := some b, validated := bankValidated m }
    regs := rput (rput s.regs R.PWR_DOM_GATE_NT_OFF (b2n (f.getLsbD 0))) R.PWR_DOM_GATE_AN_OFF (b2n (f.getLsbD 1)) }
  if bitsOf (bankWord m 4) 11 0 ≠ 0x0A1 then bootRefuse [(S.CFG_IMAGE, b.val + 2 * 256)] t
  else if domainsBad m then bootRefuse [(S.CFG_IMAGE, b.val + 3 * 256)] t
  else sealEff b r0 r1 r2 { t with sys := { t.sys with step := 5 } }

/-- What the reading of the banks meets (R42, R43): CFG.ECC_C and CFG.ECC_U with bank, page and symbol position (R555), and
their counts. -/
def bankEcc (hits : List (Fin 2 × BitVec 6 × Option (BitVec 6))) (s : State) : State :=
  hits.foldl (fun s h =>
    let det := fun (sym : Nat) => h.1.val + 256 * h.2.1.toNat + 65536 * sym
    match h.2.2 with
    | some sym => raise S.CFG_ECC_C (det sym.toNat) (s.add R.CFG_ECC_CORR 1)
    | none => raise S.CFG_ECC_U (det 63) (s.add R.CFG_ECC_UNCORR 1)) s

/-- The configuration read. -/
def configReadEff (hits : List (Fin 2 × BitVec 6 × Option (BitVec 6))) (r0 r1 r2 : BitVec 8) (s : State) : State :=
  let ecc := fun (b : Fin 2) => hits.any fun h => h.1 == b && h.2.2.isNone
  let ecc0 := ecc 0
  let ecc1 := ecc 1
  let s := bankEcc hits s
  let v : BitVec 2 := putBit (putBit 0 0 (bankValid s.nv.bank0 ecc0)) 1 (bankValid s.nv.bank1 ecc1)
  let s := { s with cfg := { s.cfg with valid := v } }
  match selectBank s.nv ecc0 ecc1 s.cfg.step1 with
  | (some b, l) => readBank b l r0 r1 r2 s
  | (none, l) => bootRefuse l s

/-- BOOT_CONFIG_READ_DONE (R540): at step 4. -/
def execBootConfigReadDone (hits0 hits1 : List (BitVec 6 × Option (BitVec 6))) (seal0 seal1 seal2 : BitVec 8)
    (s : State) : Host.Outcome State Fault Refusal :=
  .next (if s.sys.mode == .boot && s.sys.step == 4 && s.sys.leave.isNone then
    configReadEff (hits0.map (Prod.mk 0) ++ hits1.map (Prod.mk 1)) seal0 seal1 seal2 s else s)

/-! ### Load (R236, R292, R316, R355, R541) -/

/-- Registers that the image fills: scan, evaluation, image identity, output settings. A connection's RST_STN takes a free
value, since no field of the image is stated to hold it (log entry 37). -/
def imageRegs (im : Image) (rst : Nat → Nat) (m : Map Word) : Map Word :=
  let m := rput (rput m R.LAN_SCAN_PERIOD im.period) R.LAN_EVAL_WIN im.win
  let m := rput (rput m R.LAN_IMG_LIVE im.live) R.LAN_IMG_NBLK im.blocks.length
  let m := rput (rput m R.LAN_IMG_SIG_SIG im.sig.toNat) R.LAN_IMG_VER_TOOL im.tool.toNat
  let m := rput (rput m R.LAN_IMG_VER_FORMAT im.format.toNat) R.LAN_IMG_VER_NLIVE im.liveTab.length
  let m := (List.range 32).foldl (fun m n =>
    if rbit m R.NET_CONN_CFG_EN n then rput m R.NET_CONN_CFG_RST_STN (rst n) n else m) m
  ((im.blocks.filter fun b => b.typ == 0x70) |>.filter fun b => decide (outTarget b < 20)).foldl (fun m b =>
    let t := outTarget b
    let p0 := b.par0.toNat
    let p1 := b.par1.toNat
    rput (rput (rput (rput m R.FLD_SO_CFG_PERIOD (bitsOf p1 15 8) t) R.FLD_SO_CFG_WIDTH (bitsOf p1 7 0) t)
      R.FLD_SO_CFG_SAFE_ON (bitsOf p0 9 9) t) R.FLD_SO_CFG_STD (bitsOf p0 8 8) t) m

/-- The load succeeds: registers, image, field configuration; Osrin links begin to train. -/
def loadDone (m : Map Byte) (im : Image) (s : State) : State :=
  let s := adcSync s
  let regs := imageRegs im (fun n => (s.fv n).toNat % 2) (loadEntries s.regs (regSection m))
  let c := fieldConfig regs im.period
  let t : State := { s.took 32 with
    regs := regs
    slot := { s.slot with len := 10 * rget regs R.CIS_SLOT_PERIOD }
    lan := { s.lan.sendsField c with image := some im, lanes := s.lan.lanes.map fun x => { x with vars := [], outs := [] } }
    dsc := { s.dsc with creditAt := s.tb }
    sys := { s.sys with loaded := true, step := 6 } }
  let bad := decide (t.ndev ≤ t.ringId)
  let t := raiseIf bad S.OSR_WIRING 15 { t with osr := { t.osr with wiringBad := bad } }
  trainLink (trainLink t 0) 1

/-- Step 5: the register section, then the image in the lanes. -/
def loadEff (b : Fin 2) (refuse : BitVec 3) (s : State) : State :=
  let m := s.nv.bank b
  let img := imageBytes m
  let im := readImage img
  let ring := decide (1 ≤ rget (loadEntries s.regs (regSection m)) R.OSR_ID_NDEV) && ringBad im
  let mine := (List.finRange 3).filter fun l => refuse.getLsbD l.val && !s.lan.lanes[l].retired
  if !sectionOk s.regs m then bootRefuse [(S.CFG_IMAGE, b.val + 4 * 256)] s
  else if imageRefused img || ring || decide (2 ≤ mine.length) then
    bootRefuse [(S.CFG_IMAGE, b.val + 5 * 256)] { s with cfg := { s.cfg with valid := putBit s.cfg.valid b.val false } }
  else mine.foldl (fun s l => retire l 8 (raise S.LAN_STEST 0 s)) (loadDone m im s)

/-- BOOT_LOAD_DONE (R541): at step 5. -/
def execBootLoadDone (refuse : BitVec 3) (s : State) : Host.Outcome State Fault Refusal :=
  .next (match s.cfg.cur with
    | some b => if s.sys.mode == .boot && s.sys.step == 5 && s.sys.leave.isNone then loadEff b refuse s else s
    | none => s)

end Sys2Proof.Machine
end

