-- ==== Sys2Proof/Machine/Cistern.lean ====
section
/-! DEFINITION. The slot tick and the launch of the FIRE frames (chapter 02, R185-R189, R211-R217, R558). -/

namespace Sys2Proof.Machine

/-! ### The drain (R65-R73, R213) -/

/-- Writes admitted to slots up to k are done before the drain reads (R65). -/
def flushSlice (k : Nat) (s : State) (p : Fin 17) : State :=
  let due := s.cis.phys[p].wq.filter fun w => w.slot ≤ k
  let t := { s with cis := { s.cis with phys := vmod s.cis.phys p fun x => { x with wq := x.wq.filter fun w => k < w.slot } } }
  due.foldl (fun t w => writeCells p w t) t

/-- Nonzero cells of a codeword, as bits. -/
def nonzeroBits (m : Map (BitVec 4)) (p row cw : Nat) : BitVec 64 :=
  BitVec.ofNat 64 (((List.range 64).map fun j =>
    b2n (mread 0 m (cellKey p row (64 * cw + j)) != 0) * 2 ^ j).sum)

/-- What the drain's read of a codeword meets. -/
def drainEcc (io : DrainIn) (p : Fin 17) (cw : Fin 2) : Ecc :=
  match io.eccs.find? fun e => e.slice == p && e.cw == cw with
  | some e => e.ecc
  | none => .clean

/-- Fire bits of one codeword (R66, R68); where an error went undetected they are free. -/
def codewordFire (s : State) (io : DrainIn) (p : Fin 17) (row : Nat) (cw : Fin 2) (n : Fin 16) : BitVec 64 :=
  (match drainEcc io p cw with
    | .uncorrectable => 0
    | .undetected => s.fv (2 * (2 * p.val + cw.val)) ++ s.fv (2 * (2 * p.val + cw.val) + 1)
    | _ => nonzeroBits s.cis.cells p row cw) &&& openBits s.cis n cw

/-- What the drain's read of a codeword does besides. -/
def drainReport (io : DrainIn) (p : Fin 17) (row : Nat) (s : State) (cw : Fin 2) : State :=
  match drainEcc io p cw with
  | .corrected sym second => corrected p row cw sym second s
  | .uncorrectable => uncorrectable p row cw s
  | _ => s

/-- A row of a slice all zeros. -/
def clearRow (p row : Nat) (m : Map (BitVec 4)) : Map (BitVec 4) := m.filter fun e => e.1 / 128 != p * 2560 + row

/-- The drain of one physical slice, which served `n` when the tick came. -/
def drainSlice (io : DrainIn) (row : Nat) (c0 : Cis) (s : State) (p : Fin 17) : State :=
  if c0.phys[p].failed || !s.sliceOn p then s
  else
    let fire := match c0.serving p with
      | some n => s.cis.fire.set n (codewordFire s io p row 1 n ++ codewordFire s io p row 0 n)
      | none => s.cis.fire
    [0, 1].foldl (drainReport io p row) { s with cis := { s.cis with fire := fire, cells := clearRow p row s.cis.cells } }

/-- The drain of every slice; 68 free values stand for codewords that may be wrong without being detected. -/
def drainAll (io : DrainIn) (row : Nat) (s : State) : State :=
  let c0 := s.cis
  let t := (List.finRange 17).foldl (drainSlice io row c0)
    { s with cis := { s.cis with fire := Vector.replicate 16 0 } }
  t.took 68

/-! ### The tick -/

/-- Number of the next slot tick. -/
def Slot.next (c : Slot) : Nat := if c.ticked then c.k + 1 else c.k

/-- The length that takes force at slot k: a committed one at once, an announced one at KC (R76, R424). -/
def Slot.newLen (c : Slot) (k : Nat) : Option Nat :=
  match c.kc with
  | some (kc, len) => if kc = k then some len else c.pend
  | none => c.pend

/-- The slot length changes at tick k: new epoch pair, and every READY port is reconfigured (R76, R186). -/
def slotLength (k len : Nat) (s : State) : State :=
  let t := { s with slot := { s.slot with e := s.slot.tick k, k0 := k, len := len, pend := none, kc := none },
                    regs := rput (rput s.regs R.CIS_STAT_PEND 0) R.CIS_SLOT_PERIOD (len / 10) }
  (List.finRange 16).foldl (fun s n => reconfigure n s) t

/-- A pending commit takes force at its commit tick (R74, R553); one that changes the slot length of a ring's master waits for
KC (R424). -/
def commitTick (k : Nat) (s : State) : State :=
  let due := match s.slot.kc with
    | some (kc, _) => kc == k || !(txnChanged s).contains 0x20000
    | none => true
  if s.cfg.txn == .pend && waitsForTick s && due then applyCommit s else s

/-- The takeover tick completes a migration: the notice, CIS.MIGRATE and the count, unless it was abandoned (R217, R221). -/
def takeover (k : Nat) (before : Option Migration) (s : State) : State :=
  match before, s.cis.mig with
  | some _, some m =>
    let h := s.cis.phys[m.logical.castSucc].h
    let lost := min 2560 (h + 1 - k)
    let t := notice .sliceLost 0 m.logical (BitVec.ofNat 32 lost) (s.slot.tick k) { s with cis := { s.cis with mig := none } }
    if m.abandoned then t else raise S.CIS_MIGRATE 0 (t.stat 1 3 1)
  | _, _ => s

/-- The tick reaches the timers: events of SRC 2, captures of TRIG 3 (R469, R479). -/
def tickTimers (s : State) : State :=
  let t := offerEvent s.regs s.tmr s.tb fun n => s.r R.TMR_TC_CTRL_SRC n == 2
  if s.dom 4 then { s with tmr := offerCap s.regs t s.tb fun n k => capTrig s.regs n k == 3 } else s

/-- The longest drain. -/
def drainPeak (io : DrainIn) (s : State) : State :=
  { s with regs := rmax s.regs R.CIS_DRAIN_MAX_TICKS io.ticks.toNat,
           evs := { s.evs with telDrainMax := max s.evs.telDrainMax io.ticks.toNat } }

/-- Everything slot tick k does. -/
def slotTickEff (io : DrainIn) (s : State) : State :=
  let k := s.slot.next
  let s := bookedUpTo k ((s.at (s.slot.tick k)).order 2)
  let len := s.slot.newLen k
  let s := commitTick k s
  let s := match len with | some l => slotLength k l s | none => s
  let s := { s with slot := { s.slot with k := k, ticked := true } }
  let s := (List.finRange 17).foldl (flushSlice k) s
  let mig := s.cis.mig
  tickTimers (drainPeak io (takeover k mig (drainAll io (k % 2560) s)))

/-- SLOT_TICK (R66): while the slot clock runs. -/
def execSlotTick (io : DrainIn) (s : State) : Host.Outcome State Fault Refusal :=
  .next (if s.slot.run && s.pwr.refOk && s.pwr.aoOk then slotTickEff io s else s)

/-! ### The launch (R187, R189, R72, R558) -/

/-- PHASE sent for slice column j of logical slice n. -/
def sentPhase (s : State) (n j : Nat) : Nat :=
  if s.cis.suppressed (128 * n + j) then 0 else s.r R.CIS_DLY_PHASE (128 * n + j)

/-- A port launches. -/
def launches (s : State) (n : Fin 16) : Bool := s.dom 7 && s.vpt.ports[n].st == .ready

/-- The fire bits that leave in the FIRE frame of port n. -/
def sentBits (s : State) (late : BitVec 16) (n : Fin 16) : BitVec 128 :=
  if launches s n && s.vpt.sluiceOpen && !late.getLsbD n then s.cis.fire[n] else 0

/-- The burst request that the frame carries (R199). -/
def burstAsk (s : State) (n : Fin 16) : Option (BitVec 7) :=
  match s.vpt.burst with
  | some b => if b.port == n && !b.accepted && decide (b.tries < 4) then some b.valve else none
  | none => none

/-- The FIRE frame of port n. -/
def fireOf (s : State) (late : BitVec 16) (n : Fin 16) : Frame :=
  let b := sentBits s late n
  fireFrame s.vpt.sluiceOpen (burstAsk s n) (BitVec.ofNat 8 s.slot.k) s.vpt.ports[n].cfgid (fun v => b.getLsbD v)
    (fun v => sentPhase s n v)

/-- Ports after the launch. -/
def launchPorts (s : State) : Vpt :=
  { s.vpt with
    launched := some s.slot.k
    burst := s.vpt.burst.map fun b => if launches s b.port && (burstAsk s b.port).isSome then { b with tries := b.tries + 1 } else b
    ports := vimap (fun n p => if launches s n then
        { p with armed1 := p.armed0, armed0 := s.vpt.sluiceOpen, seq := BitVec.ofNat 8 s.slot.k, await := true }
      else p) s.vpt.ports }

/-- Openings: FIRE = 1 with ARMED = 1 whose bit in the frame of the slot before was 0 (R558). -/
def countOpenings (late : BitVec 16) (s : State) (p : Smp) : Smp :=
  (List.finRange 16).foldl (fun p n =>
    (ones (sentBits s late n &&& ~~~s.cis.sentFire[n])).foldl (fun p v => p.count 9 (128 * n.val + v) 1) p) p

/-- Drain overruns: CIS.DRAIN_OVR, and CIS.SLC_HANG where the slice overran at the tick before too (R72, R211). -/
def overruns (late : BitVec 16) (s : State) : State :=
  (List.finRange 16).foldl (fun s n =>
    let p? := s.cis.physOf n
    let was := match p? with | some p => s.cis.phys[p].hung | none => false
    let l := late.getLsbD n
    let s := match p? with
      | some p => { s with cis := { s.cis with phys := vmod s.cis.phys p fun x => { x with hung := l } } }
      | none => s
    let s := raiseIf l S.CIS_DRAIN_OVR n s
    match p? with
    | some p => if l && was then failSlice p (raise S.CIS_SLC_HANG 0 s) else s
    | none => s) s

/-- The launch instant of the present slot. -/
def fireLaunchEff (late : BitVec 16) (s : State) : State :=
  let s := (s.at (s.slot.tick s.slot.k + 162)).order 3
  let frames := ((List.finRange 16).filter (launches s)).map fun n => Tx.port n (fireOf s late n)
  overruns late (State.send
    { s with vpt := launchPorts s, smp := countOpenings late s s.smp,
             cis := { s.cis with sentFire := Vector.ofFn fun n => sentBits s late n } } frames)

/-- FIRE_LAUNCH (R187): once in each slot. -/
def execFireLaunch (late : BitVec 16) (s : State) : Host.Outcome State Fault Refusal :=
  .next (if s.slot.run && s.slot.ticked && s.pwr.refOk && s.pwr.aoOk && s.vpt.launched != some s.slot.k then
    fireLaunchEff late s else s)

end Sys2Proof.Machine
end

