-- ==== Sys2Proof/Machine/ConfigSpace.lean ====
section
/-! DEFINITION. Configuration space and BAR2 as the host reads and writes them by one DW (R79-R81, R84, R88, R98, R592). What the
capability structures hold is the spec's; where their fields lie in them is the base specification's, and where they stand is open
(log entry 73). -/

namespace Sys2Proof.Machine

/-! ### The header (R80, R84) -/

/-- Bits of Command that hold what is written, beside Bus Master Enable: Memory Space, Parity, SERR, Interrupt Disable. -/
def cmdMask : BitVec 16 := 0x0542

/-- Size of BAR0, BAR2 and BAR4 in bytes, and their low bits: 64-bit, and BAR4 prefetchable (R84). -/
def barSize (i : Fin 3) : Nat := if i = 1 then 65536 else 1048576
def barBits (i : Fin 3) : Nat := if i = 2 then 12 else 4

/-- The BAR and its half that a header offset names. -/
def barAt (o : Nat) : Fin 3 × Bool := (⟨(o - 0x10) / 8 % 3, Nat.mod_lt _ (by decide)⟩, o / 4 % 2 == 1)

/-- The word of the header at an offset below 0x40. -/
def headerWord (h : Hif) (o : Nat) : Word :=
  let c := h.cfg
  if o = 0x00 then 0x20481F3C
  else if o = 0x04 then ((c.status ||| 0x0010) ++ putBit c.cmd 2 h.bme : BitVec 32)
  else if o = 0x08 then 0x088000A1
  else if o = 0x0C then c.cacheLine.setWidth 32
  else if 0x10 ≤ o ∧ o < 0x28 then
    let b := barAt o
    if b.2 then hi32 c.bars[b.1].toNat else lo32 (c.bars[b.1].toNat + barBits b.1)
  else if o = 0x2C then 0x00001F3C
  else if o = 0x34 then (Config.capOff 0).setWidth 32
  else if o = 0x3C then c.intLine.setWidth 32
  else 0

/-- A write of the header: Bus Master Enable acts as in R104, error bits of Status are cleared by 1. -/
def headerWrite (o : Nat) (val : Word) (s : State) : State :=
  let c := s.hif.cfg
  let put := fun (c : CfgSpace) => { s with hif := { s.hif with cfg := c } }
  if o = 0x04 then
    bmeEff (val.getLsbD 2)
      (put { c with cmd := val.setWidth 16 &&& cmdMask, status := c.status &&& ~~~(val.extractLsb' 16 16) })
  else if o = 0x0C then put { c with cacheLine := val.setWidth 8 }
  else if 0x10 ≤ o ∧ o < 0x28 then
    let b := barAt o
    let v := c.bars[b.1].toNat
    let w := if b.2 then val.toNat * 2 ^ 32 + v % 2 ^ 32 else v / 2 ^ 32 * 2 ^ 32 + val.toNat / barSize b.1 * barSize b.1
    put { c with bars := c.bars.set b.1 (BitVec.ofNat 64 w) }
  else if o = 0x3C then put { c with intLine := val.setWidth 8 }
  else s

/-! ### Capability structures (R79, R98, R592) -/

/-- Next pointer of a capability: power management, PCI Express, MSI-X. -/
def capNext (i : Fin 5) : Nat := if i = 0 then (Config.capOff 1).toNat else if i = 1 then (Config.capOff 2).toNat else 0

/-- The word of the power management capability: D0 and D3hot, PME from D3hot, No_Soft_Reset. -/
def pmWord (h : Hif) (k : Nat) : Word :=
  if k = 0 then BitVec.ofNat 32 (1 + 256 * capNext 0 + 65536 * 0x4003)
  else BitVec.ofNat 32 ((if h.d3 then 3 else 0) + 8 + 256 * b2n h.cfg.pmeEn)

/-- The word of the PCI Express capability: payload up to 256 bytes, extended tags, function level reset, x4, 8.0 GT/s, ASPM L0s and
L1 with the latencies of R592, clock power management, completion timeout ranges A and B with disable. -/
def pcieWord (h : Hif) (k : Nat) : Word :=
  let c := h.cfg
  let l1 := if c.lnkCtl.getLsbD 8 then 5 else 3
  match k with
  | 0 => BitVec.ofNat 32 (0x10 + 256 * capNext 1 + 65536 * 2)
  | 1 => BitVec.ofNat 32 (1 + 32 + 64 * 4 + 512 * 5 + 2 ^ 15 + 2 ^ 28)
  | 2 => (0#12 ++ c.devStat ++ c.devCtl : BitVec 32)
  | 3 => BitVec.ofNat 32 (3 + 16 * 4 + 1024 * 3 + 4096 * 4 + 32768 * l1 + 2 ^ 18)
  | 4 => BitVec.ofNat 32 (c.lnkCtl.toNat + 65536 * h.speed.toNat + 2 ^ 20 * h.width.toNat)
  | 9 => 0x00000013
  | 10 => c.devCtl2.setWidth 32
  | 11 => 0x0000000E
  | _ => 0

/-- The word of the MSI-X capability: 32 vectors, the table at BAR0 0x1_E000 and the pending bits at 0x1_E800 (R98). -/
def msixCapWord (h : Hif) (k : Nat) : Word :=
  match k with
  | 0 => BitVec.ofNat 32 (0x11 + 65536 * (31 + 2 ^ 14 * b2n h.fmask + 2 ^ 15 * b2n h.msixEn))
  | 1 => 0x0001E000
  | _ => 0x0001E800

/-- The word of the AER capability; the logged header is not modelled and reads as a free value (log entry 73). -/
def aerWord (s : State) (k : Nat) : Word :=
  let c := s.hif.cfg
  match k with
  | 0 => BitVec.ofNat 32 (1 + 2 ^ 17 + 2 ^ 20 * (Config.capOff 4).toNat)
  | 1 => c.aerUnc
  | 2 => c.aerUncMask
  | 3 => c.aerUncSev
  | 4 => c.aerCor
  | 5 => c.aerCorMask
  | 6 => BitVec.ofNat 32 (0xA0 + 64 * b2n c.ecrcGen + 256 * b2n c.ecrcCheck)
  | _ => s.fv

/-- The word of the serial number capability (R79). -/
def serialWord (k : Nat) : Word :=
  match k with
  | 0 => BitVec.ofNat 32 (3 + 2 ^ 16)
  | 1 => lo32 Config.serial.toNat
  | _ => hi32 Config.serial.toNat

/-- Words of each capability structure. -/
def capLen (i : Fin 5) : Nat := if i = 0 then 2 else if i = 1 then 15 else if i = 2 then 3 else if i = 3 then 11 else 3

/-- The capability structure that an offset lies in, and the word of it. -/
def capAt (o : Nat) : Option (Fin 5 × Nat) :=
  ((List.finRange 5).find? fun i => decide ((Config.capOff i).toNat ≤ o ∧ o < (Config.capOff i).toNat + 4 * capLen i)).map fun i =>
    (i, (o - (Config.capOff i).toNat) / 4)

/-- The word of configuration space at an offset; what holds no register reads 0. -/
def configWord (s : State) (o : Nat) : Word :=
  if o < 0x40 then headerWord s.hif o
  else match capAt o with
    | some (0, k) => pmWord s.hif k
    | some (1, k) => pcieWord s.hif k
    | some (2, k) => msixCapWord s.hif k
    | some (3, k) => aerWord s k
    | some (4, k) => serialWord k
    | none => 0

/-! ### Writes of capability structures -/

/-- A write of the power management control: the power state asked for, and PME_En. No happening that signals PME is named by the
spec, so PME_Status stays 0. -/
def pmWrite (val : Word) (s : State) : State :=
  let t := { s with hif := { s.hif with cfg := { s.hif.cfg with pmeEn := val.getLsbD 8 } } }
  match bitsOf val.toNat 1 0 with
  | 0 => d0Eff t
  | 3 => d3Eff t
  | _ => t

/-- A write of the PCI Express capability: Device Control and Status, Link Control, Device Control 2; a function level reset where it
is asked for. -/
def pcieWrite (k : Nat) (val : Word) (s : State) : State :=
  let c := s.hif.cfg
  let put := fun (c : CfgSpace) => { s with hif := { s.hif with cfg := c } }
  match k with
  | 2 =>
    let t := put { c with devCtl := val.setWidth 16 &&& 0x71EF, devStat := c.devStat &&& ~~~(val.extractLsb' 16 4) }
    if val.getLsbD 15 then flrEff t else t
  | 4 => put { c with lnkCtl := val.setWidth 16 &&& 0x01C3 }
  | 10 => put { c with devCtl2 := val.setWidth 16 &&& 0x001F }
  | _ => s

/-- A write of the AER capability: status bits are cleared by 1. -/
def aerWrite (k : Nat) (val : Word) (s : State) : State :=
  let c := s.hif.cfg
  let put := fun (c : CfgSpace) => { s with hif := { s.hif with cfg := c } }
  match k with
  | 1 => put { c with aerUnc := c.aerUnc &&& ~~~val }
  | 2 => put { c with aerUncMask := val &&& 0x007FF030 }
  | 3 => put { c with aerUncSev := val &&& 0x007FF030 }
  | 4 => put { c with aerCor := c.aerCor &&& ~~~val }
  | 5 => put { c with aerCorMask := val &&& 0x0000F1C1 }
  | 6 => put { c with ecrcGen := val.getLsbD 6, ecrcCheck := val.getLsbD 8 }
  | _ => s

/-- A write of a DW of configuration space. -/
def configWrite (o : Nat) (val : Word) (s : State) : State :=
  if o < 0x40 then headerWrite o val s
  else match capAt o with
    | some (0, 1) => pmWrite val s
    | some (1, k) => pcieWrite k val s
    | some (2, 0) => msixEff (val.getLsbD 31) (val.getLsbD 30) s
    | some (3, k) => aerWrite k val s
    | _ => s

/-! ### BAR2 (R88) -/

/-- What a read of BAR2 returns: the value last accepted since the last reset of the endpoint. -/
def bar2Word (s : State) (o : Nat) : Word :=
  if o = 0x4000 then s.hif.hbCount.setWidth 32
  else if h : o % 0x1000 = 0 ∧ o / 0x1000 < 4 then BitVec.ofNat 32 s.rings[o / 0x1000].db
  else 0

/-- A write of BAR2: the listed doorbells act; every other offset discards it. -/
def bar2Write (o : Nat) (val : Word) (s : State) : State :=
  if o = 0x4000 then hbEff val s
  else if h : o % 0x1000 = 0 ∧ o / 0x1000 < 4 then dbEff ⟨o / 0x1000, h.2⟩ val s
  else s

end Sys2Proof.Machine
end

