-- ==== Sys2Proof/Machine/Views.lean ====
section
/-! DEFINITION. What a host read of a register returns: the stored fields, with those that an engine holds in their places
(the register tables of every chapter). -/

namespace Sys2Proof.Machine

/-- A word from fields: lowest bit and value of each. -/
def pack (l : List (Nat × Nat)) : Word := BitVec.ofNat 32 (l.foldl (fun n e => n + 2 ^ e.1 * e.2) 0)

/-- SYS registers. -/
def viewSys (s : State) (o : Nat) (w : Word) : Word :=
  match o with
  | 0x10 => pack [(4, s.sys.prev.num), (0, s.sys.mode.num)]
  | 0x20 => s.keep.cause.setWidth 32
  | 0x24 => setBits w 3 0 s.sys.step.toNat
  | 0xF404 => pack [(4, b2n s.keep.lockdown), (2, b2n (errPin s)), (1, b2n (pumpRuns s && s.sys.pump)), (0, b2n s.sys.errLatch)]
  | 0xF40C => match s.keep.chip with
    | some c => pack [(31, 1), (16, c.1.toNat), (0, c.2.toNat)]
    | none => 0
  | _ => w

/-- Sample of the selected supply at the latest grid instant: that of the latest second where the two instants are one, else
what the monitor saw (log entry 38). It reads 0 from a write of PWR_MON_SEL to the next instant, and where nothing is selected. -/
def monVal (s : State) : BitVec 16 :=
  let d := s.r R.PWR_MON_SEL_DOM
  let i := if s.rb R.PWR_MON_SEL_SECOND && (d == 5 || d == 6) then d + 7 else d
  let grid := s.tb / 10000 * 10000
  let fresh := match s.pwr.monSelAt with | some t => decide (t < grid) | none => true
  if 12 ≤ d || !fresh then 0
  else if s.pwr.mvAt == some grid then s.pwr.mv.toArray.getD i 0 else Config.supplyMv i grid

/-- PWR registers. -/
def viewPwr (s : State) (o : Nat) (w : Word) : Word :=
  match o with
  | 0x00 => pack [(11, 1), (9, s.pwr.fsOk.toNat), (0, s.pwr.on.toNat)]
  | 0x14 => (monVal s).setWidth 32
  | 0x18 => setBits w 0 0 (b2n s.pwr.refOk)
  | _ => w

/-- HIF registers but those of the rings. -/
def viewHif (s : State) (o : Nat) (w : Word) : Word :=
  match o with
  | 0x00 => pack [(8, b2n s.hif.d3), (7, b2n s.hif.dlUp), (4, s.hif.width.toNat), (0, s.hif.speed.toNat)]
  | 0x14 => pack [(16, b2n s.hif.silent), (0, s.hif.hbCount.toNat)]
  | 0x18 => if s.hif.hbSeen then BitVec.ofNat 32 (min ((s.tb - s.hif.hbAt) / us) 0xFFFFFFFF) else 0xFFFFFFFF
  | 0x40 => setBits w 0 0 (b2n (diagOpen s))
  | 0x1204 => setBits w 27 16 s.evs.staging.length
  | 0x1208 => pack [(16, (s.dsc.flights.filter (·.phase == .staged)).length), (0, creditsNow s / 25)]
  | _ => w

/-- Ring registers: offset within a ring's group. -/
def viewRing (s : State) (n : Fin 4) (o : Nat) (w : Word) : Word :=
  let g := s.rings[n]
  match o with
  | 0x08 => setBits w 31 30 (2 * b2n g.en + b2n g.busy)
  | 0x0C => pack [(16, b2n g.phase), (0, g.idx)]
  | _ => w

/-- The open tickets that name the retained generation. -/
def retainedTickets (s : State) : Nat := (s.tkt.recs.filter fun e => e.2.gen != s.cis.gen).length

/-- CIS registers. -/
def viewCis (s : State) (o : Nat) (w : Word) : Word :=
  match o with
  | 0x08 => setBits (setBits w 27 16 (if s.slot.ticked then s.slot.k % 2560 else 0)) 0 0 (b2n s.slot.run)
  | 0x10 => lo32 s.slot.e
  | 0x14 => hi32 s.slot.e
  | 0x18 => lo32 s.slot.k0
  | 0x1C => hi32 s.slot.k0
  | 0x20 => lo32 s.slot.k
  | 0x24 => hi32 s.slot.k
  | 0x30 => setBits w 15 0 s.tkt.recs.length
  | 0x44 => pack [(16, retainedTickets s), (0, b2n s.cis.gen)]
  | 0x50 => pack [(16, s.cis.dark.toNat), (8, b2n s.cis.spareOk), (7, b2n s.cis.served.isSome),
      (0, match s.cis.served with | some n => n.val | none => 0)]
  | 0x54 => pack ((List.finRange 17).map fun p => (p.val, b2n s.cis.phys[p].failed))
  | 0x6C => pack [(0, b2n s.cis.clsGone)]
  | _ => if 0x4000 ≤ o ∧ o < 0x6000 then setBits w 31 31 (b2n (s.cis.suppressed ((o - 0x4000) / 4))) else w

/-- Number of a port's state. -/
def PortState.num : PortState → Nat
  | .off => 0
  | .search => 1
  | .config => 2
  | .ready => 3
  | .lost => 4

/-- VPT registers: a port's own group, its coil words, and VPT_READY. -/
def viewVpt (s : State) (o : Nat) (w : Word) : Word :=
  if o = 0x0C then setBits w 15 0 ((List.finRange 16).map fun n => 2 ^ n.val * b2n (s.vpt.ports[n].st == .ready)).sum
  else if 0x100 ≤ o ∧ o < 0x300 then
    let p := s.vpt.ports.toArray.getD ((o - 0x100) / 0x20) {}
    match o % 0x20 with
    | 0x00 => pack [(24, p.cfgid.toNat), (16, p.cable.toNat), (8, p.nvalve.toNat), (4, p.mstate.toNat), (0, p.st.num)]
    | 0x14 => setBits w 23 16 p.consec.toNat
    | _ => w
  else if 0x400 ≤ o ∧ o < 0x600 then
    let p := s.vpt.ports.toArray.getD ((o - 0x400) / 0x20) {}
    p.coil.extractLsb' (32 * (o % 0x20 / 4)) 32
  else w

/-- JOIN_STEP and JOINING of LAN_STAT (R270). -/
def joinView (s : State) : Nat × Nat :=
  match s.lan.join with
  | some j => if j.zero.isSome then (j.step, 2 ^ j.lane.val) else (0, 0)
  | none => (0, 0)

/-- LAN registers. -/
def viewLan (s : State) (o : Nat) (w : Word) : Word :=
  match o with
  | 0x0C => pack [(16, (joinView s).1), (13, b2n s.lan.cmpY), (12, b2n s.lan.cmpX), (8, (joinView s).2),
      (4, ((List.finRange 3).map fun l => 2 ^ l.val * b2n s.lan.lanes[l].retired).sum), (0, s.lan.svc.toNat)]
  | 0x10 => s.lan.scanNo
  | 0x20 => if s.lan.repairRun then
      BitVec.ofNat 32 ((s.keep.repairLeft - (s.tb - s.lan.boundary)) / 100000000) else 0xFFFFFFFF
  | 0x28 => setBits w 2 2 (b2n s.keep.recur)
  | 0x38 => setBits w 15 8 (min (retires24 s 0) 255)
  | 0x48 => setBits w 15 8 (min (retires24 s 1) 255)
  | 0x58 => setBits w 15 8 (min (retires24 s 2) 255)
  | _ => w

/-- FLD registers, from the agreed map and sample of the latest scan, and from the die. -/
def viewFld (s : State) (o : Nat) (w : Word) : Word :=
  let b := s.lan.map.bits
  match o with
  | 0x00 => pack [(7, b2n ((sampleWord s 4).testBit 24)), (6, b2n s.fld.armed), (2, bitsOf (sampleWord s 4) 23 22),
      (0, (b.extractLsb' 104 2).toNat)]
  | 0x04 => pack [(16, s.fld.fs[1].toNat), (0, s.fld.fs[0].toNat)]
  | 0x10 => b.extractLsb' 0 32
  | 0x14 => b.extractLsb' 32 32
  | 0x18 => (b.extractLsb' 64 20).setWidth 32
  | 0x1C => (b.extractLsb' 84 20).setWidth 32
  | 0x28 => BitVec.ofNat 32 (sampleWord s 5)
  | _ => w

/-- Number of a path's state. -/
def PathState.num : PathState → Nat
  | .down => 0
  | .qual => 1
  | .up => 2
  | .lost => 3

/-- Number of a connection's state. -/
def ConnState.num : ConnState → Nat
  | .closed => 0
  | .opening => 1
  | .open => 2
  | .lost => 3

/-- A port has delivered an accepted copy of a connection within its watchdog time. -/
def pathRecent (s : State) (n : Fin 32) (p : Fin 2) : Bool :=
  match s.net.conns[n].pathAt[p] with
  | some t => decide (s.tb ≤ t + connWd s n)
  | none => false

/-- NET_PORT_STAT[p]. -/
def netPortWord (s : State) (p : Fin 2) : Word :=
  let q := s.net.ports[p]
  pack [(16, q.cause.toNat), (8, q.consec.toNat), (6, b2n q.lpFd), (5, b2n q.anDone), (4, b2n q.sync), (0, q.st.num)]

/-- NET_CONN_STAT[n]. -/
def netConnWord (s : State) (n : Fin 32) : Word :=
  let c := s.net.conns[n]
  pack [(16, c.ses.toNat), (4, b2n (pathRecent s n 1)), (3, b2n (pathRecent s n 0)),
    (2, b2n (s.lan.map.bits.getLsbD (168 + n.val))), (0, c.st.num)]

/-- NET registers. -/
def viewNet (s : State) (o : Nat) (w : Word) : Word :=
  match o with
  | 0x10 => s.lan.map.bits.extractLsb' 168 32
  | 0x28 => netPortWord s 0
  | 0x2C => netPortWord s 1
  | 0x30 => (Config.mac 0).extractLsb' 0 32
  | 0x34 => (Config.mac 0).extractLsb' 32 16 |>.setWidth 32
  | 0x38 => (Config.mac 1).extractLsb' 0 32
  | 0x3C => (Config.mac 1).extractLsb' 32 16 |>.setWidth 32
  | _ => if 0x400 ≤ o ∧ o < 0x800 ∧ o % 0x20 = 0x0C then netConnWord s ⟨(o - 0x400) / 0x20 % 32, Nat.mod_lt _ (by decide)⟩ else w

/-- Number of a link's state. -/
def LinkState.num : LinkState → Nat
  | .down => 0
  | .train => 1
  | .up => 2
  | .lost => 3

/-- OSR_LINK_STAT[p]. -/
def osrLinkWord (s : State) (p : Fin 2) : Word :=
  let l := s.osr.links[p]
  pack [(24, l.cause.toNat), (16, l.dly.toNat), (8, l.peer.toNat), (0, l.st.num)]

/-- The timebase error of OSR_TIME_STAT, saturating at 16 bits signed. -/
def ofsField (x : Int) : Nat := toTwos 16 (max (-32768) (min x 32767))

/-- OSR registers. -/
def viewOsr (s : State) (o : Nat) (w : Word) : Word :=
  let master := s.osr.ringId == 0
  match o with
  | 0x00 => setBits (setBits w 16 16 (b2n master)) 2 0 s.osr.ringId.toNat
  | 0x10 => osrLinkWord s 0
  | 0x14 => osrLinkWord s 1
  | 0x18 => pack [(16, ofsField s.osr.ofs), (9, b2n s.osr.stepped), (8, b2n (s.osr.src == some 0)), (4, s.osr.hops.toNat),
      (1, b2n s.osr.stuck), (0, b2n (s.osr.lock || master))]
  | 0x1C => pack [(8, (reachable s).toNat), (0, s.osr.ok.toNat)]
  | _ => w

/-- The six status bits of a converter. -/
def convBits (s : State) (c : Fin 2) : Nat :=
  let v := s.adc.conv[c]
  32 * b2n v.halted + 16 * b2n v.held + 8 * b2n v.inj + 4 * b2n (s.adc.calq.contains c) + 2 * b2n v.cal
    + b2n (v.runs && !v.pipe.isEmpty)

/-- ADC registers. -/
def viewAdc (s : State) (o : Nat) (w : Word) : Word :=
  match o with
  | 0x00 => pack [(16, b2n s.adc.refOk), (8, convBits s 1), (0, convBits s 0)]
  | _ => w

/-- TMR registers. -/
def viewTmr (s : State) (o : Nat) (w : Word) : Word :=
  match o with
  | 0x00 => lo32 s.tb
  | 0x04 => hi32 s.tb
  | 0x08 => pack ((List.range 8).map fun n => (n, b2n (timerBound s.regs n)))
  | _ => w

/-- CRC registers. -/
def viewCrc (s : State) (o : Nat) (w : Word) : Word :=
  let u := s.crc.toArray.getD (o / 0x40) {}
  if 0x100 ≤ o then w
  else match o % 0x40 with
  | 0x20 => u.result
  | 0x24 => u.len
  | _ => w

/-- A header word of the current bank, 0 with none. -/
def curWord (s : State) (o : Nat) : Nat :=
  match s.cfg.cur with
  | some b => bankWord (s.nv.bank b) o
  | none => 0

/-- Number of the transaction state. -/
def TxnState.num : TxnState → Nat
  | .idle => 0
  | .open => 1
  | .pend => 2

/-- CFG registers. -/
def viewCfg (s : State) (o : Nat) (w : Word) : Word :=
  let cur := match s.cfg.cur with | some b => b.val | none => 3
  match o with
  | 0x00 => pack [(10, s.cfg.valid.toNat), (9, b2n s.cfg.validated), (4, cur), (3, b2n s.cfg.key), (1, bitsOf w.toNat 1 1),
      (0, b2n s.cfg.cmd.isSome)]
  | 0x0C => BitVec.ofNat 32 (curWord s 8)
  | 0x10 => BitVec.ofNat 32 (curWord s 0x38)
  | 0x14 => setBits w 7 0 (bitsOf (curWord s 0x0C) 7 0)
  | 0x24 => setBits w 1 0 s.cfg.txn.num
  | _ => w

/-- Total plus increment of the selected entry (R565). -/
def smpSelected (s : State) : Nat :=
  let k := statKey (s.r R.SMP_SEL_KIND) (s.r R.SMP_SEL_INDEX)
  mread 0 s.smp.tot k + mread 0 s.smp.inc k

/-- SMP registers. -/
def viewSmp (s : State) (o : Nat) (w : Word) : Word :=
  match o with
  | 0x00 => pack [(24, s.smp.bad.toNat), (8, match s.smp.slot with | some k => k.val | none => 7),
      (2, b2n s.smp.store.isSome), (1, b2n s.smp.fresh), (0, b2n s.smp.restored)]
  | 0x04 => s.smp.seq
  | 0x08 => match s.smp.at' with
    | some a => BitVec.ofNat 32 (min ((s.tb - a) / 100000000) 4095)
    | none => 0
  | 0x14 => lo32 (smpSelected s)
  | 0x18 => hi32 (smpSelected s)
  | _ => w

/-- A word of the MSI-X structures in BAR0 (R98, R99). -/
def msixWord (h : Hif) (o : Nat) : Option Word :=
  if 0xE000 ≤ o ∧ o < 0xE200 then some (mread (if o % 16 = 12 ∧ o ≠ 0xE00C then 1 else 0) h.table (o - 0xE000))
  else if o = 0xE800 then some h.pba
  else none

/-- WO fields read 0 (R13). -/
def readable (off : Nat) : Word := match fieldsAt off with | some l => maskOf (fun f => f.acc != .wo) l | none => 0

/-- The word that a read of a BAR0 offset returns, 0 where no register lies (R12, R13, R492). -/
def readWord (s : State) (off : Nat) : Word :=
  let w := if lacksSource off then 0 else storedWord s.regs off &&& readable off
  let o := off % 0x10000
  match off / 0x10000 with
  | 0 => viewSys s o w
  | 1 => match msixWord s.hif o with
    | some x => x
    | none => if 0x1000 ≤ o ∧ o < 0x1100 then viewRing s ⟨(o - 0x1000) / 0x40 % 4, Nat.mod_lt _ (by decide)⟩ (o % 0x40) w
      else viewHif s o w
  | 2 => viewCis s o w
  | 3 => viewVpt s o w
  | 4 => viewLan s o w
  | 5 => viewFld s o w
  | 6 => viewNet s o w
  | 7 => viewOsr s o w
  | 8 => viewAdc s o w
  | 9 => viewTmr s o w
  | 10 => viewCrc s o w
  | 11 => viewCfg s o w
  | 12 => viewSmp s o w
  | 13 => viewPwr s o w
  | _ => 0

end Sys2Proof.Machine
end

