-- ==== Sys2Proof/Machine/HostAccess.lean ====
section
/-! DEFINITION. A host write or read of one DW: what writing a BAR0 register starts, and what a read returns and clears; BAR2,
configuration space and requests that match no BAR (R12-R16, R84, R85, R88, R492, R513). -/

namespace Sys2Proof.Machine

/-! ### Writes -/

/-- FE_INFO.VALID: writing 1 clears the whole first-error record (R494). -/
def clearFirst (blk : Nat) (s : State) : State :=
  { s with regs := [0xF010, 0xF014, 0xF018, 0xF020, 0xF024, 0xF028, 0xF02C].foldl (fun m o => mput 0 m (fltOff blk o) 0) s.regs }

/-- What a write of the common fault registers does; none where the offset is another register. -/
def faultWrite (off : Nat) (val : Word) (s : State) : Option State :=
  let blk := off / 0x10000
  if 14 ≤ blk then none
  else match off % 0x10000 with
  | 0xF004 => some (forceEff blk val s)
  | 0xF010 => some (if val.getLsbD 31 then clearFirst blk s else s)
  | _ => none

/-- A write of the MSI-X table: of Vector Control only the mask bit is kept (R16), and vector 0 has none (R99); what is no longer
masked is sent. -/
def tableWrite (o : Nat) (val : Word) (s : State) : State :=
  let mask := o % 16 == 12
  let d : Word := if mask && o != 0xE00C then 1 else 0
  let v : Word := if o = 0xE00C then 0 else if mask then val &&& 1 else val
  releaseInts { s with hif := { s.hif with table := mput d s.hif.table (o - 0xE000) v } }

/-- Writes of SYS registers that act. -/
def writeSys (off : Nat) (val : Word) (s : State) : State :=
  match off with
  | 0x14 => modeReqEff val s
  | 0x18 => sysCtrlEff val s
  | 0xF408 => if val.getLsbD 0 then errRelEff s else s
  | _ => fieldWrite off val s

/-- Writes of HIF registers that act (R98, R117-R119, R142). -/
def writeHif (off : Nat) (val : Word) (s : State) : State :=
  let o := off % 0x10000
  if o = 0x24 then dmaCtrlEff val s
  else if 0x1000 ≤ o ∧ o < 0x1100 then
    let n : Fin 4 := ⟨(o - 0x1000) / 0x40 % 4, Nat.mod_lt _ (by decide)⟩
    match o % 0x40 with
    | 0x00 => ringBaseEff n off val s
    | 0x04 => ringBaseEff n off val s
    | 0x08 => ringCfgEff n val s
    | _ => fieldWrite off val s
  else if 0xE000 ≤ o ∧ o < 0xE200 then tableWrite o val s
  else fieldWrite off val s

/-- Writes of timer registers that act (R473-R479). -/
def writeTmr (off : Nat) (val : Word) (s : State) : State :=
  let o := off % 0x10000
  let n : Fin 8 := ⟨(o - 0x100) / 0x40 % 8, Nat.mod_lt _ (by decide)⟩
  if 0x100 ≤ o ∧ o < 0x300 then
    match o % 0x40 with
    | 0x0C => unboundWr n off (tcCntEff n val) s
    | 0x10 => unboundWr n off (tcCmpEff n 0 val) s
    | 0x14 => tcCmpEff n 1 val s
    | 0x1C => unboundWr n off (tcCapEff n val) s
    | _ => fieldWrite off val s
  else fieldWrite off val s

/-- Writes of check-value unit registers that act (R483, R484). -/
def writeCrc (off : Nat) (val : Word) (s : State) : State :=
  let o := off % 0x10000
  let u : Fin 4 := ⟨o / 0x40 % 4, Nat.mod_lt _ (by decide)⟩
  if 0x100 ≤ o then fieldWrite off val s
  else match o % 0x40 with
  | 0x10 => if val.getLsbD 0 then crcStartEff u s else s
  | 0x14 => crcFeed u 1 val s
  | 0x18 => crcFeed u 2 val s
  | 0x1C => crcFeed u 4 val s
  | _ => fieldWrite off val s

/-- Writes of CFG registers that act (R545, R550). -/
def writeCfg (off : Nat) (val : Word) (s : State) : State :=
  match off with
  | 0xB0004 => if val.getLsbD 31 then cfgStart (bitsOf val.toNat 2 0) (bitsOf val.toNat 13 8) s else fieldWrite off val s
  | 0xB0020 => match bitsOf val.toNat 1 0 with
    | 1 => txnBeginEff s
    | 2 => txnCommitEff s
    | 3 => txnRollbackEff s
    | _ => s
  | _ => fieldWrite off val s

/-- The effect of a host write of a register, in the block of its offset. -/
def writeBlock (off : Nat) (val : Word) (s : State) : State :=
  match off / 0x10000 with
  | 0 => writeSys off val s
  | 1 => writeHif off val s
  | 2 => if off = 0x20058 then sliceCtrlEff val s else fieldWrite off val s
  | 3 => if off = 0x30010 then burstCtrlEff val s else fieldWrite off val s
  | 4 => if off = 0x40014 then lanCtrlEff (val.extractLsb' 0 3) (val.extractLsb' 4 3) s else fieldWrite off val s
  | 6 => if off = 0x60050 then mdioEff val s else fieldWrite off val s
  | 8 => if off = 0x80004 then calCtrlEff val s else if off = 0x80008 then injGoEff val s else fieldWrite off val s
  | 9 => writeTmr off val s
  | 10 => writeCrc off val s
  | 11 => writeCfg off val s
  | 13 => if off = 0xD0010 then
      fieldWrite off val { s with pwr := { s.pwr with monSelAt := some s.tb } } else fieldWrite off val s
  | _ => fieldWrite off val s

/-- The effect of a host write of a register. -/
def writeEff (off : Nat) (val : Word) (s : State) : State := (faultWrite off val s).getD (writeBlock off val s)

/-- A register or a word of the MSI-X structures lies at the offset. -/
def offsetUsed (s : State) (off : Nat) : Bool :=
  ((fieldsAt off).isSome && !lacksSource off) || (off / 0x10000 == 1 && (msixWord s.hif (off % 0x10000)).isSome)

/-- In Lockdown the W1C bits of fault registers alone act (R513). -/
def lockdownWrite (off : Nat) (val : Word) (s : State) : State :=
  if s.blockUp (off / 0x10000) then
    if off % 0x10000 = 0xF000 then fieldWrite off val s
    else if val.getLsbD 31 then clearFirst (off / 0x10000) s else s
  else s

/-- A host write of 1 DW to BAR0: discarded where no register lies (R12). -/
def registerWriteEff (off : Nat) (val : Word) (s : State) : State :=
  if !offsetUsed s off then s
  else if s.hostReach && s.sys.mode == .lockdown && (off % 0x10000 == 0xF000 || off % 0x10000 == 0xF010) then
    lockdownWrite off val (s.order 6)
  else hostWr off (writeEff off val) s

/-- A DW-aligned offset within a space: 64 KiB of BAR2, 4 KiB of configuration space. -/
def spaceOff (space : HostSpace) (off : BitVec 20) : Nat :=
  match space with
  | .bar2 => off.toNat % 65536 / 4 * 4
  | .config => off.toNat % 4096 / 4 * 4
  | _ => off.toNat / 4 * 4

/-- REGISTER_WRITE (R12, R13, R16, R85, R88): the two lowest bits of the offset name no register. -/
def execRegisterWrite (off : BitVec 20) (val : BitVec 32) (s : State) (space : HostSpace := .bar0) :
    Host.Outcome State Fault Refusal :=
  let o := spaceOff space off
  .next (match space with
    | .bar0 => registerWriteEff o val s
    | .bar2 => bar2Wr (bar2Write o val) s
    | .config => cfgReq (configWrite o val) s
    | .noBar => if s.hostReach || s.d3Reach then aerRecord 20 (s.order 6) else s)

/-! ### Reads -/

/-- The bits of the enabled bytes. -/
def byteMask (be : BitVec 4) : Word :=
  (List.range 4).foldl (fun m i => if be.getLsbD i then m ||| BitVec.ofNat 32 (0xFF * 2 ^ (8 * i)) else m) 0

/-- RC fields with at least one byte enabled (R85). -/
def readClears (be : BitVec 4) (f : FieldRow) : Bool := f.acc == .rc && (f.mask &&& byteMask be) != 0

/-- The registers after a read clears RC fields: the reset value, or what a coinciding event gives (R13, R14, R85). -/
def readClear (m : Map Word) (off : Nat) (be : BitVec 4) (event : Option Word) : Map Word :=
  match fieldsAt off with
  | none => m
  | some l => mput (resetWord off) m off (blend (maskOf (readClears be) l) (event.getD (resetWord off)) (storedWord m off))

/-- The enabled bytes of the word read stand in `rd`. -/
def readOut (be : BitVec 4) (w : Word) (s : State) : State := { s with hif := { s.hif with rd := [w &&& byteMask be] } }

/-- A read that reaches the registers; a lost domain gives an open value (log entry 13). -/
def registerReadEff (off : Nat) (be : BitVec 4) (event : Option Word) (s : State) : State :=
  let out := readOut be
  if !offsetUsed s off then out 0 s
  else if !s.blockUp (off / 0x10000) then out s.fv (s.took 1)
  else
    let s := timerRead off s
    out (readWord s off) { s with regs := if lacksSource off then s.regs else readClear s.regs off be event }

/-- REGISTER_RC_READ (R13, R14, R85, R88). -/
def execRegisterRcRead (off : BitVec 20) (be : BitVec 4) (event : Option (BitVec 32)) (s : State)
    (space : HostSpace := .bar0) : Host.Outcome State Fault Refusal :=
  let o := spaceOff space off
  .next (match space with
    | .bar0 => if s.hostReach then registerReadEff o be event (s.order 6) else readRefused s
    | .bar2 => if s.hostReach then readOut be (bar2Word s o) (s.order 6) else readRefused s
    | .config => cfgReq (fun s => readOut be (configWord s o) (s.took 1)) s
    | .noBar => if s.hostReach || s.d3Reach then answerUr (s.order 6) else s)

end Sys2Proof.Machine
end

