-- ==== Sys2Proof/Machine/Jtag.lean ====
section
/-! DEFINITION. The JTAG port (R585, R586; log entry 18). -/

namespace Sys2Proof.Machine

/-- The next state of the TAP controller (IEEE 1149.1). -/
def TapState.next (t : TapState) (tms : Bool) : TapState :=
  match t, tms with
  | .testLogicReset, true => .testLogicReset
  | .testLogicReset, false => .runTestIdle
  | .runTestIdle, true => .selectDr
  | .runTestIdle, false => .runTestIdle
  | .selectDr, true => .selectIr
  | .selectDr, false => .captureDr
  | .captureDr, true => .exit1Dr
  | .captureDr, false => .shiftDr
  | .shiftDr, true => .exit1Dr
  | .shiftDr, false => .shiftDr
  | .exit1Dr, true => .updateDr
  | .exit1Dr, false => .pauseDr
  | .pauseDr, true => .exit2Dr
  | .pauseDr, false => .pauseDr
  | .exit2Dr, true => .updateDr
  | .exit2Dr, false => .shiftDr
  | .updateDr, true => .selectDr
  | .updateDr, false => .runTestIdle
  | .selectIr, true => .testLogicReset
  | .selectIr, false => .captureIr
  | .captureIr, true => .exit1Ir
  | .captureIr, false => .shiftIr
  | .shiftIr, true => .exit1Ir
  | .shiftIr, false => .shiftIr
  | .exit1Ir, true => .updateIr
  | .exit1Ir, false => .pauseIr
  | .pauseIr, true => .exit2Ir
  | .pauseIr, false => .pauseIr
  | .exit2Ir, true => .updateIr
  | .exit2Ir, false => .shiftIr
  | .updateIr, true => .selectDr
  | .updateIr, false => .runTestIdle

/-- The instruction of a 4-bit code (log entry 18). -/
def tapInstr (ir : BitVec 4) : TapInstr :=
  match ir.toNat with
  | 0 => .extest
  | 1 => .sample
  | 2 => .idcode
  | _ => .bypass

/-- Logic-level pins of R581 in the boundary register. -/
def boundaryCells : Nat := 23

/-- The instruction in effect: EXTEST acts as BYPASS while TEST_MODE is low (R586). -/
def State.tapEffect (s : State) : TapInstr :=
  if s.jtag.instr == .extest && !s.pwr.testMode then .bypass else s.jtag.instr

/-- What Capture-DR loads: the IDCODE of R585, one 0 for BYPASS, pin levels for the boundary register. -/
def tapCapture (s : State) : List Bool :=
  match s.tapEffect with
  | .idcode => (List.range 32).map fun i => (0xA204878D : Word).getLsbD i
  | .bypass => [false]
  | _ => (List.range boundaryCells).map fun i => s.fv.getLsbD i

/-- A rising edge of TCK: capture or shift in the present state, then the next state. -/
def tapRise (io : TapIn) (s : State) : State :=
  let j := s.jtag
  let dr := match j.st with
    | .captureDr => tapCapture s
    | .shiftDr => j.dr.tail ++ [io.tdi]
    | _ => j.dr
  let ir := match j.st with
    | .captureIr => 1#4
    | .shiftIr => (BitVec.ofBool io.tdi ++ j.ir.extractLsb' 1 3)
    | _ => j.ir
  let nx := j.st.next io.tms
  { s with jtag := { j with st := nx, dr := dr, ir := ir, instr := if nx == .testLogicReset then .idcode else j.instr },
           free := if j.st == .captureDr then s.free + 1 else s.free }

/-- A falling edge of TCK: TDO in the shift states, the update stages in the update states. -/
def tapFall (s : State) : State :=
  let j := s.jtag
  { s with jtag := match j.st with
      | .shiftDr => { j with tdo := j.dr.headD false }
      | .shiftIr => { j with tdo := j.ir.getLsbD 0 }
      | .updateDr => match s.tapEffect with
        | .sample => { j with bnd := j.dr }
        | .extest => { j with bnd := j.dr }
        | _ => j
      | .updateIr => { j with instr := tapInstr j.ir }
      | _ => j }

/-- JTAG_TAP_CLOCK (R585): TRST_N low resets the port at any time. -/
def execJtagTapClock (io : TapIn) (s : State) : Host.Outcome State Fault Refusal :=
  .next (if !s.pwr.aoOk then s
    else if !io.trstN then { s with jtag := {} }
    else if io.rising then tapRise io s else tapFall s)

end Sys2Proof.Machine
end

