-- ==== Sys2Proof/Machine/Dispatch.lean ====
section
/-! DEFINITION. What each command does: one arm per constructor, each one call of its meaning. -/

namespace Sys2Proof.Machine

/-- The effect of a command on everything but the queue. -/
def exec (i : Instr) (s : State) : Host.Outcome State Fault Refusal :=
  match i with
  | .registerWrite off val space => Sys2Proof.Machine.execRegisterWrite off val s space
  | .registerRcRead off be event space => Sys2Proof.Machine.execRegisterRcRead off be event s space
  | .powerUp rstN testMode ringId fsHigh => Sys2Proof.Machine.execPowerUp rstN testMode ringId fsHigh s
  | .ref100Accept dev => Sys2Proof.Machine.execRef100Accept dev s
  | .ref100Lost => Sys2Proof.Machine.execRef100Lost s
  | .powerupSeqStep inLimits => Sys2Proof.Machine.execPowerupSeqStep inLimits s
  | .domainLateOpen d => Sys2Proof.Machine.execDomainLateOpen d s
  | .domainOpenTimeout d => Sys2Proof.Machine.execDomainOpenTimeout d s
  | .domainTrip d high => Sys2Proof.Machine.execDomainTrip d high s
  | .laneGateReopen l => Sys2Proof.Machine.execLaneGateReopen l s
  | .vddAoLoss => Sys2Proof.Machine.execVddAoLoss s
  | .testModeRise => Sys2Proof.Machine.execTestModeRise s
  | .rstNAssert => Sys2Proof.Machine.execRstNAssert s
  | .rstNRelease ringId testMode => Sys2Proof.Machine.execRstNRelease ringId testMode s
  | .bootSelftestDone r => Sys2Proof.Machine.execBootSelftestDone r s
  | .bootConfigReadDone hits0 hits1 seal0 seal1 seal2 => Sys2Proof.Machine.execBootConfigReadDone hits0 hits1 seal0 seal1 seal2 s
  | .bootLoadDone refuse => Sys2Proof.Machine.execBootLoadDone refuse s
  | .sumpRestore uncorr => Sys2Proof.Machine.execSumpRestore uncorr s
  | .partnerWaitExpire => Sys2Proof.Machine.execPartnerWaitExpire s
  | .slotTick io => Sys2Proof.Machine.execSlotTick io s
  | .fireLaunch late => Sys2Proof.Machine.execFireLaunch late s
  | .sliceRmw p ecc => Sys2Proof.Machine.execSliceRmw p ecc s
  | .ceInterval => Sys2Proof.Machine.execCeInterval s
  | .workSramScrub loc ecc => Sys2Proof.Machine.execWorkSramScrub loc ecc s
  | .laneSramScrub l ecc => Sys2Proof.Machine.execLaneSramScrub l ecc s
  | .ringFetch => Sys2Proof.Machine.execRingFetch s
  | .fetchCompletion ds => Sys2Proof.Machine.execFetchCompletion ds s
  | .fetchError k => Sys2Proof.Machine.execFetchError s k
  | .dmaResume => Sys2Proof.Machine.execDmaResume s
  | .admitNop => Sys2Proof.Machine.execAdmitNop s
  | .admitMark => Sys2Proof.Machine.execAdmitMark s
  | .admitMarkSpec => Sys2Proof.Machine.execAdmitMarkSpec s
  | .admitConfirm => Sys2Proof.Machine.execAdmitConfirm s
  | .admitRevoke => Sys2Proof.Machine.execAdmitRevoke s
  | .admitFence => Sys2Proof.Machine.execAdmitFence s
  | .admitInvalidOpcode => Sys2Proof.Machine.execAdmitInvalidOpcode s
  | .descComplete => Sys2Proof.Machine.execDescComplete s
  | .noticeWrite => Sys2Proof.Machine.execNoticeWrite s
  | .eventWrite => Sys2Proof.Machine.execEventWrite s
  | .telemetryRecord => Sys2Proof.Machine.execTelemetryRecord s
  | .irqHoldExpire n => Sys2Proof.Machine.execIrqHoldExpire n s
  | .ticketDeadline t => Sys2Proof.Machine.execTicketDeadline t s
  | .bookedWrite t ecc => Sys2Proof.Machine.execBookedWrite t ecc s
  | .resolutionDone t => Sys2Proof.Machine.execResolutionDone t s
  | .perstNAssert => Sys2Proof.Machine.execPerstNAssert s
  | .perstNRelease => Sys2Proof.Machine.execPerstNRelease s
  | .configResponseReady => Sys2Proof.Machine.execConfigResponseReady s
  | .linkRetrain width speed => Sys2Proof.Machine.execLinkRetrain width speed s
  | .dataLinkDown => Sys2Proof.Machine.execDataLinkDown s
  | .flr => Sys2Proof.Machine.execFlr s
  | .flrDone => Sys2Proof.Machine.execFlrDone s
  | .d3hotEntry => Sys2Proof.Machine.execD3hotEntry s
  | .d3hotExit => Sys2Proof.Machine.execD3hotExit s
  | .busMasterDisable => Sys2Proof.Machine.execBusMasterDisable s
  | .busMasterEnable => Sys2Proof.Machine.execBusMasterEnable s
  | .tlpViolation kind addr => Sys2Proof.Machine.execTlpViolation kind addr s
  | .diagRead addr len hits => Sys2Proof.Machine.execDiagRead addr len hits s
  | .dbSubTail val => Sys2Proof.Machine.execDbSubTail val s
  | .dbCplHead val => Sys2Proof.Machine.execDbCplHead val s
  | .dbEvtHead val => Sys2Proof.Machine.execDbEvtHead val s
  | .dbTelHead val => Sys2Proof.Machine.execDbTelHead val s
  | .heartbeat val => Sys2Proof.Machine.execHeartbeat val s
  | .hbTimeout => Sys2Proof.Machine.execHbTimeout s
  | .nmtRelease => Sys2Proof.Machine.execNmtRelease s
  | .ringEnable n val => Sys2Proof.Machine.execRingEnable n val s
  | .ringDisable n val => Sys2Proof.Machine.execRingDisable n val s
  | .ringDisableDone n => Sys2Proof.Machine.execRingDisableDone n s
  | .discoverSend n => Sys2Proof.Machine.execDiscoverSend n s
  | .identReceive n f rtt => Sys2Proof.Machine.execIdentReceive n f rtt s
  | .configAckReceive n f => Sys2Proof.Machine.execConfigAckReceive n f s
  | .configAckTimeout n => Sys2Proof.Machine.execConfigAckTimeout n s
  | .statusReceive n f => Sys2Proof.Machine.execStatusReceive n f s
  | .statusDeadline n => Sys2Proof.Machine.execStatusDeadline n s
  | .burstReceive n f => Sys2Proof.Machine.execBurstReceive n f s
  | .burstGo val => Sys2Proof.Machine.execBurstGo val s
  | .burstTimeout => Sys2Proof.Machine.execBurstTimeout s
  | .vpFrameDrop n crc => Sys2Proof.Machine.execVpFrameDrop n crc s
  | .vpSyncLoss n => Sys2Proof.Machine.execVpSyncLoss n s
  | .haltSend => Sys2Proof.Machine.execHaltSend s
  | .sliceTest val => Sys2Proof.Machine.execSliceTest val s
  | .sliceMigrate val => Sys2Proof.Machine.execSliceMigrate val s
  | .sliceRestore val => Sys2Proof.Machine.execSliceRestore val s
  | .sliceOpDone pass => Sys2Proof.Machine.execSliceOpDone pass s
  | .sampleFrameReceive l f => Sys2Proof.Machine.execSampleFrameReceive l f s
  | .scanBoundary io => Sys2Proof.Machine.execScanBoundary io s
  | .evalPhase io => Sys2Proof.Machine.execEvalPhase io s
  | .rswSend => Sys2Proof.Machine.execRswSend s
  | .ringAgree ex => Sys2Proof.Machine.execRingAgree s ex
  | .comparePhase io => Sys2Proof.Machine.execComparePhase io s
  | .drivePhase => Sys2Proof.Machine.execDrivePhase s
  | .repairTimerExpire => Sys2Proof.Machine.execRepairTimerExpire s
  | .recurClear => Sys2Proof.Machine.execRecurClear s
  | .laneReadmitReq bits => Sys2Proof.Machine.execLaneReadmitReq bits s
  | .laneTestReq bits => Sys2Proof.Machine.execLaneTestReq bits s
  | .laneSelftestDone pass refuse => Sys2Proof.Machine.execLaneSelftestDone pass refuse s
  | .autoReadmit l => Sys2Proof.Machine.execAutoReadmit l s
  | .fieldSample io => Sys2Proof.Machine.execFieldSample io s
  | .tpPulse g => Sys2Proof.Machine.execTpPulse g s
  | .tpCheck g low => Sys2Proof.Machine.execTpCheck g low s
  | .driveFrameReceive l f => Sys2Proof.Machine.execDriveFrameReceive l f s
  | .offPulseEnd grp => Sys2Proof.Machine.execOffPulseEnd grp s
  | .islandTimeout l => Sys2Proof.Machine.execIslandTimeout l s
  | .fdlLinkSilent l => Sys2Proof.Machine.execFdlLinkSilent l s
  | .fieldConfigReceive frames => Sys2Proof.Machine.execFieldConfigReceive frames s
  | .fieldResetFrame links => Sys2Proof.Machine.execFieldResetFrame links s
  | .watchdogExpire => Sys2Proof.Machine.execWatchdogExpire s
  | .stuckTimerExpire t => Sys2Proof.Machine.execStuckTimerExpire t s
  | .outputOvlTimer t => Sys2Proof.Machine.execOutputOvlTimer t s
  | .groupOvlTimer g => Sys2Proof.Machine.execGroupOvlTimer g s
  | .tpOvlTimer g => Sys2Proof.Machine.execTpOvlTimer g s
  | .fsLowEnter g => Sys2Proof.Machine.execFsLowEnter g s
  | .fsLowLeave g => Sys2Proof.Machine.execFsLowLeave g s
  | .fsSag g => Sys2Proof.Machine.execFsSag g s
  | .fsMissing g => Sys2Proof.Machine.execFsMissing g s
  | .netLinkUp p fullDuplex => Sys2Proof.Machine.execNetLinkUp p fullDuplex s
  | .netLinkDown p => Sys2Proof.Machine.execNetLinkDown p s
  | .ethFrameReceive p e => Sys2Proof.Machine.execEthFrameReceive p e s
  | .netQualDone p => Sys2Proof.Machine.execNetQualDone p s
  | .netLostRecover p => Sys2Proof.Machine.execNetLostRecover p s
  | .netPathSilence p n => Sys2Proof.Machine.execNetPathSilence p n s
  | .connWatchdogExpire n => Sys2Proof.Machine.execConnWatchdogExpire n s
  | .mdioGo val => Sys2Proof.Machine.execMdioGo val s
  | .mdioDone data => Sys2Proof.Machine.execMdioDone data s
  | .osrSyncGain p => Sys2Proof.Machine.execOsrSyncGain p s
  | .osrSyncLoss p => Sys2Proof.Machine.execOsrSyncLoss p s
  | .helloSend p => Sys2Proof.Machine.execHelloSend p s
  | .helloReceive p f rtt => Sys2Proof.Machine.execHelloReceive p f rtt s
  | .osrRttMeasure p rtt => Sys2Proof.Machine.execOsrRttMeasure p rtt s
  | .osrLostExpire p => Sys2Proof.Machine.execOsrLostExpire p s
  | .osrFrameDrop p crc => Sys2Proof.Machine.execOsrFrameDrop p crc s
  | .timeSend => Sys2Proof.Machine.execTimeSend s
  | .timeReceive p f => Sys2Proof.Machine.execTimeReceive p f s
  | .timeLockTimeout => Sys2Proof.Machine.execTimeLockTimeout s
  | .ringSyncMark => Sys2Proof.Machine.execRingSyncMark s
  | .ringSyncEdge edge => Sys2Proof.Machine.execRingSyncEdge edge s
  | .fwdReceive p f => Sys2Proof.Machine.execFwdReceive p f s
  | .ansReceive p f => Sys2Proof.Machine.execAnsReceive p f s
  | .fwdAnsTimeout fseq => Sys2Proof.Machine.execFwdAnsTimeout fseq s
  | .rswReceive p f => Sys2Proof.Machine.execRswReceive p f s
  | .adcResult c v => Sys2Proof.Machine.execAdcResult c v s
  | .adcRegTrigger c => Sys2Proof.Machine.execAdcRegTrigger c s
  | .adcInjTrigger c => Sys2Proof.Machine.execAdcInjTrigger c s
  | .adcInjGo val => Sys2Proof.Machine.execAdcInjGo val s
  | .adcScanTrigger c lanes => Sys2Proof.Machine.execAdcScanTrigger c lanes s
  | .adcCalReq val => Sys2Proof.Machine.execAdcCalReq val s
  | .adcCalAuto c => Sys2Proof.Machine.execAdcCalAuto c s
  | .adcCalStart c => Sys2Proof.Machine.execAdcCalStart c s
  | .adcCalDone c offset gain => Sys2Proof.Machine.execAdcCalDone c offset gain s
  | .adcRefFault => Sys2Proof.Machine.execAdcRefFault s
  | .timerStep n => Sys2Proof.Machine.execTimerStep n s
  | .tcCntWrite n val => Sys2Proof.Machine.execTcCntWrite n val s
  | .tcCmpWrite n k val => Sys2Proof.Machine.execTcCmpWrite n k val s
  | .tcCapCmd n val => Sys2Proof.Machine.execTcCapCmd n val s
  | .tcCapture n k => Sys2Proof.Machine.execTcCapture n k s
  | .tcFlagRead n event => Sys2Proof.Machine.execTcFlagRead n event s
  | .crcStart u => Sys2Proof.Machine.execCrcStart u s
  | .crcDin8 u val => Sys2Proof.Machine.execCrcDin8 u val s
  | .crcDin16 u val => Sys2Proof.Machine.execCrcDin16 u val s
  | .crcDin32 u val => Sys2Proof.Machine.execCrcDin32 u val s
  | .faultForce blk val => Sys2Proof.Machine.execFaultForce blk val s
  | .blkReset blk => Sys2Proof.Machine.execBlkReset blk s
  | .chipReset => Sys2Proof.Machine.execChipReset s
  | .errRelease => Sys2Proof.Machine.execErrRelease s
  | .errMinWidthEnd => Sys2Proof.Machine.execErrMinWidthEnd s
  | .modeReqConfigure => Sys2Proof.Machine.execModeReqConfigure s
  | .modeReqRun => Sys2Proof.Machine.execModeReqRun s
  | .modeReqMaintain => Sys2Proof.Machine.execModeReqMaintain s
  | .deliberateReset key => Sys2Proof.Machine.execDeliberateReset key s
  | .restart key => Sys2Proof.Machine.execRestart key s
  | .powerDown key => Sys2Proof.Machine.execPowerDown key s
  | .sealCompare seal0 seal1 seal2 => Sys2Proof.Machine.execSealCompare seal0 seal1 seal2 s
  | .keyAssert => Sys2Proof.Machine.execKeyAssert s
  | .keyRelease => Sys2Proof.Machine.execKeyRelease s
  | .cfgErase => Sys2Proof.Machine.execCfgErase s
  | .cfgProgram page => Sys2Proof.Machine.execCfgProgram page s
  | .cfgFinish => Sys2Proof.Machine.execCfgFinish s
  | .cfgValidate => Sys2Proof.Machine.execCfgValidate s
  | .cfgCmdDone verifyOk uncorr => Sys2Proof.Machine.execCfgCmdDone verifyOk uncorr s
  | .cfgHourlyCheck corrected uncorrected => Sys2Proof.Machine.execCfgHourlyCheck corrected uncorrected s
  | .txnBegin => Sys2Proof.Machine.execTxnBegin s
  | .txnCommit => Sys2Proof.Machine.execTxnCommit s
  | .txnRollback => Sys2Proof.Machine.execTxnRollback s
  | .txnApply => Sys2Proof.Machine.execTxnApply s
  | .statsSecond mv => Sys2Proof.Machine.execStatsSecond mv s
  | .sumpStoreStart => Sys2Proof.Machine.execSumpStoreStart s
  | .sumpStoreDone ok => Sys2Proof.Machine.execSumpStoreDone ok s
  | .vpSyncGain n => Sys2Proof.Machine.execVpSyncGain n s
  | .dataLinkUp width speed => Sys2Proof.Machine.execDataLinkUp width speed s
  | .msixControlWrite enable mask => Sys2Proof.Machine.execMsixControlWrite enable mask s
  | .fdlLinkSyncGain l => Sys2Proof.Machine.execFdlLinkSyncGain l s
  | .fieldSupplyReturn g => Sys2Proof.Machine.execFieldSupplyReturn g s
  | .pumpTokenExpire => Sys2Proof.Machine.execPumpTokenExpire s
  | .pumpSquareWaveEdge => Sys2Proof.Machine.execPumpSquareWaveEdge s
  | .jtagTapClock io => Sys2Proof.Machine.execJtagTapClock io s

end Sys2Proof.Machine
end

