-- ==== Sys2Proof/Safety.lean ====
section
/-! DEFINITION. The terms in which claims are stated: when a host access lands, which parts of the state a command leaves
alone, and the canonical form of the addressed storages. No claim needs a notion of a safe run beyond these: no command
stops. -/

namespace Sys2Proof.Machine

/-- A host write to a register of a block has its effect: the endpoint answers (log entry 4), the device is not in Lockdown
(R513) and the block's domain is on (R493). -/
def State.lands (s : State) (blk : Nat) : Bool := s.hostReach && s.sys.mode != .lockdown && s.blockUp blk

/-- The parts of the state, one per field. -/
inductive Part where
  | tb | pwr | keep | nv | slot | cis | dsc | tkt | rings | evs | hif | vpt | lan | fld | net | osr | adc | tmr | crc | sys | cfg | smp | jtag | regs | shadow | tx | pending | edge | free
deriving DecidableEq, Repr

/-- A part is the same in two states. -/
def Part.same (p : Part) (s t : State) : Prop :=
  match p with
  | .tb => t.tb = s.tb
  | .pwr => t.pwr = s.pwr
  | .keep => t.keep = s.keep
  | .nv => t.nv = s.nv
  | .slot => t.slot = s.slot
  | .cis => t.cis = s.cis
  | .dsc => t.dsc = s.dsc
  | .tkt => t.tkt = s.tkt
  | .rings => t.rings = s.rings
  | .evs => t.evs = s.evs
  | .hif => t.hif = s.hif
  | .vpt => t.vpt = s.vpt
  | .lan => t.lan = s.lan
  | .fld => t.fld = s.fld
  | .net => t.net = s.net
  | .osr => t.osr = s.osr
  | .adc => t.adc = s.adc
  | .tmr => t.tmr = s.tmr
  | .crc => t.crc = s.crc
  | .sys => t.sys = s.sys
  | .cfg => t.cfg = s.cfg
  | .smp => t.smp = s.smp
  | .jtag => t.jtag = s.jtag
  | .regs => t.regs = s.regs
  | .shadow => t.shadow = s.shadow
  | .tx => t.tx = s.tx
  | .pending => t.pending = s.pending
  | .edge => t.edge = s.edge
  | .free => t.free = s.free

/-- The second state differs from the first at most in the parts listed. -/
def OnlyChanges (l : List Part) (s t : State) : Prop := ∀ p, p ∉ l → p.same s t

/-- The parts that a raising may change (R501): the block's fault registers, event staging, messages, hold requests and the ERR_N
latch, the Lockdown latch and the statistics. -/
def raiseParts : List Part := [.regs, .evs, .sys, .keep, .hif, .tx, .smp]

/-- The status bit of a fault source (R492). -/
def State.raised (s : State) (c : Src) : Bool := (mread 0 s.regs (fltOff c.blk.toNat 0xF000)).getLsbD c.code.toNat

/-- Two register stores differ at most at the offsets listed. -/
def RegsBut (l : List Nat) (a b : Map Word) : Prop := ∀ o, o ∉ l → mget b o = mget a o

/-- The addressed storages are in canonical form: the cells of the cistern (R53) and the two banks of the configuration
store (R532). -/
def Memory.wf (s : State) : Bool :=
  mwf (fun _ => 0) s.cis.cells && mwf (fun _ => 0xFF) s.nv.bank0 && mwf (fun _ => 0xFF) s.nv.bank1

end Sys2Proof.Machine
end

