-- ==== Sys2Proof/Certificates/Slice0/Obligations.lean ====
section
/-! DEFINITION. The statements for the provers. Those of basis 'stated' follow a numbered rule of the spec; the others name
the sections they rest on. -/

open Sys2Proof Sys2Proof.Machine

/-! ### The queue and the tick -/

/-- A step takes the command at the front of the queue and answers what exec answers with the queue's rest. -/
def Obligations.StepTakesTheFrontCommand : Prop :=
  ∀ (c : Instr) (rest : List Instr) (s : State), step { s with pending := c :: rest } = exec c { s with pending := rest }

/-- With an empty queue an edge of REF100 passes (log entry 1): the timebase advances by one while VDD_AO is within its limits
and REF100 is accepted, but for an edge that the slew holds back, and otherwise holds its value (R464). A happening of a lower order in
R600 than one that the present edge has seen falls on the next edge; another falls on the present one (R600; log entry 2). -/
def Obligations.IdleTickCountsAnEdge : Prop :=
  ∀ s : State,
    (s.pwr.aoOk = true → s.pwr.refOk = true →
      step { s with pending := [] } = .next { s with
        pending := [], edge := 0, tb := if s.osr.skip = 0 then s.tb + 1 else s.tb, osr := { s.osr with skip := s.osr.skip - 1 } })
    ∧ ((s.pwr.aoOk = false ∨ s.pwr.refOk = false) → step { s with pending := [] } = .next { s with pending := [] })
    ∧ ∀ n : Nat, (s.order n).edge = n ∧ OnlyChanges [.tb, .osr, .edge] s (s.order n)
      ∧ (s.edge ≤ n → (s.order n).tb = s.tb ∧ (s.order n).osr = s.osr)
      ∧ (n < s.edge → s.pwr.aoOk = true → s.pwr.refOk = true → s.osr.skip = 0 → (s.order n).tb = s.tb + 1)

/-! ### Registers -/

/-- A read at an offset with no register returns 0; a write there is discarded and raises no fault; the two lowest bits of an
offset name no register (R12). -/
def Obligations.NoRegisterAtOffset : Prop :=
  ∀ (off : BitVec 20) (val : Word) (be : BitVec 4) (ev : Option Word) (s : State),
    (offsetUsed s (off.toNat / 4 * 4) = false → exec (.registerWrite off val) s = .next s)
    ∧ (offsetUsed s (off.toNat / 4 * 4) = false → s.hostReach = true →
        exec (.registerRcRead off be ev) s = .next { s.order 6 with hif := { s.hif with rd := [0] } })
    ∧ exec (.registerWrite off val) s = exec (.registerWrite (BitVec.ofNat 20 (off.toNat / 4 * 4)) val) s

/-- Writing a register at a BAR0 offset starts something, which a row of its own names. -/
def actsAt (o : Nat) : Bool :=
  [0x14, 0x18, 0xF408, 0x10024, 0x20058, 0x30010, 0x40014, 0x60050, 0x80004, 0x80008, 0xB0004, 0xB0020, 0xD0010].contains o
    || (decide (o / 0x10000 < 14) && [0xF004, 0xF010].contains (o % 0x10000))
    || decide (0x11000 ≤ o ∧ o < 0x11100) || decide (0x1E000 ≤ o ∧ o < 0x1E200)
    || (decide (0x90100 ≤ o ∧ o < 0x90300) && [0x0C, 0x10, 0x14, 0x1C].contains (o % 0x40))
    || (decide (0xA0000 ≤ o ∧ o < 0xA0100) && [0x10, 0x14, 0x18, 0x1C].contains (o % 0x40))

/-- A host write to any other register acts on every field that is not shadowed as its Access column says (R13), and on no other
register; where the register has no shadowed field nothing else of the device changes. A shadowed field keeps its value in force. While a transaction is OPEN the write goes to its shadow; otherwise the shadow keeps its
value too, and the block's ACCESS source is raised where the write differs from the value in force, and only there (R551). A write of one DW to a register that a row of its own names is that row's command; to BAR2 it is the doorbell or the heartbeat of its
offset, or is discarded; in configuration space offset 4 is Bus Master Enable beside the other command bits, and the identifying words
keep their values; in Lockdown a write that is not of the fault records or LAN_CTRL is discarded and raises the ACCESS source of its block;
a request that matches no BAR changes nothing but the error record of the endpoint (R84, R85, R88, R513). -/
def Obligations.RegisterWrites : Prop :=
  (∀ (off : BitVec 20) (val : Word) (s : State) (l : List FieldRow) (o : Nat), o = off.toNat / 4 * 4 → actsAt o = false →
      fieldsAt o = some l → lacksSource o = false → s.lands (o / 0x10000) = true →
      ∃ t, exec (.registerWrite off val) s = .next t
        ∧ (∀ f ∈ l, f.shadowed = false → bitsOf (storedWord t.regs o).toNat f.hi f.lo = (match f.acc with
            | .rw => bitsOf val.toNat f.hi f.lo
            | .w1c => bitsOf (storedWord s.regs o &&& ~~~val).toNat f.hi f.lo
            | _ => bitsOf (storedWord s.regs o).toNat f.hi f.lo))
        ∧ ((∀ f ∈ l, f.shadowed = false) → OnlyChanges [.regs, .shadow] (s.order 6) t ∧ RegsBut [o] s.regs t.regs
            ∧ storedWord t.shadow o = storedWord s.shadow o))
    ∧ (∀ (off : BitVec 20) (val : Word) (s : State) (l : List FieldRow) (o : Nat), o = off.toNat / 4 * 4 → actsAt o = false →
      fieldsAt o = some l → lacksSource o = false → s.lands (o / 0x10000) = true → (∃ f ∈ l, f.shadowed = true) →
      ∃ t, exec (.registerWrite off val) s = .next t
        ∧ (∀ f ∈ l, f.shadowed = true → bitsOf (storedWord t.regs o).toNat f.hi f.lo = bitsOf (storedWord s.regs o).toNat f.hi f.lo)
        ∧ (s.cfg.txn = .open → OnlyChanges [.regs, .shadow] (s.order 6) t
            ∧ ∀ f ∈ l, f.shadowed = true → bitsOf (storedWord t.shadow o).toNat f.hi f.lo = bitsOf val.toNat f.hi f.lo)
        ∧ (s.cfg.txn ≠ .open → t.shadow = s.shadow)
        ∧ (s.cfg.txn ≠ .open → (∃ f ∈ l, f.shadowed = true ∧ bitsOf val.toNat f.hi f.lo ≠ bitsOf (storedWord s.regs o).toNat f.hi f.lo) →
            t.raised ⟨BitVec.ofNat 4 (o / 0x10000), 0⟩ = true)
        ∧ (s.cfg.txn ≠ .open → (∀ f ∈ l, f.shadowed = true → bitsOf val.toNat f.hi f.lo = bitsOf (storedWord s.regs o).toNat f.hi f.lo) →
            OnlyChanges [.regs] (s.order 6) t))
    ∧ (∀ (s : State) (val : Word) (blk : Fin 14) (u : Fin 4) (n : Fin 8),
      (∀ e ∈ [(0x14, 0x80000001, Instr.modeReqConfigure), (0x14, 0x80000003, .modeReqRun), (0x14, 0x80000004, .modeReqMaintain),
          (0x18, 0xD501, .deliberateReset 0xD5), (0x18, 0xD502, .restart 0xD5), (0x18, 0xD504, .powerDown 0xD5), (0xF408, 1, .errRelease),
          (0xB0020, 1, .txnBegin), (0xB0020, 2, .txnCommit), (0xB0020, 3, .txnRollback)],
        exec (.registerWrite (BitVec.ofNat 20 e.1) (BitVec.ofNat 32 e.2.1)) s = exec e.2.2 s)
      ∧ exec (.registerWrite (BitVec.ofNat 20 (fltOff blk 0xF004)) val) s = exec (.faultForce (blk.castLE (by decide : 14 ≤ 16)) val) s
      ∧ exec (.registerWrite 0x30010 val) s = exec (.burstGo val) s
      ∧ exec (.registerWrite 0x80004 val) s = exec (.adcCalReq val) s
      ∧ exec (.registerWrite 0x80008 val) s = exec (.adcInjGo val) s
      ∧ exec (.registerWrite (BitVec.ofNat 20 (0x9010C + 0x40 * n)) val) s = exec (.tcCntWrite n val) s
      ∧ exec (.registerWrite (BitVec.ofNat 20 (0x90110 + 0x40 * n)) val) s = exec (.tcCmpWrite n 0 val) s
      ∧ exec (.registerWrite (BitVec.ofNat 20 (0x90114 + 0x40 * n)) val) s = exec (.tcCmpWrite n 1 val) s
      ∧ exec (.registerWrite (BitVec.ofNat 20 (0x9011C + 0x40 * n)) val) s = exec (.tcCapCmd n val) s
      ∧ exec (.registerWrite (BitVec.ofNat 20 (0xA001C + 0x40 * u)) val) s = exec (.crcDin32 u val) s
      ∧ (∀ off : BitVec 20, off.toNat < 65536 →
          exec (.registerWrite off val .bar2) s =
            if off.toNat / 4 * 4 = 0 then exec (.dbSubTail val) s else if off.toNat / 4 * 4 = 0x1000 then exec (.dbCplHead val) s
            else if off.toNat / 4 * 4 = 0x2000 then exec (.dbEvtHead val) s else if off.toNat / 4 * 4 = 0x3000 then exec (.dbTelHead val) s
            else if off.toNat / 4 * 4 = 0x4000 then exec (.heartbeat val) s
            else .next (if s.hostReach then s.order 6 else s))
      ∧ (s.cfgReach = true → s.dsc.cplq = [] → s.hif.pba = 0 → ∃ t, exec (.registerWrite 4 val .config) s = .next t
          ∧ t.hif.bme = val.getLsbD 2 ∧ t.hif.cfg.cmd = (val.setWidth 16 &&& 0x0542) ∧ OnlyChanges [.hif] (s.order 6) t)
      ∧ (∀ off : BitVec 20, s.cfgReach = true → off.toNat / 4 * 4 ∈ [0x00, 0x08, 0x2C, 0x34] →
          exec (.registerWrite off val .config) s = .next (s.order 6))
      ∧ (∀ (off : BitVec 20) (o : Nat), o = off.toNat / 4 * 4 → s.hostReach = true → s.sys.mode = .lockdown → offsetUsed s o = true →
          o ≠ 0x40014 → ¬(o % 0x10000 = 0xF000 ∨ o % 0x10000 = 0xF010) →
          ∃ t, exec (.registerWrite off val) s = .next t ∧ OnlyChanges raiseParts (s.order 6) t
            ∧ (s.blockUp (o / 0x10000) = true → t.raised ⟨BitVec.ofNat 4 (o / 0x10000), 0⟩ = true))
      ∧ (∀ off : BitVec 20, s.hostReach = true → ∃ t, exec (.registerWrite off val .noBar) s = .next t ∧ OnlyChanges [.hif] (s.order 6) t))

/-- A read that reaches a register of BAR0 returns its enabled bytes, then leaves every RC field of which a byte was enabled at its
reset value, or at what a coinciding event gives from it; no other register changes (R13, R14, R85). A read in a domain that is off gives
a value that the spec leaves open (log entry 13). A read of BAR2 returns the values
last accepted; Vendor and Device ID, Class Code and Revision ID, and the Subsystem IDs read in configuration space as R80 gives them;
a read that matches no BAR is answered with Unsupported Request. -/
def Obligations.ReadClearsAndKeepsTheEvent : Prop :=
  ∀ (off : BitVec 20) (be : BitVec 4) (ev : Option Word) (s : State),
    (∀ (l : List FieldRow) (o : Nat) (u : State), o = off.toNat / 4 * 4 → u = timerRead o (s.order 6) →
      fieldsAt o = some l → lacksSource o = false → s.hostReach = true → s.blockUp (o / 0x10000) = true →
      ∃ t, exec (.registerRcRead off be ev) s = .next t ∧ OnlyChanges [.regs, .hif] u t ∧ RegsBut [o] s.regs t.regs
        ∧ OnlyChanges [.tb, .edge] (s.order 6) u ∧ (¬(0x90100 ≤ o ∧ o < 0x90300) → u = s.order 6)
        ∧ t.hif = { s.hif with rd := [readWord u o &&& byteMask be] }
        ∧ ∀ f ∈ l, bitsOf (storedWord t.regs o).toNat f.hi f.lo =
            if f.acc = .rc ∧ f.mask &&& byteMask be ≠ 0 then bitsOf (ev.getD (resetWord o)).toNat f.hi f.lo
            else bitsOf (storedWord s.regs o).toNat f.hi f.lo)
    ∧ (offsetUsed s (off.toNat / 4 * 4) = true → s.hostReach = true → s.blockUp (off.toNat / 4 * 4 / 0x10000) = false →
        exec (.registerRcRead off be ev) s =
          .next { s.order 6 with free := s.free + 1, hif := { s.hif with rd := [Config.freeWord s.free &&& byteMask be] } })
    ∧ (s.hostReach = true → off.toNat < 65536 → ∃ t, exec (.registerRcRead off be ev .bar2) s = .next t
        ∧ OnlyChanges [.hif] (s.order 6) t ∧ t.hif = { s.hif with rd := t.hif.rd }
        ∧ (∀ n : Fin 4, off.toNat / 4 * 4 = 0x1000 * n.val → t.hif.rd = [BitVec.ofNat 32 s.rings[n].db &&& byteMask be])
        ∧ (off.toNat / 4 * 4 = 0x4000 → t.hif.rd = [s.hif.hbCount.setWidth 32 &&& byteMask be])
        ∧ (off.toNat / 4 * 4 ∉ [0, 0x1000, 0x2000, 0x3000, 0x4000] → t.hif.rd = [0]))
    ∧ (s.cfgReach = true → ∃ t, exec (.registerRcRead off be ev .config) s = .next t ∧ OnlyChanges [.hif, .free] (s.order 6) t
        ∧ (off = 0x00 → t.hif.rd = [0x20481F3C &&& byteMask be]) ∧ (off = 0x08 → t.hif.rd = [0x088000A1 &&& byteMask be])
        ∧ (off = 0x2C → t.hif.rd = [0x00001F3C &&& byteMask be]))
    ∧ (s.hostReach = true → ∃ t, exec (.registerRcRead off be ev .noBar) s = .next t ∧ t.tx = Tx.ur :: s.tx
        ∧ OnlyChanges [.hif, .tx] (s.order 6) t)

/-! ### Check-value units -/

/-- CRC_START takes the stored settings into the working copy, with s = INIT and no bytes counted; the writes of data feed 1, 2
or 4 bytes, low byte first; no other unit and nothing else changes (R483, R484). With the settings of R123 a unit that is fed a string of bytes from its start shows the CRC-32 of the string. -/
def Obligations.CheckUnits : Prop :=
  (∀ (u : Fin 4) (val : Word) (s : State), s.lands 10 = true →
      (∃ c : CrcUnit, exec (.crcStart u) s = .next { s.order 6 with crc := s.crc.set u c }
        ∧ c.width = s.r R.CRC_CFG_WIDTH u + 1 ∧ c.st = BitVec.ofNat 32 (s.r R.CRC_INIT_INIT u % 2 ^ c.width) ∧ c.len = 0
        ∧ c.poly = BitVec.ofNat 32 (s.r R.CRC_POLY_POLY u % 2 ^ c.width) ∧ c.xorout = BitVec.ofNat 32 (s.r R.CRC_XOR_XOROUT u % 2 ^ c.width)
        ∧ c.refin = s.rb R.CRC_CFG_REFIN u ∧ c.refout = s.rb R.CRC_CFG_REFOUT u)
      ∧ exec (.crcDin8 u val) s = .next { s.order 6 with crc := s.crc.set u (s.crc[u].feed (val.extractLsb' 0 8)) }
      ∧ exec (.crcDin16 u val) s =
          .next { s.order 6 with crc := s.crc.set u ((s.crc[u].feed (val.extractLsb' 0 8)).feed (val.extractLsb' 8 8)) }
      ∧ exec (.crcDin32 u val) s =
          .next { s.order 6 with crc := s.crc.set u ((((s.crc[u].feed (val.extractLsb' 0 8)).feed (val.extractLsb' 8 8)).feed
            (val.extractLsb' 16 8)).feed (val.extractLsb' 24 8)) })
    ∧ (∀ bs : List Byte, (bs.foldl CrcUnit.feed {}).result = crc32 bs)

/-! ### Power, reset and test pins -/

/-- Loss of VDD_AO closes every gate and leaves of the logic die nothing but the nonvolatile contents; an under-voltage of AO is the
same event; the field die keeps its state (log entry 57). When VDD_AO enters its limits the timebase is 0, the cause is POWER and
Boot is at step 1 (R32, R39, R464, R517). -/
def Obligations.PowerLossAndPowerUp : Prop :=
  ∀ (s : State),
    (s.pwr.aoOk = true → ∃ t, exec .vddAoLoss s = .next t ∧ exec (.domainTrip 9 false) s = .next t
      ∧ t.nv = s.nv ∧ t.fld = s.fld ∧ t.pwr.aoOk = false ∧ t.pwr.on = 0 ∧ t.tb = 0 ∧ t.keep = State.reset.keep ∧ t.regs = []
      ∧ t.shadow = [] ∧ t.cis = State.reset.cis ∧ t.dsc = State.reset.dsc ∧ t.tkt = State.reset.tkt ∧ t.vpt = State.reset.vpt
      ∧ t.lan = State.reset.lan ∧ t.sys = State.reset.sys ∧ t.cfg = State.reset.cfg ∧ t.smp = State.reset.smp)
    ∧ ∀ (rstN tm : Bool) (id : BitVec 3) (fh : BitVec 2), s.pwr.aoOk = false →
      ∃ t, exec (.powerUp rstN tm id fh) s = .next t ∧ t.nv = s.nv ∧ t.pwr.aoOk = true ∧ t.pwr.on = 0 ∧ t.pwr.refOk = false
        ∧ t.tb = 0 ∧ t.keep.cause = 1 ∧ t.keep.lockdown = false ∧ t.sys.mode = .boot ∧ t.sys.step = 1 ∧ t.osr.ringId = id
        ∧ t.pwr.rstLow = !rstN ∧ t.pwr.testHold = tm

/-- What every device reset keeps, and that all else takes its reset value (R518). -/
def ResetKeeps (s t : State) : Prop :=
  t.keep.lockdown = s.keep.lockdown ∧ t.keep.recur = s.keep.recur ∧ t.keep.recurTicks = s.keep.recurTicks
    ∧ t.keep.session = s.keep.session
    ∧ (anyRetired s = true → t.keep.repairLeft = s.keep.repairLeft ∧ t.keep.repairKept = true)
    ∧ t.nv = s.nv ∧ t.slot = State.reset.slot ∧ t.cis = State.reset.cis ∧ t.dsc = State.reset.dsc ∧ t.tkt = State.reset.tkt
    ∧ t.rings = State.reset.rings ∧ t.evs = State.reset.evs ∧ t.hif = { State.reset.hif with perstN := s.hif.perstN }
    ∧ t.vpt = State.reset.vpt ∧ t.lan = State.reset.lan
    ∧ t.fld = { State.reset.fld with fsHighAt := s.fld.fsHighAt, fsLong := s.fld.fsLong }
    ∧ t.net = State.reset.net ∧ t.osr = { State.reset.osr with ringId := s.osr.ringId }
    ∧ t.adc = State.reset.adc ∧ t.tmr = State.reset.tmr ∧ t.crc = State.reset.crc ∧ t.cfg = State.reset.cfg
    ∧ t.smp = State.reset.smp ∧ t.regs = State.reset.regs ∧ t.shadow = State.reset.shadow ∧ t.sys.mode = .boot ∧ t.sys.step = 1
    ∧ t.pwr.on = 0 ∧ t.pwr.waiting = 0 ∧ t.pwr.lost = 0 ∧ t.pwr.refOk = false

/-- RST_N, a restart request in a mode that allows it, and the CHIP reaction 100 µs after its raising reset the device: each keeps
the timebase and the items of R518, and every other state takes its reset value (R503, R517, R518). -/
def Obligations.DeviceResetKeeps : Prop :=
  ∀ (s : State),
    (s.pwr.aoOk = true → s.pwr.rstLow = false → ∃ t, exec .rstNAssert s = .next t ∧ ResetKeeps s t ∧ t.tb = (s.order 1).tb
      ∧ t.keep.chip = s.keep.chip ∧ t.keep.cause = 2 ∧ t.pwr.rstLow = true)
    ∧ (s.lands 0 = true → s.inMode [.configure, .commission, .maintain, .safeHold] = true →
      ∃ t, exec (.restart 0xD5) s = .next t ∧ ResetKeeps s t ∧ t.tb = (s.order 6).tb ∧ t.keep.chip = s.keep.chip ∧ t.keep.cause = 8)
    ∧ (∀ c due, s.sys.chipDue = some (c, due) → s.comes due = true → s.keep.lockdown = false → s.sys.chipEnd = none →
      ∃ t, exec .chipReset s = .next t ∧ ResetKeeps s t ∧ t.tb = (s.at due).tb ∧ t.keep.chip = some (c.blk, c.code)
        ∧ t.keep.cause = 4)

/-- REF100 is accepted: its deviation is shown and the timebase goes on from the value it held. REF100 is lost: PWR_REF_STAT.LOST
and PWR.REFCLK, every sluice leg goes OFF, and the timebase stops (R25, R26, R464). -/
def Obligations.ReferenceClock : Prop :=
  ∀ (s : State),
    (∀ dev : BitVec 16, s.pwr.aoOk = true → s.pwr.refOk = false → s.pwr.rstLow = false →
      ∃ t, exec (.ref100Accept dev) s = .next t ∧ OnlyChanges [.pwr, .regs, .edge] s t ∧ RegsBut [0xD0018] s.regs t.regs
        ∧ t.pwr.refOk = true ∧ t.pwr.on = s.pwr.on ∧ t.r R.PWR_REF_STAT_DEV = dev.toNat)
    ∧ (s.pwr.aoOk = true → s.pwr.refOk = true →
      ∃ t, exec .ref100Lost s = .next t ∧ OnlyChanges (.pwr :: .vpt :: raiseParts) s t
        ∧ t.pwr = { s.pwr with refOk := false, refGone := true }
        ∧ t.vpt.legs = 0 ∧ t.r R.PWR_REF_STAT_LOST = 1 ∧ t.raised S.PWR_REFCLK = true
        ∧ ∀ due, (t.at due).tb = s.tb)

/-- The step of the power-up sequence at which a gated domain opens (R37). -/
def gateStep (d : Nat) : Nat := [4, 4, 4, 5, 5, 8, 7, 6, 3].getD d 0

/-- The time of a step of the power-up sequence after the acceptance of REF100, in ticks: 20 µs for step 3, 220 µs for step 4, then
every 100 µs (R37). -/
def stepTime (n : Nat) : Nat := [0, 0, 0, 20, 220, 320, 420, 520, 620, 720].getD n 0 * 100

/-- A step of the power-up sequence comes at its time and opens the gates of that step whose supplies are within limits; the others of
the step wait. No other gate moves. After step 8 the sequence ends, the gates of NT and AN close where the configuration leaves them
off, and the self-tests begin (R35, R37, R519). A waiting gate opens when its supply comes within limits; after 100 ms the domain is lost and its source raised. A monitor that
trips closes the gate, sets its flag and raises the domain's source; over-voltage of AO raises PWR.AO; a lane's gate reopens after
10 ms within limits, and that alone changes nothing of the lane. Only a Boot that waited for the gate ends with it (R32, R33, R37,
R38). -/
def Obligations.PowerUpSequenceAndGates : Prop :=
  (∀ (lim : BitVec 12) (s : State), s.pwr.aoOk = true → s.pwr.refOk = true → s.pwr.rstLow = false → s.pwr.testHold = false →
      (s.pwr.seqStep < 8 → ∃ t, exec (.powerupSeqStep lim) s = .next t ∧ OnlyChanges [.pwr, .adc, .tb, .edge] s t
        ∧ t.pwr.seqStep = max 3 (s.pwr.seqStep + 1) ∧ t.tb = max s.tb (s.pwr.acceptTb + stepTime t.pwr.seqStep)
        ∧ ∀ d, d < 9 → (t.pwr.on.getLsbD d = if gateStep d = t.pwr.seqStep ∧ lim.getLsbD d then true else s.pwr.on.getLsbD d)
          ∧ (gateStep d = t.pwr.seqStep → t.pwr.waiting.getLsbD d = !lim.getLsbD d)
          ∧ (gateStep d ≠ t.pwr.seqStep → t.pwr.waiting.getLsbD d = s.pwr.waiting.getLsbD d))
      ∧ (s.pwr.seqStep = 8 → ∃ t, exec (.powerupSeqStep lim) s = .next t ∧ t.pwr.seqStep = 9 ∧ t.sys.step = 2
        ∧ t.tb = max s.tb (s.pwr.acceptTb + stepTime 9) ∧ OnlyChanges [.pwr, .regs, .cfg, .adc, .sys, .tb, .edge] s t
        ∧ (∀ d, d < 9 → t.pwr.on.getLsbD d = (s.pwr.on.getLsbD d
            && !(d == 6 && (step1Flags s.nv).getLsbD 0) && !(d == 8 && (step1Flags s.nv).getLsbD 1)))))
    ∧ (∀ (s : State),
      (∀ d : Fin 9, s.pwr.waiting.getLsbD d = true → s.pwr.refOk = true →
        ∃ t, exec (.domainLateOpen d) s = .next t ∧ (s.sys.leave = none → OnlyChanges [.pwr, .adc] s t) ∧ t.pwr.on.getLsbD d = true
          ∧ t.pwr.waiting.getLsbD d = false ∧ ∀ e, e ≠ d.val → t.pwr.on.getLsbD e = s.pwr.on.getLsbD e)
      ∧ (∀ d : Fin 9, s.pwr.waiting.getLsbD d = true → s.pwr.aoOk = true →
        ∃ t, exec (.domainOpenTimeout d) s = .next t ∧ t.pwr.on.getLsbD d = false ∧ t.pwr.lost.getLsbD d = true
          ∧ t.pwr.waiting.getLsbD d = false ∧ t.raised ⟨13, BitVec.ofNat 5 (d + 1)⟩ = true ∧ t.nv = s.nv ∧ t.tb = s.tb ∧ t.jtag = s.jtag)
      ∧ (∀ (d : Fin 10) (high : Bool), d.val < 9 → s.pwr.aoOk = true → s.pwr.on.getLsbD d = true →
        ∃ t, exec (.domainTrip d high) s = .next t ∧ t.pwr.on.getLsbD d = false ∧ t.pwr.lost.getLsbD d = true
          ∧ (∀ e, e ≠ d.val → t.pwr.on.getLsbD e = s.pwr.on.getLsbD e)
          ∧ (t.r (if high then R.PWR_OV_FLAG_OV else R.PWR_UV_FLAG_UV)).testBit d = true
          ∧ t.raised ⟨13, BitVec.ofNat 5 (d + 1)⟩ = true ∧ t.nv = s.nv ∧ t.tb = (s.order 1).tb ∧ t.jtag = s.jtag)
      ∧ (s.pwr.aoOk = true → ∃ t, exec (.domainTrip 9 true) s = .next t ∧ t.raised S.PWR_AO = true
        ∧ OnlyChanges (.pwr :: raiseParts) (s.order 1) t ∧ t.pwr = { s.pwr with aoSince := t.tb })
      ∧ (∀ l : Fin 3, s.pwr.lost.getLsbD l = true → s.pwr.aoOk = true → s.pwr.refOk = true →
        ∃ t, exec (.laneGateReopen l) s = .next t ∧ (s.sys.leave = none → OnlyChanges [.pwr] s t) ∧ t.pwr.on.getLsbD l = true
          ∧ t.pwr.lost.getLsbD l = false ∧ t.lan = s.lan
          ∧ ∀ e, e ≠ l.val → t.pwr.on.getLsbD e = s.pwr.on.getLsbD e ∧ t.pwr.lost.getLsbD e = s.pwr.lost.getLsbD e))

/-- A restart is refused with reason 1 in any other mode, and with any other KEY the write is discarded with SYS.ACCESS (R517, R527);
RST_N going high lets Boot begin, reads RING_ID (R414) and takes the level of TEST_MODE (R603). A rise of TEST_MODE closes every gate but AO at once, ERR_N is held low, no lane scans, and the power-up sequence does not go
on (R603). -/
def Obligations.RestartRefusalResetReleaseAndTestMode : Prop :=
  (∀ (s : State),
      (s.lands 0 = true → s.inMode [.configure, .commission, .maintain, .safeHold] = false →
        ∃ t, exec (.restart 0xD5) s = .next t ∧ OnlyChanges [.regs] (s.order 6) t ∧ RegsBut [0x1C] s.regs t.regs
          ∧ t.r R.SYS_REQ_STAT_MODE = 3 ∧ t.r R.SYS_REQ_STAT_MODE_WHY = 1 ∧ t.r R.SYS_REQ_STAT_NEW = 1)
      ∧ (∀ key : BitVec 8, key ≠ 0xD5 → s.lands 0 = true →
        ∃ t, exec (.restart key) s = .next t ∧ exec (.deliberateReset key) s = .next t ∧ exec (.powerDown key) s = .next t
          ∧ OnlyChanges raiseParts (s.order 6) t ∧ t.raised S.SYS_ACCESS = true)
      ∧ (∀ (id : BitVec 3) (tm : Bool), s.pwr.rstLow = true → s.pwr.aoOk = true →
        ∃ t, exec (.rstNRelease id tm) s = .next t ∧ OnlyChanges [.pwr, .osr, .sys] (s.order 1) t
          ∧ t.pwr = { s.pwr with rstLow := false, testMode := tm, testHold := tm }
          ∧ t.osr = { (s.order 1).osr with ringId := id } ∧ t.sys = { s.sys with zero := t.tb }))
    ∧ (∀ (s : State), s.pwr.aoOk = true →
      ∃ t, exec .testModeRise s = .next t ∧ t.pwr.aoOk = true ∧ t.pwr.on = 0 ∧ t.pwr.testHold = true ∧ t.vpt.legs = 0
        ∧ t.lan.run = false ∧ errPin t = false ∧ t.nv = s.nv ∧ t.tb = (s.order 1).tb ∧ t.keep = s.keep ∧ t.jtag = s.jtag
        ∧ (∀ lim, exec (.powerupSeqStep lim) t = .next t))

/-! ### Boot -/

/-- A block of SYS_STEST fails where a test of it that ran fails: CIS, VPT, LAN, FLD, NET, OSR and ADC (R521). -/
def blockFails (r : SelfTests) (b : Nat) : Bool :=
  match b with
  | 2 => r.workSram || r.slices != 0
  | 3 => r.ports != 0
  | 4 => r.lanes != 0 || r.cmp != 0 || r.units
  | 5 => r.field
  | 6 => r.net != 0
  | 7 => r.osrin != 0
  | 8 => !calGood r.calP.offset r.calP.gain || !calGood r.calQ.offset r.calQ.gain
  | _ => false

/-- The self-tests end: SYS_STEST shows the blocks of which a test that ran failed; a lane that fails is retired, a comparator that
fails its known answers leaves service, a slice that fails is out of service; a failed block of R521 raises SYS.STEST. Boot goes on at
step 4, or, with the Lockdown latch set, ends in Lockdown unless R38, R414 or R438 holds it (R510, R519, R521; log entry 56). -/
def Obligations.BootSelfTests : Prop :=
  ∀ (r q : SelfTests) (s : State), s.sys.mode = .boot → s.sys.step = 2 → s.pwr.waiting = 0 → q = testsRan r s →
    ∃ t, exec (.bootSelftestDone r) s = .next t
      ∧ (∀ b, b < 14 → (t.r R.SYS_STEST_FAIL).testBit b = blockFails q b)
      ∧ (∀ l : Fin 3, q.lanes.getLsbD l = true → t.lan.lanes[l].retired = true)
      ∧ (q.cmp.getLsbD 0 = true → t.lan.cmpX = false) ∧ (q.cmp.getLsbD 1 = true → t.lan.cmpY = false)
      ∧ (∀ p : Fin 17, q.slices.getLsbD p = true → t.cis.phys[p].failed = true)
      ∧ (s.pwr.aoOk = true → q.workSram = true ∨ q.field = true ∨ q.units = true ∨ q.cmp ≠ 0 ∨ 2 ≤ popcount q.lanes → t.raised S.SYS_STEST = true)
      ∧ (s.keep.lockdown = true → t.keep.lockdown = true)
      ∧ (t.keep.lockdown = false → t.sys.mode = .boot ∧ t.sys.step = 4)
      ∧ (t.keep.lockdown = true → t.sys.mode = if bootHeld s then .boot else .lockdown)
      ∧ t.nv = s.nv ∧ t.tb = s.tb ∧ t.jtag = s.jtag ∧ t.shadow = s.shadow

/-- The configuration read: each codeword that does not read clean raises CFG.ECC_C or CFG.ECC_U, and a bank is valid only without an
uncorrectable one. With no bank selected, or where the selected bank fails the stepping or the domain check, the device enters
Configure, unless R38, R414 or R438 holds Boot; else that bank is current and Boot goes on at step 5 (R43, R523, R540, R541; log entry
56). -/
def Obligations.BootConfigurationRead : Prop :=
  ∀ (hits0 hits1 : List (BitVec 6 × Option (BitVec 6))) (e : Fin 2 → Bool) (r0 r1 r2 : BitVec 8) (s : State),
    s.sys.mode = .boot → s.sys.step = 4 → s.sys.leave = none → e 0 = hits0.any (·.2.isNone) → e 1 = hits1.any (·.2.isNone) →
    ∃ t, exec (.bootConfigReadDone hits0 hits1 r0 r1 r2) s = .next t
      ∧ (s.pwr.aoOk = true → ∀ h ∈ hits0 ++ hits1, t.raised (if h.2.isSome then S.CFG_ECC_C else S.CFG_ECC_U) = true)
      ∧ (∀ b : Fin 2, t.cfg.valid.getLsbD b = bankValid (s.nv.bank b) (e b))
      ∧ ((selectBank s.nv (e 0) (e 1) s.cfg.step1).1 = none →
          t.sys.mode = (if bootHeld s then .boot else .configure) ∧ t.cfg.cur = s.cfg.cur)
      ∧ (bankValid s.nv.bank0 (e 0) = false → bankValid s.nv.bank1 (e 1) = false →
          (selectBank s.nv (e 0) (e 1) s.cfg.step1).1 = none ∧ (s.pwr.aoOk = true → t.raised S.CFG_IMAGE = true))
      ∧ (∀ b, (selectBank s.nv (e 0) (e 1) s.cfg.step1).1 = some b →
          t.cfg.cur = some b ∧ t.cfg.validated = bankValidated (s.nv.bank b)
          ∧ (if bitsOf (bankWord (s.nv.bank b) 4) 11 0 = 0x0A1 ∧ domainsBad (s.nv.bank b) = false
            then t.sys.mode = .boot ∧ t.sys.step = 5
            else t.sys.mode = (if bootHeld s then .boot else .configure) ∧ (s.pwr.aoOk = true → t.raised S.CFG_IMAGE = true)))
      ∧ t.nv = s.nv ∧ t.tb = s.tb ∧ t.lan = s.lan

/-- A bank cannot be loaded: its register section or its image is refused, or in a ring the image breaks a rule of rings, or two or
more lanes in service refuse it by a fault of their own (R236, R292, R536). -/
def loadFails (s : State) (m : Map Byte) (refuse : BitVec 3) : Bool :=
  !sectionOk s.regs m || imageRefused (imageBytes m)
    || (decide (1 ≤ rget (loadEntries s.regs (regSection m)) R.OSR_ID_NDEV) && ringBad (readImage (imageBytes m)))
    || decide (2 ≤ ((List.finRange 3).filter fun l => refuse.getLsbD l.val && !s.lan.lanes[l].retired).length)

/-- A record slot has an uncorrectable codeword. -/
def slotLost (hits : List (BitVec 5 × Option (BitVec 6))) (k : Nat) : Bool := hits.any fun h => h.2.isNone && h.1.toNat / 5 == k

/-- The load: where the register section and the image pass, every register that the section names holds its entry in its loaded
fields, the image and the slot length are loaded, a lane that alone refuses is retired, and Boot goes on at step 6; else CFG.IMAGE is
raised and the device enters Configure with nothing loaded, unless R38, R414 or R438 holds Boot (R236, R292, R536, R541; log entry
56). The sump is restored at step 7 once the load is done: the totals of the newest valid record stand, or none, and each codeword of a
record that does not read clean raises its source; counting starts; the partner wait begins, with CS1 off too. At its end SYS.PARTNER is
raised once and PWAIT_EXP set, unless every partner is ready then (R525, R560, R563). -/
def Obligations.BootLoadAndLastSteps : Prop :=
  (∀ (refuse : BitVec 3) (b : Fin 2) (s : State), s.cfg.cur = some b → s.sys.mode = .boot → s.sys.step = 5 → s.sys.leave = none →
      s.sys.loaded = false → s.lan.image = none →
      ∃ t, exec (.bootLoadDone refuse) s = .next t ∧ t.nv = s.nv ∧ t.tb = s.tb
        ∧ (loadFails s (s.nv.bank b) refuse = true →
            t.sys.mode = (if bootHeld s then .boot else .configure) ∧ t.sys.loaded = false ∧ t.lan.image = none
              ∧ (s.pwr.aoOk = true → t.raised S.CFG_IMAGE = true))
        ∧ (loadFails s (s.nv.bank b) refuse = false →
            t.sys.mode = .boot ∧ t.sys.loaded = true ∧ t.sys.step = 6 ∧ t.lan.image = some (readImage (imageBytes (s.nv.bank b)))
              ∧ t.slot.len = 10 * t.r R.CIS_SLOT_PERIOD
              ∧ (∀ l : Fin 3, refuse.getLsbD l = true → t.lan.lanes[l].retired = true)
              ∧ ∀ e ∈ regSection (s.nv.bank b), e.1 / 0x10000 ∉ [4, 5, 6] →
                  storedWord t.regs e.1 = blend (loadedMask e.1) e.2 (storedWord s.regs e.1)))
    ∧ (∀ (s : State), s.sys.mode = .boot →
      (∀ (hits : List (BitVec 5 × Option (BitVec 6))) (uncorr : BitVec 6), s.smp.restored = false → s.pwr.aoOk = true →
          s.sys.loaded = true → (∀ k : Fin 6, uncorr.getLsbD k = slotLost hits k) →
        ∃ t, exec (.sumpRestore hits) s = .next t ∧ t.nv = s.nv ∧ t.tb = s.tb ∧ t.sys.internal = true
          ∧ (s.sys.internal = false → t.sys.pwaitAt = some s.tb)
          ∧ (s.dom 4 = false → t.smp = s.smp)
          ∧ (s.dom 4 = true → t.smp.restored = true ∧ t.smp.inc = [] ∧ t.smp.at' = some s.tb
            ∧ (newestRecord s.nv uncorr = none → t.smp.fresh = true ∧ t.smp.tot = [])
            ∧ (∀ k r, newestRecord s.nv uncorr = some (k, r) → t.smp.tot = r.tot ∧ t.smp.seq = r.seq ∧ t.smp.slot = some k)
            ∧ ∀ h ∈ hits, ∀ k : Fin 6, h.1.toNat / 5 = k.val → s.nv.slots[k].isSome = true →
                t.raised (if h.2.isSome then S.SMP_ECC_C else S.SMP_ECC_U) = true))
      ∧ (∀ t0 due, s.sys.pwaitAt = some t0 → s.pwr.aoOk = true → due = t0 + s.r R.SYS_PARTNER_PWAIT * 100 * ms → s.comes due = true →
        ∃ t, exec .partnerWaitExpire s = .next t ∧ t.sys.pwaitAt = none ∧ t.sys.mode = .boot ∧ t.tb = (s.at due).tb
          ∧ (s.sys.partners = true → OnlyChanges [.tb, .edge, .sys] s t)
          ∧ (s.sys.partners = false → t.raised S.SYS_PARTNER = true ∧ t.r R.SYS_BOOT_PWAIT_EXP = 1
              ∧ OnlyChanges (.tb :: .edge :: raiseParts) s t)))

/-! ### Configuration store -/

/-- The key counts as asserted or released as AO samples it, and nothing else changes (R542). A seal comparison comes 100 ms after the one before; it matches when the three reads agree and equal the current bank's SEAL; any
other outcome raises CFG.SEAL, with the last read in DETAIL [15:8] of a first error, and the pins are shown (R522, R543). -/
def Obligations.KeySwitchAndSeal : Prop :=
  (∀ s : State, (s.pwr.aoOk = true → exec .keyAssert s = .next { s.order 1 with cfg := { s.cfg with key := true } })
      ∧ exec .keyRelease s = .next { s.order 1 with cfg := { s.cfg with key := false } })
    ∧ (∀ (r0 r1 r2 : BitVec 8) (b : Fin 2) (due : Nat) (s : State), s.cfg.cur = some b → s.sys.mode ≠ .configure → s.pwr.aoOk = true →
      due = sealDue s → s.comes due = true →
      ∃ t, exec (.sealCompare r0 r1 r2) s = .next t ∧ t.r R.CFG_SEAL_PINS = r2.toNat ∧ t.cfg.seal1 = s.cfg.seal0
        ∧ t.tb = (s.at due).tb ∧ t.cfg.sealAt = some t.tb ∧ t.nv = s.nv
        ∧ (∀ a, s.cfg.sealAt = some a → a < due ∧ (due - a) % 10000000 = 0)
        ∧ (if r0 = r1 ∧ r1 = r2 ∧ r2.toNat = bitsOf (bankWord (s.nv.bank b) 0x0C) 7 0
            then t.cfg.seal0 = true ∧ t.r R.CFG_SEAL_MATCH = 1 ∧ OnlyChanges [.tb, .edge, .cfg, .regs] s t
            else t.cfg.seal0 = false ∧ t.r R.CFG_SEAL_MATCH = 0 ∧ t.raised S.CFG_SEAL = true
              ∧ OnlyChanges (.tb :: .edge :: .cfg :: raiseParts) s t
              ∧ ((mread 0 s.regs 0xBF010).getLsbD 31 = false → mread 0 t.regs 0xBF018 = BitVec.ofNat 32 (256 * r2.toNat))))

/-- The reason for which a configuration command is refused, in the order of R545, and 0 where it starts: a command runs (3), a
power-down (8), the mode (1), the key (2), a page of PROGRAM that is not erased or not 1-62 (3), a signature, code or comparison that
VALIDATE does not find (7). -/
def cfgRefusal (s : State) (op page : Nat) : Nat :=
  if s.cfg.cmd.isSome then 3
  else if s.sys.pdnBusy || s.sys.pdnReady then 8
  else if s.sys.mode ≠ (if op = 4 then .commission else .configure) then 1
  else if s.cfg.key = false then 2
  else if op = 2 ∧ ¬(1 ≤ page ∧ page ≤ 62 ∧ s.cfg.erased.getLsbD page = true) then 3
  else if op = 4 ∧ ¬(∃ b, s.cfg.cur = some b ∧ s.r R.CFG_VAL_SIG_SIG = bankWord (s.nv.bank b) 0x38
      ∧ s.r R.CFG_VAL_SEAL_SEAL = bitsOf (bankWord (s.nv.bank b) 0x0C) 7 0 ∧ s.cfg.seal0 = true) then 7
  else 0

/-- ERASE, PROGRAM, FINISH and VALIDATE start where R545 refuses them for no reason; ERASE erases the candidate and VALIDATE page 63 of
the current bank (log entry 22). A refused command changes nothing but its result, with the first reason that holds (R545, R548). A running command completes. PROGRAM writes its page from CFG_BUF; FINISH writes page 0 where its header, codewords and signature
pass; VALIDATE writes the record of R538 and the configuration is validated; a failed verify gives FAILED and CFG.STORE. The hourly
reading counts each correction and, on an uncorrectable codeword, clears the bank's VALID bit (R538, R545, R547-R549). -/
def Obligations.ConfigurationCommands : Prop :=
  (∀ (s : State) (c : Instr) (op page : Nat), s.lands 11 = true →
      (c = .cfgErase ∧ op = 1 ∧ page = 0 ∨ (∃ p : BitVec 6, c = .cfgProgram p ∧ op = 2 ∧ page = p.toNat)
        ∨ c = .cfgFinish ∧ op = 3 ∧ page = 0 ∨ c = .cfgValidate ∧ op = 4 ∧ page = 0) →
      (cfgRefusal s op page = 0 →
        ∃ t, exec c s = .next t ∧ t.cfg.cmd = some (BitVec.ofNat 3 op, BitVec.ofNat 6 page) ∧ t.r R.CFG_CSTAT_RESULT = 1
          ∧ OnlyChanges [.nv, .cfg, .regs] (s.order 6) t
          ∧ (op = 1 → t.nv = s.nv.setBank s.cfg.candidate [] ∧ t.cfg.erased = BitVec.allOnes 64)
          ∧ (op = 2 ∨ op = 3 → t.nv = s.nv)
          ∧ (∀ b, op = 4 → s.cfg.cur = some b → t.nv = s.nv.setBank b ((s.nv.bank b).filter fun e => decide (e.1 < 0x3F000))))
      ∧ (cfgRefusal s op page ≠ 0 →
        ∃ t, exec c s = .next t ∧ OnlyChanges [.regs] (s.order 6) t ∧ RegsBut [0xB0000, 0xB0004, 0xB0008] s.regs t.regs
          ∧ t.r R.CFG_CSTAT_RESULT = 3 ∧ t.r R.CFG_CSTAT_WHY = cfgRefusal s op page))
    ∧ (∀ (s : State) (c : Fin 2), s.pwr.aoOk = true → c = s.cfg.candidate →
      (∀ (op : BitVec 3) (page : BitVec 6) (ok : Bool) (u : Option (BitVec 6)), s.cfg.cmd = some (op, page) →
          1 ≤ op.toNat → op.toNat ≤ 4 → (op = 4 → s.cfg.cur.isSome = true) → ∃ t, exec (.cfgCmdDone ok u) s = .next t ∧ t.cfg.cmd = none
        ∧ t.r R.CFG_STAT_DONE = 1
        ∧ (op = 1 ∨ op = 2 ∨ op = 4 → t.r R.CFG_CSTAT_RESULT = (if ok then 2 else 4))
        ∧ (op = 1 ∨ op = 2 ∨ op = 4 → ok = false → t.raised S.CFG_STORE = true ∧ t.r R.CFG_CSTAT_WHY = 6)
        ∧ (op = 1 → t.nv = s.nv)
        ∧ (op = 2 → t.nv = s.nv.setBank c (programPage (s.nv.bank c) s.regs page.toNat))
        ∧ (op = 3 → bufHeaderOk { s with cfg := { s.cfg with cmd := none } } = false →
            t.r R.CFG_CSTAT_RESULT = 4 ∧ t.r R.CFG_CSTAT_WHY = 4 ∧ OnlyChanges [.cfg, .regs] s t)
        ∧ (op = 3 → bufHeaderOk { s with cfg := { s.cfg with cmd := none } } = true → u.isSome = true →
            t.r R.CFG_CSTAT_RESULT = 4 ∧ t.r R.CFG_CSTAT_WHY = 5 ∧ t.raised S.CFG_ECC_U = true ∧ t.nv = s.nv)
        ∧ (op = 3 → bufHeaderOk { s with cfg := { s.cfg with cmd := none } } = true → u = none → ok = true →
            (configSig (bufByte s.regs) (bankByte (s.nv.bank c))).toNat = word32 (bufByte s.regs) 0x38 →
            t.r R.CFG_CSTAT_RESULT = 2 ∧ t.cfg.erased = 0 ∧ t.nv = s.nv.setBank c (programPage (s.nv.bank c) s.regs 0))
        ∧ (op = 4 → ok = true → t.cfg.validated = true ∧ t.sys.validated = true)
        ∧ OnlyChanges (.nv :: .cfg :: raiseParts) s t)
      ∧ (∀ b corr unc, s.cfg.cur = some b →
        ∃ t, exec (.cfgHourlyCheck corr unc) s = .next t ∧ t.nv = s.nv ∧ t.tb = s.tb ∧ OnlyChanges (.cfg :: raiseParts) s t
          ∧ t.r R.CFG_ECC_CORR = min (s.r R.CFG_ECC_CORR + corr.length) 65535
          ∧ (corr ≠ [] → t.raised S.CFG_ECC_C = true)
          ∧ (unc ≠ [] → t.raised S.CFG_ECC_U = true ∧ t.cfg.valid.getLsbD b = false ∧ t.cfg.readsFail = true)
          ∧ (unc = [] → t.cfg = s.cfg)))

/-! ### Transactions -/

/-- BEGIN, COMMIT and ROLLBACK as R550 and R552 give them: when each is accepted, what it does, the first failing register of a refused
COMMIT, and WHY 7 for a write that is not accepted, which changes nothing else. An accepted commit that does not wait for the commit tick takes force at one instant: every changed shadowed field has its new
value, every other bit keeps its own, and the transaction ends DONE (R553). -/
def Obligations.Transactions : Prop :=
  (∀ (s : State), s.lands 11 = true →
      (s.cfg.txn = .idle → s.sys.mode ≠ .boot → s.sys.pdnBusy = false → s.sys.pdnReady = false →
        ∃ t, exec .txnBegin s = .next t ∧ t.cfg = { s.cfg with txn := .open } ∧ OnlyChanges [.cfg, .regs, .shadow] (s.order 6) t
          ∧ RegsBut [0xB0024] s.regs t.regs ∧ (s.cis.dlyLost = 0 → s.cis.clsGone = false → t.shadow = s.regs)
          ∧ t.r R.CFG_TXN_STAT_STATE = 1)
      ∧ (s.cfg.txn = .open → ∃ t, exec .txnRollback s = .next t ∧ t.cfg = { s.cfg with txn := .idle } ∧ t.shadow = []
        ∧ t.r R.CFG_TXN_STAT_RESULT = 3 ∧ t.r R.CFG_TXN_STAT_STATE = 0 ∧ OnlyChanges [.cfg, .regs, .shadow] (s.order 6) t
        ∧ RegsBut [0xB0024] s.regs t.regs)
      ∧ (s.cfg.txn = .open → (∀ k ∈ txnChanged s, txnWhy s k = 0) →
        ∃ t, exec .txnCommit s = .next t ∧ t.cfg = { s.cfg with txn := .pend } ∧ OnlyChanges [.cfg, .regs, .slot] (s.order 6) t
          ∧ t.r R.CFG_TXN_STAT_STATE = 2 ∧ (0x20000 ∉ txnChanged s → t.slot = s.slot))
      ∧ (∀ k, s.cfg.txn = .open → (txnChanged s).find? (fun k => txnWhy s k != 0) = some k →
        ∃ t, exec .txnCommit s = .next t ∧ OnlyChanges [.regs] (s.order 6) t ∧ RegsBut [0xB0024] s.regs t.regs
          ∧ t.r R.CFG_TXN_STAT_RESULT = 2 ∧ t.r R.CFG_TXN_STAT_WHY = txnWhy s k ∧ t.r R.CFG_TXN_STAT_OFS = k % 2 ^ 20)
      ∧ (∀ c, (c = Instr.txnBegin ∧ (s.cfg.txn ≠ .idle ∨ s.sys.mode = .boot ∨ s.sys.pdnBusy = true ∨ s.sys.pdnReady = true)
          ∨ s.cfg.txn ≠ .open ∧ (c = .txnCommit ∨ c = .txnRollback)) →
        ∃ t, exec c s = .next t ∧ OnlyChanges [.regs] (s.order 6) t ∧ RegsBut [0xB0024] s.regs t.regs ∧ t.r R.CFG_TXN_STAT_WHY = 7))
    ∧ (∀ (s : State), s.cfg.txn = .pend → waitsForTick s = false →
      ∃ t, exec .txnApply s = .next t ∧ t.cfg = { s.cfg with txn := .idle } ∧ t.shadow = [] ∧ t.tb = s.tb ∧ t.nv = s.nv
        ∧ t.r R.CFG_TXN_STAT_RESULT = 1 ∧ t.r R.CFG_TXN_STAT_STATE = 0
        ∧ ∀ k, k < 0x60000 → k / 0x10000 ≠ 1 → k % 0x10000 < 0xF000 →
            storedWord t.regs k = if k ∈ txnChanged s
              then blend (shadowedMask k) (storedWord s.shadow k) (storedWord s.regs k) else storedWord s.regs k)

/-! ### Sump -/

/-- Each second of the timebase takes the supplies and, once counting has started, counts the mode (R557). A store starts an hour after
the one before, or in a power-down: it takes the increments into the totals and erases its slot, or with every slot bad raises
SMP.STORE; a power-down with CS1 off is ready without one. A completed store leaves a record with the next SEQ, and a failed one marks
its slot bad and raises SMP.STORE (R531, R561, R563). -/
def Obligations.SumpCommands : Prop :=
  ∀ (s : State), s.pwr.aoOk = true →
    (∀ (mv : Vector (BitVec 16) 14) (due : Nat), s.pwr.refOk = true → due = nextMultiple 100000000 0 (nextEdge s.tb s.pwr.mvAt) →
      ∃ t, exec (.statsSecond mv) s = .next t ∧ t.tb = max s.tb due ∧ due % 100000000 = 0
        ∧ t.pwr = { s.pwr with mv := mv, mvAt := some t.tb } ∧ OnlyChanges [.tb, .edge, .pwr, .smp] s t
        ∧ (s.smp.restored = false → t.smp = s.smp)
        ∧ (s.smp.restored = true → mread 0 s.smp.inc (statKey 0 s.sys.mode.num) + mread 0 s.smp.tot (statKey 0 s.sys.mode.num) < 2 ^ 32 - 1 →
            mread 0 t.smp.inc (statKey 0 s.sys.mode.num) = mread 0 s.smp.inc (statKey 0 s.sys.mode.num) + 1))
    ∧ (∀ (pdn : Bool) (a : Nat), s.smp.store = none → s.sys.pdnReady = false → s.dom 4 = true → s.smp.restored = true →
        s.sys.pdnBusy = pdn → (pdn = true → s.sys.pdnHold = false ∧ s.cfg.cmd = none) →
        (pdn = false → s.smp.at' = some a ∧ s.comes (a + 360000000000) = true) →
      ∃ t, exec .sumpStoreStart s = .next t ∧ t.tb = (if pdn then s.tb else (s.at (a + 360000000000)).tb)
        ∧ (∀ k, s.smp.target = some k → t.smp.store = some k ∧ t.smp.inc = [] ∧ t.nv = { s.nv with slots := s.nv.slots.set k none }
          ∧ t.smp.tot = mergeTotals s.smp.tot s.smp.inc ∧ OnlyChanges [.tb, .edge, .nv, .smp] s t)
        ∧ (s.smp.target = none → t.raised S.SMP_STORE = true ∧ t.smp.store = none ∧ t.smp.at' = some t.tb ∧ t.sys.pdnReady = pdn
          ∧ OnlyChanges (.tb :: .edge :: raiseParts) s t))
    ∧ (s.smp.store = none → s.sys.pdnReady = false → s.sys.pdnBusy = true → s.sys.pdnHold = false → s.cfg.cmd = none →
        (s.dom 4 = false ∨ s.smp.restored = false) →
      ∃ t, exec .sumpStoreStart s = .next t ∧ t.sys.pdnReady = true ∧ t.sys.pdnBusy = false ∧ t.r R.SYS_REQ_STAT_PDN_READY = 1
        ∧ OnlyChanges [.sys, .regs] s t)
    ∧ (∀ k : Fin 6, s.smp.store = some k →
      ∃ t, exec (.sumpStoreDone true) s = .next t ∧ t.smp.store = none ∧ t.smp.slot = some k
        ∧ t.nv = { s.nv with slots := s.nv.slots.set k (some ⟨s.smp.nextSeq, s.smp.tot⟩) } ∧ t.smp.at' = some s.tb
        ∧ (s.smp.final = false → OnlyChanges [.nv, .smp] s t)
        ∧ (s.smp.final = true → t.sys.pdnReady = true ∧ OnlyChanges [.nv, .smp, .sys, .regs] s t))
    ∧ (∀ k : Fin 6, s.smp.store = some k →
      ∃ t, exec (.sumpStoreDone false) s = .next t ∧ t.smp.bad.getLsbD k = true ∧ t.raised S.SMP_STORE = true ∧ t.tb = s.tb
        ∧ t.nv.bank0 = s.nv.bank0 ∧ t.nv.bank1 = s.nv.bank1
        ∧ t.smp.store = nextSlot (putBit s.smp.bad k.val true) (k.val + 1) 6)

/-! ### Cistern and slices -/

/-- One counting step on a cell, as R155 gives it: what each opcode does to FIRM and SPEC, when a cell becomes STICKY with an
overflow, and when an underflow is recorded. -/
def Obligations.CellCounting : Prop :=
  ∀ c : BitVec 4,
    (∀ op, stepCell op 15 = (15, false, false))
    ∧ (c ≠ 15 → stepCell .incFirm c = if firm c = 3 ∨ firm c = 2 ∧ spec c = 3 then (15, true, false) else (c + 4, false, false))
    ∧ (c ≠ 15 → stepCell .incSpec c = if spec c = 3 ∨ spec c = 2 ∧ firm c = 3 then (15, true, false) else (c + 1, false, false))
    ∧ (c ≠ 15 → stepCell .dec c = if spec c = 0 then (c, false, true) else (c - 1, false, false))
    ∧ (c ≠ 15 → stepCell .confirm c = if spec c = 0 then (c, false, true)
        else if firm c = 3 then (15, true, false) else (c - 1 + 4, false, false))

/-- No change, migration or write waits for slot k. -/
def QuietTick (s : State) (k : Nat) : Prop :=
  k = s.slot.next ∧ s.slot.newLen k = none ∧ s.cfg.txn ≠ .pend ∧ s.cis.mig = none ∧ (∀ p : Fin 17, s.cis.phys[p].wq = [])
    ∧ (∀ b ∈ s.tkt.books, b.done = true ∨ k ≤ b.at') ∧ s.slot.run = true ∧ s.pwr.refOk = true ∧ s.pwr.aoOk = true

/-- Slot tick k drains row k mod 2,560 of every active slice: a column fires where its cell is not zero and it is not suppressed,
the row is left all zeros, and no other cell changes (R66); what the drain corrects changes none of this. -/
def Obligations.SlotTickDrains : Prop :=
  ∀ (s u : State) (k : Nat) (io : DrainIn), QuietTick s k → u = (s.at (s.slot.tick k)).order 2 →
    (∀ e ∈ io.eccs, e.ecc = .clean ∨ ∃ a b, e.ecc = .corrected a b) →
    ∃ t, exec (.slotTick io) s = .next t
      ∧ OnlyChanges (.slot :: .cis :: .tmr :: .dsc :: raiseParts) u t
      ∧ (io.eccs = [] → OnlyChanges [.slot, .cis, .regs, .evs, .tmr, .free] u t)
      ∧ t.slot = { s.slot with k := k, ticked := true }
      ∧ (∀ (n : Fin 16) (p : Fin 17) (j : Nat), s.cis.serving p = some n → s.sliceOn p = true → s.cis.phys[p].failed = false → j < 128 →
          t.cis.fire[n].getLsbD j =
            (mread 0 s.cis.cells (cellKey p (k % 2560) j) != 0 && !s.cis.suppressed (128 * n + j)))
      ∧ (∀ (p : Fin 17) (j : Nat), s.sliceOn p = true → s.cis.phys[p].failed = false → j < 128 →
          mread 0 t.cis.cells (cellKey p (k % 2560) j) = 0)
      ∧ (∀ (p : Fin 17) (row j : Nat), row < 2560 → j < 128 → row ≠ k % 2560 →
          mread 0 t.cis.cells (cellKey p row j) = mread 0 s.cis.cells (cellKey p row j))

/-- An uncorrectable codeword found by the drain fires none of its 64 columns in that slot; the row is still cleared, and the slice
fails (R43, R68). -/
def Obligations.UncorrectableDrainFiresNothing : Prop :=
  ∀ (s : State) (k : Nat) (p : Fin 17) (n : Fin 16) (cw : Fin 2) (unf : BitVec 17) (ticks : BitVec 16), QuietTick s k →
    s.cis.serving p = some n → s.sliceOn p = true → s.cis.phys[p].failed = false →
    ∃ t, exec (.slotTick ⟨[⟨p, cw, .uncorrectable⟩], unf, ticks⟩) s = .next t
      ∧ (∀ j, 64 * cw.val ≤ j → j < 64 * cw.val + 64 → t.cis.fire[n].getLsbD j = false)
      ∧ (∀ j, j < 128 → mread 0 t.cis.cells (cellKey p (k % 2560) j) = 0)
      ∧ t.cis.phys[p].failed = true

/-- The launch of a slot: every READY port sends its FIRE frame once, with fire bits only while the sluice is open and its slice is
not late; a late slice raises CIS.DRAIN_OVR (R72, R187). -/
def Obligations.FireLaunch : Prop :=
  ∀ (s : State) (late : BitVec 16), s.slot.run = true → s.slot.ticked = true → s.pwr.refOk = true → s.pwr.aoOk = true →
    s.vpt.launched ≠ some s.slot.k →
    ∃ t, exec (.fireLaunch late) s = .next t ∧ t.vpt.launched = some s.slot.k
      ∧ t.tb = ((s.at (s.slot.tick s.slot.k + 162)).order 3).tb
      ∧ (∀ n : Fin 16, launches s n = true → Tx.port n (fireOf s late n) ∈ t.tx ∧ t.vpt.ports[n].await = true
          ∧ t.vpt.ports[n].seq = BitVec.ofNat 8 s.slot.k ∧ t.vpt.ports[n].armed0 = s.vpt.sluiceOpen)
      ∧ (∀ n : Fin 16, t.cis.sentFire[n] =
          if launches s n = true ∧ s.vpt.sluiceOpen = true ∧ late.getLsbD n = false then s.cis.fire[n] else 0)
      ∧ (∀ n : Fin 16, s.dom 4 = true → late.getLsbD n = true → t.raised S.CIS_DRAIN_OVR = true)
      ∧ t.cis.cells = s.cis.cells ∧ t.nv = s.nv ∧ t.lan = s.lan
      ∧ exec (.fireLaunch late) t = .next t

/-- A codeword read-modify-write takes the oldest write of its slice's queue and steps exactly the cells that it names and that are not
suppressed, with a correction or without; an uncorrectable codeword writes nothing and fails the slice, or makes an idle S unfit; one
whose error goes undetected leaves free values in its own 64 cells (R41, R43, R140, R155, R230). -/
def Obligations.CodewordWrite : Prop :=
  ∀ (s : State) (p : Fin 17) (w : CwWrite) (ws : List CwWrite), s.cis.phys[p].wq = w :: ws → s.sliceOn p = true →
    s.cis.phys[p].failed = false →
    (∀ e, e = .clean ∨ (∃ a b, e = .corrected a b) → ∃ t, exec (.sliceRmw p e) s = .next t
      ∧ (e = .clean → t.cis.phys[p].wq = ws)
      ∧ (e ≠ .clean → s.dom 4 = true → t.raised S.CIS_ECC_C = true)
      ∧ (∀ j, j < 64 → mread 0 t.cis.cells (cellKey p (w.slot % 2560) (64 * w.cw + j)) =
          let c := mread 0 s.cis.cells (cellKey p (w.slot % 2560) (64 * w.cw + j))
          if w.cols.getLsbD j && !s.cis.suppressed (128 * w.logical + 64 * w.cw + j) then (stepCell w.op c).1 else c)
      ∧ (∀ key, (∀ j, j < 64 → key ≠ cellKey p (w.slot % 2560) (64 * w.cw + j)) → mread 0 t.cis.cells key = mread 0 s.cis.cells key)
      ∧ OnlyChanges (.cis :: .slot :: .dsc :: raiseParts) s t)
    ∧ (∃ t, exec (.sliceRmw p .uncorrectable) s = .next t ∧ t.cis.cells = s.cis.cells
      ∧ (p.val < 16 ∨ s.cis.served ≠ none → t.cis.phys[p].failed = true)
      ∧ (p = 16 → s.cis.served = none → t.cis.spareOk = false) ∧ (s.dom 4 = true → t.raised S.CIS_ECC_U = true))
    ∧ (∃ t, exec (.sliceRmw p .undetected) s = .next t ∧ t.cis.phys[p].wq = ws ∧ s.free + 64 ≤ t.free
      ∧ (∀ key, (∀ j, j < 64 → key ≠ cellKey p (w.slot % 2560) (64 * w.cw + j)) → mread 0 t.cis.cells key = mread 0 s.cis.cells key))

/-- At a whole second the counts of corrections are latched and start anew (R226). The scrubbers report and count each codeword that
does not read clean; an uncorrectable delay codeword suppresses its columns, one of a lane stops the lane, and one whose error goes
undetected leaves free values (R41-R44, R228). -/
def Obligations.Scrubbers : Prop :=
  ∀ (s : State), s.dom 4 = true →
    (∀ due, s.pwr.refOk = true → due = (nextEdge s.tb s.cis.ceAt + 99999999) / 100000000 * 100000000 →
      ∃ t, exec .ceInterval s = .next t ∧ OnlyChanges [.tb, .edge, .regs, .cis] s t ∧ t.tb = due ∧ t.cis.ceAt = some due
      ∧ ∀ p : Fin 17, t.cis.phys[p].ceNow = 0 ∧ t.r R.CIS_CE_CNT_LAST p = min s.cis.phys[p].ceNow 65535)
    ∧ (∀ loc, exec (.workSramScrub loc .clean) s = .next s)
    ∧ (∀ loc sym sec, ∃ t, exec (.workSramScrub loc (.corrected sym sec)) s = .next t ∧ OnlyChanges raiseParts s t
      ∧ t.raised S.CIS_ECC_C = true ∧ t.r R.CIS_WS_CNT_CORR = min (s.r R.CIS_WS_CNT_CORR + 1) 65535)
    ∧ (∀ loc, ∃ t, exec (.workSramScrub loc .uncorrectable) s = .next t ∧ t.raised (wsSource loc) = true ∧ t.cis.cells = s.cis.cells
      ∧ t.r R.CIS_WS_CNT_UNCORR = min (s.r R.CIS_WS_CNT_UNCORR + 1) 65535 ∧ t.tb = s.tb ∧ t.nv = s.nv ∧ t.lan = s.lan
      ∧ (∀ cw i, loc = .delay cw → i < 8 → t.cis.suppressed (8 * cw + i) = true))
    ∧ (∀ loc, ∃ t, exec (.workSramScrub loc .undetected) s = .next t ∧ t.free = s.free + 16
      ∧ OnlyChanges [.regs, .cis, .dsc, .tkt, .evs, .smp, .free] s t)
    ∧ (∀ l : Fin 3, s.dom l = true →
      exec (.laneSramScrub l .clean) s = .next s
      ∧ (∀ a b, ∃ t, exec (.laneSramScrub l (.corrected a b)) s = .next t ∧ OnlyChanges (.lan :: raiseParts) s t
        ∧ t.raised S.LAN_ECC_C = true ∧ t.lan.lanes[l].eccSym = a :: b.toList ∧ ∀ m, m ≠ l → t.lan.lanes[m] = s.lan.lanes[m])
      ∧ (∃ t, exec (.laneSramScrub l .uncorrectable) s = .next t ∧ t.raised S.LAN_ECC_U = true ∧ t.lan.lanes[l].stopped = true
        ∧ t.cis = s.cis ∧ t.nv = s.nv)
      ∧ (∃ t, exec (.laneSramScrub l .undetected) s = .next t ∧ OnlyChanges [.lan, .free] s t
        ∧ ∀ m, m ≠ l → t.lan.lanes[m] = s.lan.lanes[m]))

/-- A word of CIS_SLC_CTRL that starts an operation on a slice. -/
def slcWord (val : BitVec 32) (op : Nat) (p : Fin 17) : Prop :=
  val.getLsbD 31 = true ∧ bitsOf val.toNat 9 8 = op ∧ bitsOf val.toNat 4 0 = p.val

/-- TEST, MIGRATE and RESTORE start on the slices on which R232 allows them, one at a time, in Maintain, and are refused elsewhere;
MIGRATE fails the slice and S takes over; an S under TEST is not fit (log entry 72). A TEST leaves its slice all zero and sets PASS, a
RESTORE returns the slice to its logical slice, and each sets DONE (R232, R233). -/
def Obligations.SliceOperations : Prop :=
  ∀ (s : State) (val : BitVec 32) (p : Fin 17), s.lands 2 = true →
    (slcWord val 1 p → s.sys.mode = .maintain → s.rb R.CIS_SLC_CSTAT_BUSY = false → s.sliceOn p = true →
        (s.cis.phys[p].failed = true ∨ p = 16 ∧ s.cis.served = none) →
      ∃ t, exec (.sliceTest val) s = .next t ∧ OnlyChanges [.regs, .cis] (s.order 6) t
        ∧ t.cis = { s.cis with op := some (.test, p), spareOk := s.cis.spareOk && p != 16 } ∧ t.r R.CIS_SLC_CSTAT_BUSY = 1)
    ∧ (∀ n : Fin 16, p = n.castSucc → slcWord val 2 p → s.sys.mode = .maintain → s.rb R.CIS_SLC_CSTAT_BUSY = false →
        s.cis.serving p = some n → s.cis.spareOk = true → s.cis.mig = none →
      ∃ t, exec (.sliceMigrate val) s = .next t ∧ t.cis.op = some (.migrate, p)
        ∧ t.cis.phys[p].failed = true ∧ t.cis.mig = some ⟨n, false⟩ ∧ t.cis.served = some n ∧ t.cis.spareOk = false
        ∧ t.cis.physOf n = some 16 ∧ OnlyChanges [.regs, .cis, .dsc] (s.order 6) t)
    ∧ (p.val < 16 → slcWord val 3 p → s.sys.mode = .maintain → s.rb R.CIS_SLC_CSTAT_BUSY = false →
        s.cis.phys[p].failed = true → s.cis.phys[p].testPass = true → s.sliceOn p = true →
      ∃ t, exec (.sliceRestore val) s = .next t ∧ OnlyChanges [.regs, .cis] (s.order 6) t
        ∧ t.cis = { s.cis with op := some (.restore, p) } ∧ t.r R.CIS_SLC_CSTAT_BUSY = 1)
    ∧ (∀ c op, (c, op) ∈ [(Instr.sliceTest val, 1), (.sliceMigrate val, 2), (.sliceRestore val, 3)] → val.getLsbD 31 = true →
        bitsOf val.toNat 9 8 = op →
        (s.sys.mode ≠ .maintain ∨ s.rb R.CIS_SLC_CSTAT_BUSY = true ∨ opAllowed s op (bitsOf val.toNat 4 0) = false) →
      ∃ t, exec c s = .next t ∧ OnlyChanges [.regs] (s.order 6) t ∧ RegsBut [0x20058, 0x2005C] s.regs t.regs
        ∧ t.r R.CIS_SLC_CSTAT_REFUSED = 1)
    ∧ (∀ pass : Bool, s.cis.op = some (.test, p) → ∃ t, exec (.sliceOpDone pass) s = .next t
        ∧ OnlyChanges [.regs, .cis] s t ∧ t.cis.op = none ∧ t.r R.CIS_SLC_CSTAT_PASS = b2n pass ∧ t.r R.CIS_SLC_CSTAT_DONE = 1
        ∧ (∀ row j, row < 2560 → j < 128 → mread 0 t.cis.cells (cellKey p row j) = 0)
        ∧ (p = 16 → pass = true → t.cis.spareOk = true))
    ∧ (∀ pass : Bool, s.cis.op = some (.migrate, p) → ∃ t, exec (.sliceOpDone pass) s = .next t
        ∧ OnlyChanges [.regs, .cis] s t ∧ t.cis = { s.cis with op := none } ∧ t.r R.CIS_SLC_CSTAT_DONE = 1
        ∧ t.r R.CIS_SLC_CSTAT_BUSY = 0)
    ∧ (∀ (n : Fin 16) (pass : Bool), p = n.castSucc → s.cis.op = some (.restore, p) → ∃ t, exec (.sliceOpDone pass) s = .next t
        ∧ OnlyChanges [.regs, .cis] s t ∧ t.cis.serving p = some n ∧ t.cis.dark.getLsbD n = false ∧ t.r R.CIS_SLC_CSTAT_DONE = 1
        ∧ (s.cis.served = some n → t.cis.served = none ∧ (s.cis.phys[(16 : Fin 17)].failed = false → t.cis.spareOk = true)))

/-! ### Descriptors -/

/-- What a fetched entry is in the descriptor unit: in staging where word 7 passes, else finished with CRC; word 7 itself is not kept
(R123, R124). -/
def fetched (id : Nat) (d : RawDesc) : Flight :=
  { id := id, raw := { d with w7 := 0 }, phase := if descCrcOk d then .staged else .finished,
    status := if descCrcOk d then .ok else .crc }

/-- Descriptors are fetched for entries between head and tail, at most 16 at a time and within the maximum read request size. The entries
of the oldest request enter the unit in order, each in staging, or finished with CRC and HIF.DESC_CRC where word 7 fails, and the index
advances. A failed request is discarded with those after it, raises HIF.DMA_ERR and halts fetching until RESUME (R79, R103, R124, R142;
log entry 65). -/
def Obligations.DescriptorFetch : Prop :=
  ∀ (s : State),
    (∀ n i, n = fetchSize s → i = (s.rings[(0 : Fin 4)].idx + s.dsc.fetchOut.sum) % s.ringSize 0 → s.dom 4 = true → s.dmaOk = true → s.rings[(0 : Fin 4)].en = true → s.rb R.HIF_DMA_STAT_HALT = false →
        n ≠ 0 → s.dsc.fetchOut.length < 64 →
      n ≤ 16 ∧ 32 * n ≤ 128 * 2 ^ min 2 (s.hif.cfg.devCtl.toNat / 2 ^ 12 % 8)
        ∧ exec .ringFetch s = .next { s with
            dsc := { s.dsc with fetchOut := s.dsc.fetchOut ++ [n] }, tx := Tx.fetch (s.ringAddr 0 i) i n :: s.tx })
    ∧ (∀ (ds : List RawDesc) (l : List Nat), ds ≠ [] → s.dsc.fetchOut = ds.length :: l → s.dom 4 = true → s.dom 5 = true →
      ∃ t, exec (.fetchCompletion ds) s = .next t ∧ t.dsc.fetchOut = l
        ∧ t.dsc.flights = s.dsc.flights ++ ds.zipIdx.map (fun e => fetched (s.dsc.nextId + e.2) e.1)
        ∧ t.rings[(0 : Fin 4)].idx = (s.rings[(0 : Fin 4)].idx + ds.length) % s.ringSize 0
        ∧ ((∃ d ∈ ds, descCrcOk d = false) → t.raised S.HIF_DESC_CRC = true)
        ∧ OnlyChanges (.dsc :: .rings :: raiseParts) s t)
    ∧ (∀ i : BitVec 6, i.toNat < s.dsc.fetchOut.length → s.dom 5 = true →
      ∃ t, exec (.fetchError i) s = .next t ∧ OnlyChanges (.dsc :: raiseParts) s t
        ∧ t.dsc = { s.dsc with fetchOut := s.dsc.fetchOut.take i.toNat }
        ∧ t.rb R.HIF_DMA_STAT_HALT = true ∧ t.raised S.HIF_DMA_ERR = true ∧ exec .ringFetch t = .next t)
    ∧ (s.lands 1 = true → ∃ t, exec .dmaResume s = .next t ∧ OnlyChanges [.regs] (s.order 6) t ∧ RegsBut [0x10020] s.regs t.regs
        ∧ t.rb R.HIF_DMA_STAT_HALT = false)

/-- The next descriptor in turn is well formed, of an opcode, and nothing holds it up (R137, R139, R141); it is admitted at `u`, the last
happening on its edge (R600). -/
def Next (s u : State) (f : Flight) (op : Nat) : Prop :=
  nextStaged s.dsc.flights = some f ∧ dOp f.raw = op ∧ fmtBad f.raw = false ∧ admitReady s f = true ∧ u = s.order 7

/-- The descriptors after one of them finishes at once with a status, its admission counted and a host descriptor's credit taken. -/
def FinishedWith (s t : State) (f : Flight) (st : Status) : Prop :=
  t.dsc.flights = s.dsc.flights.map (fun g => if g.id = f.id then { g with tA := s.tb, phase := .finished, status := st } else g)
    ∧ t.dsc.credits = (if f.peer.isSome then s.dsc.credits else creditsNow s - 25)
    ∧ t.evs = { s.evs with telAdmit := s.evs.telAdmit + 1 }

/-- A NOP finishes OK; so does a FENCE once it is the first host descriptor and every completion before it is written, and until then it
waits; an invalid descriptor finishes with RANGE, and with HIF.DESC_FMT where it is the host's (log entry 70). None has another effect,
and each of the host's takes a credit (R121, R135, R138, R139). -/
def Obligations.PlainDescriptors : Prop :=
  ∀ (s u : State) (f : Flight),
    (Next s u f 0 → ∃ t, exec .admitNop s = .next t ∧ OnlyChanges [.dsc, .evs] u t ∧ FinishedWith u t f .ok)
    ∧ (Next s u f 5 → (s.dsc.flights.find? fun g => g.peer.isNone) = some f → s.dsc.cplq = [] →
      ∃ t, exec .admitFence s = .next t ∧ OnlyChanges [.dsc, .evs] u t ∧ FinishedWith u t f .ok)
    ∧ (Next s u f 5 → (s.dsc.cplq ≠ [] ∨ ∃ g, (s.dsc.flights.find? fun g => g.peer.isNone) = some g ∧ g.id ≠ f.id) →
      exec .admitFence s = .next u)
    ∧ (nextStaged s.dsc.flights = some f → fmtBad f.raw = true → admitReady s f = true → u = s.order 7 →
      ∃ t, exec .admitInvalidOpcode s = .next t ∧ t.dsc.flights = s.dsc.flights.map (fun g =>
            if g.id = f.id then { g with tA := u.tb, phase := .finished, status := .range } else g)
        ∧ (f.peer = none → s.dom 5 = true → t.raised S.HIF_DESC_FMT = true)
        ∧ (f.peer ≠ none → OnlyChanges [.dsc, .evs] u t ∧ FinishedWith u t f .range) ∧ OnlyChanges (.dsc :: raiseParts) u t)

/-- What a mark that is carried out does beside its tickets: its writes go to the queues of the slices that serve them, it counts as
admitted, OK or LATE by its first slot, lost where a target cell lies in a dark slice, and the part that the host sent for a neighbour
goes there, or has failed where no path leads there (R62, R125, R140, R216, R224, R426). -/
def CarriedOut (u t : State) (f : Flight) (b : Band) (op : CellOp) : Prop :=
  t.cis.cells = u.cis.cells ∧ OnlyChanges [.dsc, .evs, .cis, .regs, .tkt, .tx] u t
    ∧ (∀ w ∈ markWrites u f b, w.op = op ∧ w.owner = some f.id)
    ∧ (∀ p : Fin 17, t.cis.phys[p].wq = u.cis.phys[p].wq ++ (markWrites u f b).filter fun w => u.cis.physOf w.logical == some p)
    ∧ (∀ g ∈ t.dsc.flights, g.id = f.id → g.phase = .admitted ∧ g.tA = u.tb ∧ g.status = (if slotOpen u b.kmin then .ok else .late)
        ∧ (bandDark u.cis b = true → g.sliceLost = true))
    ∧ (f.peer ≠ none ∨ foreignPart u f.raw = none → t.tx = u.tx)
    ∧ ∀ side first n, f.peer = none → foreignPart u f.raw = some (side, first, n) →
        (∀ p, u.locked = true → pathTo u side = some p → (∃ fr, t.tx = Tx.osr p fr :: u.tx)
          ∧ ∀ g ∈ t.dsc.flights, g.id = f.id → g.fwd = some ⟨p, u.dsc.fseq, none⟩)
        ∧ (u.locked = false ∨ pathTo u side = none → t.tx = u.tx
          ∧ ∀ g ∈ t.dsc.flights, g.id = f.id → g.fwd = some ⟨side, 0, some (.forwardFail, 0)⟩)

/-- A MARK that is not refused counts FIRM + 1 in its cells of open slots, through the write queues of the slices that serve them; a
refused one finishes with its status and writes nothing; one whose queues have no room waits (R62, R125, R134, R140, R141). A MARK_SPEC that is not refused and whose resolution can be booked counts SPEC + 1 like a MARK, takes its number and books its
resolution; its ticket opens when it completes. Without room in the bookings it waits, and changes nothing but its wait count; a refused
one finishes with its status (R126, R134, R157, R163, R164). -/
def Obligations.Marks : Prop :=
  (∀ (s u : State) (f : Flight) (b : Band), Next s u f 1 → b = bandOf u f.raw →
      (∀ st, markRefused u f b = some st → ∃ t, exec .admitMark s = .next t ∧ OnlyChanges [.dsc, .evs] u t ∧ FinishedWith u t f st)
      ∧ (markRefused u f b = none → queuesReady u (markWrites u f b) = true →
        ∃ t, exec .admitMark s = .next t ∧ CarriedOut u t f b .incFirm ∧ t.tkt = s.tkt)
      ∧ (markRefused u f b = none → queuesReady u (markWrites u f b) = false → exec .admitMark s = .next u))
    ∧ (∀ (s u : State) (f : Flight) (b : Band) (due lo : Int), Next s u f 2 → b = bandOf u f.raw →
      due = (if f.peer.isSome then (f.peerDeadline : Int) else b.kmin - max (dDl f.raw) 2) →
      lo = (if u.slot.tickZ due ≤ u.tb then u.slot.slotOf u.tb else due) →
      (∀ st, markRefused u f b = some st → ∃ t, exec .admitMarkSpec s = .next t ∧ OnlyChanges [.dsc, .evs] u t ∧ FinishedWith u t f st)
      ∧ (∀ n, markRefused u f b = none → specTicket u f.raw = some n → queuesReady u (markWrites u f b) = true →
        (∀ books, bookAll (bookLimit u) n lo.toNat (markWrites u f b) s.tkt.books = some books →
          ∃ t, exec .admitMarkSpec s = .next t ∧ CarriedOut u t f b .incSpec ∧ t.tkt = { s.tkt with books := books }
            ∧ ∀ g ∈ t.dsc.flights, g.id = f.id → g.ticket = some n ∧ ∃ r, g.opens = some r ∧ r.state = .open
                ∧ r.cls = BitVec.ofNat 4 (dClass f.raw) ∧ r.tag = f.raw.w5 ∧ r.kmin = b.kmin ∧ r.gen = s.cis.gen)
        ∧ (bookAll (bookLimit u) n lo.toNat (markWrites u f b) s.tkt.books = none →
          ∃ t, exec .admitMarkSpec s = .next t ∧ OnlyChanges [.dsc, .regs] u t
            ∧ t.r R.CIS_RES_WAIT_CNT = if f.waited then s.r R.CIS_RES_WAIT_CNT else min (s.r R.CIS_RES_WAIT_CNT + 1) (2 ^ 32 - 1)))
      ∧ (∀ n, markRefused u f b = none → specTicket u f.raw = some n → queuesReady u (markWrites u f b) = false →
        exec .admitMarkSpec s = .next u))

/-- CONFIRM and REVOKE of an open ticket before its deadline close it, release its bookings and queue their cell steps, and one whose
mark was forwarded goes to the neighbour too; of a ticket that is not open, or past its deadline, they finish with TICKET_UNKNOWN, in a
mode that refuses them with INHIBITED, and touch nothing (R134, R136, R157, R159, R429). -/
def Obligations.ConfirmAndRevoke : Prop :=
  ∀ (s u : State) (f : Flight) (c : Instr) (op : Nat) (cell : CellOp),
    (c, op, cell) ∈ [(Instr.admitConfirm, 3, CellOp.confirm), (.admitRevoke, 4, .dec)] → Next s u f op →
    (inhibited u f = true → ∃ t, exec c s = .next t ∧ OnlyChanges [.dsc, .evs] u t ∧ FinishedWith u t f .inhibited)
    ∧ (inhibited u f = false → (∀ r, mget s.tkt.recs (dTicket f.raw) = some r → r.state ≠ .open ∨ u.slot.tickZ r.due ≤ u.tb) →
      ∃ t, exec c s = .next t ∧ OnlyChanges [.dsc, .evs] u t ∧ FinishedWith u t f .ticketUnknown)
    ∧ (∀ r, inhibited u f = false → mget s.tkt.recs (dTicket f.raw) = some r → r.state = .open → (u.tb : Int) < u.slot.tickZ r.due →
      queuesReady u (ticketWrites u r (firstOpen u) cell (some f.id)) = true →
      ∃ t, exec c s = .next t ∧ OnlyChanges [.dsc, .evs, .cis, .regs, .tkt, .tx] u t ∧ t.cis.cells = s.cis.cells
        ∧ mget t.tkt.recs (dTicket f.raw) = some { r with state := .closing f.id }
        ∧ (∀ b ∈ t.tkt.books, b.ticket ≠ dTicket f.raw)
        ∧ (r.fwd = false ∨ f.peer ≠ none → t.tx = s.tx)
        ∧ (∀ p, r.fwd = true → f.peer = none → u.locked = true → pathTo u (edgeSide r) = some p → ∃ fr, t.tx = Tx.osr p fr :: s.tx)
        ∧ (∀ p : Fin 17, t.cis.phys[p].wq = s.cis.phys[p].wq ++
            (ticketWrites u r (firstOpen u) cell (some f.id)).filter fun w => s.cis.physOf w.logical == some p))

/-- The status of R134: a descriptor that finished at its admission has the status it was given; a mark whose writes lost a slice is
SLICE_LOST; a refused forwarded part gives FORWARD_FAIL; every part OK gives OK, every part PAST gives PAST, and anything else LATE. A descriptor completes: it leaves the unit, and a host descriptor's status is counted. Its entry is written to the completion ring
with the layout of R129 where the ring takes it and none waits, else joins those that wait; a QUIET one that is OK leaves none; a
neighbour's part is answered on the path there. A MARK_SPEC's ticket opens, or is released where the mark lost a slice; a closing ticket
becomes free (R104, R129, R131, R157, R219, R427). -/
def Obligations.Completions : Prop :=
  (∀ (f : Flight),
      (f.phase = .finished → finalStatus f = f.status)
      ∧ (f.phase = .admitted → f.sliceLost = true → finalStatus f = .sliceLost)
      ∧ (f.phase = .admitted → f.sliceLost = false → f.fwd = none → finalStatus f = f.status)
      ∧ (∀ p st k, f.phase = .admitted → f.sliceLost = false → f.fwd = some p → p.answer = some (st, k) →
        finalStatus f = if st ∉ [.ok, .late, .past] then .forwardFail else if f.status = .ok ∧ st = .ok then .ok
          else if f.status = .past ∧ st = .past then .past else .late))
    ∧ (∀ (s : State) (f : Flight) (st : Status) (e : CplEntry), nextDone s = some f → s.dom 4 = true → st = finalStatus f →
      e = ⟨st, BitVec.ofNat 4 (dOp f.raw), false, BitVec.ofNat 16 (ticketOf f st), f.raw.w5, drainOf s f st, dIrqNow f.raw⟩ →
      ∃ t, exec .descComplete s = .next t
        ∧ t.dsc.flights.map (·.id) = (s.dsc.flights.filter (fun g => g.id != f.id)).map (·.id)
        ∧ t.tb = s.tb ∧ t.nv = s.nv ∧ t.lan = s.lan
        ∧ (f.peer = none → ¬(dQuiet f.raw = true ∧ st = .ok) → s.ringReady 1 = false → t.dsc.cplq = s.dsc.cplq ++ [e])
        ∧ (f.peer = none → ¬(dQuiet f.raw = true ∧ st = .ok) → s.ringReady 1 = true → s.dsc.cplq = [] → t.dsc.cplq = []
          ∧ ∃ w, Tx.ring 1 (s.ringAddr 1 s.rings[(1 : Fin 4)].idx) s.rings[(1 : Fin 4)].idx [w, f.raw.w5, lo32 e.drain, hi32 e.drain] ∈ t.tx
            ∧ bitsOf w.toNat 7 0 = st.code ∧ bitsOf w.toNat 11 8 = dOp f.raw ∧ w.getLsbD 14 = false
            ∧ w.getLsbD 15 = s.rings[(1 : Fin 4)].phase ∧ bitsOf w.toNat 31 16 = e.ticket.toNat
            ∧ t.rings[(1 : Fin 4)].idx = (s.rings[(1 : Fin 4)].idx + 1) % s.ringSize 1)
        ∧ (f.peer = none → dQuiet f.raw = true → st = .ok → t.dsc.cplq = s.dsc.cplq)
        ∧ (∀ side fseq p, f.peer = some (side, fseq) → pathTo s side = some p →
            Tx.osr p (ansFrame s side fseq st (earliest s f)) ∈ t.tx ∧ t.dsc.cplq = s.dsc.cplq)
        ∧ (f.ticket = none → t.tkt = s.tkt ∧ t.cis = s.cis)
        ∧ (∀ n r, f.ticket = some n → f.opens = some r → st ≠ .sliceLost → t.cis = s.cis
            ∧ mget t.tkt.recs n = some { r with fwd := r.held || partStands f } ∧ t.tkt.books = s.tkt.books)
        ∧ (∀ n r, f.ticket = some n → f.opens = some r → st = .sliceLost → t.tkt = s.tkt.release n)
        ∧ (∀ n, f.ticket = some n → f.opens = none → mget t.tkt.recs n = none ∧ t.cis = s.cis))

/-! ### Tickets -/

/-- At its deadline an open ticket goes into resolution by the policy of its class, free while the class table is lost, and the
resolution is counted; a booked write of a DROP comes at its slot and decrements its cells, unless their row has been drained, a
slice is dark or a column suppressed; when the last write has ended the ticket and its bookings are free and its notice is queued, or
dropped with HIF.CPL_LOST where the queue is full (R65, R132, R149, R157, R161, R163, R165, R230). -/
def Obligations.TicketResolution : Prop :=
  ∀ (s : State) (n : BitVec 15) (r : Ticket), mget s.tkt.recs n.toNat = some r →
    (∀ due, due = (s.slot.tickZ r.due).toNat → r.state = .open → ticketBusy s n.toNat = false → s.slot.run = true → s.dom 4 = true →
        s.comes due = true →
      ∃ t fire, exec (.ticketDeadline n) s = .next t ∧ OnlyChanges [.tb, .edge, .regs, .tkt, .free] s t
        ∧ t.tb = (s.at due).tb ∧ (s.cis.clsGone = false → fire = s.rb R.CIS_CLS_POLICY r.cls.toNat ∧ t.free = s.free)
        ∧ mget t.tkt.recs n.toNat = some { r with state := .resolving fire false } ∧ t.tkt.books = s.tkt.books
        ∧ t.r (if fire then R.CIS_RES_CNT_FIRE else R.CIS_RES_CNT_DROP) =
            min (s.r (if fire then R.CIS_RES_CNT_FIRE else R.CIS_RES_CNT_DROP) + 1) 65535)
    ∧ (∀ b lost ecc, r.state = .resolving false lost → (s.tkt.books.find? fun b => b.ticket == n.toNat && !b.done) = some b →
        (lost = true ∨ s.comes (s.slot.tick b.at') = true) → (ecc = .clean ∨ ∃ x y, ecc = .corrected x y) →
      ∃ t, exec (.bookedWrite n ecc) s = .next t ∧ t.tb = (if lost then s.tb else (s.at (s.slot.tick b.at')).tb)
        ∧ t.tkt = s.tkt.perform [b]
        ∧ (s.slot.drained b.k = true ∨ s.cis.physOf b.logical = none → t.cis.cells = s.cis.cells)
        ∧ ∀ p j, s.slot.drained b.k = false → s.cis.physOf b.logical = some p → j < 64 →
          mread 0 t.cis.cells (cellKey p (b.k % 2560) (64 * b.cw + j)) =
            let c := mread 0 s.cis.cells (cellKey p (b.k % 2560) (64 * b.cw + j))
            if b.cols.getLsbD j && !s.cis.suppressed (128 * b.logical + 64 * b.cw + j) then (stepCell .dec c).1 else c)
    ∧ (∀ fire lost, r.state = .resolving fire lost →
        (fire = true ∨ ∀ b ∈ s.tkt.books, b.ticket = n.toNat → b.done = true) →
      ∃ t, exec (.resolutionDone n) s = .next t ∧ mget t.tkt.recs n.toNat = none ∧ (∀ b ∈ t.tkt.books, b.ticket ≠ n.toNat)
        ∧ (s.dsc.noticeq.length < 256 → OnlyChanges [.tkt, .dsc] s t ∧ t.dsc.noticeq = s.dsc.noticeq ++
          [⟨if lost then .sliceLost else .ok, if fire then 3 else 4, true, BitVec.ofNat 16 n.toNat, r.tag, r.drain, false⟩])
        ∧ (256 ≤ s.dsc.noticeq.length → OnlyChanges (.tkt :: raiseParts) s t
          ∧ (s.dom 5 = true → t.raised S.HIF_CPL_LOST = true)))

/-! ### Host rings and reports -/

/-- A notice, an event and a telemetry record are written to their rings where they take an entry; the vector 0 message of an event
follows its entry, and where the ring takes none it goes or is held without it; a telemetry record with no room is skipped and counted;
the hold time of a ring signals what has gathered (R100, R132, R143-R149). -/
def Obligations.RingEntries : Prop :=
  ∀ (s : State),
    (∀ e l, s.dsc.noticeq = e :: l → s.ringReady 1 = true →
      ∃ t w, exec .noticeWrite s = .next t ∧ t.dsc = { s.dsc with noticeq := l }
        ∧ Tx.ring 1 (s.ringAddr 1 s.rings[(1 : Fin 4)].idx) s.rings[(1 : Fin 4)].idx [w, e.tag, lo32 e.drain, hi32 e.drain] ∈ t.tx
        ∧ t.rings[(1 : Fin 4)].idx = (s.rings[(1 : Fin 4)].idx + 1) % s.ringSize 1 ∧ OnlyChanges [.dsc, .rings, .hif, .tx] s t)
    ∧ (∀ e l, s.evs.staging = e :: l → s.dom 4 = true → s.ringReady 2 = true →
      ∃ t w0 w1, exec .eventWrite s = .next t ∧ t.evs = { s.evs with staging := l }
        ∧ Tx.ring 2 (s.ringAddr 2 s.rings[(2 : Fin 4)].idx) s.rings[(2 : Fin 4)].idx
            [w0, w1, e.acc.addr, lo32 e.acc.tAcc, hi32 e.acc.tAcc, lo32 e.tRaise, hi32 e.tRaise, e.detail] ∈ t.tx
        ∧ bitsOf w0.toNat 4 0 = e.src.code.toNat ∧ bitsOf w0.toNat 19 16 = e.src.blk.toNat ∧ w0.getLsbD 31 = s.rings[(2 : Fin 4)].phase
        ∧ (e.nmtDue = true → s.hif.canSend = true → t.tx.head? = some (Tx.msi 0))
        ∧ (e.nmtDue = false → t.regs = s.regs) ∧ OnlyChanges [.evs, .rings, .hif, .tx, .regs] s t)
    ∧ (s.dom 4 = true → s.ringReady 2 = false → ∃ t, exec .eventWrite s = .next t ∧ OnlyChanges [.evs, .hif, .tx, .regs] s t
        ∧ t.evs.staging.length = s.evs.staging.length ∧ (∀ e ∈ t.evs.staging, e.nmtDue = false)
        ∧ (s.hif.canSend = true → t.tx = (s.evs.staging.filter (·.nmtDue)).map (fun _ => Tx.msi 0) ++ s.tx)
        ∧ (s.hif.canSend = false → t.hif.nmtHeld = s.hif.nmtHeld + (s.evs.staging.filter (·.nmtDue)).length))
    ∧ (s.dom 5 = true → s.rings[(3 : Fin 4)].en = true → s.pwr.refOk = true → s.telPeriod ≠ 0 →
      ∃ t, exec .telemetryRecord s = .next t ∧ t.tb = max s.tb (s.evs.telAt + s.telPeriod) ∧ t.evs.telSeq = s.evs.telSeq + 1
        ∧ t.evs.telAt = t.tb ∧ t.evs.telAdmit = 0
        ∧ (s.ringReady 3 = true → ∃ ws, Tx.ring 3 (s.ringAddr 3 s.rings[(3 : Fin 4)].idx) s.rings[(3 : Fin 4)].idx ws ∈ t.tx ∧ ws.length = 8)
        ∧ (s.ringReady 3 = false → t.tx = s.tx ∧ t.rings = s.rings
          ∧ t.r R.HIF_RING_LOST_CNT 3 = min (s.r R.HIF_RING_LOST_CNT 3 + 1) (2 ^ 32 - 1))
        ∧ OnlyChanges [.tb, .edge, .evs, .rings, .hif, .tx, .regs] s t)
    ∧ (∀ (n : Fin 4) t0 due, s.rings[n].since = some t0 → s.r R.HIF_RING_IRQ_HOLD_US n ≠ 0 → s.dom 5 = true →
        due = t0 + s.r R.HIF_RING_IRQ_HOLD_US n * us → s.comes due = true →
      ∃ t, exec (.irqHoldExpire n) s = .next t ∧ t.rings[n].cnt = 0 ∧ t.rings[n].since = none
        ∧ t.tb = (s.at due).tb ∧ OnlyChanges [.tb, .edge, .rings, .hif, .tx] s t
        ∧ (s.hif.canSend = true → s.hif.vecMasked (s.r R.HIF_RING_IRQ_VEC n) = false → s.r R.HIF_RING_IRQ_VEC n ≠ 0 →
            t.tx = Tx.msi (BitVec.ofNat 5 (s.r R.HIF_RING_IRQ_VEC n)) :: s.tx))

/-- A ring doorbell is accepted only for an enabled ring, an index below its size and, for rings 1-3, a head not past the tail; any
other raises HIF.DB_RANGE and leaves the index (R89, R114). An accepted head of the completion ring lets completions that wait be
written, and nothing else changes. -/
def Obligations.RingDoorbells : Prop :=
  ∀ (s u : State) (n : Fin 4) (val : Word) (c : Instr),
    (n, c) ∈ [(0, Instr.dbSubTail val), (1, .dbCplHead val), (2, .dbEvtHead val), (3, .dbTelHead val)] → s.hostReach = true →
    u = s.order 6 →
    (s.rings[n].en = true → val.toNat < s.ringSize n →
        (n = 0 ∨ (val.toNat + s.ringSize n - s.rings[n].db) % s.ringSize n ≤ (s.rings[n].idx + s.ringSize n - s.rings[n].db) % s.ringSize n) →
      ∃ t, exec c s = .next t ∧ t.rings[n].db = val.toNat
        ∧ (n ≠ 1 ∨ s.dsc.cplq = [] → t = { u with rings := s.rings.set n { (s.rings[n]) with db := val.toNat } })
        ∧ OnlyChanges [.rings, .dsc, .hif, .tx] u t ∧ t.dsc.flights = s.dsc.flights ∧ ∀ k, k ≠ n → t.rings[k] = s.rings[k])
    ∧ ((s.rings[n].en = false ∨ s.ringSize n ≤ val.toNat ∨ n ≠ 0 ∧
          (s.rings[n].idx + s.ringSize n - s.rings[n].db) % s.ringSize n < (val.toNat + s.ringSize n - s.rings[n].db) % s.ringSize n) →
      ∃ t, exec c s = .next t ∧ t.rings = s.rings ∧ t.raised S.HIF_DB_RANGE = true ∧ OnlyChanges raiseParts u t)

/-- Enabling a ring sets its index and doorbell value to 0 and, for rings 1-3, its phase to 1; with a size outside 6-16, or the
submission ring without the completion ring, it is refused with HIF.ACCESS. Clearing ENABLE sets BUSY until the effect has ended; the
completion ring is not disabled before the submission ring. A new size written to an enabled ring is discarded with HIF.ACCESS
(R117-R119). -/
def Obligations.RingEnableAndDisable : Prop :=
  ∀ (s u : State) (n : Fin 4) (val : BitVec 32) (m : Nat), s.lands 1 = true → u = s.order 6 → m = bitsOf val.toNat 4 0 →
    (val.getLsbD 31 = true → s.rings[n].en = false →
      (6 ≤ m → m ≤ 16 → (n = 0 → s.rings[(1 : Fin 4)].en = true) →
        ∃ t, exec (.ringEnable n val) s = .next t ∧ t.rings[n].en = true ∧ t.ringSize n = 2 ^ m
          ∧ (n ≠ 1 ∨ s.dsc.cplq = [] → t.rings[n].idx = 0 ∧ t.rings[n].db = 0 ∧ t.rings[n].phase = (n != 0)
              ∧ OnlyChanges [.rings, .regs, .evs] u t)
          ∧ (∀ k, k ≠ n → t.rings[k] = s.rings[k]) ∧ OnlyChanges [.rings, .regs, .evs, .dsc, .hif, .tx] u t)
      ∧ (m < 6 ∨ 16 < m ∨ n = 0 ∧ s.rings[(1 : Fin 4)].en = false →
        ∃ t, exec (.ringEnable n val) s = .next t ∧ t.rings = s.rings ∧ t.raised S.HIF_ACCESS = true ∧ OnlyChanges raiseParts u t))
    ∧ (val.getLsbD 31 = false → s.rings[n].en = true →
      ((n = 1 → s.rings[(0 : Fin 4)].en = false ∧ s.rings[(0 : Fin 4)].busy = false) →
        ∃ t, exec (.ringDisable n val) s = .next t ∧ t.rings = s.rings.set n { (s.rings[n]) with en := false, busy := true }
          ∧ (m = s.r R.HIF_RING_CFG_LOG2SIZE n → OnlyChanges [.rings] u t) ∧ OnlyChanges (.rings :: raiseParts) u t)
      ∧ (n = 1 → (s.rings[(0 : Fin 4)].en = true ∨ s.rings[(0 : Fin 4)].busy = true) →
        ∃ t, exec (.ringDisable n val) s = .next t ∧ t.rings = s.rings ∧ t.raised S.HIF_ACCESS = true ∧ OnlyChanges raiseParts u t))
    ∧ (val.getLsbD 31 = false → s.rings[n].en = false →
      ∃ t, exec (.ringDisable n val) s = .next t ∧ t.r R.HIF_RING_CFG_LOG2SIZE n = m ∧ OnlyChanges [.regs] u t)
    ∧ (s.rings[n].busy = true → (n = 0 → s.dsc.fetchOut = [] ∧ ∀ f ∈ s.dsc.flights, f.peer.isSome = true) →
      ∃ t, exec (.ringDisableDone n) s = .next t ∧ t.rings = s.rings.set n { (s.rings[n]) with busy := false } ∧ OnlyChanges [.rings] s t)
    ∧ (s.rings[n].en = true → s.r R.HIF_RING_CFG_LOG2SIZE n ≠ m → val.getLsbD 31 = true →
      ∃ t, exec (.ringEnable n val) s = .next t ∧ t.rings = s.rings ∧ t.raised S.HIF_ACCESS = true ∧ OnlyChanges raiseParts u t
        ∧ t.r R.HIF_RING_CFG_LOG2SIZE n = s.r R.HIF_RING_CFG_LOG2SIZE n)

/-! ### PCI Express endpoint -/

/-- PERST_N low and a loss of the data link reset the endpoint and take the link down, with HIF.LINK_DOWN where it was up; the condition
is latched for HOST_SILENT; what is partial or unwritten is lost, and cistern, tickets, lanes, outputs and the descriptors already
fetched stay (R93, R106, R107). While HS is off PERST_N low is noted alone. A function level reset gives every HIF register but HIF_HB_TO, configuration space, the doorbell values and the rings their reset
values while the link stays up, and leaves cistern, tickets, lanes, outputs and the fetched descriptors; D3hot entry preserves the HIF
state; both latch the condition for HOST_SILENT, drop what is partial or unwritten, and stop host requests until they end (R93, R106,
R107). -/
def Obligations.EndpointResets : Prop :=
  (∀ (s u : State) (c : Instr), (c = .perstNAssert ∧ u = s.order 1 ∨ c = .dataLinkDown ∧ u = s ∧ s.hif.dlUp = true) →
      (s.dom 5 = true → ∃ t, exec c s = .next t ∧ t.hif.dlUp = false ∧ t.hif.latch = true ∧ t.hif.bme = false ∧ t.hif.hbSeen = false
        ∧ t.hif.d3 = false ∧ t.hif.cfg = {} ∧ t.hif.msixEn = false
        ∧ (c = .perstNAssert → t.hif.perstN = false ∧ t.hif.ready = false ∧ t.hif.flr = false)
        ∧ t.hostReach = false ∧ (s.hif.dlUp = true → t.raised S.HIF_LINK_DOWN = true) ∧ t.rings = State.reset.rings
        ∧ t.dsc = { s.dsc with fetchOut := [], cplq := [], noticeq := [] } ∧ t.r R.HIF_HB_TO_MS = s.r R.HIF_HB_TO_MS
        ∧ OnlyChanges (.rings :: .dsc :: raiseParts) u t)
      ∧ (s.dom 5 = false → c = .perstNAssert →
        exec c s = .next { u with hif := { s.hif with perstN := false, ready := false, flr := false } }))
    ∧ (∀ (s u : State), s.cfgReach = true → u = s.order 6 →
      (∃ t, exec .flr s = .next t ∧ t.hif = { State.reset.hif with
            perstN := s.hif.perstN, dlUp := s.hif.dlUp, flr := true, ready := s.hif.ready, width := s.hif.width, speed := s.hif.speed,
            silent := s.hif.silent, rd := s.hif.rd, latch := true }
        ∧ (∀ o, 0x10000 ≤ o → o < 0x1F000 → o ≠ 0x10010 → mget t.regs o = none)
        ∧ (∀ o, ¬(0x10000 ≤ o ∧ o < 0x1F000) ∨ o = 0x10010 → mget t.regs o = mget s.regs o)
        ∧ t.rings = State.reset.rings ∧ t.dsc = { s.dsc with fetchOut := [], cplq := [], noticeq := [] }
        ∧ t.evs = { s.evs with staging := [] } ∧ t.hostReach = false ∧ OnlyChanges [.regs, .hif, .rings, .dsc, .evs] u t)
      ∧ (∀ v : State, exec .flrDone v = .next { v with hif := { v.hif with flr := false } })
      ∧ (s.hif.d3 = false → ∃ t, exec .d3hotEntry s = .next t ∧ t = { u with
            hif := { s.hif with d3 := true, latch := true, hbRun := 0 }, dsc := { s.dsc with fetchOut := [], cplq := [], noticeq := [] },
            evs := { s.evs with staging := [] } } ∧ t.hostReach = false)
      ∧ (s.hif.d3 = true → exec .d3hotEntry s = .next u)
      ∧ (s.hif.d3 = true → ∃ t, exec .d3hotExit s = .next t ∧ t.hif.d3 = false ∧ OnlyChanges [.hif, .rings, .dsc, .tx] u t
        ∧ t.dsc.flights = s.dsc.flights
        ∧ (s.dsc.cplq = [] → s.hif.pba = 0 → t = { u with hif := { s.hif with d3 := false } })))

/-- PERST_N going high, the endpoint ready for configuration requests, and a link that trains or retrains: width and rate are shown,
and HIF.LINK_DEG is raised where either is below HIF_LINK_MIN; until it is ready, a configuration request is answered with
Configuration Request Retry Status (R81, R82). Clearing Bus Master Enable stops what the device writes; setting it, or changing MSI-X Enable and Function Mask, sends every
pending vector that is then neither held nor masked; the held vector 0 message is sent once, after the waiting entries of its causes
(R98-R101, R104). -/
def Obligations.LinkTrainingAndMessages : Prop :=
  (∀ (s : State),
      exec .perstNRelease s = .next { s.order 1 with hif := { s.hif with perstN := true } }
      ∧ (s.dom 5 = true → s.hif.perstN = true → exec .configResponseReady s = .next { s with hif := { s.hif with ready := true } })
      ∧ (s.dom 5 = true → s.hif.perstN = true → s.hif.dlUp = true → s.hif.ready = false →
        ∀ c, (c ∈ [Instr.flr, .d3hotEntry, .d3hotExit, .busMasterDisable, .busMasterEnable] ∨ (∃ en mask, c = .msixControlWrite en mask)
            ∨ (∃ off val, c = .registerWrite off val .config) ∨ ∃ off be ev, c = .registerRcRead off be ev .config) →
          exec c s = .next { s with tx := Tx.crs :: s.tx })
      ∧ ∀ (w : BitVec 3) (g : BitVec 4) (c : Instr), s.dom 5 = true →
        (c = .linkRetrain w g ∧ s.hif.dlUp = true ∨ c = .dataLinkUp w g ∧ s.hif.perstN = true ∧ s.hif.dlUp = false) →
        ∃ t, exec c s = .next t ∧ t.hif.dlUp = true ∧ t.hif.width = w ∧ t.hif.speed = g
          ∧ (if w.toNat < s.r R.HIF_LINK_MIN_WIDTH ∨ g.toNat < s.r R.HIF_LINK_MIN_SPEED
              then t.raised S.HIF_LINK_DEG = true ∧ OnlyChanges raiseParts s t
              else t = { s with hif := { s.hif with dlUp := true, width := w, speed := g } }))
    ∧ (∀ (s u : State), u = s.order 6 →
      (s.cfgReach = true →
        (∃ t, exec .busMasterDisable s = .next t ∧ t = { u with hif := { s.hif with bme := false } } ∧ t.dmaOk = false
          ∧ t.hif.canSend = false)
        ∧ (∃ t, exec .busMasterEnable s = .next t ∧ t.hif.bme = true ∧ OnlyChanges [.hif, .rings, .dsc, .tx] u t
          ∧ t.dsc.flights = s.dsc.flights ∧ (s.dsc.cplq = [] → OnlyChanges [.hif, .tx] u t)
          ∧ ∀ v, v < 32 → v ≠ 0 → s.hif.pba.getLsbD v = true → t.hif.canSend = true → t.hif.vecMasked v = false →
              Tx.msi (BitVec.ofNat 5 v) ∈ t.tx ∧ t.hif.pba.getLsbD v = false)
        ∧ (∀ en mask, ∃ t, exec (.msixControlWrite en mask) s = .next t ∧ OnlyChanges [.hif, .tx] u t
          ∧ { t.hif with pba := s.hif.pba } = { s.hif with msixEn := en, fmask := mask }
          ∧ (∀ v, v < 32 → v ≠ 0 → s.hif.pba.getLsbD v = true → t.hif.canSend = true → t.hif.vecMasked v = false →
              Tx.msi (BitVec.ofNat 5 v) ∈ t.tx ∧ t.hif.pba.getLsbD v = false)
          ∧ (t.hif.canSend = false → t.tx = s.tx ∧ t.hif.pba = s.hif.pba)))
      ∧ (s.dom 5 = true → s.hif.canSend = true → s.hif.nmtHeld ≠ 0 → (s.ringReady 2 = true → ∀ e ∈ s.evs.staging, e.nmtHeld = false) →
        ∃ t, exec .nmtRelease s = .next t ∧ t.tx = Tx.msi 0 :: s.tx ∧ t.hif.nmtHeld = 0 ∧ t.hif.pba.getLsbD 0 = false
          ∧ (∀ v, v ≠ 0 → t.hif.pba.getLsbD v = s.hif.pba.getLsbD v) ∧ OnlyChanges [.hif, .tx] s t))

/-- A heartbeat is accepted when its reserved bits are zero and its count is the previous accepted count plus 1 modulo 65,536, the
first after a reset of the endpoint whatever its count; any other is discarded, raises HIF.HB_SEQ and neither renews nor ends host
silence (R91). -/
def Obligations.HeartbeatAcceptance : Prop :=
  ∀ (val : Word) (s u : State), s.hostReach = true → u = s.order 6 →
    (bitsOf val.toNat 31 16 = 0 → (s.hif.hbSeen = false ∨ bitsOf val.toNat 15 0 = (s.hif.hbCount.toNat + 1) % 65536) →
      exec (.heartbeat val) s = .next { u with
        hif := { s.hif with hbSeen := true, hbCount := val.setWidth 16, hbAt := u.tb, hbRun := min 2 (s.hif.hbRun + 1) } })
    ∧ (¬(bitsOf val.toNat 31 16 = 0 ∧ (s.hif.hbSeen = false ∨ bitsOf val.toNat 15 0 = (s.hif.hbCount.toNat + 1) % 65536)) →
      ∃ t, exec (.heartbeat val) s = .next t ∧ t.raised S.HIF_HB_SEQ = true ∧ OnlyChanges raiseParts u t
        ∧ t.hif.hbSeen = s.hif.hbSeen ∧ t.hif.hbCount = s.hif.hbCount ∧ t.hif.hbAt = s.hif.hbAt ∧ t.hif.hbRun = s.hif.hbRun
        ∧ t.hif.silent = s.hif.silent)

/-- The AER status bit of a violating request, where it has one: poisoned TLP 12, unexpected completion 16, malformed TLP 18, ECRC 19,
Unsupported Request 20. -/
def aerBitOf (kind : TlpKind) : Option Nat :=
  match kind with
  | .longRead => some 20
  | .atomicOp => some 20
  | .poisoned => some 12
  | .unexpectedCpl => some 16
  | .malformed => some 18
  | .ecrc => some 19
  | _ => none

/-- Where the age of the last heartbeat passes HIF_HB_TO.MS within the input agreement phase of a scan, the 20 µs after its boundary, that
scan finds the host silent: HOST_OK of every lane's map becomes 0 and HIF.HB_LOST is raised, once (R93; the model's choice of the
instant within the phase, log entry 64). A host request that breaks R85 or R105 has no effect on the registers that it names, is counted, raises HIF.TLP or HIF.ACCESS, and is
reported through AER; an AtomicOp is answered with Unsupported Request (R79). A read of the diagnostic window returns work SRAM in the
modes of R86, with 0xFF for a codeword that is uncorrectable, and zeros with HIF.ACCESS in the others; a longer read than R84 allows
raises HIF.TLP. -/
def Obligations.HostSilenceViolationsAndDiagnosticReads : Prop :=
  (∀ (s : State) (due : Nat), s.lan.run = true → s.lan.phase = 1 → s.hif.silent = false → s.hif.hbSeen = true → s.dom 5 = true →
      due = s.hif.hbAt + s.r R.HIF_HB_TO_MS * ms + 1 → due ≤ s.lan.boundary + 20 * us → s.comes due = true →
      ∃ t, exec .hbTimeout s = .next t ∧ t.hif.silent = true ∧ t.hif.hbRun = 0 ∧ t.hif.latch = false ∧ t.raised S.HIF_HB_LOST = true
        ∧ t.tb = (s.at due).tb ∧ OnlyChanges (.tb :: .edge :: .lan :: raiseParts) s t
        ∧ { t.lan with map := s.lan.map, lanes := s.lan.lanes } = s.lan
        ∧ (∀ l i, (t.lan.mapOf l).bits.getLsbD i = ((s.lan.mapOf l).bits.getLsbD i && i != 106)
            ∧ (t.lan.mapOf l).words = (s.lan.mapOf l).words)
        ∧ exec .hbTimeout t = .next t)
    ∧ (∀ (s u : State), u = s.order 6 →
      (∀ kind addr, s.hif.perstN = true → (s.hostReach = true ∨ s.d3Reach = true) →
        (kind ≠ .atomicOp → (kind = .ecrc → s.hif.cfg.ecrcCheck = true) →
          (kind ∈ [TlpKind.longWrite, .partialWrite, .bar4Write] → s.hostReach = true) →
          ∃ t, exec (.tlpViolation kind addr) s = .next t ∧ OnlyChanges raiseParts u t
            ∧ t.raised (if kind = .partialWrite ∨ kind = .bar4Write then S.HIF_ACCESS else S.HIF_TLP) = true
            ∧ t.r R.HIF_VIOL_CNT_TLP = min (s.r R.HIF_VIOL_CNT_TLP + 1) 65535 ∧ (kind = .longRead → Tx.ur ∈ t.tx)
            ∧ ∀ b, aerBitOf kind = some b → t.hif.cfg.aerUnc.getLsbD b = true)
        ∧ (kind ∈ [TlpKind.longWrite, .partialWrite, .bar4Write] → s.d3Reach = true →
          ∃ t, exec (.tlpViolation kind addr) s = .next t ∧ OnlyChanges [.hif] u t ∧ t.hif.cfg.aerUnc.getLsbD 20 = true)
        ∧ (s.hif.cfg.ecrcCheck = false → exec (.tlpViolation .ecrc addr) s = .next u)
        ∧ (∃ t, exec (.tlpViolation .atomicOp addr) s = .next t ∧ OnlyChanges [.hif, .tx] u t ∧ t.tx = Tx.ur :: s.tx
            ∧ t.hif.cfg.aerUnc.getLsbD 20 = true))
      ∧ (∀ (addr : BitVec 20) (len : Nat) (hits : List (Nat × Ecc)), s.hostReach = true →
        (0 < len → len ≤ 128 → addr.toNat % 4096 + len ≤ 4096 → diagOpen s = true → s.dom 4 = true →
          ∃ t, exec (.diagRead addr len hits) s = .next t ∧ t.hif.rd.length = len
            ∧ (∀ i h, i < len → h ∈ hits → h.1 = (addr.toNat + i) / 32 → h.2 = .uncorrectable → t.hif.rd[i]? = some 0xFF)
            ∧ ((∀ h ∈ hits, h.2 = .uncorrectable ∨ h.2 = .clean) → OnlyChanges [.hif, .regs] u t ∧ RegsBut [0x10040] s.regs t.regs
              ∧ (∀ i, i < len → (∀ h ∈ hits, h.1 = (addr.toNat + i) / 32 → h.2 = .clean) →
                  t.hif.rd[i]? = some ((workByte u (addr.toNat + i)).setWidth 32))
              ∧ ((∃ i h, i < len ∧ h ∈ hits ∧ h.1 = (addr.toNat + i) / 32 ∧ h.2 = .uncorrectable) → t.r R.HIF_DIAG_STAT_UNCORR = 1)))
        ∧ (0 < len → len ≤ 128 → addr.toNat % 4096 + len ≤ 4096 → diagOpen s = false →
          ∃ t, exec (.diagRead addr len hits) s = .next t ∧ OnlyChanges raiseParts u t
            ∧ t.hif.rd = List.replicate len 0 ∧ t.raised S.HIF_ACCESS = true)
        ∧ (len = 0 ∨ 128 < len ∨ 4096 < addr.toNat % 4096 + len →
          ∃ t, exec (.diagRead addr len hits) s = .next t ∧ OnlyChanges raiseParts u t ∧ t.raised S.HIF_TLP = true)))

/-! ### Safety lanes and the scan -/

/-- A request for the re-admission or the self-test of one lane is accepted under the conditions of R269 and is otherwise refused
with its reason, in Lockdown too (log entry 75); more than one bit is refused; the automatic request comes 1 s after a retirement, once. What a lane's own happenings do: a good sample frame is kept as the newest of two, another raises FLD.FRAME (R240); a self-test
that passes, with the image reloaded, lets the request go on, and one that fails ends it with LAN.STEST (R270, R272); the repair timer
expires once (R260); the recurrence of CMP.XY is forgotten after 24 h of operation (R266). -/
def Obligations.LaneRequestsAndHappenings : Prop :=
  (∀ (s u : State) (l : Fin 3), u = s.order 6 →
      (s.lands 4 = true → s.lan.join = none → s.lan.lanes[l].retired = true → s.dom l = true →
        s.inMode [.boot, .safeHold, .lockdown] = false → retires24 u l < 3 →
        ∃ t, exec (.laneReadmitReq (putBit 0 l.val true)) s = .next t ∧ OnlyChanges [.lan, .regs] u t
          ∧ t.lan = { s.lan with join := some ⟨l, false, 0, none, false, true⟩ }
          ∧ t.r R.LAN_CSTAT_RESULT = 1 ∧ t.r R.LAN_CSTAT_LANE = l.val ∧ t.r R.LAN_CSTAT_NEW = 1)
      ∧ (s.lands 4 = true → s.lan.join = none → (∀ i : Fin 3, s.lan.lanes[i].retired = false) → s.inMode [.run, .maintain] = true →
        ∃ t, exec (.laneTestReq (putBit 0 l.val true)) s = .next t ∧ OnlyChanges [.lan, .regs] u t
          ∧ t.lan = { s.lan with join := some ⟨l, true, 0, none, false, true⟩ }
          ∧ t.r R.LAN_CSTAT_RESULT = 1 ∧ t.r R.LAN_CSTAT_LANE = l.val ∧ t.r R.LAN_CSTAT_NEW = 1)
      ∧ (s.lands 4 = true → (s.lan.join.isSome = true ∨ s.lan.lanes[l].retired = false ∨ s.dom l = false
            ∨ s.inMode [.boot, .safeHold, .lockdown] = true ∨ 3 ≤ retires24 u l) →
        ∃ t, exec (.laneReadmitReq (putBit 0 l.val true)) s = .next t ∧ OnlyChanges [.regs] u t
          ∧ t.r R.LAN_CSTAT_RESULT = 5 ∧ t.r R.LAN_CSTAT_LANE = l.val)
      ∧ (s.lands 4 = true → (s.lan.join.isSome = true ∨ s.inMode [.run, .maintain] = false ∨ ∃ i : Fin 3, s.lan.lanes[i].retired = true) →
        ∃ t, exec (.laneTestReq (putBit 0 l.val true)) s = .next t ∧ OnlyChanges [.regs] u t ∧ t.r R.LAN_CSTAT_LANE = l.val
          ∧ t.r R.LAN_CSTAT_RESULT = (if s.lan.join.isSome = true then 5
              else if ∃ i : Fin 3, s.lan.lanes[i].retired = true then 4 else 5))
      ∧ (∀ bits : BitVec 3, s.lands 4 = true → 2 ≤ popcount bits →
        ∃ t, exec (.laneReadmitReq bits) s = .next t ∧ exec (.laneTestReq bits) s = .next t
          ∧ OnlyChanges [.regs] u t ∧ t.r R.LAN_CSTAT_RESULT = 5)
      ∧ (s.hostReach = true → s.sys.mode = .lockdown →
        ∃ t, exec (.laneReadmitReq (putBit 0 l.val true)) s = .next t ∧ OnlyChanges raiseParts u t ∧ t.r R.LAN_CSTAT_RESULT = 5
          ∧ t.raised ⟨4, 0⟩ = true)
      ∧ (∀ due, s.lan.lanes[l].autoDue = some due → s.rb R.LAN_CFG_AUTO = true → s.comes due = true →
        ∃ t, exec (.autoReadmit l) s = .next t ∧ OnlyChanges [.tb, .edge, .lan, .regs] s t ∧ t.tb = (s.at due).tb
          ∧ t.lan.lanes[l].autoDue = none
          ∧ (s.lan.join = none → s.lan.lanes[l].retired = true → s.dom l = true → s.inMode [.boot, .safeHold, .lockdown] = false →
              retires24 (s.at due) l < 3 →
              t.lan.join = some ⟨l, false, 0, none, false, true⟩ ∧ t.r R.LAN_CSTAT_RESULT = 1 ∧ t.r R.LAN_CSTAT_LANE = l.val)))
    ∧ (∀ (s : State),
      (∀ (l : Fin 3) (f : Frame) (u : State), u = s.order 4 →
        (s.dom l = true → s.lan.lanes[l].stopped = false → frameGood f = true → f.length = 8 →
          ∃ t, exec (.sampleFrameReceive l f) s = .next t ∧ OnlyChanges [.lan, .tmr] u t ∧ { t.lan with lanes := s.lan.lanes } = s.lan
            ∧ t.lan.lanes[l] = { s.lan.lanes[l] with frames := f :: s.lan.lanes[l].frames.take 1 }
            ∧ (∀ i : Fin 3, i ≠ l → t.lan.lanes[i] = s.lan.lanes[i]) ∧ (s.dom 4 = false → t.tmr = s.tmr))
        ∧ (s.dom l = true → s.lan.lanes[l].stopped = false → (frameGood f = false ∨ f.length ≠ 8) →
          ∃ t, exec (.sampleFrameReceive l f) s = .next t ∧ OnlyChanges raiseParts u t ∧ t.raised S.FLD_FRAME = true)
        ∧ ((s.dom l = false ∨ s.lan.lanes[l].stopped = true) → ∃ t, exec (.sampleFrameReceive l f) s = .next t ∧ OnlyChanges [.tmr] u t
          ∧ ((frameGood f = false ∨ f.length ≠ 8 ∨ s.dom 4 = false) → t = u)))
      ∧ (∀ j : Join, s.lan.join = some j → j.step = 1 → j.selfDone = false →
        (reloadOk s = true → exec (.laneSelftestDone true false) s =
          .next { s with lan := { s.lan with join := some { j with selfDone := true } } })
        ∧ (∀ p rf, (p = false ∨ rf = true ∨ reloadOk s = false) → s.pwr.aoOk = true → j.zero.isSome = true →
          ∃ t, exec (.laneSelftestDone p rf) s = .next t ∧ OnlyChanges (.lan :: .vpt :: raiseParts) s t ∧ t.lan.join = none
            ∧ t.raised S.LAN_STEST = true ∧ t.r R.LAN_CSTAT_RESULT = 3 ∧ t.r R.LAN_CSTAT_LANE = j.lane.val
            ∧ t.r R.LAN_RETIRE_CAUSE j.lane = 8 ∧ (j.test = true → t.lan.lanes[j.lane].retired = true)
            ∧ (j.test = false → t.lan.lanes = s.lan.lanes ∧ t.vpt = s.vpt)))
      ∧ (∀ due, s.lan.repairRun = true → s.lan.repairExpired = false → s.sys.mode ≠ .boot → s.pwr.aoOk = true →
          due = s.lan.boundary + s.keep.repairLeft → s.comes due = true →
        ∃ t, exec .repairTimerExpire s = .next t ∧ OnlyChanges (.tb :: .edge :: .lan :: raiseParts) s t ∧ t.raised S.LAN_REPAIR = true
          ∧ t.tb = (s.at due).tb ∧ t.lan = { s.lan with repairExpired := true } ∧ exec .repairTimerExpire t = .next t)
      ∧ (∀ due, s.keep.recur = true → s.inMode [.run, .degraded] = true → due = s.lan.boundary + (24 * 360000000000 - s.keep.recurTicks) →
          s.comes due = true →
        ∃ t, exec .recurClear s = .next t ∧ OnlyChanges [.tb, .edge, .keep] s t ∧ t.tb = (s.at due).tb
          ∧ t.keep = { s.keep with recur := false, recurTicks := 0 }))

/-- The scan boundary opens a scan: it falls on a multiple of the period, or one period after the boundary before; the scan number
advances; HOST_SILENT is what the lanes agreed in bit 106; nonvolatile contents, tickets, host rings and the field die do not change
(R92, R236, R237). The lanes evaluate 20 µs after the boundary: each that has a place and runs, undisturbed, delivers in a device without a ring the
result of the image on its agreed map, and in a ring stands at its ring point; one that is late delivers none; one that halts stops,
and so does one that reads an uncorrectable codeword, with LAN.ECC_U (R238, R243, R258, R259, R295, R430). In a ring the lanes send their word at RSEND on both links and agree the words of the others 120 µs later for each further device;
where fewer than two lanes have a copy no word is agreed; every lane then finishes its evaluation on its agreed map (R430, R431, R433,
R434). -/
def Obligations.ScanOpeningAndEvaluation : Prop :=
  (∀ (s : State) (io : ScanIn), scanReady s = true →
      ∃ t, exec (.scanBoundary io) s = .next t ∧ t.lan.run = true ∧ t.lan.phase = 1 ∧ t.lan.scanNo = s.lan.scanNo + 1
        ∧ t.lan.boundary = (if s.lan.run = true then s.lan.boundary + s.period else nextMultiple s.period 0 s.tb)
        ∧ t.tb = ((s.at t.lan.boundary).order 5).tb ∧ t.sys.errArmed = true ∧ t.hif.silent = !t.lan.map.bit 106
        ∧ (s.hif.silent = false → t.hif.silent = true → t.dom 5 = true → t.raised S.HIF_HB_LOST = true)
        ∧ t.nv = s.nv ∧ t.tkt = s.tkt ∧ t.rings = s.rings ∧ t.fld = s.fld ∧ t.jtag = s.jtag
        ∧ (s.sys.reqAgreed = none → t.sys.mode = s.sys.mode → t.shadow = s.shadow))
    ∧ (∀ (s u : State) (im : Image) (io : EvalIn), s.clocked = true → s.lan.phase = 1 → s.lan.image = some im →
      u = (s.at (s.lan.boundary + 20 * us)).order 5 →
      ∃ t, exec (.evalPhase io) s = .next t ∧ t.lan.phase = 2 ∧ OnlyChanges (.lan :: raiseParts) u t
        ∧ (io.eccU = 0 → OnlyChanges [.lan] u t)
        ∧ ∀ l : Fin 3,
          (l ∉ evaluators s → t.lan.lanes[l] = s.lan.lanes[l])
          ∧ (l ∈ evaluators s → io.eccU.getLsbD l = true → t.lan.lanes[l].stopped = true ∧ t.lan.lanes[l].res = none
              ∧ (s.pwr.aoOk = true → t.raised S.LAN_ECC_U = true))
          ∧ (l ∈ evaluators s → io.eccU.getLsbD l = false →
            (io.halted.getLsbD l = true → t.lan.lanes[l] = { s.lan.lanes[l] with stopped := true, eccStop := false })
            ∧ (io.halted.getLsbD l = false → io.late.getLsbD l = true →
                t.lan.lanes[l].res = s.lan.lanes[l].res ∧ t.lan.lanes[l].mid = s.lan.lanes[l].mid)
            ∧ (io.halted.getLsbD l = false → io.late.getLsbD l = false → (∀ x ∈ io.upsets, x.lane ≠ l) →
                t.lan.lanes[l] = (if s.ringed = true
                  then { s.lan.lanes[l] with mid := some (evalPre im (s.lan.mapOf l) s.lan.lanes[l].vars) }
                  else deliver im (evalPost im (s.lan.mapOf l) (evalPre im (s.lan.mapOf l) s.lan.lanes[l].vars)) s.lan.lanes[l]))))
    ∧ (∀ (s u : State), s.ringed = true → s.clocked = true →
      (u = (s.at (s.lan.boundary + s.r R.OSR_CFG_RSEND * us)).order 5 →
        exec .rswSend s = .next { u with tx := Tx.osr 1 (rswFrame u) :: Tx.osr 0 (rswFrame u) :: s.tx })
      ∧ (u = (s.at (s.lan.boundary + s.r R.OSR_CFG_RSEND * us + 120 * us * (s.ndev - 1) + 10 * us)).order 5 →
        ∃ t, exec (.ringAgree ⟨[], 0, 0⟩) s = .next t
          ∧ (((voters s).length ≠ 2 ∨ s.lan.sdis = false ∨ s.lan.sdisBefore = false) →
            OnlyChanges [.lan, .osr] u t
            ∧ (2 ≤ (voters s).length → ∀ (i : Fin 8), t.osr.ok.getLsbD i.val = (ringEntryOf s i).isSome
              ∧ ∀ l, (t.lan.mapOf l).bits.getLsbD (160 + i.val) = (ringEntryOf s i).isSome
                ∧ mread 0 (t.lan.mapOf l).words (128 + i.val) = (ringEntryOf s i).getD 0)
            ∧ (∀ (l : Fin 3) (im : Image) (e : Eval), s.lan.image = some im → s.lan.lanes[l].mid = some e →
                t.lan.lanes[l].res = some (laneResult im (evalPost im (t.lan.mapOf l) e)))))
      ∧ ∀ ex : Exchange, (∀ l ∈ voters s, ex.absent.getLsbD l.val = true) →
        ∃ t, exec (.ringAgree ex) s = .next t ∧ ∀ i : Fin 8, t.osr.ok.getLsbD i.val = false
          ∧ t.lan.map.bits.getLsbD (160 + i.val) = false ∧ mread 0 t.lan.map.words (128 + i.val) = 0)

/-- With both comparators sound and in service the verdict is that of the lanes' results; a lane in the minority of three is
retired. With the words unequal, or one that fails its pattern, the outputs of the scan are OFF and known answers run in the next two
scans, at whose end CMP.XY is raised. A single comparator's wrong word raises CMP.KAP, and none left is a second fault; both turn the
scan's outputs OFF (R247-R250, R259, R264, R265, R267). -/
def Obligations.ComparisonPhase : Prop :=
  ∀ (s u : State), s.clocked = true → s.lan.phase = 2 → s.pwr.aoOk = true → u = (s.at (s.lan.boundary + 20 * us + s.win)).order 5 →
    (s.lan.cmpX = true → s.lan.cmpY = true → s.lan.ka = none →
      (∃ t, exec (.comparePhase ⟨[], 0, 0, 0, 0, false, false⟩) s = .next t ∧ t.lan.phase = 3
        ∧ t.tb = u.tb ∧ t.lan.verdict = some (verdictWord 0 s)
        ∧ t.r R.LAN_VERDICT_X = (verdictWord 0 s).toNat ∧ t.r R.LAN_VERDICT_Y = (verdictWord 0 s).toNat
        ∧ t.r R.LAN_VERDICT_SCAN = s.lan.scanNo.toNat % 65536
        ∧ (∀ m : Fin 3, voters s = [0, 1, 2] → (finding 0 s).minor = some m →
            t.lan.lanes[m].retired = true ∧ ∀ l : Fin 3, l ≠ m → t.lan.lanes[l].retired = s.lan.lanes[l].retired)
        ∧ (voters s = [0, 1, 2] → (finding 0 s).code = 4 → t.raised S.LAN_NOMAJ = true)
        ∧ t.nv = s.nv ∧ t.cis = s.cis ∧ t.tkt = s.tkt ∧ t.dsc = s.dsc)
      ∧ (∀ (blind : BitVec 192) (x : BitVec 8), s.lan.verdict = none →
          (blind = 0 ∧ x ≠ 0 ∨ blind.getLsbD (s.lan.scanNo.toNat % 192) = true ∧ x = 0) →
        ∃ t, exec (.comparePhase ⟨[], blind, 0, x, 0, false, false⟩) s = .next t
          ∧ t.lan.phase = 3 ∧ t.lan.verdict = none ∧ t.lan.forceOff = true ∧ t.lan.ka = some 2
          ∧ (s.lan.join = none → t.lan.lanes = s.lan.lanes)))
    ∧ (s.lan.ka = some 1 → ∃ t, exec (.comparePhase ⟨[], 0, 0, 0, 0, false, false⟩) s = .next t ∧ t.raised S.CMP_XY = true
        ∧ t.keep.recur = true ∧ t.keep.recurTicks = 0 ∧ t.lan.forceOff = true ∧ t.r R.LAN_CMP_STAT_KA_DONE = 1)
    ∧ (s.lan.cmpX = true → s.lan.cmpY = false → s.lan.ka = none →
      (∃ t, exec (.comparePhase ⟨[], 0, 0, 0, 0, false, false⟩) s = .next t ∧ t.lan.verdict = some (verdictWord 0 s)
        ∧ t.lan.forceOff = s.lan.forceOff)
      ∧ (∀ x : BitVec 8, x &&& 0x3F ≠ 0 → ∃ t, exec (.comparePhase ⟨[], 0, 0, x, 0, false, false⟩) s = .next t
        ∧ t.lan.verdict = s.lan.verdict ∧ t.raised S.CMP_KAP = true ∧ t.lan.forceOff = true))
    ∧ (s.lan.cmpX = false → s.lan.cmpY = false → s.lan.ka = none → s.lan.secondHeld.getLsbD 26 = false → s.lan.secondNow.getLsbD 26 = false →
      ∃ t, exec (.comparePhase ⟨[], 0, 0, 0, 0, false, false⟩) s = .next t ∧ t.lan.verdict = s.lan.verdict
        ∧ t.raised S.LAN_SECOND = true ∧ t.lan.forceOff = true)

/-- In the drive phase every lane that drives sends its commands with the refresh number, in which a group in Safe-hold, a
comparator fault or a mode that does not follow the image commands OFF; the sluice legs follow R253; the refresh number advances
(R251, R253, R255, R353). A raising at S3 that acts in the scan enters Safe-hold, one at S4 Lockdown, one at S2 puts its groups into
Safe-hold (R497); a deliberate reset sends the field reset frame, or is refused with its reason (R528). -/
def Obligations.DrivePhase : Prop :=
  ∀ (s u : State), s.clocked = true → s.lan.phase = 3 → u = (s.at (s.lan.boundary + 30 * us + s.win)).order 5 →
    ∃ t, exec .drivePhase s = .next t ∧ t.lan.phase = 0 ∧ t.tb = u.tb ∧ t.lan.refresh = s.lan.refresh + 1
      ∧ t.nv = s.nv ∧ t.cis = s.cis ∧ t.tkt = s.tkt ∧ t.fld = s.fld
      ∧ (∀ l : Fin 3, t.vpt.legs.getLsbD l.val = true → t.inMode [.run, .degraded] = true ∧ t.sys.grpHold.getLsbD 0 = false
          ∧ (s.lan.mapOf l).bit 106 = true ∧ s.lan.lanes[l].stopped = false)
      ∧ (s.sys.acts = [] → s.sys.pdnHold = false →
        t.sys.mode = s.sys.mode ∧ t.sys.grpHold = s.sys.grpHold
        ∧ (∀ l ∈ drivers s, (∃ w, Tx.fdl l (sealFrame [BitVec.ofNat 32 (s.lan.refresh.toNat + 65536 * s.lan.eack.toNat),
            ((laneCmds s l).extractLsb' 0 20).setWidth 32, w]) ∈ t.tx)
            ∧ ∀ c, s.lan.fldSend = some c → Tx.fdlConfig l (sealFrame c) ∈ t.tx)
        ∧ (s.lan.forceOff = true ∨ s.inMode [.commission, .run, .maintain, .degraded] = false → ∀ l, laneCmds s l = 0)
        ∧ (∀ l : Fin 3, t.vpt.legs.getLsbD l.val = laneLeg s l)
        ∧ (s.sys.drstScan = true → drstWhy s = 0 → t.sys.drstDone = true
            ∧ ∀ l ∈ drivers s, Tx.fdlReset l (sealFrame [BitVec.ofNat 32 (0xA5 + 65536 * s.lan.refresh.toNat), 0, 0]) ∈ t.tx)
        ∧ (s.sys.drstScan = true → drstWhy s ≠ 0 → t.sys.drstScan = false ∧ t.r R.SYS_REQ_STAT_DRST = 3
            ∧ t.r R.SYS_REQ_STAT_DRST_WHY = drstWhy s))
      ∧ (∀ h ∈ s.sys.acts, h.sev = 2 → t.sys.grpHold &&& h.groups = h.groups) ∧ t.sys.grpHold &&& s.sys.grpHold = s.sys.grpHold
      ∧ (s.sys.mode = .lockdown → t.sys.mode = .lockdown)
      ∧ (bootHeld s = false → (∃ h ∈ s.sys.acts, 4 ≤ h.sev.toNat) → t.sys.mode = .lockdown)
      ∧ (bootHeld s = false → s.sys.mode ≠ .lockdown → (∀ h ∈ s.sys.acts, h.sev.toNat < 4) →
          (s.sys.pdnHold = true ∨ ∃ h ∈ s.sys.acts, h.sev = 3) → t.sys.mode = .safeHold)

/-! ### Field die -/

/-- The die's fault queue holds a fault of a source with a first pin (R601). -/
def Queued (f : Fld) (c : Src) (pin : Nat) : Prop := ∃ e ∈ f.queue, e.code = c.code.setWidth 8 ∧ e.pin = BitVec.ofNat 8 pin

/-- An island takes the commands of a good drive frame with a new refresh number, and of no other; it releases its outputs after 1.5
scan periods without one and when its link falls silent (R21, R353, R354); without frames the watchdog turns off every output but
those whose safe state is ON, and ends every test (R380, R381, R384). A field configuration is taken that two links that carry symbols deliver complete and equal, and no other; a field reset frame acts
when it arrives on at least two links; a deliberate reset clears the held generators, the watchdog's report, and the fault bits whose
conditions have gone (R355, R378, R383, R528). -/
def Obligations.IslandsAndFieldConfiguration : Prop :=
  (∀ (s : State) (l : Fin 3),
      (∀ f : Frame, s.fld.links.getLsbD l.val = true → frameGood f = true → f.length = 4 →
        (s.fld.refresh[l] ≠ some (BitVec.ofNat 16 (fw f 0)) → ∃ t, exec (.driveFrameReceive l f) s = .next t
          ∧ OnlyChanges [.fld, .regs, .lan] s t ∧ t.fld.cmd = s.fld.cmd.set l (BitVec.ofNat 20 (fw f 1))
          ∧ t.fld.refresh[l] = some (BitVec.ofNat 16 (fw f 0)) ∧ t.fld.accAt[l] = some s.tb)
        ∧ (s.fld.refresh[l] = some (BitVec.ofNat 16 (fw f 0)) → exec (.driveFrameReceive l f) s = .next s))
      ∧ (∀ f : Frame, s.fld.links.getLsbD l.val = true → (frameGood f = false ∨ f.length ≠ 4) →
        ∃ t, exec (.driveFrameReceive l f) s = .next t ∧ OnlyChanges [.fld, .regs] s t ∧ t.fld.cmd = s.fld.cmd
          ∧ t.fld.accAt = s.fld.accAt ∧ t.r (linkErr l) = satAdd ((linkErr l).hi + 1 - (linkErr l).lo) (s.r (linkErr l)) 1
          ∧ (s.fldRuns = true → Queued t.fld S.FLD_FRAME 0xFD))
      ∧ (∀ a, s.fld.accAt[l] = some a → ∃ t, exec (.islandTimeout l) s = .next t ∧ OnlyChanges [.tb, .edge, .fld, .regs, .lan] s t
          ∧ t.tb = (s.at (a + s.fld.period + s.fld.period / 2)).tb ∧ t.fld.cmd = s.fld.cmd.set l 0 ∧ t.fld.accAt[l] = none)
      ∧ (s.fld.links.getLsbD l.val = true → ∃ t, exec (.fdlLinkSilent l) s = .next t ∧ OnlyChanges [.fld, .regs, .lan] s t
          ∧ t.fld.links.getLsbD l.val = false ∧ t.fld.cmd = s.fld.cmd.set l 0 ∧ t.lan.lanes[l].quietAt.isSome = true)
      ∧ (s.dom l = true → s.lan.lanes[l].stopped = false → ∃ t, exec (.fdlLinkSyncGain l) s = .next t ∧ OnlyChanges [.fld, .lan] s t
          ∧ t.fld = { s.fld with links := putBit s.fld.links l.val true } ∧ t.lan.lanes[l].quietAt = none)
      ∧ (∀ a, s.fld.frameAt = some a → s.fldRuns = true → s.fld.armed = true → s.fld.expired = false →
        ∃ t, exec .watchdogExpire s = .next t ∧ OnlyChanges [.tb, .edge, .fld, .regs, .lan] s t
          ∧ t.tb = (s.at (a + s.fld.wdScans * s.fld.period * 95 / 100)).tb ∧ t.fld.expired = true ∧ t.fld.wdg = true
          ∧ t.fld.expOn &&& ~~~t.fld.holdable = 0 ∧ t.fld.pulse = Vector.replicate 2 none ∧ t.fld.strays = []
          ∧ exec .watchdogExpire t = .next t))
    ∧ (∀ (s : State), s.fldRuns = true →
      (∀ (frames : Vector (Option Frame) 3),
        (∀ (l m : Fin 3) (f : Frame), l ≠ m → frames[l] = some f → frames[m] = some f → s.fld.links.getLsbD l.val = true →
            s.fld.links.getLsbD m.val = true → frameGood f = true → f.length = 87 →
          exec (.fieldConfigReceive frames) s = .next { s with fld := { s.fld with cfgNew := some f.dropLast } })
        ∧ ((∀ (l m : Fin 3) (f : Frame), l ≠ m → frames[l] = some f → frames[m] = some f → s.fld.links.getLsbD l.val = false
              ∨ s.fld.links.getLsbD m.val = false ∨ frameGood f = false ∨ f.length ≠ 87) →
          exec (.fieldConfigReceive frames) s = .next s))
      ∧ ∀ links : BitVec 3,
        ((popcount (links &&& s.fld.links) < 2 ∨ s.lan.fldReset = false) → exec (.fieldResetFrame links) s = .next s)
        ∧ (2 ≤ popcount (links &&& s.fld.links) → s.lan.fldReset = true →
          ∃ t, exec (.fieldResetFrame links) s = .next t ∧ OnlyChanges [.fld, .regs, .lan] s t ∧ t.lan.fldReset = false
            ∧ t.fld.tpHeld = 0 ∧ t.fld.wdg = false ∧ t.fld.siOk = s.fld.siOk ||| siClean s.tb s.fld
            ∧ t.fld.soOk = s.fld.soOk ||| soClean s.fld ∧ t.fld.sag = s.fld.sag &&& ~~~supplyGood s.tb s.fld
            ∧ t.fld.gone = s.fld.gone &&& ~~~supplyGood s.tb s.fld))

/-- A sample instant: a new field configuration comes into use; the raw state and the filter of every input step as R358 and R359 say;
an input inconsistent twice in a row is a fault; and the frame of the sample leaves on every link that is present, with its number
(R351, R352, R355). -/
def Obligations.FieldSample : Prop :=
  ∀ (s : State) (io : FieldIn) (a : Nat), s.fldRuns = true → s.fld.links ≠ 0 → s.fld.sampleAt = some a →
    ∃ t, exec (.fieldSample io) s = .next t ∧ OnlyChanges [.tb, .edge, .fld, .regs, .lan, .tx, .free] s t
      ∧ t.tb = (s.at (a + 2500)).tb
      ∧ t.fld.snum = s.fld.snum + 1 ∧ t.fld.fpos = (s.fld.fpos + 1) % 400 ∧ t.fld.sampleAt = some t.tb
      ∧ (∃ fr, t.tx = Tx.sample s.fld.links fr :: s.tx ∧ frameGood fr = true ∧ fr.length = 8
          ∧ fr.getD 0 0 = BitVec.ofNat 32 (s.fld.snum.toNat + 65536 * s.fld.fpos) ∧ fr.getD 1 0 = t.fld.si ∧ fr.getD 2 0 = t.fld.siOk
          ∧ fr.getD 5 0 = t.fld.cfgCrc ∧ fr.getD 6 0 = t.fld.evt)
      ∧ t.fld.cfgNew = none ∧ t.fld.cfg = s.fld.cfgNew.getD s.fld.cfg ∧ (∀ c, s.fld.cfgNew = some c → t.fld.cfgCrc = fieldCrc c)
      ∧ (∀ i : Fin 32,
          (io.atOn.getLsbD i.val = true → io.atOff.getLsbD i.val = false → t.fld.raw.getLsbD i.val = true)
          ∧ (io.atOn.getLsbD i.val = false → io.atOff.getLsbD i.val = true → t.fld.raw.getLsbD i.val = false)
          ∧ (io.atOn.getLsbD i.val = false → io.atOff.getLsbD i.val = false → t.fld.raw.getLsbD i.val = s.fld.raw.getLsbD i.val)
          ∧ (io.atOn.getLsbD i.val = true → io.atOff.getLsbD i.val = true → s.fld.cfgNew = none → s.fld.incons.getLsbD i.val = true →
              t.fld.siOk.getLsbD i.val = false ∧ (s.fld.inconsRun.getLsbD i.val = false → Queued t.fld S.FLD_THR i.val))
          ∧ t.fld.x[i] = (if t.fld.raw.getLsbD i.val = true then min (s.fld.x[i] + 1) (t.fld.filtLim i) else s.fld.x[i] - 1)
          ∧ t.fld.si.getLsbD i.val = (if t.fld.x[i] = 0 then false else if t.fld.x[i] = t.fld.filtLim i then true
              else s.fld.si.getLsbD i.val))

/-- Test pulses: a generator pulses for 12 µs from 4 µs after the instant of its interval and its inputs are checked 15 µs after it; an
overloaded generator is held off (R361, R363, R365). An off-pulse test ends after its width: without a finding it passes, with one it
takes the output's fault bit down, and with test fields that differ it gives no verdict (R374-R376). Output faults and the field supplies: a readback that stays 1 takes the fault bit down, one that stays 0 and an overloaded group
clamp their outputs OFF; a group in SAG or MISSING has every output OFF, and with both supplies gone every output is OFF (R20, R31,
R370, R371, R377). -/
def Obligations.FieldTestsFaultsAndSupplies : Prop :=
  (∀ (s : State),
      (∀ (g : Fin 8) (a : Nat), s.fldRuns = true → s.fld.sampleAt = some a → (s.fld.fpos + 399) % 400 = 50 * g.val →
        (s.fld.tpHeld.getLsbD g.val = false → s.fld.sunk.getLsbD (g.val / 4) = false →
          ∃ t, exec (.tpPulse g) s = .next t
            ∧ t = { s.at (a + 400) with fld := { s.fld with tpPulse := some (g, (s.at (a + 400)).tb + 1200) } }
            ∧ ∀ now, t.fld.tpLow now g = true ↔ t.tb ≤ now ∧ now < t.tb + 1200)
        ∧ ((s.fld.tpHeld.getLsbD g.val = true ∨ s.fld.sunk.getLsbD (g.val / 4) = true) → exec (.tpPulse g) s = .next s)
        ∧ ∀ low, exec (.tpCheck g low) s = .next { s.at (a + 1500) with fld := { s.fld with check := some (g, low) } })
      ∧ (∀ g : Fin 8, s.fldRuns = true → s.fld.tpHeld.getLsbD g.val = false → s.fld.sunk.getLsbD (g.val / 4) = false →
        ∃ t, exec (.tpOvlTimer g) s = .next t ∧ OnlyChanges [.fld] s t ∧ t.fld.tpHeld = putBit s.fld.tpHeld g.val true
          ∧ Queued t.fld S.FLD_TP_OVL (64 + g.val))
      ∧ (∀ (g : Fin 2) (e : Nat), nextPulseEnd g s.fld = some e →
        ∃ t, exec (.offPulseEnd g) s = .next t ∧ OnlyChanges [.tb, .edge, .fld, .regs, .lan] s t ∧ t.tb = (s.at e).tb
          ∧ (∀ x ∈ t.fld.strays, x ∈ s.fld.strays ∧ (x.grp = g → t.tb < x.at' + s.fld.width x.target.val * 1000))
          ∧ ∀ (p q : Pulse), s.fld.pulse[g] = some p → p.at' + s.fld.width p.target.val * 1000 = e → q = pulseWatch s.fld p →
            t.fld.pulse[g] = none ∧ (s.fld.pulse[1 - g] = none →
              (p.differ = true → t.r R.FLD_TEST_STAT_RESULT = 3)
              ∧ (p.differ = false → q.abandoned = false → (q.on = false ∨ p.sampled = false) → t.r R.FLD_TEST_STAT_RESULT = 2
                  ∧ t.lan.testDue[p.target] = some t.tb ∧ t.lan.testStep[p.target] = p.step)
              ∧ (p.differ = false → q.abandoned = false → q.on = true → p.sampled = true →
                  t.r R.FLD_TEST_STAT_TARGET = p.target.val ∧ t.r R.FLD_TEST_STAT_STEP = p.step.toNat ∧ t.r R.FLD_TEST_STAT_NEW = 1
                  ∧ (testFaults p = [] → t.r R.FLD_TEST_STAT_RESULT = 0 ∧ t.fld.soOk = s.fld.soOk ∧ t.fld.queue = s.fld.queue)
                  ∧ (testFaults p ≠ [] → t.r R.FLD_TEST_STAT_RESULT = 1)
                  ∧ ∀ c ∈ testFaults p, Queued t.fld c (32 + p.target.val)
                      ∧ (c = S.FLD_LEG_ON ∨ c = S.FLD_STUCK → t.fld.soOk.getLsbD p.target.val = false)))))
    ∧ (∀ (s : State),
      (s.fldRuns = true →
        (∀ (o : Fin 20) (a : Nat), s.fld.rbOnSince[o] = some a → s.fld.stuckHeld.getLsbD o.val = false →
          ∃ t, exec (.stuckTimerExpire o) s = .next t ∧ OnlyChanges [.tb, .edge, .fld] s t ∧ t.tb = (s.at (a + s.fld.toff o.val * ms)).tb
            ∧ t.fld.soOk = putBit s.fld.soOk o.val false ∧ Queued t.fld S.FLD_STUCK (32 + o.val))
        ∧ (∀ (o : Fin 20) (a : Nat), s.fld.rbOffSince[o] = some a →
          ∃ t, exec (.outputOvlTimer o) s = .next t ∧ OnlyChanges [.tb, .edge, .fld, .regs, .lan] s t ∧ t.tb = (s.at (a + ms)).tb
            ∧ t.fld.clamp = putBit s.fld.clamp o.val true ∧ t.fld.expOn.getLsbD o.val = false ∧ Queued t.fld S.FLD_OVL (32 + o.val))
        ∧ ∀ g : Fin 2,
          (s.pwr.fsOk.getLsbD g.val = true → ∃ t, exec (.groupOvlTimer g) s = .next t ∧ OnlyChanges [.fld, .regs, .lan] s t
            ∧ t.fld.clamp = s.fld.clamp ||| (grpOuts g &&& 0x0FFFF) ∧ t.fld.expOn &&& (grpOuts g &&& 0x0FFFF) = 0
            ∧ Queued t.fld S.FLD_GRP_OVL (0xFE + g.val))
          ∧ (s.fld.cfgLoaded = true → s.fld.low.getLsbD g.val = false → ∃ t, exec (.fsLowEnter g) s = .next t ∧ OnlyChanges [.fld] s t
            ∧ t.fld.low = putBit s.fld.low g.val true ∧ t.fld.sag = s.fld.sag ∧ Queued t.fld S.FLD_LOW (0xFE + g.val))
          ∧ exec (.fsLowLeave g) s = .next { s with fld := { s.fld with low := putBit s.fld.low g.val false } }
          ∧ (s.fld.cfgLoaded = true → s.fld.sag.getLsbD g.val = false → ∃ t, exec (.fsSag g) s = .next t
            ∧ OnlyChanges [.fld, .regs, .lan] s t ∧ t.fld.sag = putBit s.fld.sag g.val true ∧ t.fld.expOn &&& grpOuts g = 0
            ∧ Queued t.fld S.FLD_SAG (0xFE + g.val)))
      ∧ (∀ g : Fin 2, s.pwr.fsOk.getLsbD g.val = true →
        ∃ t, exec (.fsMissing g) s = .next t ∧ OnlyChanges [.pwr, .fld, .regs, .lan] s t
          ∧ t.pwr = { s.pwr with fsOk := putBit s.pwr.fsOk g.val false }
          ∧ (s.fld.cfgLoaded = true → s.pwr.fsOk.getLsbD (1 - g).val = false → t.fld.gone = 3 ∧ t.fld.expOn = 0)
          ∧ (s.fld.cfgLoaded = true → s.pwr.fsOk.getLsbD (1 - g).val = true → t.fld.expOn &&& grpOuts g = 0
              ∧ (s.fld.gone.getLsbD g.val = false →
                  t.fld.gone = putBit s.fld.gone g.val true ∧ Queued t.fld S.FLD_MISSING (0xFE + g.val))))
      ∧ (∀ g : Fin 2, exec (.fieldSupplyReturn g) s = .next { s with pwr := { s.pwr with fsOk := putBit s.pwr.fsOk g.val true } }))

/-! ### Safe network -/

/-- Port p is in a path state. -/
def PathIs (s : State) (p : Fin 2) (st : PathState) : Prop := s.net.ports[p].st = st

/-- The frame check sequence of a received Ethernet frame passes and its line coding is sound. -/
def EthSound (e : EthFrame) : Prop := e.fcs = crc32 (ethBytes e.dst e.src e.tag e.etype e.payload) ∧ e.violation = false

/-- Length of an Ethernet frame in bytes, from its destination address to its frame check sequence. -/
def ethLen (e : EthFrame) : Nat := 18 + (if e.tag.isSome = true then 4 else 0) + e.payload.length

/-- A network path: a link that comes up is qualified and then used; a path that is lost, silent or down reports NET.PATH with its
cause; a LOST path is qualified again after 100 ms; a connection whose data are too old at a scan boundary is LOST with NET.CONN, and
reads as not valid in every lane's map (R388, R404, R405, R408). Ethernet frames are filtered and counted at their port; a Dravvex frame on a path in use goes to the exchange buffer, on another it
is checked and a violation counted; clause 22 management is one access at a time (R387, R390, R402, R408). A frame shorter than the limit
is discarded uncounted by the model's choice (log entry 81). -/
def Obligations.Network : Prop :=
  (∀ (s : State) (p : Fin 2), s.dom 6 = true →
      (∀ fd : Bool, s.net.ports[p].dead = false → ∃ t, exec (.netLinkUp p fd) s = .next t ∧ OnlyChanges [.net] s t
        ∧ t.net.ports[p].sync = true ∧ t.net.ports[p].anDone = s.rb R.NET_PORT_CFG_AN p
        ∧ (PathIs s p .down → PathIs t p (if s.rb R.NET_PORT_CFG_AN p = true ∧ fd = false then .down else .qual)
            ∧ t.net.ports[p].cleanAt = s.tb)
        ∧ (¬PathIs s p .down → PathIs t p s.net.ports[p].st ∧ t.net.ports[p].cleanAt = s.net.ports[p].cleanAt)
        ∧ t.net.ports[1 - p] = s.net.ports[1 - p] ∧ t.net.conns = s.net.conns)
      ∧ (PathIs s p .up → ∃ t, exec (.netLinkDown p) s = .next t ∧ OnlyChanges (.net :: raiseParts) s t ∧ PathIs t p .down
        ∧ t.net.ports[p].sync = false ∧ t.net.ports[p].cause = 1 ∧ t.raised S.NET_PATH = true ∧ t.net.conns = s.net.conns)
      ∧ (¬PathIs s p .up → ∃ t, exec (.netLinkDown p) s = .next t ∧ OnlyChanges [.net] s t ∧ PathIs t p .down
        ∧ t.net.ports[p].sync = false)
      ∧ (∀ due, PathIs s p .qual → due = s.net.ports[p].cleanAt + s.r R.NET_QUAL_MS * ms → s.comes due = true →
          (∀ n : Fin 32, s.net.conns[n].st = .open → ∃ e, s.net.conns[n].eqAt[p] = some e ∧ (s.at due).tb ≤ e + connWd s n.val) →
        ∃ t, exec (.netQualDone p) s = .next t ∧ OnlyChanges [.tb, .edge, .net] s t ∧ PathIs t p .up ∧ t.tb = (s.at due).tb
          ∧ t.net.ports[p].upAt = t.tb ∧ t.net.ports[1 - p] = s.net.ports[1 - p] ∧ t.net.conns = s.net.conns)
      ∧ (∀ due, PathIs s p .lost → s.net.ports[p].sync = true → due = s.net.ports[p].cleanAt + 100 * ms → s.comes due = true →
        ∃ t, exec (.netLostRecover p) s = .next t ∧ OnlyChanges [.tb, .edge, .net] s t ∧ PathIs t p .qual ∧ t.tb = (s.at due).tb
          ∧ t.net.ports[p].cleanAt = t.tb ∧ t.net.conns = s.net.conns)
      ∧ (∀ (n : Fin 32) (b due : Nat), PathIs s p .up → s.net.conns[n].st = .open → s.net.conns[n].pathAt[1 - p] = some b →
          due = max (s.net.conns[n].pathAt[p].getD 0) (max s.net.ports[p].upAt s.net.conns[n].openedAt) + connWd s n.val →
          s.comes due = true → (s.at due).tb ≤ b + connWd s n.val →
        ∃ t, exec (.netPathSilence p n) s = .next t ∧ OnlyChanges (.tb :: .edge :: .net :: raiseParts) s t ∧ PathIs t p .lost
          ∧ t.net.ports[p].cause = 3 ∧ t.raised S.NET_PATH = true ∧ t.tb = (s.at due).tb)
      ∧ (∀ (n : Fin 32), s.lan.run = true → s.lan.phase = 1 → s.net.conns[n].ok = true → s.net.conns[n].st = .open →
          (∀ a, s.net.conns[n].ts = some a → a + connWd s n.val < s.lan.boundary) →
        ∃ t, exec (.connWatchdogExpire n) s = .next t ∧ OnlyChanges (.net :: .lan :: raiseParts) s t
          ∧ t.net.conns[n].st = .lost ∧ t.net.conns[n].ok = false ∧ t.net.conns[n].close.isSome = true ∧ t.raised S.NET_CONN = true
          ∧ (t.r R.NET_CONN_OK_OK).testBit n.val = false
          ∧ (∀ l, (t.lan.mapOf l).bits.getLsbD (168 + n.val) = false
              ∧ ∀ j, j < 4 → mread 0 (t.lan.mapOf l).words (256 + 4 * n.val + j) = 0)
          ∧ t.r R.NET_CONN_CNT_LOSSES n.val = min (s.r R.NET_CONN_CNT_LOSSES n.val + 1) 255
          ∧ ∀ m : Fin 32, m ≠ n → t.net.conns[m] = s.net.conns[m]))
    ∧ (∀ (s : State) (p : Fin 2) (e : EthFrame), s.dom 6 = true → s.net.ports[p].st ≠ .down →
      (¬EthSound e → ∃ t, exec (.ethFrameReceive p e) s = .next t ∧ OnlyChanges [.regs] s t
        ∧ t.r R.NET_PORT_ERR_FCS p.val = min (s.r R.NET_PORT_ERR_FCS p.val + 1) 65535)
      ∧ (EthSound e → ethLen e < 64 → exec (.ethFrameReceive p e) s = .next s)
      ∧ (EthSound e → 64 ≤ ethLen e →
        (e.etype = 0x8808 → ∃ t, exec (.ethFrameReceive p e) s = .next t ∧ OnlyChanges [.regs] s t
          ∧ t.r R.NET_PORT_IGN_PAUSE p.val = min (s.r R.NET_PORT_IGN_PAUSE p.val + 1) 65535)
        ∧ (e.etype ≠ 0x8808 →
            (e.dst ≠ Config.mac p ∨ e.etype.toNat ≠ s.r R.NET_ETYPE_ETYPE ∨ 1522 < ethLen e ∨ e.payload.length < 36) →
          ∃ t, exec (.ethFrameReceive p e) s = .next t ∧ OnlyChanges [.regs] s t
            ∧ t.r R.NET_PORT_IGN_FOREIGN p.val = min (s.r R.NET_PORT_IGN_FOREIGN p.val + 1) 65535)
        ∧ (e.etype ≠ 0x8808 → e.dst = Config.mac p → e.etype.toNat = s.r R.NET_ETYPE_ETYPE → ethLen e ≤ 1522 → 36 ≤ e.payload.length →
          ∃ t, exec (.ethFrameReceive p e) s = .next t ∧ OnlyChanges (.net :: raiseParts) s t
            ∧ (PathIs s p .up → t.net.exch = s.net.exch ++ [(p, bytesWords (e.payload.take 36), s.tb)])
            ∧ (¬PathIs s p .up → t.net.exch = s.net.exch
              ∧ (∀ k n, checkCopy s p (bytesWords (e.payload.take 36)) s.tb = .bad k n → t.raised S.NET_FRAME = true
                  ∧ t.r R.NET_PORT_ERR_VIOL p.val = min (s.r R.NET_PORT_ERR_VIOL p.val + 1) 65535
                  ∧ (k = 4 → t.raised S.NET_IDENT = true) ∧ t.net.ports[p].cleanAt = s.tb))))
      ∧ (∀ val : BitVec 32, s.lands 6 = true →
        (val.getLsbD 31 = true → s.rb R.NET_MDIO_BUSY = false → ∃ t, exec (.mdioGo val) s = .next t
          ∧ OnlyChanges [.regs, .net, .tx] (s.order 6) t ∧ RegsBut [0x60050] s.regs t.regs
          ∧ t.tx = Tx.mdio val :: s.tx ∧ t.r R.NET_MDIO_BUSY = 1 ∧ t.net = { s.net with mdio := true })
        ∧ ((val.getLsbD 31 = false ∨ s.rb R.NET_MDIO_BUSY = true) → ∃ t, exec (.mdioGo val) s = .next t
          ∧ OnlyChanges [.regs] (s.order 6) t ∧ RegsBut [0x60050] s.regs t.regs ∧ t.r R.NET_MDIO_BUSY = s.r R.NET_MDIO_BUSY
          ∧ t.r R.NET_MDIO_DATA = bitsOf val.toNat 15 0))
      ∧ (∀ data : BitVec 16, s.net.mdio = true → ∃ t, exec (.mdioDone data) s = .next t ∧ OnlyChanges [.regs, .net] s t
        ∧ RegsBut [0x60050] s.regs t.regs ∧ t.r R.NET_MDIO_BUSY = 0 ∧ t.net = { s.net with mdio := false }
        ∧ t.r R.NET_MDIO_DATA = (if s.rb R.NET_MDIO_OP = true then s.r R.NET_MDIO_DATA else data.toNat)))

/-! ### Osrin ring -/

/-- A frame that a link takes: its CRC passes, its TYPE and its number of words are those given (R416, R418). -/
def OsrGood (s : State) (p : Fin 2) (typ words : Nat) (f : Frame) : Prop :=
  s.ringed = true ∧ s.osr.links[p].sync = true ∧ frameGood f = true ∧ fw f 0 % 16 = typ ∧ f.length = words

/-- The delay field of a link after a round trip in tenths of ns: (t - 1,000 ns) / 2 (R417). -/
def dlyOf (rtt : Nat) : BitVec 8 := BitVec.ofNat 8 (min ((rtt - 10000) / 20) 255)

/-- An Osrin link: synchronisation starts its training; a HELLO is answered; an answer that fits brings the link UP with its measured
delay, one from the wrong device or too far raises OSR.WIRING, one of other settings OSR.MATCH, and another class table OSR.CLS; in UP
the round trip is measured by a HELLO; a loss of synchronisation, and frames dropped up to the limit, take it out of UP with OSR.LINK;
after 100 ms in LOST it trains again (R414, R417, R418). -/
def Obligations.OsrinLinks : Prop :=
  ∀ (s : State) (p : Fin 2), s.ringed = true →
    (s.osr.links[p].dead = false → ∃ t, exec (.osrSyncGain p) s = .next t ∧ OnlyChanges [.osr] s t
      ∧ t.osr.links[p] = { s.osr.links[p] with
          sync := true, st := if s.osr.links[p].st = .down then .train else s.osr.links[p].st }
      ∧ t.osr.links[1 - p] = s.osr.links[1 - p])
    ∧ (s.osr.links[p].sync = true → s.osr.links[p].st = .up → ∃ t, exec (.osrSyncLoss p) s = .next t
      ∧ OnlyChanges (.osr :: raiseParts) s t ∧ t.osr.links[p].st = .down ∧ t.osr.links[p].cause = 1 ∧ t.osr.links[p].sync = false
      ∧ t.raised S.OSR_LINK = true)
    ∧ (s.osr.links[p].sync = true → s.osr.links[p].st ≠ .up → ∃ t, exec (.osrSyncLoss p) s = .next t ∧ OnlyChanges [.osr] s t
      ∧ t.osr.links[p] = { s.osr.links[p] with sync := false, st := if s.osr.links[p].st = .lost then .lost else .down })
    ∧ (∀ due, s.osr.links[p].st = .lost → due = s.osr.links[p].lostAt + 100 * ms → s.comes due = true →
      ∃ t, exec (.osrLostExpire p) s = .next t ∧ OnlyChanges [.tb, .edge, .osr] s t
        ∧ t.osr.links[p].st = (if s.osr.links[p].sync = true then .train else .down) ∧ t.tb = (s.at due).tb)
    ∧ (s.osr.links[p].st = .train → exec (.helloSend p) s = .next { s with tx := Tx.osr p (helloFrame s false) :: s.tx })
    ∧ (∀ (f : Frame) (rtt : Nat), OsrGood s p 1 6 f → helloBad f = false →
      (s.osr.links[p].st = .train → bitsOf (fw f 0) 12 12 = 0 → ∃ t, exec (.helloReceive p f rtt) s = .next t
        ∧ OnlyChanges [.osr, .tx] s t ∧ t.tx = Tx.osr p (helloFrame s true) :: s.tx ∧ t.osr.links[p].st = .train)
      ∧ (s.osr.links[p].st = .up → ∃ t, exec (.helloReceive p f rtt) s = .next t ∧ OnlyChanges (.osr :: raiseParts) s t
        ∧ t.osr.links[p].st = .up ∧ t.osr.links[p].peerCls = some (f.getD 4 0, clsCrc s)
        ∧ (bitsOf (fw f 0) 12 12 = 0 → Tx.osr p (helloFrame s true) ∈ t.tx)
        ∧ (bitsOf (fw f 0) 12 12 = 1 → t.osr.links[p].dly = dlyOf rtt)
        ∧ (f.getD 4 0 ≠ clsCrc s → s.osr.links[p].peerCls ≠ some (f.getD 4 0, clsCrc s) → t.raised S.OSR_CLS = true))
      ∧ (s.osr.links[p].st = .train → bitsOf (fw f 0) 12 12 = 1 →
        ∃ t, exec (.helloReceive p f rtt) s = .next t ∧ OnlyChanges (.osr :: raiseParts) s t ∧ t.osr.links[p].dly = dlyOf rtt
          ∧ (bitsOf (fw f 0) 6 4 = peerId s p → bitsOf (fw f 0) 10 8 = s.r R.OSR_ID_NDEV → bitsOf (fw f 1) 20 0 = s.period →
              bitsOf (fw f 2) 11 0 = s.r R.OSR_CFG_RSEND → rtt - 10000 ≤ 5100 →
              t.osr.links[p].st = .up ∧ t.osr.links[p].window = false
              ∧ (f.getD 4 0 = clsCrc s → OnlyChanges [.osr] s t) ∧ (f.getD 4 0 ≠ clsCrc s → t.raised S.OSR_CLS = true))
          ∧ ((bitsOf (fw f 0) 6 4 ≠ peerId s p ∨ 5100 < rtt - 10000) → t.osr.links[p].st = .train ∧ t.raised S.OSR_WIRING = true)
          ∧ ((bitsOf (fw f 0) 10 8 ≠ s.r R.OSR_ID_NDEV ∨ bitsOf (fw f 1) 20 0 ≠ s.period
                ∨ bitsOf (fw f 2) 11 0 ≠ s.r R.OSR_CFG_RSEND) → t.osr.links[p].st = .train ∧ t.raised S.OSR_MATCH = true)))
    ∧ (∀ rtt : Nat, s.osr.links[p].st = .up → ∃ t, exec (.osrRttMeasure p rtt) s = .next t ∧ OnlyChanges (.osr :: raiseParts) s t
      ∧ t.osr.links[p].dly = dlyOf rtt ∧ t.osr.links[p].st = .up ∧ Tx.osr p (helloFrame s false) ∈ t.tx
      ∧ ((∀ c, s.osr.links[p].peerCls = some c → c.1 = clsCrc s) → OnlyChanges [.osr, .tx] s t))
    ∧ (∀ crc : Bool, s.osr.links[p].sync = true → ∃ t, exec (.osrFrameDrop p crc) s = .next t ∧ OnlyChanges (.osr :: raiseParts) s t
      ∧ t.raised S.OSR_FRAME = true
      ∧ (crc = true → t.r R.OSR_LINK_ERR_CRC p.val = min (s.r R.OSR_LINK_ERR_CRC p.val + 1) 65535)
      ∧ (crc = false → t.r R.OSR_LINK_ERR_VIOL p.val = min (s.r R.OSR_LINK_ERR_VIOL p.val + 1) 65535)
      ∧ (s.osr.links[p].st = .up → s.r R.OSR_ERR_LIM_LIM ≤ min (s.osr.links[p].consec.toNat + 1) 255 →
          t.osr.links[p].st = .lost ∧ t.osr.links[p].cause = 2 ∧ t.raised S.OSR_LINK = true)
      ∧ (min (s.osr.links[p].consec.toNat + 1) 255 < s.r R.OSR_ERR_LIM_LIM ∨ s.osr.links[p].st ≠ .up →
          t.osr.links[p].st = s.osr.links[p].st ∧ t.osr.links[p].consec.toNat = min (s.osr.links[p].consec.toNat + 1) 255))

/-- A TIME frame of the only source that the device has: UP, with LOCK, every field in its range, and no slot length announced. -/
def TimeOfSource (s : State) (p : Fin 2) (f : Frame) : Prop :=
  OsrGood s p 2 12 f ∧ timeBad s f = false ∧ s.osr.links[p].st = .up ∧ bitsOf (fw f 0) 12 12 = 1 ∧ s.osr.links[1 - p].time = none
    ∧ fw f 8 = 0 ∧ fw f 9 = 0

/-- The common timebase: TIME frames leave on both links; the master's timebase follows none; a follower that has taken no step takes
the estimate of its source whole, and later slews to it by a tick a frame and locks after 100 frames without error, or not at all from
an error above 10 µs; the lock is lost 100 µs after the latest TIME frame; marks and their supervision (R419-R423). Parts of marks between neighbours and safety words: a part for this device enters staging behind those before it, a frame for
another device is passed on unchanged; an answer, or none within 150 µs, settles the part, and a late answer is a dropped frame; a safety
word is kept and relayed once with its hop count advanced (R425-R428, R433). -/
def Obligations.OsrinTimebaseAndFrames : Prop :=
  (∀ (s : State), s.ringed = true →
      (exec .timeSend s = .next { s with tx := Tx.osr 1 (timeFrame s) :: Tx.osr 0 (timeFrame s) :: s.tx })
      ∧ (∀ (p : Fin 2) (f : Frame), s.sys.leave = none →
        (s.ringId = 0 → OsrGood s p 2 12 f → timeBad s f = false → s.osr.links[p].st = .up → ∃ t, exec (.timeReceive p f) s = .next t
          ∧ OnlyChanges [.osr] s t ∧ t.osr.links[p].time = some (timeInfo f s.tb) ∧ t.osr.links[p].consec = 0)
        ∧ (∀ est : Nat, s.ringId ≠ 0 → s.pwr.refOk = true → s.sys.step ≠ 15 → TimeOfSource s p f →
            est = (10 * (fw f 1 + 2 ^ 32 * fw f 2) + s.osr.links[p].dly.toNat + 5) / 10 →
          (s.osr.stepped = false → s.lan.run = false → s.slot.run = false → ∃ t, exec (.timeReceive p f) s = .next t
            ∧ OnlyChanges [.tb, .osr, .adc, .tmr, .pwr, .cis, .cfg] s t ∧ t.tb = est ∧ t.osr.stepped = true ∧ t.osr.src = some p
            ∧ t.osr.good = 1 ∧ t.pwr.on = s.pwr.on ∧ t.cis.cells = s.cis.cells ∧ t.cfg.cur = s.cfg.cur)
          ∧ (s.osr.stepped = true → ∃ t, exec (.timeReceive p f) s = .next t ∧ OnlyChanges [.tb, .osr] s t
            ∧ t.osr.ofs = 20 * ((est : Int) - s.tb) ∧ t.osr.src = some p
            ∧ (s.osr.lock = false → s.tb + 1000 < est ∨ est + 1000 < s.tb → t.tb = s.tb ∧ t.osr.stuck = true ∧ t.osr.lock = false)
            ∧ ((s.osr.lock = true ∨ s.tb ≤ est + 1000 ∧ est ≤ s.tb + 1000) →
                (s.tb < est → t.tb = s.tb + 1 ∧ t.osr.good = 0 ∧ t.osr.skip = 0)
                ∧ (est < s.tb → t.tb = s.tb ∧ t.osr.good = 0 ∧ t.osr.skip = 1)
                ∧ (est = s.tb → t.tb = s.tb ∧ t.osr.good = s.osr.good + 1 ∧ t.osr.skip = 0
                    ∧ (s.osr.stuck = false → 99 ≤ s.osr.good → t.osr.lock = true))
                ∧ (s.osr.lock = false → (s.osr.stuck = true ∨ est ≠ s.tb ∨ s.osr.good < 99) → t.osr.lock = false)))))
      ∧ (∀ due, s.ringId ≠ 0 → s.osr.lock = true → due = lastTime s + 100 * us → s.comes due = true →
        ∃ t, exec .timeLockTimeout s = .next t ∧ OnlyChanges (.tb :: .edge :: .osr :: raiseParts) s t
          ∧ t.osr.lock = false ∧ t.osr.good = 0 ∧ t.raised S.OSR_TLOCK = true ∧ t.tb = (s.at due).tb ∧ exec .timeLockTimeout t = .next t)
      ∧ (s.pwr.refOk = true → ∃ t, exec .ringSyncMark s = .next t ∧ OnlyChanges [.tb, .edge, .osr, .tx] s t ∧ t.tx = Tx.sync :: s.tx
        ∧ t.tb % 100000 = 0 ∧ nextEdge s.tb s.osr.markAt ≤ t.tb ∧ t.tb < nextEdge s.tb s.osr.markAt + 100000 ∧ t.osr.markAt = some t.tb)
      ∧ (∀ d : Fin 10, (∃ k : Int, ((10 * s.tb + d.val : Int) - (1000000 * k + s.r R.OSR_SYNC_DLY_NS)).natAbs ≤ 100) →
        exec (.ringSyncEdge (some d)) s = .next { s with osr := { s.osr with syncFail := 0 } })
      ∧ (∀ o : Option (Fin 10),
          (∀ d, o = some d → ∀ k : Int, 100 < ((10 * s.tb + d.val : Int) - (1000000 * k + s.r R.OSR_SYNC_DLY_NS)).natAbs) →
        (s.osr.syncFail < 2 → exec (.ringSyncEdge o) s = .next { s with osr := { s.osr with syncFail := s.osr.syncFail + 1 } })
        ∧ (2 ≤ s.osr.syncFail → ∃ t, exec (.ringSyncEdge o) s = .next t ∧ OnlyChanges (.osr :: raiseParts) s t
            ∧ t.osr.syncFail = 0 ∧ t.raised S.OSR_TSKEW = true)))
    ∧ (∀ (s : State) (p : Fin 2) (f : Frame),
      (s.osr.links[p].st = .up → OsrGood s p 3 10 f → 1 ≤ bitsOf (fw f 0) 15 12 → bitsOf (fw f 0) 15 12 ≤ 4 →
        bitsOf (fw f 0) 6 4 < s.ndev → bitsOf (fw f 0) 10 8 < s.ndev → bitsOf (fw f 0) 6 4 ≠ s.ringId →
        (∀ side, bitsOf (fw f 0) 10 8 = s.ringId → sideOf s (bitsOf (fw f 0) 6 4) = some side → s.dom 4 = true →
          ∃ t g, exec (.fwdReceive p f) s = .next t ∧ OnlyChanges [.osr, .dsc] s t ∧ t.dsc.flights = s.dsc.flights ++ [g]
            ∧ g.raw = fwdDesc f ∧ g.phase = .staged ∧ g.peer = some (side, BitVec.ofNat 16 (fw f 1))
            ∧ g.peerDeadline = fw f 7 + 2 ^ 32 * fw f 8)
        ∧ (bitsOf (fw f 0) 10 8 ≠ s.ringId → ∃ t, exec (.fwdReceive p f) s = .next t ∧ OnlyChanges [.osr, .tx] s t
            ∧ t.tx = if s.osrUp (1 - p) = true then Tx.osr (1 - p) f :: s.tx else s.tx))
      ∧ (∀ (st : Status), s.osr.links[p].st = .up → OsrGood s p 4 6 f → bitsOf (fw f 0) 6 4 < s.ndev → bitsOf (fw f 0) 6 4 ≠ s.ringId →
        bitsOf (fw f 0) 10 8 < s.ndev → statusOf (bitsOf (fw f 0) 23 16) = some st →
        (bitsOf (fw f 0) 10 8 = s.ringId →
          (∀ g : Flight, awaiting s (BitVec.ofNat 16 (fw f 1)) = some g → ∃ t, exec (.ansReceive p f) s = .next t
            ∧ OnlyChanges [.osr, .dsc] s t ∧ t.dsc.flights.length = s.dsc.flights.length
            ∧ ∀ h ∈ t.dsc.flights, h.id = g.id → ∀ w, h.fwd = some w → w.answer = some (st, fw f 2 + 2 ^ 32 * fw f 3))
          ∧ (awaiting s (BitVec.ofNat 16 (fw f 1)) = none → ∃ t, exec (.ansReceive p f) s = .next t
            ∧ OnlyChanges (.osr :: raiseParts) s t ∧ t.raised S.OSR_FRAME = true))
        ∧ (bitsOf (fw f 0) 10 8 ≠ s.ringId → ∃ t, exec (.ansReceive p f) s = .next t ∧ OnlyChanges [.osr, .tx] s t
            ∧ t.tx = if s.osrUp (1 - p) = true then Tx.osr (1 - p) f :: s.tx else s.tx))
      ∧ (∀ (fseq : BitVec 16) (g : Flight) (due : Nat), awaiting s fseq = some g → due = g.tA + 150 * us → s.comes due = true →
        ∃ t, exec (.fwdAnsTimeout fseq) s = .next t ∧ OnlyChanges [.tb, .edge, .dsc, .regs] s t ∧ t.tb = (s.at due).tb
          ∧ t.r R.OSR_FWD_CNT_FAIL = min (s.r R.OSR_FWD_CNT_FAIL + 1) 65535
          ∧ ∀ h ∈ t.dsc.flights, h.id = g.id → ∀ w, h.fwd = some w → w.answer = some (.forwardFail, 0))
      ∧ (s.osr.links[p].st = .up → OsrGood s p 5 8 f → bitsOf (fw f 0) 6 4 < s.ndev → bitsOf (fw f 0) 6 4 ≠ s.ringId →
        1 ≤ bitsOf (fw f 0) 10 8 → bitsOf (fw f 0) 10 8 < s.ndev →
        ∃ t, exec (.rswReceive p f) s = .next t ∧ OnlyChanges [.osr, .lan, .tx] s t
          ∧ (∃ o : Fin 8, o.val = bitsOf (fw f 0) 6 4 ∧ t.lan.ringIn = s.lan.ringIn ++ [(o, f)])
          ∧ t.tx = if bitsOf (fw f 0) 10 8 + 1 < s.ndev
                ∧ s.lan.ringRelayed.contains (p, BitVec.ofNat 3 (bitsOf (fw f 0) 6 4), BitVec.ofNat 16 (bitsOf (fw f 0) 31 16)) = false
              then Tx.osr (1 - p) (nextHop f) :: s.tx else s.tx))

/-! ### Valve ports -/

/-- A frame that a port takes as one of its type: in synchronisation, of the words of its type, its CRC passes (R173, R174, R201). -/
def PortGood (s : State) (n : Fin 16) (typ words : Nat) (f : Frame) : Prop :=
  s.dom 7 = true ∧ s.vpt.ports[n].sync = true ∧ f.length = words ∧ frameGood f = true ∧ fw f 0 % 16 = typ

/-- Discovery of a valve port: DISCOVER with the next DSEQ; an IDENT whose identity is accepted brings CONFIG with a fresh CFGID and the
measured delay, another raises VPT.IDENT, and too long a line VPT.CABLE; a CONFIG_ACK that matches makes the port READY, and one of
another CFGID is dropped; without one DISCOVER goes out again (R182-R185). The line of a valve port: synchronisation, a dropped frame that is counted with VPT.FRAME, and the HALT that a READY port owes when
the sluice has closed (R173, R196, R201). -/
def Obligations.PortDiscoveryAndLine : Prop :=
  (∀ (s : State) (n : Fin 16),
      (s.portOn n = true → (s.vpt.ports[n].st = .off ∨ s.vpt.ports[n].st = .search ∨ s.vpt.ports[n].st = .lost ∧ s.rb R.VPT_CTRL_AUTO = true) →
        ∃ t, exec (.discoverSend n) s = .next t ∧ OnlyChanges [.vpt, .tx] s t ∧ t.vpt.ports[n].st = .search
          ∧ t.vpt.ports[n].dseq = s.vpt.ports[n].dseq + 1 ∧ t.tx = Tx.port n (discoverFrame n.val (s.vpt.ports[n].dseq + 1)) :: s.tx
          ∧ ∀ m : Fin 16, m ≠ n → t.vpt.ports[m] = s.vpt.ports[m])
      ∧ (∀ (f : Frame) (rtt : Nat), PortGood s n 9 6 f → s.vpt.ports[n].st = .search →
        (identOk s n f = true → (rtt - 10000 + 10) / 20 ≤ 255 → ∃ t, exec (.identReceive n f rtt) s = .next t
          ∧ OnlyChanges [.vpt, .regs, .tx] s t ∧ t.vpt.ports[n].st = .config ∧ t.vpt.ports[n].cfgid = s.vpt.ports[n].cfgid + 1
          ∧ t.vpt.ports[n].nvalve.toNat = bitsOf (fw f 0) 15 8 ∧ t.vpt.ports[n].cable.toNat = (rtt - 10000 + 10) / 20
          ∧ t.r R.VPT_PORT_ID_MPRODUCT n.val = bitsOf (fw f 1) 31 16 ∧ t.r R.VPT_PORT_ID_MVENDOR n.val = bitsOf (fw f 1) 15 0
          ∧ t.r R.VPT_PORT_SER_SERIAL n.val = fw f 2
          ∧ t.tx = Tx.port n (configFrame n.val t.vpt.ports[n].cfgid s.slot.len t.vpt.ports[n].cable) :: s.tx)
        ∧ (identOk s n f = true → 255 < (rtt - 10000 + 10) / 20 → ∃ t, exec (.identReceive n f rtt) s = .next t
          ∧ OnlyChanges raiseParts s t ∧ t.raised S.VPT_CABLE = true)
        ∧ (identOk s n f = false → ∃ t, exec (.identReceive n f rtt) s = .next t ∧ OnlyChanges raiseParts s t
          ∧ t.raised S.VPT_IDENT = true))
      ∧ (∀ f : Frame, PortGood s n 10 2 f → s.vpt.ports[n].st = .config →
        (bitsOf (fw f 0) 31 24 = s.vpt.ports[n].cfgid.toNat → ∃ t, exec (.configAckReceive n f) s = .next t ∧ OnlyChanges [.vpt] s t
          ∧ t.vpt.ports[n].mstate.toNat = bitsOf (fw f 0) 6 4
          ∧ (bitsOf (fw f 0) 23 16 = n.val → bitsOf (fw f 0) 6 4 = 1 → t.vpt.ports[n].st = .ready ∧ t.vpt.ports[n].consec = 0)
          ∧ ((bitsOf (fw f 0) 23 16 ≠ n.val ∨ bitsOf (fw f 0) 6 4 ≠ 1) → t.vpt.ports[n].st = .config))
        ∧ (bitsOf (fw f 0) 31 24 ≠ s.vpt.ports[n].cfgid.toNat → ∃ t, exec (.configAckReceive n f) s = .next t
          ∧ OnlyChanges raiseParts s t ∧ t.raised S.VPT_FRAME = true))
      ∧ (s.portOn n = true → s.vpt.ports[n].st = .config → ∃ t, exec (.configAckTimeout n) s = .next t ∧ OnlyChanges [.vpt, .tx] s t
        ∧ t.vpt.ports[n].st = .search ∧ t.tx = Tx.port n (discoverFrame n.val (s.vpt.ports[n].dseq + 1)) :: s.tx))
    ∧ (∀ (s : State) (n : Fin 16), s.dom 7 = true →
      (∃ t, exec (.vpSyncLoss n) s = .next t ∧ OnlyChanges [.vpt] s t ∧ t.vpt.ports[n] = { s.vpt.ports[n] with sync := false }
        ∧ ∀ m : Fin 16, m ≠ n → t.vpt.ports[m] = s.vpt.ports[m])
      ∧ (∃ t, exec (.vpSyncGain n) s = .next t ∧ OnlyChanges [.vpt] s t ∧ t.vpt.ports[n] = { s.vpt.ports[n] with sync := true }
        ∧ ∀ m : Fin 16, m ≠ n → t.vpt.ports[m] = s.vpt.ports[m])
      ∧ (s.vpt.ports[n].sync = true →
        (∃ t, exec (.vpFrameDrop n true) s = .next t ∧ OnlyChanges raiseParts s t ∧ t.raised S.VPT_FRAME = true
          ∧ t.r R.VPT_PORT_ERR_CRC n.val = min (s.r R.VPT_PORT_ERR_CRC n.val + 1) 65535)
        ∧ (∃ t, exec (.vpFrameDrop n false) s = .next t ∧ OnlyChanges raiseParts s t ∧ t.raised S.VPT_FRAME = true
          ∧ t.r R.VPT_PORT_ERR_VIOL n.val = min (s.r R.VPT_PORT_ERR_VIOL n.val + 1) 65535))
      ∧ (s.vpt.ports[n].sync = false → ∀ crc, exec (.vpFrameDrop n crc) s = .next s)
      ∧ (∃ t, exec .haltSend s = .next t ∧ OnlyChanges [.vpt, .tx] s t
        ∧ (s.vpt.ports[n].st = .ready → s.vpt.ports[n].halt = true →
            Tx.port n (haltFrame s.vpt.ports[n].seq) ∈ t.tx ∧ t.vpt.ports[n].halt = false)
        ∧ ((∀ m : Fin 16, s.vpt.ports[m].halt = false) → t.tx = s.tx) ∧ exec .haltSend t = .next t))

/-- A STATUS shows a link loss: MSTATE LOST or FAULT, or READY after two armed frames (R203). -/
def statusLoses (p : Port) (f : Frame) : Prop :=
  bitsOf (fw f 0) 6 4 = 3 ∨ bitsOf (fw f 0) 6 4 = 4 ∨ bitsOf (fw f 0) 6 4 = 1 ∧ p.armed0 = true ∧ p.armed1 = true

/-- The answer of a slot: a good STATUS shows the module's state and its coils, one in its own slot ends the run of error slots and
answers a burst request, and one that shows a link loss ends the link; one of another CFGID is dropped; no STATUS by the deadline makes
an error slot, and the limit of them in a row is a link loss (R177, R187, R199, R202-R205). Bursts: a request is taken by a READY port that offers them and otherwise refused; a BURST fills VPT_BURST_DATA and sets DONE; 256
slots without one set TIMEOUT (R199, R200). -/
def Obligations.SlotAnswersAndBursts : Prop :=
  (∀ (s : State) (n : Fin 16), s.vpt.ports[n].st = .ready →
      (∀ f : Frame, PortGood s n 11 10 f →
        (bitsOf (fw f 0) 31 24 ≠ s.vpt.ports[n].cfgid.toNat → ∃ t, exec (.statusReceive n f) s = .next t ∧ OnlyChanges raiseParts s t
          ∧ t.raised S.VPT_FRAME = true)
        ∧ (bitsOf (fw f 0) 31 24 = s.vpt.ports[n].cfgid.toNat → ∃ t, exec (.statusReceive n f) s = .next t
          ∧ OnlyChanges (.vpt :: raiseParts) s t ∧ t.vpt.ports[n].mstate.toNat = bitsOf (fw f 0) 6 4
          ∧ (∀ v, v < 128 → bitsOf t.vpt.ports[n].coil.toNat (2 * v + 1) (2 * v) = coilOf f v
              ∧ (coilOf f v ≠ 0 → bitsOf s.vpt.ports[n].coil.toNat (2 * v + 1) (2 * v) = 0 → t.raised S.VPT_COIL = true))
          ∧ (bitsOf (fw f 0) 15 8 = s.vpt.ports[n].seq.toNat → s.vpt.ports[n].await = true →
              t.vpt.ports[n].consec = 0 ∧ t.vpt.ports[n].await = false
              ∧ ∀ b, s.vpt.burst = some b → b.port = n → b.accepted = false → b.tries ≠ 0 →
                ((fw f 0).testBit 7 = true → t.vpt.burst = some { b with accepted := true })
                ∧ ((fw f 0).testBit 7 = false → b.tries < 4 → t.vpt.burst = some b)
                ∧ ((fw f 0).testBit 7 = false → 4 ≤ b.tries →
                    t.vpt.burst = none ∧ t.r R.VPT_BURST_STAT_REFUSED = 1 ∧ t.r R.VPT_BURST_STAT_BUSY = 0))
          ∧ (bitsOf (fw f 0) 15 8 ≠ s.vpt.ports[n].seq.toNat → t.vpt.ports[n].consec = s.vpt.ports[n].consec)
          ∧ (statusLoses s.vpt.ports[n] f → t.vpt.ports[n].st = .lost ∧ t.raised S.VPT_LINK = true
              ∧ t.r R.VPT_PORT_MISS_LOSSES n.val = min (s.r R.VPT_PORT_MISS_LOSSES n.val + 1) 255)
          ∧ (bitsOf (fw f 0) 6 4 = 4 → t.raised S.VPT_MOD_FAULT = true)
          ∧ (¬statusLoses s.vpt.ports[n] f → t.vpt.ports[n].st = .ready
              ∧ ((∀ v, v < 128 → coilOf f v = 0 ∨ bitsOf s.vpt.ports[n].coil.toNat (2 * v + 1) (2 * v) ≠ 0) →
                  OnlyChanges [.vpt, .regs] s t))))
      ∧ (∀ due, s.dom 7 = true → s.vpt.ports[n].await = true → due = s.slot.tick s.slot.k + 800 → s.comes due = true →
        ∃ t, exec (.statusDeadline n) s = .next t ∧ t.tb = (s.at due).tb ∧ t.vpt.ports[n].await = false
          ∧ t.vpt.ports[n].consec.toNat = min (s.vpt.ports[n].consec.toNat + 1) 255
          ∧ t.r R.VPT_PORT_MISS_SLOTS n.val = min (s.r R.VPT_PORT_MISS_SLOTS n.val + 1) 65535
          ∧ (min (s.vpt.ports[n].consec.toNat + 1) 255 < s.r R.VPT_ERR_LIM_LIM → OnlyChanges [.tb, .edge, .vpt, .regs] s t
              ∧ t.vpt.ports[n].st = .ready)
          ∧ (s.r R.VPT_ERR_LIM_LIM ≤ min (s.vpt.ports[n].consec.toNat + 1) 255 → OnlyChanges (.tb :: .edge :: .vpt :: raiseParts) s t
              ∧ t.vpt.ports[n].st = .lost ∧ t.raised S.VPT_LINK = true)))
    ∧ (∀ (s : State),
      (∀ (val : BitVec 32) (n : Fin 16) (u : State), u = s.order 6 → s.lands 3 = true → n.val = bitsOf val.toNat 3 0 →
        ∃ t, exec (.burstGo val) s = .next t ∧ OnlyChanges [.regs, .vpt] u t ∧ RegsBut [0x30010, 0x30014] s.regs t.regs
          ∧ (val.getLsbD 31 = true → s.rb R.VPT_BURST_STAT_BUSY = false → s.vpt.ports[n].st = .ready → s.vpt.ports[n].capBurst = true →
              t.r R.VPT_BURST_STAT_BUSY = 1
              ∧ t.vpt = { s.vpt with burst := some ⟨n, BitVec.ofNat 7 (bitsOf val.toNat 10 4), 0, s.slot.k, false⟩ })
          ∧ (val.getLsbD 31 = true → s.rb R.VPT_BURST_STAT_BUSY = false →
              (s.vpt.ports[n].st ≠ .ready ∨ s.vpt.ports[n].capBurst = false) →
              t.vpt = s.vpt ∧ t.r R.VPT_BURST_STAT_REFUSED = 1 ∧ t.r R.VPT_BURST_STAT_BUSY = 0)
          ∧ ((val.getLsbD 31 = false ∨ s.rb R.VPT_BURST_STAT_BUSY = true) → t.vpt = s.vpt ∧ RegsBut [0x30010] s.regs t.regs))
      ∧ (∀ (n : Fin 16) (f : Frame) (b : Burst), s.vpt.burst = some b → b.port = n → s.vpt.ports[n].st = .ready →
        PortGood s n 12 34 f →
        (bitsOf (fw f 0) 31 24 = s.vpt.ports[n].cfgid.toNat → ∃ t, exec (.burstReceive n f) s = .next t
          ∧ OnlyChanges [.regs, .vpt] s t ∧ t.vpt = { s.vpt with burst := none } ∧ t.r R.VPT_BURST_STAT_DONE = 1
          ∧ t.r R.VPT_BURST_STAT_BUSY = 0 ∧ t.r R.VPT_BURST_STAT_SEQ = bitsOf (fw f 0) 23 16
          ∧ ∀ i, i < 32 → mread 0 t.regs (0x30800 + 4 * i) = f.getD (i + 1) 0)
        ∧ (bitsOf (fw f 0) 31 24 ≠ s.vpt.ports[n].cfgid.toNat → ∃ t, exec (.burstReceive n f) s = .next t ∧ OnlyChanges raiseParts s t
          ∧ t.raised S.VPT_FRAME = true))
      ∧ (∀ b : Burst, s.vpt.burst = some b → s.dom 7 = true → b.slot + 256 ≤ s.slot.k → ∃ t, exec .burstTimeout s = .next t
          ∧ OnlyChanges [.regs, .vpt] s t ∧ t.vpt = { s.vpt with burst := none } ∧ t.r R.VPT_BURST_STAT_TIMEOUT = 1
          ∧ t.r R.VPT_BURST_STAT_BUSY = 0))

/-! ### Analog measurement and timers -/

/-- A converter can take a trigger of its injected group (R448-R450, R454, R461). -/
def InjReady (s : State) (c : Fin 2) : Prop :=
  s.adc.conv[c].coef.isSome = true ∧ s.adc.conv[c].halted = false ∧ s.adc.conv[c].cal = false ∧ s.adc.conv[c].inj = false
    ∧ s.adc.conv[c].held = false ∧ s.r R.ADC_INJ_CFG_LEN c.val ≠ 0

/-- A converter as an accepted trigger of its injected group leaves it: brought up to the present, at the first entry of the group. -/
def injStarted (s : State) (c : Fin 2) : Conv :=
  { (adcRoll c s).adc.conv[c] with inj := true, injPos := 0, free := max (adcRoll c s).adc.conv[c].free (convEdge s.tb) }

/-- Counter of the triggers that a converter has ignored. -/
def adcOvr (c : Fin 2) : RegField := if c = 0 then R.ADC_OVR_P else R.ADC_OVR_Q

/-- Triggers of the converters: a match, a host command or the lanes' scan start the injected group, a match a pass of the regular
sequence; a group that a calibration meets is held; a trigger that finds its group or pass under way is ignored, counted and reported
with ADC.TRIG_OVR; a converter that has no group, has no coefficients or is halted ignores it in silence (R447-R450, R454, R461). Results and calibrations: a result is stored clamped with its stamp; a calibration waits until its converter is quiet; a good one
gives coefficients and is counted, a bad one raises ADC.CAL, and the second in a row, or the first in Boot, halts the converter; a
reference fault halts ADC-Q and leaves ADC-P (R443, R445, R451-R457, R461). -/
def Obligations.Converters : Prop :=
  (∀ (s u : State) (c : Fin 2), s.dom 8 = true → u = s.order 6 →
      (s.adc.injDue.getLsbD c.val = true →
        (InjReady s c → ∃ t, exec (.adcInjTrigger c) s = .next t ∧ OnlyChanges [.adc] s t
          ∧ t.adc = { s.adc with conv := s.adc.conv.set c (injStarted s c), injDue := putBit s.adc.injDue c.val false })
        ∧ ((s.adc.conv[c].coef = none ∨ s.adc.conv[c].halted = true ∨ s.r R.ADC_INJ_CFG_LEN c.val = 0) →
          exec (.adcInjTrigger c) s = .next { s with adc := { s.adc with injDue := putBit s.adc.injDue c.val false } })
        ∧ (s.adc.conv[c].coef.isSome = true → s.adc.conv[c].halted = false → s.r R.ADC_INJ_CFG_LEN c.val ≠ 0 →
          (s.adc.conv[c].inj = false → s.adc.conv[c].held = false → s.adc.conv[c].cal = true →
            ∃ t, exec (.adcInjTrigger c) s = .next t ∧ OnlyChanges [.adc] s t ∧ t.adc.conv[c] = { s.adc.conv[c] with held := true })
          ∧ ((s.adc.conv[c].inj = true ∨ s.adc.conv[c].held = true) →
            ∃ t, exec (.adcInjTrigger c) s = .next t ∧ OnlyChanges (.adc :: raiseParts) s t ∧ t.adc.conv = s.adc.conv
              ∧ t.raised S.ADC_TRIG_OVR = true ∧ t.r (adcOvr c) = (s.add (adcOvr c) 1).r (adcOvr c))))
      ∧ (InjReady s c → s.lands 8 = true →
        (s.r R.ADC_INJ_CFG_TRIG c.val = 1 →
          ∃ t, exec (.adcInjGo (BitVec.ofNat 32 (2 ^ c.val))) s = .next t ∧ OnlyChanges [.adc] u t
            ∧ t.adc = { s.adc with conv := s.adc.conv.set c (injStarted u c) })
        ∧ (s.r R.ADC_INJ_CFG_TRIG c.val ≠ 1 → exec (.adcInjGo (BitVec.ofNat 32 (2 ^ c.val))) s = .next u))
      ∧ (∀ (lanes : BitVec 3) (b : State), InjReady s c → b = s.at (s.lan.boundary + s.r R.ADC_INJ_CFG_OFS_US c.val * us) →
        (s.r R.ADC_INJ_CFG_TRIG c.val = 2 → s.lan.run = true → 2 ≤ popcount (lanes &&& s.lan.svc) →
          ∃ t, exec (.adcScanTrigger c lanes) s = .next t ∧ OnlyChanges [.adc] b t
            ∧ t.adc = { s.adc with conv := s.adc.conv.set c (injStarted b c) })
        ∧ ((s.r R.ADC_INJ_CFG_TRIG c.val ≠ 2 ∨ s.lan.run = false ∨ popcount (lanes &&& s.lan.svc) < 2) →
          exec (.adcScanTrigger c lanes) s = .next s))
      ∧ (s.adc.regDue.getLsbD c.val = true → s.adc.conv[c].coef.isSome = true → s.adc.conv[c].halted = false →
        s.r R.ADC_SEQ_CFG_LEN c.val ≠ 0 →
        (s.adc.conv[c].passBusy = false → ∃ t, exec (.adcRegTrigger c) s = .next t ∧ OnlyChanges [.adc] s t
          ∧ t.adc.conv[c].passBusy = true ∧ t.adc.conv[c].pos = 0 ∧ t.adc.conv[c].pass = s.r R.ADC_SEQ_CFG_LEN c.val
          ∧ s.tb ≤ t.adc.conv[c].free ∧ t.adc.conv[1 - c] = s.adc.conv[1 - c]
          ∧ t.adc.regDue = putBit s.adc.regDue c.val false)
        ∧ (s.adc.conv[c].passBusy = true → ∃ t, exec (.adcRegTrigger c) s = .next t ∧ OnlyChanges (.adc :: raiseParts) s t
          ∧ t.adc.conv = s.adc.conv ∧ t.raised S.ADC_TRIG_OVR = true ∧ t.r (adcOvr c) = (s.add (adcOvr c) 1).r (adcOvr c))))
    ∧ (∀ (s u : State) (c : Fin 2), s.dom 8 = true → u = s.order 6 →
      (∀ (v : Int) (e : Sampled) (rest : List Sampled), (adcRoll c s).adc.conv[c].pipe = e :: rest →
        ∃ t, exec (.adcResult c v) s = .next t
          ∧ OnlyChanges [.tb, .edge, .adc, .regs, .evs] s t ∧ t.tb = (s.at e.due).tb ∧ t.adc.conv[c].pipe = rest
          ∧ t.r R.ADC_RES_VALUE c.val e.src.toNat = min v.toNat 16383 ∧ t.r R.ADC_RES_VALID c.val e.src.toNat = 1
          ∧ t.r R.ADC_RES_INJ c.val e.src.toNat = b2n e.inj ∧ t.evs = { s.evs with telTj := t.evs.telTj }
          ∧ (∃ x : AdcRes, mread none t.adc.res (32 * c.val + e.src.toNat) = some x ∧ x.value.toNat = min v.toNat 16383
              ∧ x.stamp = e.due ∧ x.inj = e.inj)
          ∧ (∀ k, k ≠ 32 * c.val + e.src.toNat → mget t.adc.res k = mget s.adc.res k))
      ∧ (∀ val : BitVec 32, s.lands 8 = true → val.getLsbD c.val = true → val.getLsbD (1 - c).val = false →
        ∃ t, exec (.adcCalReq val) s = .next t ∧ OnlyChanges (.adc :: .shadow :: raiseParts) u t
          ∧ t.adc.calq = if s.adc.conv[c].halted = false ∧ s.adc.conv[c].cal = false ∧ c ∉ s.adc.calq then s.adc.calq ++ [c] else s.adc.calq)
      ∧ (∀ per, per = s.r R.ADC_CAL_CTRL_PER_S * 100000000 → per ≠ 0 → s.adc.conv[c].halted = false → s.adc.conv[c].cal = false →
          c ∉ s.adc.calq →
        ∃ t, exec (.adcCalAuto c) s = .next t ∧ OnlyChanges [.tb, .edge, .adc] s t ∧ t.adc.calq = s.adc.calq ++ [c]
          ∧ (s.pwr.refOk = true → s.tb ≤ t.tb ∧ t.tb < s.tb + per ∧ t.tb % per = if c = 0 then 0 else per / 2))
      ∧ (∀ (q : List (Fin 2)) (v : Conv), v = (adcRoll c s).adc.conv[c] → s.adc.calq = c :: q → s.adc.conv[(0 : Fin 2)].cal = false →
          s.adc.conv[(1 : Fin 2)].cal = false → v.pipe = [] → v.inj = false → v.halted = false →
        ∃ t, exec (.adcCalStart c) s = .next t ∧ OnlyChanges [.adc] s t ∧ t.adc.calq = q
          ∧ t.adc.conv[c] = { v with cal := true, calEnd := s.tb + 22000 } ∧ t.adc.conv[1 - c] = s.adc.conv[1 - c])
      ∧ (∀ offset gain : Int, s.adc.conv[c].cal = true →
        (calGood offset gain = true → ∃ t, exec (.adcCalDone c offset gain) s = .next t ∧ OnlyChanges [.tb, .edge, .adc, .regs] s t
          ∧ t.tb = (s.at s.adc.conv[c].calEnd).tb ∧ t.adc.conv[c].cal = false ∧ t.adc.conv[c].fails = 0
          ∧ t.adc.conv[c].coef = some (BitVec.ofInt 16 offset, BitVec.ofInt 16 gain) ∧ t.r R.ADC_CAL_COEF_GAIN c.val = gain.toNat
          ∧ (let f := if c = 0 then R.ADC_CAL_CNT_P_DONE else R.ADC_CAL_CNT_Q_DONE
             t.r f = (s.add f 1).r f)
          ∧ t.adc.conv[c].held = false
          ∧ (s.adc.conv[c].held = true → t.adc.conv[c].inj = true ∧ t.adc.conv[c].injPos = 0))
        ∧ (calGood offset gain = false → ∃ t, exec (.adcCalDone c offset gain) s = .next t
          ∧ OnlyChanges (.tb :: .edge :: .adc :: raiseParts) s t ∧ t.tb = (s.at s.adc.conv[c].calEnd).tb
          ∧ t.raised S.ADC_CAL = true ∧ t.adc.conv[c].cal = false
          ∧ t.adc.conv[c].coef = s.adc.conv[c].coef ∧ t.adc.conv[c].fails = s.adc.conv[c].fails + 1
          ∧ ((1 ≤ s.adc.conv[c].fails ∨ s.adc.conv[c].coef = none ∧ s.sys.mode = .boot) →
              t.adc.conv[c].halted = true ∧ t.raised S.ADC_HALT = true)
          ∧ (s.adc.conv[c].fails = 0 → (s.adc.conv[c].coef.isSome = true ∨ s.sys.mode ≠ .boot) →
              t.adc.conv[c].halted = s.adc.conv[c].halted)))
      ∧ (∃ t, exec .adcRefFault s = .next t ∧ OnlyChanges (.adc :: raiseParts) s t ∧ t.raised S.ADC_REF = true
        ∧ t.adc.conv[(1 : Fin 2)].halted = true ∧ t.adc.refOk = false ∧ t.adc.conv[(0 : Fin 2)].halted = s.adc.conv[(0 : Fin 2)].halted
        ∧ t.adc.conv[(0 : Fin 2)].coef = s.adc.conv[(0 : Fin 2)].coef
        ∧ (s.adc.conv[(1 : Fin 2)].halted = false → t.raised S.ADC_HALT = true)))

/-- Fields of a compare and of a capture channel of a timer. -/
def cmpField (k : Fin 2) : RegField := if k = 0 then R.TMR_TC_CMP0_CMP else R.TMR_TC_CMP1_CMP
def capField (k : Fin 2) : RegField := if k = 0 then R.TMR_TC_CAP0_CAP else R.TMR_TC_CAP1_CAP
def newField (k : Fin 2) : RegField := if k = 0 then R.TMR_TC_FLAG_NEW0 else R.TMR_TC_FLAG_NEW1
def ovrField (k : Fin 2) : RegField := if k = 0 then R.TMR_TC_FLAG_OVR0 else R.TMR_TC_FLAG_OVR1
def ccntField (k : Fin 2) : RegField := if k = 0 then R.TMR_TC_FLAG_CCNT0 else R.TMR_TC_FLAG_CCNT1
def matchField (k : Fin 2) : RegField := if k = 0 then R.TMR_TC_FLAG_M0 else R.TMR_TC_FLAG_M1

/-- A capture on channel k of timer n has been taken between two states (R480). -/
def Captured (s t : State) (n : Fin 8) (k : Fin 2) : Prop :=
  t.r (capField k) n.val = s.r R.TMR_TC_CNT_CNT n.val ∧ t.r (newField k) n.val = 1
    ∧ t.r (ccntField k) n.val = (s.r (ccntField k) n.val + 1) % 256
    ∧ t.r (ovrField k) n.val = (if s.r (newField k) n.val = 1 then 1 else s.r (ovrField k) n.val)
    ∧ t.r R.TMR_TC_CNT_CNT n.val = s.r R.TMR_TC_CNT_CNT n.val
    ∧ RegsBut [0x90120 + 4 * k.val + 0x40 * n.val, 0x90128 + 0x40 * n.val] s.regs t.regs

/-- Timers: a source event passes the prescaler or steps the count, which returns to 0 after TOP and matches its compare values; a step
on the edge of a write of the count is lost; host writes of a timer that the converters are bound to are discarded with TMR.ACCESS; a
compare value written under MIP matches at once where it is due; captures keep the count; and reading the flags clears what the read
clears (R468-R482). -/
def Obligations.TimerCommands : Prop :=
  ∀ (s u : State) (n : Fin 8), s.dom 4 = true → u = s.order 6 →
    (∀ (v w : State) (due div acc : Nat), v = settleFrames s → s.rb R.TMR_TC_CTRL_EN n.val = true → timerEventDue n v = some due →
        s.comes due = true → w = s.at due → div = s.r R.TMR_TC_DIV_INT n.val * 65536 + s.r R.TMR_TC_DIV_FRAC n.val →
        acc = s.tmr.acc[n].toNat + 0x10000 →
      ∃ t, exec (.timerStep n) s = .next t ∧ OnlyChanges [.tmr, .adc, .regs] w t ∧ t.tmr.evAt[n] = some w.tb
        ∧ (acc < div → OnlyChanges [.tmr] w t ∧ t.tmr.acc[n] = BitVec.ofNat 32 acc)
        ∧ (div ≤ acc → t.tmr.acc[n] = BitVec.ofNat 32 (acc - div))
        ∧ (div ≤ acc → s.tmr.cntAt[n] = some w.tb → OnlyChanges [.tmr] w t)
        ∧ (div ≤ acc → s.tmr.cntAt[n] ≠ some w.tb →
          t.r R.TMR_TC_CNT_CNT n.val =
              (if s.r R.TMR_TC_TOP_TOP n.val ≤ s.r R.TMR_TC_CNT_CNT n.val then 0 else s.r R.TMR_TC_CNT_CNT n.val + 1)
          ∧ (s.r R.TMR_TC_TOP_TOP n.val ≤ s.r R.TMR_TC_CNT_CNT n.val → t.r R.TMR_TC_FLAG_OVF n.val = 1)
          ∧ (∀ k : Fin 2, t.r (matchField k) n.val =
              (if t.r R.TMR_TC_CNT_CNT n.val = s.r (cmpField k) n.val then 1 else s.r (matchField k) n.val))
          ∧ RegsBut [0x9010C + 0x40 * n.val, 0x90128 + 0x40 * n.val] s.regs t.regs))
    ∧ (∀ val : BitVec 32, s.lands 9 = true → timerBound s.regs n.val = false →
      (∃ t, exec (.tcCntWrite n val) s = .next t ∧ OnlyChanges [.regs, .tmr] (u.past s.tmr.evAt[n]) t
        ∧ t.r R.TMR_TC_CNT_CNT n.val = val.toNat ∧ t.tmr = { s.tmr with cntAt := s.tmr.cntAt.set n (some t.tb) }
        ∧ RegsBut [0x9010C + 0x40 * n.val] s.regs t.regs)
      ∧ (∀ k : Fin 2, capTrig s.regs n.val k.val = 1 → ∃ t, exec (.tcCapCmd n (BitVec.ofNat 32 (2 ^ k.val))) s = .next t
          ∧ OnlyChanges [.regs, .tmr] u t ∧ Captured s t n k ∧ t.tmr = { s.tmr with capAt := s.tmr.capAt.set n (some u.tb) })
      ∧ (∀ k : Fin 2, capTrig s.regs n.val k.val ≠ 1 → exec (.tcCapCmd n (BitVec.ofNat 32 (2 ^ k.val))) s = .next u))
    ∧ (∀ (val : BitVec 32) (k : Fin 2), s.lands 9 = true → (k = 1 ∨ timerBound s.regs n.val = false) →
      ∃ t, exec (.tcCmpWrite n k val) s = .next t ∧ OnlyChanges [.regs, .tmr, .adc] u t ∧ t.r (cmpField k) n.val = val.toNat
        ∧ t.tmr.cmpAt[n] = some u.tb
        ∧ (let now := s.rb (if k = 0 then R.TMR_TC_CTRL_MIP0 else R.TMR_TC_CTRL_MIP1) n.val = true
              ∧ mipNow val.toNat (s.r R.TMR_TC_CNT_CNT n.val) (s.r R.TMR_TC_TOP_TOP n.val) = true
           (now → t.r (matchField k) n.val = 1
              ∧ RegsBut [0x90110 + 4 * k.val + 0x40 * n.val, 0x90128 + 0x40 * n.val] s.regs t.regs)
           ∧ (¬now → t.adc = s.adc ∧ t.tmr = { s.tmr with cmpAt := s.tmr.cmpAt.set n (some u.tb) }
              ∧ RegsBut [0x90110 + 4 * k.val + 0x40 * n.val] s.regs t.regs)))
    ∧ (∀ (val : BitVec 32) (c : Instr), s.lands 9 = true → timerBound s.regs n.val = true →
        (c = .tcCntWrite n val ∨ c = .tcCmpWrite n 0 val ∨ c = .tcCapCmd n val) →
      ∃ t, exec c s = .next t ∧ OnlyChanges raiseParts u t ∧ t.raised S.TMR_ACCESS = true
        ∧ t.r R.TMR_TC_CNT_CNT n.val = s.r R.TMR_TC_CNT_CNT n.val ∧ t.r R.TMR_TC_CMP0_CMP n.val = s.r R.TMR_TC_CMP0_CMP n.val
        ∧ ∀ k, t.r (capField k) n.val = s.r (capField k) n.val)
    ∧ (∀ (k : Fin 2) (due : Nat) (rest : List Nat), (settleFrames s).tmr.capDue[capPlace n k] = due :: rest → s.comes due = true →
      ∃ t, exec (.tcCapture n k) s = .next t ∧ OnlyChanges [.regs, .tmr] (s.at due) t ∧ t.tmr.capDue[capPlace n k] = rest
        ∧ t.tmr.capAt[n] = some t.tb ∧ Captured s t n k)
    ∧ (s.hostReach = true → ∀ ev : Option (BitVec 32), ∃ t, exec (.tcFlagRead n ev) s = .next t
      ∧ OnlyChanges [.hif, .regs] (u.past s.tmr.capAt[n]) t
      ∧ t.hif = { s.hif with rd := [storedWord s.regs (0x90128 + 0x40 * n.val)] }
      ∧ (∀ k : Fin 2, (ev = none → t.r (newField k) n.val = 0 ∧ t.r (ovrField k) n.val = 0)
          ∧ ∀ w, ev = some w → t.r (newField k) n.val = b2n (w.getLsbD (2 * k.val))
            ∧ t.r (ovrField k) n.val = b2n (w.getLsbD (2 * k.val + 1)))
      ∧ t.r R.TMR_TC_FLAG_OVF n.val = s.r R.TMR_TC_FLAG_OVF n.val
      ∧ RegsBut [0x90128 + 0x40 * n.val] s.regs t.regs)

/-! ### Modes, faults, ERR_N, JTAG -/

/-- A mode request is noted with its instant and judged by a scan; during a power-down it is refused with reason 6, and while one is
outstanding with reason 4; a deliberate reset is noted; a power-down begins in the modes that allow it, enters Safe-hold at once where no
lane scans, and is refused with reason 6 where one is under way, else with reason 1; another KEY is discarded with SYS.ACCESS (R516, R527,
R531). -/
def Obligations.ModeRequests : Prop :=
  ∀ (s u : State), s.lands 0 = true → u = s.order 6 →
    (∀ (c : Instr) (target : Nat), (c = .modeReqConfigure ∧ target = 1 ∨ c = .modeReqRun ∧ target = 3 ∨ c = .modeReqMaintain ∧ target = 4) →
      ∃ t, exec c s = .next t ∧ OnlyChanges [.sys, .regs] u t ∧ t.r R.SYS_REQ_STAT_NEW = 1 ∧ t.r R.SYS_MODE_REQ_TARGET = target
        ∧ RegsBut [0x14, 0x1C] s.regs t.regs
        ∧ (pdnActive s = true → t.sys = s.sys ∧ t.r R.SYS_REQ_STAT_MODE = 3 ∧ t.r R.SYS_REQ_STAT_MODE_WHY = 6)
        ∧ (pdnActive s = false → (s.sys.req.isSome = true ∨ s.sys.reqAgreed.isSome = true) →
            t.sys = s.sys ∧ t.r R.SYS_REQ_STAT_MODE = 3 ∧ t.r R.SYS_REQ_STAT_MODE_WHY = 4)
        ∧ (pdnActive s = false → s.sys.req = none → s.sys.reqAgreed = none →
            t.sys = { s.sys with req := some ⟨BitVec.ofNat 3 target, u.tb⟩ } ∧ t.r R.SYS_REQ_STAT_MODE = 1
            ∧ t.r R.SYS_REQ_STAT_MODE_WHY = 0))
    ∧ (∃ t, exec (.deliberateReset 0xD5) s = .next t ∧ OnlyChanges [.sys, .regs] u t
      ∧ t.sys = { s.sys with drst := some (s.sys.drst.getD u.tb) } ∧ t.r R.SYS_REQ_STAT_DRST = 1 ∧ t.r R.SYS_REQ_STAT_NEW = 1
      ∧ RegsBut [0x1C] s.regs t.regs)
    ∧ (pdnActive s = false → s.inMode [.configure, .commission, .maintain, .safeHold] = true →
      ∃ t, exec (.powerDown 0xD5) s = .next t ∧ OnlyChanges [.sys, .regs] u t ∧ t.sys.pdnBusy = true
        ∧ t.r R.SYS_REQ_STAT_PDN_BUSY = 1 ∧ RegsBut [0x1C] s.regs t.regs
        ∧ (s.lan.run = true → t.sys = { s.sys with pdnBusy := true, pdnHold := true })
        ∧ (s.lan.run = false → t.sys.mode = .safeHold
            ∧ (s.sys.mode ≠ .safeHold → t.sys.holdFrom = s.sys.mode ∧ t.sys.prev = s.sys.mode)))
    ∧ ((pdnActive s = true ∨ s.inMode [.configure, .commission, .maintain, .safeHold] = false) →
      ∃ t, exec (.powerDown 0xD5) s = .next t ∧ OnlyChanges [.regs] u t ∧ t.r R.SYS_REQ_STAT_MODE = 3
        ∧ t.r R.SYS_REQ_STAT_MODE_WHY = (if pdnActive s = true then 6 else 1) ∧ RegsBut [0x1C] s.regs t.regs)
    ∧ (∀ key : BitVec 8, key ≠ 0xD5 → ∀ c : Instr, (c = .deliberateReset key ∨ c = .powerDown key ∨ c = .restart key) →
      ∃ t, exec c s = .next t ∧ OnlyChanges raiseParts u t ∧ t.raised S.SYS_ACCESS = true ∧ t.sys.drst = s.sys.drst
        ∧ t.sys.pdnBusy = s.sys.pdnBusy ∧ t.sys.mode = s.sys.mode)

/-- A forced raising is a raising of every source named, and needs the key and a service mode, else it is an ACCESS violation of its block
(R504); a reset of a block begins with the BLK reaction that awaits it: the endpoint is reset as by FLR, enabled valve ports search anew,
paths and open connections of the network fall, the Osrin links train anew, the converters that are not halted drop what they do and
recalibrate, the check-value units take their reset state; blocks without such an effect, or in a domain that is off, change nothing
(R502). ERR_N: a release acts at once in pump mode or where the minimum width is over, else at its end, and never in Lockdown or while the
latch is clear; the square wave of pump mode changes level at each half period while two lanes refresh it, and stops when their tokens are
too old (R506-R509). -/
def Obligations.ForcedRaisingsBlockResetsAndErrorPin : Prop :=
  ((∀ (s u : State) (blk : Fin 16) (val : BitVec 32), blk.val < 14 → s.lands blk.val = true → u = s.order 6 →
      (s.inMode [.configure, .commission, .maintain] = true → s.cfg.key = true → ∃ t, exec (.faultForce blk val) s = .next t
        ∧ OnlyChanges raiseParts u t ∧ ∀ c : BitVec 5, val.getLsbD c.toNat = true → (srcRow ⟨BitVec.ofNat 4 blk.val, c⟩).isSome = true →
          t.raised ⟨BitVec.ofNat 4 blk.val, c⟩ = true)
      ∧ ((s.inMode [.configure, .commission, .maintain] = false ∨ s.cfg.key = false) → ∃ t, exec (.faultForce blk val) s = .next t
        ∧ OnlyChanges raiseParts u t ∧ t.raised ⟨BitVec.ofNat 4 blk.val, 0⟩ = true))
    ∧ ∀ (s : State) (blk : Fin 16),
      (s.sys.blkDue.getLsbD blk.val = false → exec (.blkReset blk) s = .next s)
      ∧ (s.sys.blkDue.getLsbD blk.val = true → ∃ t, exec (.blkReset blk) s = .next t
        ∧ t.sys.blkDue.getLsbD blk.val = false
        ∧ ((blk.val ∉ [1, 3, 6, 7, 8, 10] ∨ s.blockUp blk.val = false) →
          t = { s with sys := { s.sys with blkDue := putBit s.sys.blkDue blk.val false } })
        ∧ (s.blockUp blk.val = true →
          (blk = 1 → OnlyChanges [.sys, .regs, .hif, .rings, .dsc, .evs] s t ∧ t.hif.flr = true ∧ t.rings = State.reset.rings
            ∧ t.dsc = { s.dsc with fetchOut := [], cplq := [], noticeq := [] } ∧ t.evs = { s.evs with staging := [] })
          ∧ (blk = 3 → OnlyChanges [.sys, .vpt] s t
            ∧ ∀ n : Fin 16, t.vpt.ports[n] = if s.portOn n = true
                then { s.vpt.ports[n] with st := .search, await := false, halt := false } else s.vpt.ports[n])
          ∧ (blk = 6 → OnlyChanges (.net :: raiseParts) s t ∧ (∀ p : Fin 2, t.net.ports[p].st = .down ∧ t.net.ports[p].sync = false)
            ∧ ∀ n : Fin 32, (s.net.conns[n].st = .open → t.net.conns[n].st = .lost ∧ t.net.conns[n].ok = false)
                ∧ (s.net.conns[n].st ≠ .open → t.net.conns[n] = s.net.conns[n]))
          ∧ (blk = 7 → OnlyChanges (.osr :: raiseParts) s t ∧ ∀ p : Fin 2, (p = 1 ∨ s.osr.links[(1 : Fin 2)].st ≠ .up) →
              t.osr.links[p].st = if s.ringed = true ∧ s.osr.links[p].sync = true ∧ s.osr.links[p].dead = false then .train else .down)
          ∧ (blk = 8 → OnlyChanges [.sys, .adc] s t
            ∧ t.adc.calq = ([0, 1] : List (Fin 2)).filter (fun c => !s.adc.conv[c].halted)
            ∧ ∀ c : Fin 2, t.adc.conv[c].halted = s.adc.conv[c].halted ∧ t.adc.conv[c].coef = s.adc.conv[c].coef
              ∧ (s.adc.conv[c].halted = false → t.adc.conv[c].cal = false ∧ t.adc.conv[c].pipe = [] ∧ t.adc.conv[c].inj = false
                  ∧ t.adc.conv[c].held = false ∧ t.adc.conv[c].passBusy = false))
          ∧ (blk = 10 → OnlyChanges [.sys, .regs, .crc] s t
            ∧ (∀ o, 0xA0000 ≤ o → o < 0xAF000 → mget t.regs o = none)
            ∧ (∀ o, ¬(0xA0000 ≤ o ∧ o < 0xAF000) → mget t.regs o = mget s.regs o)
            ∧ ∀ n : Fin 4, t.crc[n].len = 0 ∧ t.crc[n].width = 32))))
    ∧ (∀ (s u : State), u = s.order 6 →
      (s.lands 0 = true →
        ((s.keep.lockdown = true ∨ s.sys.errLatch = false) → exec .errRelease s = .next u)
        ∧ (s.keep.lockdown = false → s.sys.errLatch = true →
          ((s.rb R.SYS_ERR_CFG_MODE = true ∨ s.sys.epinAt + s.r R.SYS_ERR_CFG_MIN_MS * ms ≤ u.tb) →
            exec .errRelease s = .next { u with sys := { s.sys with errLatch := false, errRelWait := false } })
          ∧ (s.rb R.SYS_ERR_CFG_MODE = false → u.tb < s.sys.epinAt + s.r R.SYS_ERR_CFG_MIN_MS * ms →
            exec .errRelease s = .next { u with sys := { s.sys with errRelWait := true } })))
      ∧ (∀ due, s.sys.errRelWait = true → due = s.sys.epinAt + s.r R.SYS_ERR_CFG_MIN_MS * ms → s.comes due = true →
        exec .errMinWidthEnd s = .next { s.at due with sys := { s.sys with errLatch := false, errRelWait := false } })
      ∧ (s.sys.pump = true → s.comes (tokenEnd s) = true →
        exec .pumpTokenExpire s = .next { s.at (tokenEnd s) with sys := { s.sys with pump := false, wave := false } })
      ∧ (s.sys.pump = false → exec .pumpTokenExpire s = .next s)
      ∧ (∀ e : State, s.sys.pump = true → e = s.at (s.sys.waveAt + 50000000 / s.r R.SYS_ERR_CFG_HZ) → pumpRuns e = true →
        exec .pumpSquareWaveEdge s = .next { e with sys := { s.sys with wave := !s.sys.wave, waveAt := e.tb } })
      ∧ (s.sys.pump = false → pumpRuns s = true →
        exec .pumpSquareWaveEdge s = .next { s with sys := { s.sys with pump := true, wave := !s.sys.wave, waveAt := s.tb } })
      ∧ (s.sys.pump = false → pumpRuns s = false →
        exec .pumpSquareWaveEdge s = .next { s with sys := { s.sys with wave := false } })
      ∧ ((s.rb R.SYS_ERR_CFG_MODE = false ∨ s.sys.errLatch = true ∨ freshTokens s < 2 ∨ s.keep.lockdown = true ∨ s.sys.mode = .lockdown) →
        pumpRuns s = false))

/-- The JTAG port: TRST_N low resets it; an edge of TCK changes nothing but the port and free values; IDCODE captures the
device's code and a shift moves it out bit by bit; EXTEST without TEST_MODE is BYPASS; the port needs VDD_AO (R585, R586; the codes of
the instructions are the model's, log entry 18). -/
def Obligations.JtagPort : Prop :=
  ∀ (s : State) (io : TapIn),
    (s.pwr.aoOk = false → exec (.jtagTapClock io) s = .next s)
    ∧ (s.pwr.aoOk = true →
      (io.trstN = false → exec (.jtagTapClock io) s = .next { s with jtag := State.reset.jtag })
      ∧ (io.trstN = true → io.rising = true → ∃ t, exec (.jtagTapClock io) s = .next t ∧ OnlyChanges [.jtag, .free] s t
        ∧ t.jtag.st = s.jtag.st.next io.tms ∧ (t.jtag.st = .testLogicReset → t.jtag.instr = .idcode)
        ∧ (t.jtag.st ≠ .testLogicReset → t.jtag.instr = s.jtag.instr) ∧ t.jtag.bnd = s.jtag.bnd ∧ t.jtag.tdo = s.jtag.tdo
        ∧ (s.jtag.st = .captureDr → s.jtag.instr = .idcode → t.jtag.dr = (List.range 32).map fun i => (0xA204878D : Word).getLsbD i)
        ∧ (s.jtag.st = .captureDr → (s.jtag.instr = .bypass ∨ s.jtag.instr = .extest ∧ s.pwr.testMode = false) → t.jtag.dr = [false])
        ∧ (s.jtag.st = .shiftDr → t.jtag.dr = s.jtag.dr.tail ++ [io.tdi])
        ∧ (s.jtag.st ≠ .captureDr → s.jtag.st ≠ .shiftDr → t.jtag.dr = s.jtag.dr)
        ∧ (s.jtag.st ≠ .captureDr → t.free = s.free))
      ∧ (io.trstN = true → io.rising = false → ∃ t, exec (.jtagTapClock io) s = .next t ∧ OnlyChanges [.jtag] s t
        ∧ t.jtag.st = s.jtag.st ∧ t.jtag.dr = s.jtag.dr ∧ t.jtag.ir = s.jtag.ir
        ∧ (s.jtag.st = .shiftDr → t.jtag = { s.jtag with tdo := s.jtag.dr.headD false })
        ∧ (s.jtag.st = .updateIr → t.jtag = { s.jtag with instr := tapInstr s.jtag.ir })
        ∧ (s.jtag.st = .updateDr → s.jtag.instr = .extest → s.pwr.testMode = true → t.jtag = { s.jtag with bnd := s.jtag.dr })
        ∧ (s.jtag.st = .updateDr → s.jtag.instr = .extest → s.pwr.testMode = false → t.jtag = s.jtag)))

/-! ### Statements about the whole machine -/

/-- After reset: the mode is Boot at its first step, every gate is closed, the sluice is closed, no lane scans, the cells of the
cistern are zero, no register has left its reset value, nothing waits, and the storages are in canonical form (R15, R517-R519). -/
def Obligations.ResetState : Prop :=
  Memory.wf State.reset = true ∧ State.reset.sys.mode = .boot ∧ State.reset.sys.step = 1 ∧ State.reset.pwr.on = 0
    ∧ State.reset.vpt.legs = 0 ∧ State.reset.lan.run = false ∧ State.reset.cis.cells = [] ∧ State.reset.regs = []
    ∧ State.reset.slot.len = 10000 ∧ State.reset.slot.run = false ∧ State.reset.cfg.txn = .idle ∧ State.reset.keep.lockdown = false
    ∧ State.reset.pending = [] ∧ State.reset.tb = 0 ∧ (∀ f i j, State.reset.r f i j = bitsOf f.dflt.toNat f.hi f.lo)

/-- Every command in every state answers a next state and leaves the queue of waiting commands as it was; nonvolatile contents change
only by a command of the configuration store or by a store of the sump (R532, R561). -/
def Obligations.EveryCommandCompletes : Prop :=
  ∀ (c : Instr) (s : State), ∃ t, exec c s = .next t ∧ t.pending = s.pending
    ∧ (t.nv = s.nv ∨ c = .cfgErase ∨ (∃ p, c = .cfgProgram p) ∨ c = .cfgFinish ∨ c = .cfgValidate ∨ (∃ o u, c = .cfgCmdDone o u)
        ∨ c = .sumpStoreStart ∨ (∃ o, c = .sumpStoreDone o)
        ∨ ∃ off val, c = .registerWrite off val ∧ off.toNat / 4 * 4 = 0xB0004)

/-- Every step keeps the canonical form of the addressed storages: the cells of the cistern and the two banks of the configuration
store. -/
def Obligations.StepKeepsStoragesCanonical : Prop :=
  ∀ (s t : State), Memory.wf s = true → step s = .next t → Memory.wf t = true

/-- The Lockdown latch: every raising whose severity in force is S4 sets it; no command clears it but the fall of VDD_AO, so it survives
every device reset; and the self-tests of a Boot with the latch set end in Lockdown, as soon as nothing holds that Boot (R510; log
entry 56). -/
def Obligations.LockdownLatch : Prop :=
  (∀ (r : Raising) (s : State), s.blockUp r.src.blk.toNat = true → r.severity s = 4 → (raiseWith r s).keep.lockdown = true)
    ∧ (∀ (c : Instr) (s t : State), s.pwr.aoOk = true → s.keep.lockdown = true → c ≠ .vddAoLoss → c ≠ .domainTrip 9 false →
        exec c s = .next t → t.keep.lockdown = true)
    ∧ (∀ s : State, s.pwr.aoOk = true → ∃ t, exec .vddAoLoss s = .next t ∧ t.keep.lockdown = false)
    ∧ (∀ (r : SelfTests) (s : State), s.keep.lockdown = true → s.sys.mode = .boot → s.sys.step = 2 → s.pwr.waiting = 0 →
        ∃ t, exec (.bootSelftestDone r) s = .next t ∧ t.keep.lockdown = true
          ∧ (bootHeld s = false → t.sys.mode = .lockdown)
          ∧ (bootHeld s = true → t.sys.mode = .boot ∧ t.sys.leave = some .lockdown))

/-- A register write takes its edge: it leaves the timebase as it is but for the happenings of R600 that it comes after and for a write
of a timer's count, and never sets it back. No command sets the timebase back while VDD_AO stays within its limits, but for the one step
of a ring follower, which happens before its lanes scan and once (R421, R465, R600). -/
def Obligations.TimebaseNeverGoesBack : Prop :=
  (∀ (space : HostSpace) (off : BitVec 20) (val : BitVec 32) (s t : State), exec (.registerWrite off val space) s = .next t →
      s.tb ≤ t.tb
      ∧ (s.edge ≤ 6 → (∀ n, n < 8 → spaceOff space off ≠ 0x9010C + 0x40 * n) → t.tb = s.tb))
    ∧ (∀ (c : Instr) (s t : State), s.pwr.aoOk = true → c ≠ .vddAoLoss → c ≠ .domainTrip 9 false → exec c s = .next t →
        s.tb ≤ t.tb ∨ (∃ p f, c = .timeReceive p f) ∧ s.osr.stepped = false ∧ t.osr.stepped = true ∧ s.lan.run = false)
end

