-- ==== Sys2Proof/Laws/Data.lean ====
section
/-! SUPPORT. Laws of sparse maps: a read after a write, and the canonical form that every write keeps. -/

namespace Sys2Proof.Machine

variable {α : Type}

theorem mget_mdel (m : Map α) (k j : Nat) : mget (mdel m k) j = if j = k then none else mget m j := by
  induction m with
  | nil => simp [mdel, mget]
  | cons e m ih =>
    obtain ⟨a, x⟩ := e
    by_cases ha : a = k
    · subst ha
      simp only [mdel, List.filter_cons, bne_self_eq_false] at *
      by_cases hj : j = a
      · simp [hj] at ih ⊢; exact ih
      · simp [mget, hj, Ne.symm hj] at ih ⊢; exact ih
    · have : mdel ((a, x) :: m) k = (a, x) :: mdel m k := by simp [mdel, ha]
      rw [this, mget, ih]
      by_cases hj : j = k
      · subst hj; simp [ha]
      · simp [mget, hj]

theorem mget_mins (m : Map α) (k j : Nat) (v : α) : mget (mins m k v) j = if j = k then some v else mget m j := by
  induction m with
  | nil => simp [mins, mget, eq_comm]
  | cons e m ih =>
    obtain ⟨a, x⟩ := e
    simp only [mins]
    split
    · by_cases hj : j = k
      · simp [mget, hj]
      · simp [mget, hj, Ne.symm hj]
    · split
      · subst k
        by_cases hj : j = a
        · simp [mget, hj]
        · simp [mget, hj, Ne.symm hj]
      · simp only [mget, ih]
        by_cases hj : j = k
        · subst hj; rename_i h; simp [Ne.symm h]
        · simp [hj]

/-- A read after a write to the same key gives the value written. -/
@[simp] theorem mread_mput_same [DecidableEq α] (d : α) (m : Map α) (k : Nat) (v : α) : mread d (mput d m k v) k = v := by
  unfold mput mread; split
  · rename_i h; simp [mget_mdel, h]
  · simp [mget_mins]

/-- A write leaves every other key alone. -/
theorem mget_mput_ne [DecidableEq α] (d : α) (m : Map α) {k j : Nat} (v : α) (h : j ≠ k) :
    mget (mput d m k v) j = mget m j := by
  unfold mput; split <;> simp [mget_mdel, mget_mins, h]

theorem mread_mput_ne [DecidableEq α] (d d' : α) (m : Map α) {k j : Nat} (v : α) (h : j ≠ k) :
    mread d' (mput d m k v) j = mread d' m j := by simp [mread, mget_mput_ne d m v h]

/-! ### The canonical form -/

/-- Keys are rising exactly where they are pairwise so. -/
theorem mrising_iff (m : Map α) : mrising m = true ↔ m.Pairwise fun a b => a.1 < b.1 := by
  induction m with
  | nil => simp [mrising]
  | cons e m ih =>
    cases m with
    | nil => simp [mrising]
    | cons f m =>
      obtain ⟨a, x⟩ := e; obtain ⟨b, y⟩ := f
      simp only [mrising, Bool.and_eq_true, decide_eq_true_eq, ih]
      constructor
      · rintro ⟨h1, h2⟩
        refine List.pairwise_cons.2 ⟨?_, h2⟩
        intro c hc
        rcases List.mem_cons.1 hc with rfl | hc
        · exact h1
        · exact Nat.lt_trans h1 ((List.pairwise_cons.1 h2).1 c hc)
      · intro h
        exact ⟨(List.pairwise_cons.1 h).1 (b, y) (by simp), (List.pairwise_cons.1 h).2⟩

theorem mwf_iff [DecidableEq α] (d : Nat → α) (m : Map α) :
    mwf d m = true ↔ (m.Pairwise fun a b => a.1 < b.1) ∧ ∀ e ∈ m, e.2 ≠ d e.1 := by
  simp [mwf, mrising_iff]

/-- Taking entries out keeps the canonical form. -/
theorem mwf_filter [DecidableEq α] (d : Nat → α) (m : Map α) (p : Nat × α → Bool) (h : mwf d m = true) :
    mwf d (m.filter p) = true := by
  rw [mwf_iff] at *
  exact ⟨h.1.filter _, fun e he => h.2 e (List.mem_of_mem_filter he)⟩

theorem mem_mins {m : Map α} {k : Nat} {v : α} {e : Nat × α} (h : e ∈ mins m k v) : e = (k, v) ∨ e ∈ m := by
  induction m with
  | nil => simpa [mins] using h
  | cons f m ih =>
    obtain ⟨a, x⟩ := f
    simp only [mins] at h
    split at h
    · simpa using h
    · split at h
      · rcases List.mem_cons.1 h with h | h
        · exact .inl h
        · exact .inr (List.mem_cons_of_mem _ h)
      · rcases List.mem_cons.1 h with h | h
        · exact .inr (h ▸ List.mem_cons_self)
        · rcases ih h with h | h
          · exact .inl h
          · exact .inr (List.mem_cons_of_mem _ h)

theorem mins_rising (m : Map α) (k : Nat) (v : α) (h : m.Pairwise fun a b => a.1 < b.1) :
    (mins m k v).Pairwise fun a b => a.1 < b.1 := by
  induction m with
  | nil => simp [mins]
  | cons e m ih =>
    obtain ⟨a, x⟩ := e
    have ⟨h1, h2⟩ := List.pairwise_cons.1 h
    simp only [mins]
    split
    · rename_i hk
      refine List.pairwise_cons.2 ⟨?_, h⟩
      intro c hc
      rcases List.mem_cons.1 hc with rfl | hc
      · exact hk
      · exact Nat.lt_trans hk (h1 c hc)
    · split
      · subst k; exact List.pairwise_cons.2 ⟨h1, h2⟩
      · rename_i hk hk'
        refine List.pairwise_cons.2 ⟨?_, ih h2⟩
        intro c hc
        rcases mem_mins hc with rfl | hc
        · exact Nat.lt_of_le_of_ne (Nat.le_of_not_lt hk) (Ne.symm hk')
        · exact h1 c hc

/-- A write keeps the canonical form. -/
theorem mput_wf [DecidableEq α] (d : Nat → α) (m : Map α) (k : Nat) (v : α) (h : mwf d m = true) :
    mwf d (mput (d k) m k v) = true := by
  unfold mput
  split
  · exact mwf_filter d m _ h
  · rename_i hv
    rw [mwf_iff] at *
    refine ⟨mins_rising m k v h.1, fun e he => ?_⟩
    rcases mem_mins he with rfl | he
    · exact hv
    · exact h.2 e he

end Sys2Proof.Machine
end

