-- ==== Sys2Proof/Laws/Regs.lean ====
section
/-! SUPPORT. Laws of register fields: a field reads as written, and other fields and other registers keep their value. -/

namespace Sys2Proof.Machine

theorem bitsOf_testBit (w hi lo i : Nat) : (bitsOf w hi lo).testBit i = (decide (i < hi + 1 - lo) && w.testBit (lo + i)) := by
  simp [bitsOf, Nat.testBit_mod_two_pow, Nat.testBit_div_two_pow, Nat.add_comm]

theorem setBits_testBit (w : Word) (hi lo v i : Nat) (hi32 : i < 32) :
    (setBits w hi lo v).toNat.testBit i =
      if lo ≤ i ∧ i ≤ hi then v.testBit (i - lo) else w.toNat.testBit i := by
  have e : ∀ x : Word, x.toNat.testBit i = x.getLsbD i := fun _ => rfl
  simp only [e, setBits]
  have hm : (BitVec.ofNat 32 ((2 ^ (hi + 1 - lo) - 1) * 2 ^ lo)).getLsbD i = decide (lo ≤ i ∧ i ≤ hi) := by
    rw [BitVec.getLsbD_ofNat, Nat.testBit_mul_two_pow, Nat.testBit_two_pow_sub_one]
    by_cases h1 : lo ≤ i <;> by_cases h2 : i ≤ hi <;> simp [hi32, h1, h2] <;> omega
  have hv : (BitVec.ofNat 32 (v * 2 ^ lo)).getLsbD i = (decide (lo ≤ i) && v.testBit (i - lo)) := by
    rw [BitVec.getLsbD_ofNat, Nat.testBit_mul_two_pow]; simp [hi32]
  rw [BitVec.getLsbD_or, BitVec.getLsbD_and, BitVec.getLsbD_and, BitVec.getLsbD_not, hm, hv]
  by_cases h1 : lo ≤ i <;> by_cases h2 : i ≤ hi <;> simp [hi32, h1, h2]

/-- A field reads as written, in its width. -/
theorem bitsOf_setBits_same (w : Word) (hi lo v : Nat) (hh : hi < 32) :
    bitsOf (setBits w hi lo v).toNat hi lo = v % 2 ^ (hi + 1 - lo) := by
  apply Nat.eq_of_testBit_eq; intro i
  rw [bitsOf_testBit, Nat.testBit_mod_two_pow]
  by_cases hi' : i < hi + 1 - lo
  · rw [setBits_testBit _ _ _ _ _ (by omega)]
    have : lo ≤ lo + i ∧ lo + i ≤ hi := by omega
    simp [hi', this]
  · simp [hi']

/-- A field keeps its value when another field is set. -/
theorem bitsOf_setBits_ne (w : Word) (hi lo gh gl v : Nat) (hh : hi < 32) (h : hi < gl ∨ gh < lo) :
    bitsOf (setBits w gh gl v).toNat hi lo = bitsOf w.toNat hi lo := by
  apply Nat.eq_of_testBit_eq; intro i
  rw [bitsOf_testBit, bitsOf_testBit]
  by_cases hb : i < hi + 1 - lo
  · rw [setBits_testBit _ _ _ _ _ (by omega)]
    have : ¬(gl ≤ lo + i ∧ lo + i ≤ gh) := by omega
    rw [if_neg this]
  · simp [hb]

/-- A register field reads as written, in its width. -/
theorem rget_rput_same (m : Map Word) (f : RegField) (v i j : Nat) (hh : f.hi < 32) :
    rget (rput m f v i j) f i j = v % 2 ^ (f.hi + 1 - f.lo) := by
  simp [rget, rput, bitsOf_setBits_same _ _ _ _ hh]

/-- A field of another register keeps its value. -/
theorem rget_rput_off (m : Map Word) (f g : RegField) (v i j i' j' : Nat) (h : f.off i j ≠ g.off i' j') :
    rget (rput m g v i' j') f i j = rget m f i j := by
  simp [rget, rput, mread_mput_ne _ _ _ _ h]

/-- Another field of the same register keeps its value. -/
theorem rget_rput_field (m : Map Word) (f g : RegField) (v i j i' j' : Nat) (hd : f.dflt = g.dflt) (ho : f.off i j = g.off i' j')
    (hh : f.hi < 32) (h : f.hi < g.lo ∨ g.hi < f.lo) :
    rget (rput m g v i' j') f i j = rget m f i j := by
  simp [rget, rput, ho, hd, bitsOf_setBits_ne _ _ _ _ _ _ hh h]

/-- Setting a field leaves every other register alone. -/
theorem mget_rput_ne (m : Map Word) (f : RegField) (v i j o : Nat) (h : o ≠ f.off i j) : mget (rput m f v i j) o = mget m o := by
  simp [rput, mget_mput_ne _ _ _ h]

end Sys2Proof.Machine
end

