-- ==== Sys2Proof/Laws/State.lean ====
section
/-! SUPPORT. What each named update of the state leaves alone: one lemma per field and update. -/

namespace Sys2Proof.Machine

/-! ### State.w -/

@[simp] theorem State.w_tb (s : State) (f : RegField) (v i j : Nat) : (s.w f v i j).tb = s.tb := rfl
@[simp] theorem State.w_pwr (s : State) (f : RegField) (v i j : Nat) : (s.w f v i j).pwr = s.pwr := rfl
@[simp] theorem State.w_keep (s : State) (f : RegField) (v i j : Nat) : (s.w f v i j).keep = s.keep := rfl
@[simp] theorem State.w_nv (s : State) (f : RegField) (v i j : Nat) : (s.w f v i j).nv = s.nv := rfl
@[simp] theorem State.w_slot (s : State) (f : RegField) (v i j : Nat) : (s.w f v i j).slot = s.slot := rfl
@[simp] theorem State.w_cis (s : State) (f : RegField) (v i j : Nat) : (s.w f v i j).cis = s.cis := rfl
@[simp] theorem State.w_dsc (s : State) (f : RegField) (v i j : Nat) : (s.w f v i j).dsc = s.dsc := rfl
@[simp] theorem State.w_tkt (s : State) (f : RegField) (v i j : Nat) : (s.w f v i j).tkt = s.tkt := rfl
@[simp] theorem State.w_rings (s : State) (f : RegField) (v i j : Nat) : (s.w f v i j).rings = s.rings := rfl
@[simp] theorem State.w_evs (s : State) (f : RegField) (v i j : Nat) : (s.w f v i j).evs = s.evs := rfl
@[simp] theorem State.w_hif (s : State) (f : RegField) (v i j : Nat) : (s.w f v i j).hif = s.hif := rfl
@[simp] theorem State.w_vpt (s : State) (f : RegField) (v i j : Nat) : (s.w f v i j).vpt = s.vpt := rfl
@[simp] theorem State.w_lan (s : State) (f : RegField) (v i j : Nat) : (s.w f v i j).lan = s.lan := rfl
@[simp] theorem State.w_fld (s : State) (f : RegField) (v i j : Nat) : (s.w f v i j).fld = s.fld := rfl
@[simp] theorem State.w_net (s : State) (f : RegField) (v i j : Nat) : (s.w f v i j).net = s.net := rfl
@[simp] theorem State.w_osr (s : State) (f : RegField) (v i j : Nat) : (s.w f v i j).osr = s.osr := rfl
@[simp] theorem State.w_adc (s : State) (f : RegField) (v i j : Nat) : (s.w f v i j).adc = s.adc := rfl
@[simp] theorem State.w_tmr (s : State) (f : RegField) (v i j : Nat) : (s.w f v i j).tmr = s.tmr := rfl
@[simp] theorem State.w_crc (s : State) (f : RegField) (v i j : Nat) : (s.w f v i j).crc = s.crc := rfl
@[simp] theorem State.w_sys (s : State) (f : RegField) (v i j : Nat) : (s.w f v i j).sys = s.sys := rfl
@[simp] theorem State.w_cfg (s : State) (f : RegField) (v i j : Nat) : (s.w f v i j).cfg = s.cfg := rfl
@[simp] theorem State.w_smp (s : State) (f : RegField) (v i j : Nat) : (s.w f v i j).smp = s.smp := rfl
@[simp] theorem State.w_jtag (s : State) (f : RegField) (v i j : Nat) : (s.w f v i j).jtag = s.jtag := rfl
@[simp] theorem State.w_shadow (s : State) (f : RegField) (v i j : Nat) : (s.w f v i j).shadow = s.shadow := rfl
@[simp] theorem State.w_tx (s : State) (f : RegField) (v i j : Nat) : (s.w f v i j).tx = s.tx := rfl
@[simp] theorem State.w_pending (s : State) (f : RegField) (v i j : Nat) : (s.w f v i j).pending = s.pending := rfl
@[simp] theorem State.w_edge (s : State) (f : RegField) (v i j : Nat) : (s.w f v i j).edge = s.edge := rfl
@[simp] theorem State.w_free (s : State) (f : RegField) (v i j : Nat) : (s.w f v i j).free = s.free := rfl

/-! ### State.add -/

@[simp] theorem State.add_tb (s : State) (f : RegField) (n i j : Nat) : (s.add f n i j).tb = s.tb := rfl
@[simp] theorem State.add_pwr (s : State) (f : RegField) (n i j : Nat) : (s.add f n i j).pwr = s.pwr := rfl
@[simp] theorem State.add_keep (s : State) (f : RegField) (n i j : Nat) : (s.add f n i j).keep = s.keep := rfl
@[simp] theorem State.add_nv (s : State) (f : RegField) (n i j : Nat) : (s.add f n i j).nv = s.nv := rfl
@[simp] theorem State.add_slot (s : State) (f : RegField) (n i j : Nat) : (s.add f n i j).slot = s.slot := rfl
@[simp] theorem State.add_cis (s : State) (f : RegField) (n i j : Nat) : (s.add f n i j).cis = s.cis := rfl
@[simp] theorem State.add_dsc (s : State) (f : RegField) (n i j : Nat) : (s.add f n i j).dsc = s.dsc := rfl
@[simp] theorem State.add_tkt (s : State) (f : RegField) (n i j : Nat) : (s.add f n i j).tkt = s.tkt := rfl
@[simp] theorem State.add_rings (s : State) (f : RegField) (n i j : Nat) : (s.add f n i j).rings = s.rings := rfl
@[simp] theorem State.add_evs (s : State) (f : RegField) (n i j : Nat) : (s.add f n i j).evs = s.evs := rfl
@[simp] theorem State.add_hif (s : State) (f : RegField) (n i j : Nat) : (s.add f n i j).hif = s.hif := rfl
@[simp] theorem State.add_vpt (s : State) (f : RegField) (n i j : Nat) : (s.add f n i j).vpt = s.vpt := rfl
@[simp] theorem State.add_lan (s : State) (f : RegField) (n i j : Nat) : (s.add f n i j).lan = s.lan := rfl
@[simp] theorem State.add_fld (s : State) (f : RegField) (n i j : Nat) : (s.add f n i j).fld = s.fld := rfl
@[simp] theorem State.add_net (s : State) (f : RegField) (n i j : Nat) : (s.add f n i j).net = s.net := rfl
@[simp] theorem State.add_osr (s : State) (f : RegField) (n i j : Nat) : (s.add f n i j).osr = s.osr := rfl
@[simp] theorem State.add_adc (s : State) (f : RegField) (n i j : Nat) : (s.add f n i j).adc = s.adc := rfl
@[simp] theorem State.add_tmr (s : State) (f : RegField) (n i j : Nat) : (s.add f n i j).tmr = s.tmr := rfl
@[simp] theorem State.add_crc (s : State) (f : RegField) (n i j : Nat) : (s.add f n i j).crc = s.crc := rfl
@[simp] theorem State.add_sys (s : State) (f : RegField) (n i j : Nat) : (s.add f n i j).sys = s.sys := rfl
@[simp] theorem State.add_cfg (s : State) (f : RegField) (n i j : Nat) : (s.add f n i j).cfg = s.cfg := rfl
@[simp] theorem State.add_smp (s : State) (f : RegField) (n i j : Nat) : (s.add f n i j).smp = s.smp := rfl
@[simp] theorem State.add_jtag (s : State) (f : RegField) (n i j : Nat) : (s.add f n i j).jtag = s.jtag := rfl
@[simp] theorem State.add_shadow (s : State) (f : RegField) (n i j : Nat) : (s.add f n i j).shadow = s.shadow := rfl
@[simp] theorem State.add_tx (s : State) (f : RegField) (n i j : Nat) : (s.add f n i j).tx = s.tx := rfl
@[simp] theorem State.add_pending (s : State) (f : RegField) (n i j : Nat) : (s.add f n i j).pending = s.pending := rfl
@[simp] theorem State.add_edge (s : State) (f : RegField) (n i j : Nat) : (s.add f n i j).edge = s.edge := rfl
@[simp] theorem State.add_free (s : State) (f : RegField) (n i j : Nat) : (s.add f n i j).free = s.free := rfl

/-! ### State.took -/

@[simp] theorem State.took_tb (s : State) (n : Nat) : (s.took n).tb = s.tb := rfl
@[simp] theorem State.took_pwr (s : State) (n : Nat) : (s.took n).pwr = s.pwr := rfl
@[simp] theorem State.took_keep (s : State) (n : Nat) : (s.took n).keep = s.keep := rfl
@[simp] theorem State.took_nv (s : State) (n : Nat) : (s.took n).nv = s.nv := rfl
@[simp] theorem State.took_slot (s : State) (n : Nat) : (s.took n).slot = s.slot := rfl
@[simp] theorem State.took_cis (s : State) (n : Nat) : (s.took n).cis = s.cis := rfl
@[simp] theorem State.took_dsc (s : State) (n : Nat) : (s.took n).dsc = s.dsc := rfl
@[simp] theorem State.took_tkt (s : State) (n : Nat) : (s.took n).tkt = s.tkt := rfl
@[simp] theorem State.took_rings (s : State) (n : Nat) : (s.took n).rings = s.rings := rfl
@[simp] theorem State.took_evs (s : State) (n : Nat) : (s.took n).evs = s.evs := rfl
@[simp] theorem State.took_hif (s : State) (n : Nat) : (s.took n).hif = s.hif := rfl
@[simp] theorem State.took_vpt (s : State) (n : Nat) : (s.took n).vpt = s.vpt := rfl
@[simp] theorem State.took_lan (s : State) (n : Nat) : (s.took n).lan = s.lan := rfl
@[simp] theorem State.took_fld (s : State) (n : Nat) : (s.took n).fld = s.fld := rfl
@[simp] theorem State.took_net (s : State) (n : Nat) : (s.took n).net = s.net := rfl
@[simp] theorem State.took_osr (s : State) (n : Nat) : (s.took n).osr = s.osr := rfl
@[simp] theorem State.took_adc (s : State) (n : Nat) : (s.took n).adc = s.adc := rfl
@[simp] theorem State.took_tmr (s : State) (n : Nat) : (s.took n).tmr = s.tmr := rfl
@[simp] theorem State.took_crc (s : State) (n : Nat) : (s.took n).crc = s.crc := rfl
@[simp] theorem State.took_sys (s : State) (n : Nat) : (s.took n).sys = s.sys := rfl
@[simp] theorem State.took_cfg (s : State) (n : Nat) : (s.took n).cfg = s.cfg := rfl
@[simp] theorem State.took_smp (s : State) (n : Nat) : (s.took n).smp = s.smp := rfl
@[simp] theorem State.took_jtag (s : State) (n : Nat) : (s.took n).jtag = s.jtag := rfl
@[simp] theorem State.took_regs (s : State) (n : Nat) : (s.took n).regs = s.regs := rfl
@[simp] theorem State.took_shadow (s : State) (n : Nat) : (s.took n).shadow = s.shadow := rfl
@[simp] theorem State.took_tx (s : State) (n : Nat) : (s.took n).tx = s.tx := rfl
@[simp] theorem State.took_pending (s : State) (n : Nat) : (s.took n).pending = s.pending := rfl
@[simp] theorem State.took_edge (s : State) (n : Nat) : (s.took n).edge = s.edge := rfl

/-! ### State.send -/

@[simp] theorem State.send_tb (s : State) (l : List Tx) : (s.send l).tb = s.tb := rfl
@[simp] theorem State.send_pwr (s : State) (l : List Tx) : (s.send l).pwr = s.pwr := rfl
@[simp] theorem State.send_keep (s : State) (l : List Tx) : (s.send l).keep = s.keep := rfl
@[simp] theorem State.send_nv (s : State) (l : List Tx) : (s.send l).nv = s.nv := rfl
@[simp] theorem State.send_slot (s : State) (l : List Tx) : (s.send l).slot = s.slot := rfl
@[simp] theorem State.send_cis (s : State) (l : List Tx) : (s.send l).cis = s.cis := rfl
@[simp] theorem State.send_dsc (s : State) (l : List Tx) : (s.send l).dsc = s.dsc := rfl
@[simp] theorem State.send_tkt (s : State) (l : List Tx) : (s.send l).tkt = s.tkt := rfl
@[simp] theorem State.send_rings (s : State) (l : List Tx) : (s.send l).rings = s.rings := rfl
@[simp] theorem State.send_evs (s : State) (l : List Tx) : (s.send l).evs = s.evs := rfl
@[simp] theorem State.send_hif (s : State) (l : List Tx) : (s.send l).hif = s.hif := rfl
@[simp] theorem State.send_vpt (s : State) (l : List Tx) : (s.send l).vpt = s.vpt := rfl
@[simp] theorem State.send_lan (s : State) (l : List Tx) : (s.send l).lan = s.lan := rfl
@[simp] theorem State.send_fld (s : State) (l : List Tx) : (s.send l).fld = s.fld := rfl
@[simp] theorem State.send_net (s : State) (l : List Tx) : (s.send l).net = s.net := rfl
@[simp] theorem State.send_osr (s : State) (l : List Tx) : (s.send l).osr = s.osr := rfl
@[simp] theorem State.send_adc (s : State) (l : List Tx) : (s.send l).adc = s.adc := rfl
@[simp] theorem State.send_tmr (s : State) (l : List Tx) : (s.send l).tmr = s.tmr := rfl
@[simp] theorem State.send_crc (s : State) (l : List Tx) : (s.send l).crc = s.crc := rfl
@[simp] theorem State.send_sys (s : State) (l : List Tx) : (s.send l).sys = s.sys := rfl
@[simp] theorem State.send_cfg (s : State) (l : List Tx) : (s.send l).cfg = s.cfg := rfl
@[simp] theorem State.send_smp (s : State) (l : List Tx) : (s.send l).smp = s.smp := rfl
@[simp] theorem State.send_jtag (s : State) (l : List Tx) : (s.send l).jtag = s.jtag := rfl
@[simp] theorem State.send_regs (s : State) (l : List Tx) : (s.send l).regs = s.regs := rfl
@[simp] theorem State.send_shadow (s : State) (l : List Tx) : (s.send l).shadow = s.shadow := rfl
@[simp] theorem State.send_pending (s : State) (l : List Tx) : (s.send l).pending = s.pending := rfl
@[simp] theorem State.send_edge (s : State) (l : List Tx) : (s.send l).edge = s.edge := rfl
@[simp] theorem State.send_free (s : State) (l : List Tx) : (s.send l).free = s.free := rfl

/-! ### State.at -/

@[simp] theorem State.at_pwr (s : State) (due : Nat) : (s.at due).pwr = s.pwr := rfl
@[simp] theorem State.at_keep (s : State) (due : Nat) : (s.at due).keep = s.keep := rfl
@[simp] theorem State.at_nv (s : State) (due : Nat) : (s.at due).nv = s.nv := rfl
@[simp] theorem State.at_slot (s : State) (due : Nat) : (s.at due).slot = s.slot := rfl
@[simp] theorem State.at_cis (s : State) (due : Nat) : (s.at due).cis = s.cis := rfl
@[simp] theorem State.at_dsc (s : State) (due : Nat) : (s.at due).dsc = s.dsc := rfl
@[simp] theorem State.at_tkt (s : State) (due : Nat) : (s.at due).tkt = s.tkt := rfl
@[simp] theorem State.at_rings (s : State) (due : Nat) : (s.at due).rings = s.rings := rfl
@[simp] theorem State.at_evs (s : State) (due : Nat) : (s.at due).evs = s.evs := rfl
@[simp] theorem State.at_hif (s : State) (due : Nat) : (s.at due).hif = s.hif := rfl
@[simp] theorem State.at_vpt (s : State) (due : Nat) : (s.at due).vpt = s.vpt := rfl
@[simp] theorem State.at_lan (s : State) (due : Nat) : (s.at due).lan = s.lan := rfl
@[simp] theorem State.at_fld (s : State) (due : Nat) : (s.at due).fld = s.fld := rfl
@[simp] theorem State.at_net (s : State) (due : Nat) : (s.at due).net = s.net := rfl
@[simp] theorem State.at_osr (s : State) (due : Nat) : (s.at due).osr = s.osr := rfl
@[simp] theorem State.at_adc (s : State) (due : Nat) : (s.at due).adc = s.adc := rfl
@[simp] theorem State.at_tmr (s : State) (due : Nat) : (s.at due).tmr = s.tmr := rfl
@[simp] theorem State.at_crc (s : State) (due : Nat) : (s.at due).crc = s.crc := rfl
@[simp] theorem State.at_sys (s : State) (due : Nat) : (s.at due).sys = s.sys := rfl
@[simp] theorem State.at_cfg (s : State) (due : Nat) : (s.at due).cfg = s.cfg := rfl
@[simp] theorem State.at_smp (s : State) (due : Nat) : (s.at due).smp = s.smp := rfl
@[simp] theorem State.at_jtag (s : State) (due : Nat) : (s.at due).jtag = s.jtag := rfl
@[simp] theorem State.at_regs (s : State) (due : Nat) : (s.at due).regs = s.regs := rfl
@[simp] theorem State.at_shadow (s : State) (due : Nat) : (s.at due).shadow = s.shadow := rfl
@[simp] theorem State.at_tx (s : State) (due : Nat) : (s.at due).tx = s.tx := rfl
@[simp] theorem State.at_pending (s : State) (due : Nat) : (s.at due).pending = s.pending := rfl
@[simp] theorem State.at_free (s : State) (due : Nat) : (s.at due).free = s.free := rfl

/-! ### State.order -/

@[simp] theorem State.order_pwr (s : State) (n : Nat) : (s.order n).pwr = s.pwr := rfl
@[simp] theorem State.order_keep (s : State) (n : Nat) : (s.order n).keep = s.keep := rfl
@[simp] theorem State.order_nv (s : State) (n : Nat) : (s.order n).nv = s.nv := rfl
@[simp] theorem State.order_slot (s : State) (n : Nat) : (s.order n).slot = s.slot := rfl
@[simp] theorem State.order_cis (s : State) (n : Nat) : (s.order n).cis = s.cis := rfl
@[simp] theorem State.order_dsc (s : State) (n : Nat) : (s.order n).dsc = s.dsc := rfl
@[simp] theorem State.order_tkt (s : State) (n : Nat) : (s.order n).tkt = s.tkt := rfl
@[simp] theorem State.order_rings (s : State) (n : Nat) : (s.order n).rings = s.rings := rfl
@[simp] theorem State.order_evs (s : State) (n : Nat) : (s.order n).evs = s.evs := rfl
@[simp] theorem State.order_hif (s : State) (n : Nat) : (s.order n).hif = s.hif := rfl
@[simp] theorem State.order_vpt (s : State) (n : Nat) : (s.order n).vpt = s.vpt := rfl
@[simp] theorem State.order_lan (s : State) (n : Nat) : (s.order n).lan = s.lan := rfl
@[simp] theorem State.order_fld (s : State) (n : Nat) : (s.order n).fld = s.fld := rfl
@[simp] theorem State.order_net (s : State) (n : Nat) : (s.order n).net = s.net := rfl
@[simp] theorem State.order_adc (s : State) (n : Nat) : (s.order n).adc = s.adc := rfl
@[simp] theorem State.order_tmr (s : State) (n : Nat) : (s.order n).tmr = s.tmr := rfl
@[simp] theorem State.order_crc (s : State) (n : Nat) : (s.order n).crc = s.crc := rfl
@[simp] theorem State.order_sys (s : State) (n : Nat) : (s.order n).sys = s.sys := rfl
@[simp] theorem State.order_cfg (s : State) (n : Nat) : (s.order n).cfg = s.cfg := rfl
@[simp] theorem State.order_smp (s : State) (n : Nat) : (s.order n).smp = s.smp := rfl
@[simp] theorem State.order_jtag (s : State) (n : Nat) : (s.order n).jtag = s.jtag := rfl
@[simp] theorem State.order_regs (s : State) (n : Nat) : (s.order n).regs = s.regs := rfl
@[simp] theorem State.order_shadow (s : State) (n : Nat) : (s.order n).shadow = s.shadow := rfl
@[simp] theorem State.order_tx (s : State) (n : Nat) : (s.order n).tx = s.tx := rfl
@[simp] theorem State.order_pending (s : State) (n : Nat) : (s.order n).pending = s.pending := rfl
@[simp] theorem State.order_free (s : State) (n : Nat) : (s.order n).free = s.free := rfl

/-! ### idleTick -/

@[simp] theorem idleTick_pwr (s : State) : (idleTick s).pwr = s.pwr := rfl
@[simp] theorem idleTick_keep (s : State) : (idleTick s).keep = s.keep := rfl
@[simp] theorem idleTick_nv (s : State) : (idleTick s).nv = s.nv := rfl
@[simp] theorem idleTick_slot (s : State) : (idleTick s).slot = s.slot := rfl
@[simp] theorem idleTick_cis (s : State) : (idleTick s).cis = s.cis := rfl
@[simp] theorem idleTick_dsc (s : State) : (idleTick s).dsc = s.dsc := rfl
@[simp] theorem idleTick_tkt (s : State) : (idleTick s).tkt = s.tkt := rfl
@[simp] theorem idleTick_rings (s : State) : (idleTick s).rings = s.rings := rfl
@[simp] theorem idleTick_evs (s : State) : (idleTick s).evs = s.evs := rfl
@[simp] theorem idleTick_hif (s : State) : (idleTick s).hif = s.hif := rfl
@[simp] theorem idleTick_vpt (s : State) : (idleTick s).vpt = s.vpt := rfl
@[simp] theorem idleTick_lan (s : State) : (idleTick s).lan = s.lan := rfl
@[simp] theorem idleTick_fld (s : State) : (idleTick s).fld = s.fld := rfl
@[simp] theorem idleTick_net (s : State) : (idleTick s).net = s.net := rfl
@[simp] theorem idleTick_adc (s : State) : (idleTick s).adc = s.adc := rfl
@[simp] theorem idleTick_tmr (s : State) : (idleTick s).tmr = s.tmr := rfl
@[simp] theorem idleTick_crc (s : State) : (idleTick s).crc = s.crc := rfl
@[simp] theorem idleTick_sys (s : State) : (idleTick s).sys = s.sys := rfl
@[simp] theorem idleTick_cfg (s : State) : (idleTick s).cfg = s.cfg := rfl
@[simp] theorem idleTick_smp (s : State) : (idleTick s).smp = s.smp := rfl
@[simp] theorem idleTick_jtag (s : State) : (idleTick s).jtag = s.jtag := rfl
@[simp] theorem idleTick_regs (s : State) : (idleTick s).regs = s.regs := rfl
@[simp] theorem idleTick_shadow (s : State) : (idleTick s).shadow = s.shadow := rfl
@[simp] theorem idleTick_tx (s : State) : (idleTick s).tx = s.tx := rfl
@[simp] theorem idleTick_pending (s : State) : (idleTick s).pending = s.pending := rfl
@[simp] theorem idleTick_free (s : State) : (idleTick s).free = s.free := rfl

/-! ### State.stat -/

@[simp] theorem State.stat_tb (s : State) (k i n : Nat) : (s.stat k i n).tb = s.tb := rfl
@[simp] theorem State.stat_pwr (s : State) (k i n : Nat) : (s.stat k i n).pwr = s.pwr := rfl
@[simp] theorem State.stat_keep (s : State) (k i n : Nat) : (s.stat k i n).keep = s.keep := rfl
@[simp] theorem State.stat_nv (s : State) (k i n : Nat) : (s.stat k i n).nv = s.nv := rfl
@[simp] theorem State.stat_slot (s : State) (k i n : Nat) : (s.stat k i n).slot = s.slot := rfl
@[simp] theorem State.stat_cis (s : State) (k i n : Nat) : (s.stat k i n).cis = s.cis := rfl
@[simp] theorem State.stat_dsc (s : State) (k i n : Nat) : (s.stat k i n).dsc = s.dsc := rfl
@[simp] theorem State.stat_tkt (s : State) (k i n : Nat) : (s.stat k i n).tkt = s.tkt := rfl
@[simp] theorem State.stat_rings (s : State) (k i n : Nat) : (s.stat k i n).rings = s.rings := rfl
@[simp] theorem State.stat_evs (s : State) (k i n : Nat) : (s.stat k i n).evs = s.evs := rfl
@[simp] theorem State.stat_hif (s : State) (k i n : Nat) : (s.stat k i n).hif = s.hif := rfl
@[simp] theorem State.stat_vpt (s : State) (k i n : Nat) : (s.stat k i n).vpt = s.vpt := rfl
@[simp] theorem State.stat_lan (s : State) (k i n : Nat) : (s.stat k i n).lan = s.lan := rfl
@[simp] theorem State.stat_fld (s : State) (k i n : Nat) : (s.stat k i n).fld = s.fld := rfl
@[simp] theorem State.stat_net (s : State) (k i n : Nat) : (s.stat k i n).net = s.net := rfl
@[simp] theorem State.stat_osr (s : State) (k i n : Nat) : (s.stat k i n).osr = s.osr := rfl
@[simp] theorem State.stat_adc (s : State) (k i n : Nat) : (s.stat k i n).adc = s.adc := rfl
@[simp] theorem State.stat_tmr (s : State) (k i n : Nat) : (s.stat k i n).tmr = s.tmr := rfl
@[simp] theorem State.stat_crc (s : State) (k i n : Nat) : (s.stat k i n).crc = s.crc := rfl
@[simp] theorem State.stat_sys (s : State) (k i n : Nat) : (s.stat k i n).sys = s.sys := rfl
@[simp] theorem State.stat_cfg (s : State) (k i n : Nat) : (s.stat k i n).cfg = s.cfg := rfl
@[simp] theorem State.stat_jtag (s : State) (k i n : Nat) : (s.stat k i n).jtag = s.jtag := rfl
@[simp] theorem State.stat_regs (s : State) (k i n : Nat) : (s.stat k i n).regs = s.regs := rfl
@[simp] theorem State.stat_shadow (s : State) (k i n : Nat) : (s.stat k i n).shadow = s.shadow := rfl
@[simp] theorem State.stat_tx (s : State) (k i n : Nat) : (s.stat k i n).tx = s.tx := rfl
@[simp] theorem State.stat_pending (s : State) (k i n : Nat) : (s.stat k i n).pending = s.pending := rfl
@[simp] theorem State.stat_edge (s : State) (k i n : Nat) : (s.stat k i n).edge = s.edge := rfl
@[simp] theorem State.stat_free (s : State) (k i n : Nat) : (s.stat k i n).free = s.free := rfl

/-! ### State.msi -/

@[simp] theorem State.msi_tb (s : State) (vec : Nat) : (s.msi vec).tb = s.tb := rfl
@[simp] theorem State.msi_pwr (s : State) (vec : Nat) : (s.msi vec).pwr = s.pwr := rfl
@[simp] theorem State.msi_keep (s : State) (vec : Nat) : (s.msi vec).keep = s.keep := rfl
@[simp] theorem State.msi_nv (s : State) (vec : Nat) : (s.msi vec).nv = s.nv := rfl
@[simp] theorem State.msi_slot (s : State) (vec : Nat) : (s.msi vec).slot = s.slot := rfl
@[simp] theorem State.msi_cis (s : State) (vec : Nat) : (s.msi vec).cis = s.cis := rfl
@[simp] theorem State.msi_dsc (s : State) (vec : Nat) : (s.msi vec).dsc = s.dsc := rfl
@[simp] theorem State.msi_tkt (s : State) (vec : Nat) : (s.msi vec).tkt = s.tkt := rfl
@[simp] theorem State.msi_rings (s : State) (vec : Nat) : (s.msi vec).rings = s.rings := rfl
@[simp] theorem State.msi_evs (s : State) (vec : Nat) : (s.msi vec).evs = s.evs := rfl
@[simp] theorem State.msi_vpt (s : State) (vec : Nat) : (s.msi vec).vpt = s.vpt := rfl
@[simp] theorem State.msi_lan (s : State) (vec : Nat) : (s.msi vec).lan = s.lan := rfl
@[simp] theorem State.msi_fld (s : State) (vec : Nat) : (s.msi vec).fld = s.fld := rfl
@[simp] theorem State.msi_net (s : State) (vec : Nat) : (s.msi vec).net = s.net := rfl
@[simp] theorem State.msi_osr (s : State) (vec : Nat) : (s.msi vec).osr = s.osr := rfl
@[simp] theorem State.msi_adc (s : State) (vec : Nat) : (s.msi vec).adc = s.adc := rfl
@[simp] theorem State.msi_tmr (s : State) (vec : Nat) : (s.msi vec).tmr = s.tmr := rfl
@[simp] theorem State.msi_crc (s : State) (vec : Nat) : (s.msi vec).crc = s.crc := rfl
@[simp] theorem State.msi_sys (s : State) (vec : Nat) : (s.msi vec).sys = s.sys := rfl
@[simp] theorem State.msi_cfg (s : State) (vec : Nat) : (s.msi vec).cfg = s.cfg := rfl
@[simp] theorem State.msi_smp (s : State) (vec : Nat) : (s.msi vec).smp = s.smp := rfl
@[simp] theorem State.msi_jtag (s : State) (vec : Nat) : (s.msi vec).jtag = s.jtag := rfl
@[simp] theorem State.msi_regs (s : State) (vec : Nat) : (s.msi vec).regs = s.regs := rfl
@[simp] theorem State.msi_shadow (s : State) (vec : Nat) : (s.msi vec).shadow = s.shadow := rfl
@[simp] theorem State.msi_pending (s : State) (vec : Nat) : (s.msi vec).pending = s.pending := rfl
@[simp] theorem State.msi_edge (s : State) (vec : Nat) : (s.msi vec).edge = s.edge := rfl
@[simp] theorem State.msi_free (s : State) (vec : Nat) : (s.msi vec).free = s.free := rfl

/-! ### State.nmt -/

@[simp] theorem State.nmt_tb (s : State) : (s.nmt).tb = s.tb := rfl
@[simp] theorem State.nmt_pwr (s : State) : (s.nmt).pwr = s.pwr := rfl
@[simp] theorem State.nmt_keep (s : State) : (s.nmt).keep = s.keep := rfl
@[simp] theorem State.nmt_nv (s : State) : (s.nmt).nv = s.nv := rfl
@[simp] theorem State.nmt_slot (s : State) : (s.nmt).slot = s.slot := rfl
@[simp] theorem State.nmt_cis (s : State) : (s.nmt).cis = s.cis := rfl
@[simp] theorem State.nmt_dsc (s : State) : (s.nmt).dsc = s.dsc := rfl
@[simp] theorem State.nmt_tkt (s : State) : (s.nmt).tkt = s.tkt := rfl
@[simp] theorem State.nmt_rings (s : State) : (s.nmt).rings = s.rings := rfl
@[simp] theorem State.nmt_evs (s : State) : (s.nmt).evs = s.evs := rfl
@[simp] theorem State.nmt_vpt (s : State) : (s.nmt).vpt = s.vpt := rfl
@[simp] theorem State.nmt_lan (s : State) : (s.nmt).lan = s.lan := rfl
@[simp] theorem State.nmt_fld (s : State) : (s.nmt).fld = s.fld := rfl
@[simp] theorem State.nmt_net (s : State) : (s.nmt).net = s.net := rfl
@[simp] theorem State.nmt_osr (s : State) : (s.nmt).osr = s.osr := rfl
@[simp] theorem State.nmt_adc (s : State) : (s.nmt).adc = s.adc := rfl
@[simp] theorem State.nmt_tmr (s : State) : (s.nmt).tmr = s.tmr := rfl
@[simp] theorem State.nmt_crc (s : State) : (s.nmt).crc = s.crc := rfl
@[simp] theorem State.nmt_sys (s : State) : (s.nmt).sys = s.sys := rfl
@[simp] theorem State.nmt_cfg (s : State) : (s.nmt).cfg = s.cfg := rfl
@[simp] theorem State.nmt_smp (s : State) : (s.nmt).smp = s.smp := rfl
@[simp] theorem State.nmt_jtag (s : State) : (s.nmt).jtag = s.jtag := rfl
@[simp] theorem State.nmt_shadow (s : State) : (s.nmt).shadow = s.shadow := rfl
@[simp] theorem State.nmt_pending (s : State) : (s.nmt).pending = s.pending := rfl
@[simp] theorem State.nmt_edge (s : State) : (s.nmt).edge = s.edge := rfl
@[simp] theorem State.nmt_free (s : State) : (s.nmt).free = s.free := rfl

/-! ### What they change -/

@[simp] theorem State.w_regs (s : State) (f : RegField) (v i j : Nat) : (s.w f v i j).regs = rput s.regs f v i j := rfl
@[simp] theorem State.add_regs (s : State) (f : RegField) (n i j : Nat) : (s.add f n i j).regs = radd s.regs f n i j := rfl
@[simp] theorem State.took_free (s : State) (n : Nat) : (s.took n).free = s.free + n := rfl
@[simp] theorem State.send_tx (s : State) (l : List Tx) : (s.send l).tx = l.reverse ++ s.tx := rfl
@[simp] theorem State.order_edge (s : State) (n : Nat) : (s.order n).edge = n := rfl

/-- While REF100 is accepted a timed happening falls at its instant, or at the present one if that is later. -/
theorem State.at_tb_ok (s : State) (due : Nat) (h : s.pwr.refOk = true) : (s.at due).tb = max s.tb due := by simp [State.at, h]

/-- While REF100 is not accepted the timebase holds (R464). -/
theorem State.at_tb_held (s : State) (due : Nat) (h : s.pwr.refOk = false) : (s.at due).tb = s.tb := by simp [State.at, h]

/-- The timebase never runs backwards at a timed happening (R465). -/
theorem State.le_at_tb (s : State) (due : Nat) : s.tb ≤ (s.at due).tb := by
  cases h : s.pwr.refOk
  · rw [State.at_tb_held s due h]
  · rw [State.at_tb_ok s due h]
    exact Nat.le_max_left _ _

theorem idleTick_le_tb (s : State) : s.tb ≤ (idleTick s).tb := by
  simp only [idleTick]
  split
  · exact Nat.le_succ _
  · exact Nat.le_refl _

/-- Nor at a happening of R600. -/
theorem State.le_order_tb (s : State) (n : Nat) : s.tb ≤ (s.order n).tb := by
  simp only [State.order]
  split
  · exact idleTick_le_tb s
  · exact Nat.le_refl _

end Sys2Proof.Machine
end

