-- ==== Sys2Proof/Laws/Faults.lean ====
section
/-! SUPPORT. Frames, and the frame of a raising: it writes fault registers, event staging, messages, hold requests, the ERR_N latch,
reactions, the Lockdown latch and the statistics, and nothing else. -/

namespace Sys2Proof.Machine

/-! ### Frames -/

theorem OnlyChanges.refl (l : List Part) (s : State) : OnlyChanges l s s := by
  intro p _; cases p <;> rfl

theorem OnlyChanges.mono {l k : List Part} {s t : State} (h : OnlyChanges l s t) (hl : l ⊆ k) : OnlyChanges k s t :=
  fun p hp => h p fun hm => hp (hl hm)

theorem OnlyChanges.trans {l : List Part} {s t u : State} (h : OnlyChanges l s t) (h' : OnlyChanges l t u) : OnlyChanges l s u := by
  intro p hp
  have a := h p hp
  have b := h' p hp
  cases p <;> exact b.trans a

/-- The parts of the mode control that a raising leaves alone: all but the ERR_N latch, the hold requests and the reactions. -/
def Sys.still (a b : Sys) : Prop :=
  b = { a with errLatch := b.errLatch, errRelWait := b.errRelWait, epinAt := b.epinAt, holds := b.holds, acts := b.acts, s3 := b.s3,
               blkDue := b.blkDue, chipDue := b.chipDue }

theorem Sys.still.trans {a b c : Sys} (h : Sys.still a b) (h' : Sys.still b c) : Sys.still a c := by
  unfold Sys.still at *; rw [h', h]

theorem Sys.still.mode {a b : Sys} (h : Sys.still a b) : b.mode = a.mode := by
  unfold Sys.still at h; rw [h]
theorem Sys.still.step {a b : Sys} (h : Sys.still a b) : b.step = a.step := by
  unfold Sys.still at h; rw [h]
theorem Sys.still.leave {a b : Sys} (h : Sys.still a b) : b.leave = a.leave := by
  unfold Sys.still at h; rw [h]
theorem Sys.still.req {a b : Sys} (h : Sys.still a b) : b.req = a.req := by
  unfold Sys.still at h; rw [h]

/-! ### One raising -/

theorem Raising.settle_src (r : Raising) : r.settle.src = r.src := by unfold Raising.settle; split <;> rfl

theorem raiseOne_only (r : Raising) (s : State) : OnlyChanges raiseParts s (raiseOne r s) := by
  intro p hp
  cases p <;> first | rfl | exact absurd hp (by decide)

theorem raiseOne_sys (r : Raising) (s : State) : Sys.still s.sys (raiseOne r s).sys := by
  unfold raiseOne raiseRec; dsimp only; split <;> rfl

/-! ### Raisings as the commands make them -/

theorem raiseWith_only (r : Raising) (s : State) : OnlyChanges raiseParts s (raiseWith r s) := by
  unfold raiseWith; dsimp only; split
  · exact (raiseOne_only _ _).trans (raiseOne_only _ _)
  · exact raiseOne_only _ _

theorem raiseWith_sys (r : Raising) (s : State) : Sys.still s.sys (raiseWith r s).sys := by
  unfold raiseWith; dsimp only; split
  · exact (raiseOne_sys _ _).trans (raiseOne_sys _ _)
  · exact raiseOne_sys _ _

theorem raise_only (c : Src) (d : Nat) (s : State) : OnlyChanges raiseParts s (raise c d s) := raiseWith_only _ s

theorem raise_sys (c : Src) (d : Nat) (s : State) : Sys.still s.sys (raise c d s).sys := raiseWith_sys _ s

theorem raiseIf_only (b : Bool) (c : Src) (d : Nat) (s : State) : OnlyChanges raiseParts s (raiseIf b c d s) := by
  cases b
  · exact .refl _ s
  · exact raise_only c d s

theorem raiseIf_sys (b : Bool) (c : Src) (d : Nat) (s : State) : Sys.still s.sys (raiseIf b c d s).sys := by
  cases b
  · rfl
  · exact raise_sys c d s

theorem raiseAll_only (l : List (Src × Nat)) (s : State) : OnlyChanges raiseParts s (raiseAll l s) := by
  induction l generalizing s with
  | nil => exact .refl _ s
  | cons e l ih => exact (raise_only e.1 e.2 s).trans (ih _)

theorem raiseAll_sys (l : List (Src × Nat)) (s : State) : Sys.still s.sys (raiseAll l s).sys := by
  induction l generalizing s with
  | nil => rfl
  | cons e l ih => exact (raise_sys e.1 e.2 s).trans (ih _)

theorem raiseAccess_only (blk : Nat) (w : Bool) (a : Nat) (s : State) : OnlyChanges raiseParts s (raiseAccess blk w a s) := by
  refine .trans ?_ (raiseWith_only _ _)
  split
  · intro p hp; cases p <;> first | rfl | exact absurd hp (by decide)
  · exact .refl _ s

theorem raiseAccess_sys (blk : Nat) (w : Bool) (a : Nat) (s : State) : Sys.still s.sys (raiseAccess blk w a s).sys := by
  refine .trans ?_ (raiseWith_sys _ _)
  split <;> rfl

/-! ### Field by field -/

@[simp] theorem raiseWith_tb (r : Raising) (s : State) : (raiseWith r s).tb = s.tb := raiseWith_only r s .tb (by decide)
@[simp] theorem raiseWith_pwr (r : Raising) (s : State) : (raiseWith r s).pwr = s.pwr := raiseWith_only r s .pwr (by decide)
@[simp] theorem raiseWith_nv (r : Raising) (s : State) : (raiseWith r s).nv = s.nv := raiseWith_only r s .nv (by decide)
@[simp] theorem raiseWith_slot (r : Raising) (s : State) : (raiseWith r s).slot = s.slot := raiseWith_only r s .slot (by decide)
@[simp] theorem raiseWith_cis (r : Raising) (s : State) : (raiseWith r s).cis = s.cis := raiseWith_only r s .cis (by decide)
@[simp] theorem raiseWith_dsc (r : Raising) (s : State) : (raiseWith r s).dsc = s.dsc := raiseWith_only r s .dsc (by decide)
@[simp] theorem raiseWith_tkt (r : Raising) (s : State) : (raiseWith r s).tkt = s.tkt := raiseWith_only r s .tkt (by decide)
@[simp] theorem raiseWith_rings (r : Raising) (s : State) : (raiseWith r s).rings = s.rings := raiseWith_only r s .rings (by decide)
@[simp] theorem raiseWith_vpt (r : Raising) (s : State) : (raiseWith r s).vpt = s.vpt := raiseWith_only r s .vpt (by decide)
@[simp] theorem raiseWith_lan (r : Raising) (s : State) : (raiseWith r s).lan = s.lan := raiseWith_only r s .lan (by decide)
@[simp] theorem raiseWith_fld (r : Raising) (s : State) : (raiseWith r s).fld = s.fld := raiseWith_only r s .fld (by decide)
@[simp] theorem raiseWith_net (r : Raising) (s : State) : (raiseWith r s).net = s.net := raiseWith_only r s .net (by decide)
@[simp] theorem raiseWith_osr (r : Raising) (s : State) : (raiseWith r s).osr = s.osr := raiseWith_only r s .osr (by decide)
@[simp] theorem raiseWith_adc (r : Raising) (s : State) : (raiseWith r s).adc = s.adc := raiseWith_only r s .adc (by decide)
@[simp] theorem raiseWith_tmr (r : Raising) (s : State) : (raiseWith r s).tmr = s.tmr := raiseWith_only r s .tmr (by decide)
@[simp] theorem raiseWith_crc (r : Raising) (s : State) : (raiseWith r s).crc = s.crc := raiseWith_only r s .crc (by decide)
@[simp] theorem raiseWith_cfg (r : Raising) (s : State) : (raiseWith r s).cfg = s.cfg := raiseWith_only r s .cfg (by decide)
@[simp] theorem raiseWith_jtag (r : Raising) (s : State) : (raiseWith r s).jtag = s.jtag := raiseWith_only r s .jtag (by decide)
@[simp] theorem raiseWith_shadow (r : Raising) (s : State) : (raiseWith r s).shadow = s.shadow := raiseWith_only r s .shadow (by decide)
@[simp] theorem raiseWith_pending (r : Raising) (s : State) : (raiseWith r s).pending = s.pending := raiseWith_only r s .pending (by decide)
@[simp] theorem raiseWith_edge (r : Raising) (s : State) : (raiseWith r s).edge = s.edge := raiseWith_only r s .edge (by decide)
@[simp] theorem raiseWith_free (r : Raising) (s : State) : (raiseWith r s).free = s.free := raiseWith_only r s .free (by decide)
@[simp] theorem raiseWith_mode (r : Raising) (s : State) : (raiseWith r s).sys.mode = s.sys.mode := (raiseWith_sys r s).mode
@[simp] theorem raiseWith_step (r : Raising) (s : State) : (raiseWith r s).sys.step = s.sys.step := (raiseWith_sys r s).step
@[simp] theorem raiseWith_leave (r : Raising) (s : State) : (raiseWith r s).sys.leave = s.sys.leave := (raiseWith_sys r s).leave
@[simp] theorem raiseWith_req (r : Raising) (s : State) : (raiseWith r s).sys.req = s.sys.req := (raiseWith_sys r s).req

@[simp] theorem raise_tb (c : Src) (d : Nat) (s : State) : (raise c d s).tb = s.tb := raise_only c d s .tb (by decide)
@[simp] theorem raise_pwr (c : Src) (d : Nat) (s : State) : (raise c d s).pwr = s.pwr := raise_only c d s .pwr (by decide)
@[simp] theorem raise_nv (c : Src) (d : Nat) (s : State) : (raise c d s).nv = s.nv := raise_only c d s .nv (by decide)
@[simp] theorem raise_slot (c : Src) (d : Nat) (s : State) : (raise c d s).slot = s.slot := raise_only c d s .slot (by decide)
@[simp] theorem raise_cis (c : Src) (d : Nat) (s : State) : (raise c d s).cis = s.cis := raise_only c d s .cis (by decide)
@[simp] theorem raise_dsc (c : Src) (d : Nat) (s : State) : (raise c d s).dsc = s.dsc := raise_only c d s .dsc (by decide)
@[simp] theorem raise_tkt (c : Src) (d : Nat) (s : State) : (raise c d s).tkt = s.tkt := raise_only c d s .tkt (by decide)
@[simp] theorem raise_rings (c : Src) (d : Nat) (s : State) : (raise c d s).rings = s.rings := raise_only c d s .rings (by decide)
@[simp] theorem raise_vpt (c : Src) (d : Nat) (s : State) : (raise c d s).vpt = s.vpt := raise_only c d s .vpt (by decide)
@[simp] theorem raise_lan (c : Src) (d : Nat) (s : State) : (raise c d s).lan = s.lan := raise_only c d s .lan (by decide)
@[simp] theorem raise_fld (c : Src) (d : Nat) (s : State) : (raise c d s).fld = s.fld := raise_only c d s .fld (by decide)
@[simp] theorem raise_net (c : Src) (d : Nat) (s : State) : (raise c d s).net = s.net := raise_only c d s .net (by decide)
@[simp] theorem raise_osr (c : Src) (d : Nat) (s : State) : (raise c d s).osr = s.osr := raise_only c d s .osr (by decide)
@[simp] theorem raise_adc (c : Src) (d : Nat) (s : State) : (raise c d s).adc = s.adc := raise_only c d s .adc (by decide)
@[simp] theorem raise_tmr (c : Src) (d : Nat) (s : State) : (raise c d s).tmr = s.tmr := raise_only c d s .tmr (by decide)
@[simp] theorem raise_crc (c : Src) (d : Nat) (s : State) : (raise c d s).crc = s.crc := raise_only c d s .crc (by decide)
@[simp] theorem raise_cfg (c : Src) (d : Nat) (s : State) : (raise c d s).cfg = s.cfg := raise_only c d s .cfg (by decide)
@[simp] theorem raise_jtag (c : Src) (d : Nat) (s : State) : (raise c d s).jtag = s.jtag := raise_only c d s .jtag (by decide)
@[simp] theorem raise_shadow (c : Src) (d : Nat) (s : State) : (raise c d s).shadow = s.shadow := raise_only c d s .shadow (by decide)
@[simp] theorem raise_pending (c : Src) (d : Nat) (s : State) : (raise c d s).pending = s.pending := raise_only c d s .pending (by decide)
@[simp] theorem raise_edge (c : Src) (d : Nat) (s : State) : (raise c d s).edge = s.edge := raise_only c d s .edge (by decide)
@[simp] theorem raise_free (c : Src) (d : Nat) (s : State) : (raise c d s).free = s.free := raise_only c d s .free (by decide)
@[simp] theorem raise_mode (c : Src) (d : Nat) (s : State) : (raise c d s).sys.mode = s.sys.mode := (raise_sys c d s).mode
@[simp] theorem raise_step (c : Src) (d : Nat) (s : State) : (raise c d s).sys.step = s.sys.step := (raise_sys c d s).step
@[simp] theorem raise_leave (c : Src) (d : Nat) (s : State) : (raise c d s).sys.leave = s.sys.leave := (raise_sys c d s).leave
@[simp] theorem raise_req (c : Src) (d : Nat) (s : State) : (raise c d s).sys.req = s.sys.req := (raise_sys c d s).req

@[simp] theorem raiseIf_tb (b : Bool) (c : Src) (d : Nat) (s : State) : (raiseIf b c d s).tb = s.tb := raiseIf_only b c d s .tb (by decide)
@[simp] theorem raiseIf_pwr (b : Bool) (c : Src) (d : Nat) (s : State) : (raiseIf b c d s).pwr = s.pwr := raiseIf_only b c d s .pwr (by decide)
@[simp] theorem raiseIf_nv (b : Bool) (c : Src) (d : Nat) (s : State) : (raiseIf b c d s).nv = s.nv := raiseIf_only b c d s .nv (by decide)
@[simp] theorem raiseIf_slot (b : Bool) (c : Src) (d : Nat) (s : State) : (raiseIf b c d s).slot = s.slot := raiseIf_only b c d s .slot (by decide)
@[simp] theorem raiseIf_cis (b : Bool) (c : Src) (d : Nat) (s : State) : (raiseIf b c d s).cis = s.cis := raiseIf_only b c d s .cis (by decide)
@[simp] theorem raiseIf_dsc (b : Bool) (c : Src) (d : Nat) (s : State) : (raiseIf b c d s).dsc = s.dsc := raiseIf_only b c d s .dsc (by decide)
@[simp] theorem raiseIf_tkt (b : Bool) (c : Src) (d : Nat) (s : State) : (raiseIf b c d s).tkt = s.tkt := raiseIf_only b c d s .tkt (by decide)
@[simp] theorem raiseIf_rings (b : Bool) (c : Src) (d : Nat) (s : State) : (raiseIf b c d s).rings = s.rings := raiseIf_only b c d s .rings (by decide)
@[simp] theorem raiseIf_vpt (b : Bool) (c : Src) (d : Nat) (s : State) : (raiseIf b c d s).vpt = s.vpt := raiseIf_only b c d s .vpt (by decide)
@[simp] theorem raiseIf_lan (b : Bool) (c : Src) (d : Nat) (s : State) : (raiseIf b c d s).lan = s.lan := raiseIf_only b c d s .lan (by decide)
@[simp] theorem raiseIf_fld (b : Bool) (c : Src) (d : Nat) (s : State) : (raiseIf b c d s).fld = s.fld := raiseIf_only b c d s .fld (by decide)
@[simp] theorem raiseIf_net (b : Bool) (c : Src) (d : Nat) (s : State) : (raiseIf b c d s).net = s.net := raiseIf_only b c d s .net (by decide)
@[simp] theorem raiseIf_osr (b : Bool) (c : Src) (d : Nat) (s : State) : (raiseIf b c d s).osr = s.osr := raiseIf_only b c d s .osr (by decide)
@[simp] theorem raiseIf_adc (b : Bool) (c : Src) (d : Nat) (s : State) : (raiseIf b c d s).adc = s.adc := raiseIf_only b c d s .adc (by decide)
@[simp] theorem raiseIf_tmr (b : Bool) (c : Src) (d : Nat) (s : State) : (raiseIf b c d s).tmr = s.tmr := raiseIf_only b c d s .tmr (by decide)
@[simp] theorem raiseIf_crc (b : Bool) (c : Src) (d : Nat) (s : State) : (raiseIf b c d s).crc = s.crc := raiseIf_only b c d s .crc (by decide)
@[simp] theorem raiseIf_cfg (b : Bool) (c : Src) (d : Nat) (s : State) : (raiseIf b c d s).cfg = s.cfg := raiseIf_only b c d s .cfg (by decide)
@[simp] theorem raiseIf_jtag (b : Bool) (c : Src) (d : Nat) (s : State) : (raiseIf b c d s).jtag = s.jtag := raiseIf_only b c d s .jtag (by decide)
@[simp] theorem raiseIf_shadow (b : Bool) (c : Src) (d : Nat) (s : State) : (raiseIf b c d s).shadow = s.shadow := raiseIf_only b c d s .shadow (by decide)
@[simp] theorem raiseIf_pending (b : Bool) (c : Src) (d : Nat) (s : State) : (raiseIf b c d s).pending = s.pending := raiseIf_only b c d s .pending (by decide)
@[simp] theorem raiseIf_edge (b : Bool) (c : Src) (d : Nat) (s : State) : (raiseIf b c d s).edge = s.edge := raiseIf_only b c d s .edge (by decide)
@[simp] theorem raiseIf_free (b : Bool) (c : Src) (d : Nat) (s : State) : (raiseIf b c d s).free = s.free := raiseIf_only b c d s .free (by decide)
@[simp] theorem raiseIf_mode (b : Bool) (c : Src) (d : Nat) (s : State) : (raiseIf b c d s).sys.mode = s.sys.mode := (raiseIf_sys b c d s).mode
@[simp] theorem raiseIf_step (b : Bool) (c : Src) (d : Nat) (s : State) : (raiseIf b c d s).sys.step = s.sys.step := (raiseIf_sys b c d s).step
@[simp] theorem raiseIf_leave (b : Bool) (c : Src) (d : Nat) (s : State) : (raiseIf b c d s).sys.leave = s.sys.leave := (raiseIf_sys b c d s).leave
@[simp] theorem raiseIf_req (b : Bool) (c : Src) (d : Nat) (s : State) : (raiseIf b c d s).sys.req = s.sys.req := (raiseIf_sys b c d s).req

@[simp] theorem raiseAll_tb (l : List (Src × Nat)) (s : State) : (raiseAll l s).tb = s.tb := raiseAll_only l s .tb (by decide)
@[simp] theorem raiseAll_pwr (l : List (Src × Nat)) (s : State) : (raiseAll l s).pwr = s.pwr := raiseAll_only l s .pwr (by decide)
@[simp] theorem raiseAll_nv (l : List (Src × Nat)) (s : State) : (raiseAll l s).nv = s.nv := raiseAll_only l s .nv (by decide)
@[simp] theorem raiseAll_slot (l : List (Src × Nat)) (s : State) : (raiseAll l s).slot = s.slot := raiseAll_only l s .slot (by decide)
@[simp] theorem raiseAll_cis (l : List (Src × Nat)) (s : State) : (raiseAll l s).cis = s.cis := raiseAll_only l s .cis (by decide)
@[simp] theorem raiseAll_dsc (l : List (Src × Nat)) (s : State) : (raiseAll l s).dsc = s.dsc := raiseAll_only l s .dsc (by decide)
@[simp] theorem raiseAll_tkt (l : List (Src × Nat)) (s : State) : (raiseAll l s).tkt = s.tkt := raiseAll_only l s .tkt (by decide)
@[simp] theorem raiseAll_rings (l : List (Src × Nat)) (s : State) : (raiseAll l s).rings = s.rings := raiseAll_only l s .rings (by decide)
@[simp] theorem raiseAll_vpt (l : List (Src × Nat)) (s : State) : (raiseAll l s).vpt = s.vpt := raiseAll_only l s .vpt (by decide)
@[simp] theorem raiseAll_lan (l : List (Src × Nat)) (s : State) : (raiseAll l s).lan = s.lan := raiseAll_only l s .lan (by decide)
@[simp] theorem raiseAll_fld (l : List (Src × Nat)) (s : State) : (raiseAll l s).fld = s.fld := raiseAll_only l s .fld (by decide)
@[simp] theorem raiseAll_net (l : List (Src × Nat)) (s : State) : (raiseAll l s).net = s.net := raiseAll_only l s .net (by decide)
@[simp] theorem raiseAll_osr (l : List (Src × Nat)) (s : State) : (raiseAll l s).osr = s.osr := raiseAll_only l s .osr (by decide)
@[simp] theorem raiseAll_adc (l : List (Src × Nat)) (s : State) : (raiseAll l s).adc = s.adc := raiseAll_only l s .adc (by decide)
@[simp] theorem raiseAll_tmr (l : List (Src × Nat)) (s : State) : (raiseAll l s).tmr = s.tmr := raiseAll_only l s .tmr (by decide)
@[simp] theorem raiseAll_crc (l : List (Src × Nat)) (s : State) : (raiseAll l s).crc = s.crc := raiseAll_only l s .crc (by decide)
@[simp] theorem raiseAll_cfg (l : List (Src × Nat)) (s : State) : (raiseAll l s).cfg = s.cfg := raiseAll_only l s .cfg (by decide)
@[simp] theorem raiseAll_jtag (l : List (Src × Nat)) (s : State) : (raiseAll l s).jtag = s.jtag := raiseAll_only l s .jtag (by decide)
@[simp] theorem raiseAll_shadow (l : List (Src × Nat)) (s : State) : (raiseAll l s).shadow = s.shadow := raiseAll_only l s .shadow (by decide)
@[simp] theorem raiseAll_pending (l : List (Src × Nat)) (s : State) : (raiseAll l s).pending = s.pending := raiseAll_only l s .pending (by decide)
@[simp] theorem raiseAll_edge (l : List (Src × Nat)) (s : State) : (raiseAll l s).edge = s.edge := raiseAll_only l s .edge (by decide)
@[simp] theorem raiseAll_free (l : List (Src × Nat)) (s : State) : (raiseAll l s).free = s.free := raiseAll_only l s .free (by decide)
@[simp] theorem raiseAll_mode (l : List (Src × Nat)) (s : State) : (raiseAll l s).sys.mode = s.sys.mode := (raiseAll_sys l s).mode
@[simp] theorem raiseAll_step (l : List (Src × Nat)) (s : State) : (raiseAll l s).sys.step = s.sys.step := (raiseAll_sys l s).step
@[simp] theorem raiseAll_leave (l : List (Src × Nat)) (s : State) : (raiseAll l s).sys.leave = s.sys.leave := (raiseAll_sys l s).leave
@[simp] theorem raiseAll_req (l : List (Src × Nat)) (s : State) : (raiseAll l s).sys.req = s.sys.req := (raiseAll_sys l s).req

@[simp] theorem raiseAccess_tb (b : Nat) (w : Bool) (a : Nat) (s : State) : (raiseAccess b w a s).tb = s.tb := raiseAccess_only b w a s .tb (by decide)
@[simp] theorem raiseAccess_pwr (b : Nat) (w : Bool) (a : Nat) (s : State) : (raiseAccess b w a s).pwr = s.pwr := raiseAccess_only b w a s .pwr (by decide)
@[simp] theorem raiseAccess_nv (b : Nat) (w : Bool) (a : Nat) (s : State) : (raiseAccess b w a s).nv = s.nv := raiseAccess_only b w a s .nv (by decide)
@[simp] theorem raiseAccess_slot (b : Nat) (w : Bool) (a : Nat) (s : State) : (raiseAccess b w a s).slot = s.slot := raiseAccess_only b w a s .slot (by decide)
@[simp] theorem raiseAccess_cis (b : Nat) (w : Bool) (a : Nat) (s : State) : (raiseAccess b w a s).cis = s.cis := raiseAccess_only b w a s .cis (by decide)
@[simp] theorem raiseAccess_dsc (b : Nat) (w : Bool) (a : Nat) (s : State) : (raiseAccess b w a s).dsc = s.dsc := raiseAccess_only b w a s .dsc (by decide)
@[simp] theorem raiseAccess_tkt (b : Nat) (w : Bool) (a : Nat) (s : State) : (raiseAccess b w a s).tkt = s.tkt := raiseAccess_only b w a s .tkt (by decide)
@[simp] theorem raiseAccess_rings (b : Nat) (w : Bool) (a : Nat) (s : State) : (raiseAccess b w a s).rings = s.rings := raiseAccess_only b w a s .rings (by decide)
@[simp] theorem raiseAccess_vpt (b : Nat) (w : Bool) (a : Nat) (s : State) : (raiseAccess b w a s).vpt = s.vpt := raiseAccess_only b w a s .vpt (by decide)
@[simp] theorem raiseAccess_lan (b : Nat) (w : Bool) (a : Nat) (s : State) : (raiseAccess b w a s).lan = s.lan := raiseAccess_only b w a s .lan (by decide)
@[simp] theorem raiseAccess_fld (b : Nat) (w : Bool) (a : Nat) (s : State) : (raiseAccess b w a s).fld = s.fld := raiseAccess_only b w a s .fld (by decide)
@[simp] theorem raiseAccess_net (b : Nat) (w : Bool) (a : Nat) (s : State) : (raiseAccess b w a s).net = s.net := raiseAccess_only b w a s .net (by decide)
@[simp] theorem raiseAccess_osr (b : Nat) (w : Bool) (a : Nat) (s : State) : (raiseAccess b w a s).osr = s.osr := raiseAccess_only b w a s .osr (by decide)
@[simp] theorem raiseAccess_adc (b : Nat) (w : Bool) (a : Nat) (s : State) : (raiseAccess b w a s).adc = s.adc := raiseAccess_only b w a s .adc (by decide)
@[simp] theorem raiseAccess_tmr (b : Nat) (w : Bool) (a : Nat) (s : State) : (raiseAccess b w a s).tmr = s.tmr := raiseAccess_only b w a s .tmr (by decide)
@[simp] theorem raiseAccess_crc (b : Nat) (w : Bool) (a : Nat) (s : State) : (raiseAccess b w a s).crc = s.crc := raiseAccess_only b w a s .crc (by decide)
@[simp] theorem raiseAccess_cfg (b : Nat) (w : Bool) (a : Nat) (s : State) : (raiseAccess b w a s).cfg = s.cfg := raiseAccess_only b w a s .cfg (by decide)
@[simp] theorem raiseAccess_jtag (b : Nat) (w : Bool) (a : Nat) (s : State) : (raiseAccess b w a s).jtag = s.jtag := raiseAccess_only b w a s .jtag (by decide)
@[simp] theorem raiseAccess_shadow (b : Nat) (w : Bool) (a : Nat) (s : State) : (raiseAccess b w a s).shadow = s.shadow := raiseAccess_only b w a s .shadow (by decide)
@[simp] theorem raiseAccess_pending (b : Nat) (w : Bool) (a : Nat) (s : State) : (raiseAccess b w a s).pending = s.pending := raiseAccess_only b w a s .pending (by decide)
@[simp] theorem raiseAccess_edge (b : Nat) (w : Bool) (a : Nat) (s : State) : (raiseAccess b w a s).edge = s.edge := raiseAccess_only b w a s .edge (by decide)
@[simp] theorem raiseAccess_free (b : Nat) (w : Bool) (a : Nat) (s : State) : (raiseAccess b w a s).free = s.free := raiseAccess_only b w a s .free (by decide)
@[simp] theorem raiseAccess_mode (b : Nat) (w : Bool) (a : Nat) (s : State) : (raiseAccess b w a s).sys.mode = s.sys.mode := (raiseAccess_sys b w a s).mode
@[simp] theorem raiseAccess_step (b : Nat) (w : Bool) (a : Nat) (s : State) : (raiseAccess b w a s).sys.step = s.sys.step := (raiseAccess_sys b w a s).step
@[simp] theorem raiseAccess_leave (b : Nat) (w : Bool) (a : Nat) (s : State) : (raiseAccess b w a s).sys.leave = s.sys.leave := (raiseAccess_sys b w a s).leave
@[simp] theorem raiseAccess_req (b : Nat) (w : Bool) (a : Nat) (s : State) : (raiseAccess b w a s).sys.req = s.sys.req := (raiseAccess_sys b w a s).req

end Sys2Proof.Machine
end

