-- ==== Sys2Proof/Laws/Access.lean ====
section
/-! SUPPORT. What a host write does: its effect where it lands, ACCESS in Lockdown, else nothing. -/

namespace Sys2Proof.Machine

/-- A write that lands has its effect, after what is due at the instant of the access (R600). -/
theorem hostWr_lands {off : Nat} (eff : State → State) {s : State} (h : s.lands (off / 0x10000) = true) :
    hostWr off eff s = eff (s.order 6) := by
  simp only [State.lands, Bool.and_eq_true, bne_iff_ne, ne_eq] at h
  simp [hostWr, h.1.1, h.1.2, h.2]

/-- A write in Lockdown is discarded, and the block raises ACCESS (R513); LAN_CTRL answers its requests as well (log entry 75). -/
theorem hostWr_lockdown {off : Nat} (eff : State → State) {s : State} (h : s.hostReach = true) (hm : s.sys.mode = .lockdown)
    (ho : off ≠ 0x40014) : hostWr off eff s = raiseAccess (off / 0x10000) true off (s.order 6) := by
  simp [hostWr, h, hm, ho]

/-- Everything a host write can do. -/
theorem hostWr_cases (off : Nat) (eff : State → State) (s : State) :
    hostWr off eff s = s ∨ hostWr off eff s = raiseAccess (off / 0x10000) true off (s.order 6)
      ∨ hostWr off eff s = eff (raiseAccess (off / 0x10000) true off (s.order 6)) ∨ hostWr off eff s = eff (s.order 6) := by
  unfold hostWr; dsimp only; (repeat' split) <;> simp

/-- A write by the fields of a register changes the registers and the shadows, and raises ACCESS where it is discarded. -/
theorem fieldWrite_only (off : Nat) (val : Word) (s : State) : OnlyChanges (.shadow :: raiseParts) s (fieldWrite off val s) := by
  have h : ∀ m n, OnlyChanges (.shadow :: raiseParts) s { s with regs := m, shadow := n } := by
    intro m n p hp; cases p <;> first | rfl | exact absurd hp (by decide)
  unfold fieldWrite
  dsimp only
  split
  · exact .refl _ s
  · split
    · exact .refl _ s
    · split
      · exact (h _ _).trans ((raiseAccess_only _ _ _ _).mono (by decide))
      · exact h _ _

end Sys2Proof.Machine
end

