-- ==== Sys2Proof/Laws/Frames.lean ====
section
/-! SUPPORT. Frames of the shared operations: what each may change, so that a command's frame is composed of them. -/

namespace Sys2Proof.Machine

/-- A frame of a choice is a frame of both ways. -/
theorem OnlyChanges.ite {l : List Part} {s a b : State} (c : Prop) [Decidable c] (h : OnlyChanges l s a) (h' : OnlyChanges l s b) :
    OnlyChanges l s (if c then a else b) := by split <;> assumption

/-- A frame of every step is a frame of a fold. -/
theorem OnlyChanges.foldl {α : Type} {l : List Part} (g : State → α → State) (h : ∀ s a, OnlyChanges l s (g s a)) (xs : List α) (s : State) :
    OnlyChanges l s (xs.foldl g s) := by
  induction xs generalizing s with
  | nil => exact .refl _ s
  | cons a xs ih => exact (h s a).trans (ih _)

/-! ### One part -/

theorem State.w_only (s : State) (f : RegField) (v i j : Nat) : OnlyChanges [.regs] s (s.w f v i j) := by
  intro p hp; cases p <;> first | rfl | exact absurd hp (by decide)
theorem State.add_only (s : State) (f : RegField) (n i j : Nat) : OnlyChanges [.regs] s (s.add f n i j) := by
  intro p hp; cases p <;> first | rfl | exact absurd hp (by decide)
theorem State.at_only (s : State) (due : Nat) : OnlyChanges [.tb, .edge] s (s.at due) := by
  intro p hp; cases p <;> first | rfl | exact absurd hp (by decide)
theorem State.past_only (s : State) (a : Option Nat) : OnlyChanges [.tb, .edge] s (s.past a) := by
  intro p hp; cases p <;> first | rfl | exact absurd hp (by decide)
theorem State.order_only (s : State) (n : Nat) : OnlyChanges [.tb, .osr, .edge] s (s.order n) := by
  intro p hp; cases p <;> first | rfl | exact absurd hp (by decide)
theorem idleTick_only (s : State) : OnlyChanges [.tb, .osr, .edge] s (idleTick s) := by
  intro p hp; cases p <;> first | rfl | exact absurd hp (by decide)
theorem State.took_only (s : State) (n : Nat) : OnlyChanges [.free] s (s.took n) := by
  intro p hp; cases p <;> first | rfl | exact absurd hp (by decide)
theorem State.send_only (s : State) (l : List Tx) : OnlyChanges [.tx] s (s.send l) := by
  intro p hp; cases p <;> first | rfl | exact absurd hp (by decide)
theorem State.msi_only (s : State) (v : Nat) : OnlyChanges [.hif, .tx] s (s.msi v) := by
  intro p hp; cases p <;> first | rfl | exact absurd hp (by decide)
theorem State.nmt_only (s : State) : OnlyChanges [.hif, .tx, .regs] s (s.nmt) := by
  intro p hp; cases p <;> first | rfl | exact absurd hp (by decide)
theorem ringCount_only (s : State) (n : Fin 4) (b : Bool) : OnlyChanges [.rings, .hif, .tx] s (ringCount s n b) := by
  intro p hp; cases p <;> first | rfl | exact absurd hp (by decide)
theorem ringEntry_only (s : State) (n : Fin 4) (b : Nat) (ws : List Word) (now : Bool) : OnlyChanges [.rings, .hif, .tx] s (ringEntry s n b ws now) := by
  intro p hp; cases p <;> first | rfl | exact absurd hp (by decide)
theorem State.stat_only (s : State) (k i n : Nat) : OnlyChanges [.smp] s (s.stat k i n) := by
  intro p hp; cases p <;> first | rfl | exact absurd hp (by decide)
theorem aerRecord_only (b : Nat) (s : State) : OnlyChanges [.hif] s (aerRecord b s) := by
  intro p hp; cases p <;> first | rfl | exact absurd hp (by decide)
theorem answerUr_only (s : State) : OnlyChanges [.hif, .tx] s (answerUr s) := by
  intro p hp; cases p <;> first | rfl | exact absurd hp (by decide)
theorem State.port_only (s : State) (n : Fin 16) (f : Port → Port) : OnlyChanges [.vpt] s (s.port n f) := by
  intro p hp; cases p <;> first | rfl | exact absurd hp (by decide)
theorem State.nport_only (s : State) (p : Fin 2) (f : NetPort → NetPort) : OnlyChanges [.net] s (s.nport p f) := by
  intro p hp; cases p <;> first | rfl | exact absurd hp (by decide)
theorem State.conn_only (s : State) (n : Fin 32) (f : Conn → Conn) : OnlyChanges [.net] s (s.conn n f) := by
  intro p hp; cases p <;> first | rfl | exact absurd hp (by decide)
theorem State.link_only (s : State) (p : Fin 2) (f : OsrLink → OsrLink) : OnlyChanges [.osr] s (s.link p f) := by
  intro p hp; cases p <;> first | rfl | exact absurd hp (by decide)
theorem State.lane_only (s : State) (l : Fin 3) (f : Lane → Lane) : OnlyChanges [.lan] s (s.lane l f) := by
  intro p hp; cases p <;> first | rfl | exact absurd hp (by decide)
theorem State.withConv_only (s : State) (c : Fin 2) (f : Conv → Conv) : OnlyChanges [.adc] s (s.withConv c f) := by
  intro p hp; cases p <;> first | rfl | exact absurd hp (by decide)
theorem adcRoll_only (c : Fin 2) (s : State) : OnlyChanges [.adc] s (adcRoll c s) := by
  intro p hp; cases p <;> first | rfl | exact absurd hp (by decide)
theorem updFlight_only (s : State) (i : Nat) (g : Flight → Flight) : OnlyChanges [.dsc] s (updFlight s i g) := by
  intro p hp; cases p <;> first | rfl | exact absurd hp (by decide)
theorem finish_only (f : Flight) (st : Status) (s : State) : OnlyChanges [.dsc] s (finish f st s) := by
  intro p hp; cases p <;> first | rfl | exact absurd hp (by decide)
theorem admitNow_only (f : Flight) (s : State) : OnlyChanges [.dsc, .evs] s (admitNow f s) := by
  intro p hp; cases p <;> first | rfl | exact absurd hp (by decide)
theorem lanResult_only (r l : Nat) (s : State) : OnlyChanges [.regs] s (lanResult r l s) := by
  intro p hp; cases p <;> first | rfl | exact absurd hp (by decide)
theorem reqResult_only (r w : Nat) (s : State) : OnlyChanges [.regs] s (reqResult r w s) := by
  intro p hp; cases p <;> first | rfl | exact absurd hp (by decide)
theorem drstResult_only (r w : Nat) (s : State) : OnlyChanges [.regs] s (drstResult r w s) := by
  intro p hp; cases p <;> first | rfl | exact absurd hp (by decide)

/-! ### Several parts -/

/-- Everything a change of the mode may change (R515, R48): the mode control, and at the end of Boot what starts the slot clock. -/
theorem setMode_only (m : Mode) (s : State) : OnlyChanges [.sys, .slot, .regs, .vpt] s (setMode m s) := by
  intro p hp
  unfold setMode bootExit slotStart
  (repeat' (first | split | dsimp only)) <;> cases p <;> first | rfl | exact absurd hp (by decide)

theorem enterHold_only (s : State) : OnlyChanges [.sys, .slot, .regs, .vpt] s (enterHold s) := by
  unfold enterHold
  refine .ite _ (.refl _ s) (.trans ?_ (setMode_only _ _))
  intro p hp; cases p <;> first | rfl | exact absurd hp (by decide)

/-- A frame dropped at a valve port is counted and raises VPT.FRAME (R201). -/
theorem vpDrop_only (n : Fin 16) (c : Bool) (s : State) : OnlyChanges raiseParts s (vpDrop n c s) :=
  ((State.add_only s _ 1 n 0).mono (by decide)).trans (raise_only _ _ _)

end Sys2Proof.Machine
end

