-- ==== Sys2Proof/Laws/Raise.lean ====
section
/-! SUPPORT. What a raising writes: the status bit of its source; the registers that it leaves alone (R492-R494, R501). -/

namespace Sys2Proof.Machine

/-- Registers that no raising writes: not a fault register of a block, and none of the four HIF registers of messages and event
staging. -/
def raiseLeaves (o : Nat) : Prop := o % 0x10000 < 0xF000 ∧ o ≠ 0x10030 ∧ o ≠ 0x10034 ∧ o ≠ 0x11094 ∧ o ≠ 0x11204

theorem fltOff_leaves {o : Nat} (h : raiseLeaves o) (b k : Nat) (hk : 0xF000 ≤ k) (hk' : k < 0x10000) : o ≠ fltOff b k := by
  have := h.1
  unfold fltOff; omega

/-- Bit i of a word with another bit, or the same bit, set. -/
theorem putBit_getLsbD {n : Nat} (v : BitVec n) (i j : Nat) (b : Bool) (hj : j < n) :
    (putBit v i b).getLsbD j = if j = i then b else v.getLsbD j := by
  have e : (BitVec.ofNat n (2 ^ i)).getLsbD j = decide (i = j) := by
    rw [BitVec.getLsbD_ofNat, Nat.testBit_two_pow]; simp [hj]
  cases b
  · rw [putBit, if_neg (by simp), BitVec.getLsbD_and, BitVec.getLsbD_not, e]
    by_cases h : j = i
    · simp [h]
    · simp [h, Ne.symm h, hj]
  · rw [putBit, if_pos rfl, BitVec.getLsbD_or, e]
    by_cases h : j = i
    · simp [h]
    · simp [h, Ne.symm h]

/-- The registers after a raising agree with those before it wherever a raising writes nothing. -/
theorem Raising.regs_leaves (r : Raising) (s : State) {o : Nat} (h : raiseLeaves o) : mget (r.regs s) o = mget s.regs o := by
  have f : ∀ (m : Map Word) (k : Nat) (v : Word), 0xF000 ≤ k → k < 0x10000 →
      mget (mput 0 m (fltOff r.src.blk.toNat k) v) o = mget m o :=
    fun m k v h1 h2 => mget_mput_ne _ _ _ (fltOff_leaves h _ k h1 h2)
  have hc : r.src.code.toNat < 32 := r.src.code.isLt
  have h1 : ∀ (m : Map Word) v, mget (rput m R.HIF_NMT_SRC_PEND v) o = mget m o := fun m v => mget_rput_ne _ _ _ _ _ _ h.2.1
  have h2 : ∀ (m : Map Word) v, mget (rput m R.HIF_NMT_SRC_BLOCK v) o = mget m o := fun m v => mget_rput_ne _ _ _ _ _ _ h.2.1
  have h3 : ∀ (m : Map Word) v, mget (rput m R.HIF_NMT_SRC_CODE v) o = mget m o := fun m v => mget_rput_ne _ _ _ _ _ _ h.2.1
  have h4 : ∀ (m : Map Word) n, mget (radd m R.HIF_NMT_CNT_CNT n) o = mget m o := fun m v => mget_rput_ne _ _ _ _ _ _ h.2.2.1
  have h5 : ∀ (m : Map Word) n, mget (radd m R.HIF_RING_LOST_CNT n 2) o = mget m o := fun m v => mget_rput_ne _ _ _ _ _ _ h.2.2.2.1
  have h6 : ∀ (m : Map Word) v, mget (rput m R.HIF_EVT_STAT_DROP v) o = mget m o := fun m v => mget_rput_ne _ _ _ _ _ _ h.2.2.2.2
  have i1 : ∀ (c : Bool) (m m' : Map Word), mget m o = mget m' o → mget (if c then m else m') o = mget m' o := by
    intro c m m' e; cases c <;> simp [e]
  unfold Raising.regs
  dsimp only [List.foldl_cons, List.foldl_nil]
  refine (i1 _ _ _ ((h6 _ _).trans (h5 _ _))).trans ?_
  refine (i1 _ _ _ (h4 _ _)).trans ?_
  refine (i1 _ _ _ ((h3 _ _).trans ((h2 _ _).trans (h1 _ _)))).trans ?_
  refine (i1 _ _ _ ?_).trans ?_
  · rw [f _ _ _ (by omega) (by omega), f _ _ _ (by omega) (by omega), f _ _ _ (by omega) (by omega), f _ _ _ (by omega) (by omega),
      f _ _ _ (by omega) (by omega), f _ _ _ (by omega) (by omega), f _ _ _ (by omega) (by omega)]
  · rw [f _ _ _ (by omega) (by omega), f _ _ _ (by omega) (by omega)]

theorem raiseOne_regs_leaves (r : Raising) (s : State) {o : Nat} (h : raiseLeaves o) : mget (raiseOne r s).regs o = mget s.regs o := by
  unfold raiseOne raiseRec
  dsimp only
  split
  · exact Raising.regs_leaves _ _ h
  · rfl

theorem raiseWith_regs_leaves (r : Raising) (s : State) {o : Nat} (h : raiseLeaves o) : mget (raiseWith r s).regs o = mget s.regs o := by
  unfold raiseWith
  dsimp only
  split
  · rw [raiseOne_regs_leaves _ _ h, raiseOne_regs_leaves _ _ h]
  · exact raiseOne_regs_leaves _ _ h

theorem raise_regs_leaves (c : Src) (d : Nat) (s : State) {o : Nat} (h : raiseLeaves o) : mget (raise c d s).regs o = mget s.regs o :=
  raiseWith_regs_leaves _ s h

theorem raiseIf_regs_leaves (b : Bool) (c : Src) (d : Nat) (s : State) {o : Nat} (h : raiseLeaves o) :
    mget (raiseIf b c d s).regs o = mget s.regs o := by
  unfold raiseIf; split
  · exact raise_regs_leaves c d s h
  · rfl

theorem raiseAll_regs_leaves (l : List (Src × Nat)) (s : State) {o : Nat} (h : raiseLeaves o) :
    mget (raiseAll l s).regs o = mget s.regs o := by
  unfold raiseAll
  induction l generalizing s with
  | nil => rfl
  | cons e l ih => rw [List.foldl_cons, ih, raise_regs_leaves _ _ _ h]

/-- A register field that no raising writes. -/
theorem raise_r (c : Src) (d : Nat) (s : State) (f : RegField) (i j : Nat) (h : raiseLeaves (f.off i j)) :
    (raise c d s).r f i j = s.r f i j := by
  simp [State.r, rget, mread, raise_regs_leaves _ _ _ h]

theorem raiseIf_r (b : Bool) (c : Src) (d : Nat) (s : State) (f : RegField) (i j : Nat) (h : raiseLeaves (f.off i j)) :
    (raiseIf b c d s).r f i j = s.r f i j := by
  simp [State.r, rget, mread, raiseIf_regs_leaves _ _ _ _ h]

theorem raiseAll_r (l : List (Src × Nat)) (s : State) (f : RegField) (i j : Nat) (h : raiseLeaves (f.off i j)) :
    (raiseAll l s).r f i j = s.r f i j := by
  simp [State.r, rget, mread, raiseAll_regs_leaves _ _ h]

/-- The status bit of a source stands in the registers. -/
def Raised (m : Map Word) (c : Src) : Prop := (mread 0 m (fltOff c.blk.toNat 0xF000)).getLsbD c.code.toNat = true

/-- A raising sets the status bit of its source, and clears none (R492). -/
theorem Raising.regs_raised (r : Raising) (s : State) (c : Src) (h : c = r.src ∨ Raised s.regs c) : Raised (r.regs s) c := by
  have hc : r.src.code.toNat < 32 := r.src.code.isLt
  have hc' : c.code.toNat < 32 := c.code.isLt
  have hb : c.blk.toNat < 16 := c.blk.isLt
  have hb' : r.src.blk.toNat < 16 := r.src.blk.isLt
  have i1 : ∀ (b : Bool) (m m' : Map Word), Raised m' c → (Raised m' c → Raised m c) → Raised (if b then m else m') c := by
    intro b m m' e f; cases b
    · exact e
    · exact f e
  have n : ∀ (m : Map Word) (k : Nat) (v : Word), 0xF000 < k → k < 0x10000 → Raised m c → Raised (mput 0 m (fltOff r.src.blk.toNat k) v) c := by
    intro m k v h1 h2 e
    unfold Raised at *
    rw [mread_mput_ne _ _ _ _ (by unfold fltOff; omega)]; exact e
  have p : ∀ (m : Map Word) (f : RegField) (v i j : Nat), f.off i j < 0x1F000 → 0x10000 ≤ f.off i j → Raised m c → Raised (rput m f v i j) c := by
    intro m f v i j h1 h2 e
    unfold Raised at *
    rw [rput, mread_mput_ne _ _ _ _ (by unfold fltOff; omega)]; exact e
  unfold Raising.regs
  dsimp only [List.foldl_cons, List.foldl_nil]
  refine i1 _ _ _ (i1 _ _ _ (i1 _ _ _ (i1 _ _ _ ?_ ?_) ?_) ?_) ?_
  · refine n _ _ _ (by omega) (by omega) ?_
    unfold Raised
    by_cases e : c.blk = r.src.blk
    · rw [e, mread_mput_same, putBit_getLsbD _ _ _ _ hc']
      rcases h with h | h
      · subst h; simp
      · unfold Raised at h; rw [e] at h
        split
        · rfl
        · exact h
    · have e' : c.blk.toNat ≠ r.src.blk.toNat := fun x => e (BitVec.eq_of_toNat_eq x)
      rcases h with h | h
      · exact absurd (by rw [h]) e
      · rw [mread_mput_ne _ _ _ _ (by unfold fltOff; omega)]; exact h
  · intro e
    refine n _ _ _ (by omega) (by omega) (n _ _ _ (by omega) (by omega) (n _ _ _ (by omega) (by omega) (n _ _ _ (by omega) (by omega)
      (n _ _ _ (by omega) (by omega) (n _ _ _ (by omega) (by omega) (n _ _ _ (by omega) (by omega) e))))))
  · intro e
    exact p _ _ _ _ _ (by decide) (by decide) (p _ _ _ _ _ (by decide) (by decide) (p _ _ _ _ _ (by decide) (by decide) e))
  · intro e; exact p _ _ _ _ _ (by decide) (by decide) e
  · intro e; exact p _ _ _ _ _ (by decide) (by decide) (p _ _ _ _ _ (by decide) (by decide) e)

/-- A source stays raised through a raising; the source raised is raised where its block's domain is up (R492, R493). -/
theorem raiseOne_raised (r : Raising) (s : State) (c : Src) (h : Raised s.regs c ∨ c = r.src ∧ s.blockUp r.src.blk.toNat = true) :
    Raised (raiseOne r s).regs c := by
  unfold raiseOne raiseRec
  dsimp only
  rw [r.settle_src]
  split
  · apply Raising.regs_raised
    rw [r.settle_src]
    rcases h with h | h
    · exact .inr h
    · exact .inl h.1
  · rcases h with h | h
    · exact h
    · simp_all

theorem raiseWith_raised (r : Raising) (s : State) (c : Src) (h : Raised s.regs c ∨ c = r.src ∧ s.blockUp r.src.blk.toNat = true) :
    Raised (raiseWith r s).regs c := by
  unfold raiseWith
  dsimp only
  split
  · exact raiseOne_raised _ _ _ (.inl (raiseOne_raised _ _ _ h))
  · exact raiseOne_raised _ _ _ h

/-- A raising sets the status bit of its source where the block's domain is up (R492, R493). -/
theorem raise_raised (c : Src) (d : Nat) (s : State) (h : s.blockUp c.blk.toNat = true) : Raised (raise c d s).regs c :=
  raiseWith_raised _ s c (.inr ⟨rfl, h⟩)

/-- A raising clears no status bit. -/
theorem raise_keeps_raised (c e : Src) (d : Nat) (s : State) (h : Raised s.regs e) : Raised (raise c d s).regs e :=
  raiseWith_raised _ s e (.inl h)

end Sys2Proof.Machine
end

