-- ==== Sys2Proof/WellFormed.lean ====
section
/-! DEFINITION. Which terms of Instr describe a command of their row: the written value names the row's own operation, and
a received list fits what the row can deliver. -/

namespace Sys2Proof

/-- A DIAG_READ covers whole words inside BAR4 (R86). -/
def diagRange (addr : BitVec 20) (len : Nat) : Bool := decide (0 < len ∧ addr.toNat + len ≤ 2 ^ 20)

/-- Reserved codewords of work SRAM (R87). -/
def WsLoc.wf : WsLoc → Bool
  | .reserved cw => decide ((0x4102 ≤ cw.toNat ∧ cw.toNat < 0x4800) ∨ 0x7000 ≤ cw.toNat)
  | _ => true

/-- The well-formedness of a command. -/
def Instr.wf : Instr → Bool
  | .ringEnable _ val => val.getLsbD 31
  | .ringDisable _ val => !val.getLsbD 31
  | .sliceTest val => val.getLsbD 31 && val.extractLsb' 8 2 == 1#2
  | .sliceMigrate val => val.getLsbD 31 && val.extractLsb' 8 2 == 2#2
  | .sliceRestore val => val.getLsbD 31 && val.extractLsb' 8 2 == 3#2
  | .burstGo val => val.getLsbD 31
  | .mdioGo val => val.getLsbD 31
  | .adcCalReq val => val.extractLsb' 0 2 != 0#2
  | .adcInjGo val => val.extractLsb' 0 2 != 0#2
  | .tcCapCmd _ val => val.extractLsb' 0 2 != 0#2
  | .diagRead addr len _ => diagRange addr len
  | .cfgProgram page => decide (1 ≤ page.toNat ∧ page.toNat ≤ 62)
  | .fetchCompletion ds => !ds.isEmpty
  | .workSramScrub loc _ => loc.wf
  | .laneReadmitReq bits => bits != 0
  | .laneTestReq bits => bits != 0
  | .registerWrite _ _ _ | .registerRcRead _ _ _ _ | .powerUp _ _ _ _ | .ref100Accept _ | .ref100Lost
  | .powerupSeqStep _ | .domainLateOpen _ | .domainOpenTimeout _ | .domainTrip _ _ | .laneGateReopen _
  | .vddAoLoss | .testModeRise | .rstNAssert | .rstNRelease _ _ | .bootSelftestDone _
  | .bootConfigReadDone _ _ _ _ _ | .bootLoadDone _ | .sumpRestore _ | .partnerWaitExpire | .slotTick _
  | .fireLaunch _ | .sliceRmw _ _ | .ceInterval | .laneSramScrub _ _ | .ringFetch
  | .fetchError _ | .dmaResume | .admitNop | .admitMark | .admitMarkSpec | .admitConfirm | .admitRevoke
  | .admitFence | .admitInvalidOpcode | .descComplete | .noticeWrite | .eventWrite | .telemetryRecord
  | .irqHoldExpire _ | .ticketDeadline _ | .bookedWrite _ _ | .resolutionDone _ | .perstNAssert
  | .perstNRelease | .configResponseReady | .linkRetrain _ _ | .dataLinkDown | .flr | .flrDone | .d3hotEntry
  | .d3hotExit | .busMasterDisable | .busMasterEnable | .tlpViolation _ _ | .dbSubTail _ | .dbCplHead _
  | .dbEvtHead _ | .dbTelHead _ | .heartbeat _ | .hbTimeout | .nmtRelease | .ringDisableDone _
  | .discoverSend _ | .identReceive _ _ _ | .configAckReceive _ _ | .configAckTimeout _ | .statusReceive _ _
  | .statusDeadline _ | .burstReceive _ _ | .burstTimeout | .vpFrameDrop _ _ | .vpSyncLoss _ | .haltSend
  | .sliceOpDone _ | .sampleFrameReceive _ _ | .scanBoundary _ | .evalPhase _ | .rswSend | .ringAgree _
  | .comparePhase _ | .drivePhase | .repairTimerExpire | .recurClear | .laneSelftestDone _ _ | .autoReadmit _
  | .fieldSample _ | .tpPulse _ | .tpCheck _ _ | .driveFrameReceive _ _ | .offPulseEnd _ | .islandTimeout _
  | .fdlLinkSilent _ | .fieldConfigReceive _ | .fieldResetFrame _ | .watchdogExpire | .stuckTimerExpire _
  | .outputOvlTimer _ | .groupOvlTimer _ | .tpOvlTimer _ | .fsLowEnter _ | .fsLowLeave _ | .fsSag _
  | .fsMissing _ | .netLinkUp _ _ | .netLinkDown _ | .ethFrameReceive _ _ | .netQualDone _ | .netLostRecover _
  | .netPathSilence _ _ | .connWatchdogExpire _ | .mdioDone _ | .osrSyncGain _ | .osrSyncLoss _ | .helloSend _
  | .helloReceive _ _ _ | .osrRttMeasure _ _ | .osrLostExpire _ | .osrFrameDrop _ _ | .timeSend
  | .timeReceive _ _ | .timeLockTimeout | .ringSyncMark | .ringSyncEdge _ | .fwdReceive _ _ | .ansReceive _ _
  | .fwdAnsTimeout _ | .rswReceive _ _ | .adcResult _ _ | .adcRegTrigger _ | .adcInjTrigger _
  | .adcScanTrigger _ _ | .adcCalAuto _ | .adcCalStart _ | .adcCalDone _ _ _ | .adcRefFault | .timerStep _
  | .tcCntWrite _ _ | .tcCmpWrite _ _ _ | .tcCapture _ _ | .tcFlagRead _ _ | .crcStart _ | .crcDin8 _ _
  | .crcDin16 _ _ | .crcDin32 _ _ | .faultForce _ _ | .blkReset _ | .chipReset | .errRelease | .errMinWidthEnd
  | .modeReqConfigure | .modeReqRun | .modeReqMaintain | .deliberateReset _ | .restart _ | .powerDown _
  | .sealCompare _ _ _ | .keyAssert | .keyRelease | .cfgErase | .cfgFinish | .cfgValidate | .cfgCmdDone _ _
  | .cfgHourlyCheck _ _ | .txnBegin | .txnCommit | .txnRollback | .txnApply | .statsSecond _ | .sumpStoreStart
  | .sumpStoreDone _ | .vpSyncGain _ | .dataLinkUp _ _ | .msixControlWrite _ _ | .fdlLinkSyncGain _
  | .fieldSupplyReturn _ | .pumpTokenExpire | .pumpSquareWaveEdge | .jtagTapClock _ => true

end Sys2Proof
end

