-- ==== Sys2Proof/Tests/Slice0.lean ====
section
/-! SUPPORT. Tests: ill-formed terms that the check refuses, single steps against values worked out from the spec, and for every
statement states and operands that meet the hypotheses of each of its clauses. -/

namespace Sys2Proof.Tests

open Sys2Proof Sys2Proof.Machine

/-! ### Well-formedness: one ill-formed term for each check -/

theorem test_wf_ring_enable : (Instr.ringEnable 0 0x6).wf = false := by decide
theorem test_wf_ring_disable : (Instr.ringDisable 0 0x80000006).wf = false := by decide
theorem test_wf_slice_test : (Instr.sliceTest 0x80000200).wf = false ∧ (Instr.sliceTest 0x00000100).wf = false := by decide
theorem test_wf_slice_migrate : (Instr.sliceMigrate 0x80000100).wf = false ∧ (Instr.sliceMigrate 0x00000200).wf = false := by decide
theorem test_wf_slice_restore : (Instr.sliceRestore 0x80000200).wf = false ∧ (Instr.sliceRestore 0x00000300).wf = false := by decide
theorem test_wf_burst_go : (Instr.burstGo 0x7FFFFFFF).wf = false := by decide
theorem test_wf_mdio_go : (Instr.mdioGo 0x7FFFFFFF).wf = false := by decide
theorem test_wf_adc_cal : (Instr.adcCalReq 0xFFFFFFFC).wf = false := by decide
theorem test_wf_adc_inj : (Instr.adcInjGo 0xFFFFFFFC).wf = false := by decide
theorem test_wf_tc_cap : (Instr.tcCapCmd 0 0xFFFFFFFC).wf = false := by decide
theorem test_wf_diag : (Instr.diagRead 0 0 []).wf = false ∧ (Instr.diagRead 0xFFFFF 2 []).wf = false := by decide
theorem test_wf_cfg_program : (Instr.cfgProgram 0).wf = false ∧ (Instr.cfgProgram 63).wf = false := by decide
theorem test_wf_fetch_completion : (Instr.fetchCompletion []).wf = false := by decide
theorem test_wf_lane_readmit : (Instr.laneReadmitReq 0).wf = false := by decide
theorem test_wf_lane_test : (Instr.laneTestReq 0).wf = false := by decide
theorem test_wf_good : (Instr.cfgProgram 62).wf = true ∧ (Instr.sliceTest 0x80000110).wf = true
    ∧ (Instr.diagRead 0xFFFFF 1 []).wf = true := by decide

/-! ### States for the witnesses -/

/-- A device whose domains are up and whose host link works, in Configure. -/
def up : State := { State.reset with
  tb := 1000000
  pwr := { State.reset.pwr with refOk := true, seqStep := 9, on := 0x1FF, fsOk := 3 }
  hif := { State.reset.hif with perstN := true, dlUp := true, ready := true, width := 4, speed := 3, bme := true, msixEn := true }
  cfg := { State.reset.cfg with key := true }
  sys := { State.reset.sys with mode := .configure, step := 15, loaded := true, internal := true } }

/-- That device in another mode. -/
def upIn (m : Mode) : State := { up with sys := { up.sys with mode := m } }

/-- That device with its slot clock running, in slot 0. -/
def upSlot : State := { up with slot := { up.slot with run := true, ticked := true } }

/-- The smallest image: one block, an AND of a constant; period 500 µs, W 100 µs. -/
def image : Image :=
  { period := 50000, win := 10000, live := 0, tool := 0, format := 1, liveTab := [],
    blocks := [⟨1, 0, 0, 1, 0x6000, 0xFFFF, 0xFFFF, 0xFFFF, 0, 0, 0⟩], pool := [], sig := 0 }

/-- That device with its lanes scanning, after phase p. -/
def upScan (p : Nat) : State := { upIn .run with
  lan := { up.lan with run := true, phase := p, image := some image, cmpX := true, cmpY := true } }

/-- Words of a valid bank with that image that are not zero, by byte offset. -/
def bankWords : List (Nat × Word) :=
  [(0, 0x4b584346), (4, 0x100a1), (8, 1), (0x14, 0x15c), (0x38, 0xa3074603), (0x3C, 0xc0fabc7d), (0x1000, 0x4b584c49), (0x1004, 0x100a1),
   (0x1008, 0x15c), (0x100c, 1), (0x1010, 0xc350), (0x1014, 0x2710), (0x1140, 0x100001), (0x1144, 0xffff6000), (0x1148, 0xffffffff),
   (0x1158, 0x83ab0c44)]

/-- A byte of those words. -/
def bankByteOf (o : Nat) : Byte := (mread 0 bankWords (o / 4 * 4)).extractLsb' (8 * (o % 4)) 8

/-- The bytes of that bank: 64 of its header and 348 of its body. -/
def bank : Map Byte :=
  ((List.range 64 ++ (List.range 348).map (0x1000 + ·)).map fun o => (o, bankByteOf o)).filter fun e => decide (e.2 ≠ 0xFF)

theorem mread_listed {α : Type} [DecidableEq α] (d : α) (v : Nat → α) (l : List Nat) (k : Nat) :
    mread d ((l.map fun o => (o, v o)).filter fun e => decide (e.2 ≠ d)) k = if k ∈ l then v k else d := by
  induction l with
  | nil => rfl
  | cons a l ih =>
    by_cases hv : v a = d <;> by_cases hk : a = k
    · subst hk; simp [hv] at ih ⊢; simp [ih]
    · simp [hv, Ne.symm hk] at ih ⊢; simp [ih]
    · subst hk; simp [hv, mread, mget]
    · simp [hv, mread, mget, hk, Ne.symm hk] at ih ⊢; simp [ih]

theorem bankByte_bank : bankByte bank = fun k => if k < 64 ∨ (0x1000 ≤ k ∧ k < 0x115C) then bankByteOf k else 0xFF := by
  funext k
  have h : bankByte bank k = mread 0xFF bank k := rfl
  rw [h, bank, mread_listed]
  congr 1
  simp only [List.mem_append, List.mem_range, List.mem_map, eq_iff_iff]
  constructor
  · rintro (h | ⟨a, h, rfl⟩) <;> omega
  · rintro (h | ⟨h, h'⟩)
    · exact .inl h
    · exact .inr ⟨k - 0x1000, by omega, by omega⟩
set_option maxRecDepth 200000 in
theorem test_bank_valid : bankValid bank false = true := by
  rw [bankValid, bankByte_bank]; decide +kernel

set_option maxRecDepth 200000 in
theorem test_image_accepted : imageRefused (imageBytes bank) = false := by
  have h : imageBytes bank = fun i => bankByte bank (0x1000 + 8 * nreg (bankByte bank) + i) := rfl
  rw [h, bankByte_bank]; decide +kernel

/-! ### Witnesses: the queue, registers, check units -/

theorem test_wit_idle : up.pwr.aoOk = true ∧ up.pwr.refOk = true ∧ up.osr.skip = 0
    ∧ State.reset.pwr.aoOk = true ∧ State.reset.pwr.refOk = false ∧ up.edge ≤ 0 ∧ 6 < ({ up with edge := 7 } : State).edge := by decide

theorem test_wit_no_register : offsetUsed up ((0xFFFFF : BitVec 20).toNat / 4 * 4) = false ∧ up.hostReach = true := by decide

theorem test_wit_register_write_w1c : ∃ l, fieldsAt 0x5F000 = some l ∧ (∀ f ∈ l, f.shadowed = false) ∧ actsAt 0x5F000 = false
    ∧ lacksSource 0x5F000 = false ∧ up.lands 5 = true ∧ ∃ f ∈ l, f.acc = .w1c :=
  ⟨_, rfl, by decide⟩

theorem test_wit_register_write_rw : ∃ l, fieldsAt 0xB0018 = some l ∧ (∀ f ∈ l, f.shadowed = false) ∧ actsAt 0xB0018 = false
    ∧ lacksSource 0xB0018 = false ∧ up.lands 11 = true ∧ ∃ f ∈ l, f.acc = .rw :=
  ⟨_, rfl, by decide⟩

theorem test_wit_register_write_ro : ∃ l, fieldsAt 0x20008 = some l ∧ (∀ f ∈ l, f.shadowed = false) ∧ actsAt 0x20008 = false
    ∧ lacksSource 0x20008 = false ∧ up.lands 2 = true ∧ ∀ f ∈ l, f.acc = .ro :=
  ⟨_, rfl, by decide⟩

/-- A transaction is open. -/
def upTxn : State := { up with cfg := { up.cfg with txn := .open } }

theorem test_wit_shadowed_field : ∃ l, fieldsAt 0x20000 = some l ∧ actsAt 0x20000 = false ∧ lacksSource 0x20000 = false
    ∧ (∃ f ∈ l, f.shadowed = true ∧ bitsOf (0x3FFF : Word).toNat f.hi f.lo ≠ bitsOf (storedWord up.regs 0x20000).toNat f.hi f.lo)
    ∧ ∀ f ∈ l, f.shadowed = true → bitsOf (1000 : Word).toNat f.hi f.lo = bitsOf (storedWord up.regs 0x20000).toNat f.hi f.lo :=
  ⟨_, rfl, by decide⟩

theorem test_wit_shadowed : up.lands 2 = true ∧ upTxn.lands 2 = true ∧ upTxn.cfg.txn = .open ∧ up.cfg.txn ≠ .open := by decide

/-- A domain is off. -/
def upLess (d : Nat) : State := { up with pwr := { up.pwr with on := putBit up.pwr.on d false } }

theorem test_wit_rows : up.cfgReach = true ∧ up.dsc.cplq = [] ∧ up.hif.pba = 0 ∧ (upIn .lockdown).hostReach = true
    ∧ (upIn .lockdown).sys.mode = .lockdown ∧ offsetUsed (upIn .lockdown) 0x20000 = true ∧ (upIn .lockdown).blockUp 2 = true
    ∧ up.hostReach = true := by decide

theorem test_wit_read_clears : ∃ l, fieldsAt 0x90128 = some l ∧ lacksSource 0x90128 = false ∧ up.hostReach = true
    ∧ up.blockUp (0x90128 / 0x10000) = true ∧ (∃ f ∈ l, f.acc = .rc ∧ f.mask &&& byteMask 0xF ≠ 0)
    ∧ offsetUsed (upLess 4) 0x20000 = true ∧ (upLess 4).hostReach = true ∧ (upLess 4).blockUp (0x20000 / 0x10000) = false :=
  ⟨_, rfl, by decide, by decide, by decide, by decide, by decide⟩

theorem test_wit_check_units : up.lands 10 = true := by decide

/-! ### Witnesses: power, reset and Boot -/

/-- VDD_AO is below its limits. -/
def unpowered : State := { State.reset with pwr := { State.reset.pwr with aoOk := false } }

theorem test_wit_power : up.pwr.aoOk = true ∧ unpowered.pwr.aoOk = false := by decide

/-- A CHIP reaction has started. -/
def upChip : State := { up with sys := { up.sys with chipDue := some (⟨13, 1⟩, 5) } }

theorem test_wit_device_reset : up.pwr.aoOk = true ∧ up.pwr.rstLow = false ∧ up.lands 0 = true
    ∧ up.inMode [.configure, .commission, .maintain, .safeHold] = true
    ∧ upChip.sys.chipDue = some (⟨13, 1⟩, 5) ∧ upChip.comes 5 = true ∧ upChip.keep.lockdown = false ∧ upChip.sys.chipEnd = none := by decide

theorem test_wit_reference : State.reset.pwr.aoOk = true ∧ State.reset.pwr.refOk = false ∧ State.reset.pwr.rstLow = false
    ∧ up.pwr.aoOk = true ∧ up.pwr.refOk = true := by decide

/-- The power-up sequence stands at a step. -/
def upSeq (k : Nat) : State := { State.reset with pwr := { State.reset.pwr with refOk := true, seqStep := k } }

theorem test_wit_sequence : ∀ k ∈ [2, 7, 8], (upSeq k).pwr.aoOk = true ∧ (upSeq k).pwr.refOk = true ∧ (upSeq k).pwr.rstLow = false
    ∧ (upSeq k).pwr.testHold = false ∧ ((upSeq k).pwr.seqStep < 8 ∨ (upSeq k).pwr.seqStep = 8) := by decide

/-- Every gate waits, or every gate was lost. -/
def upGates : State := { up with pwr := { up.pwr with on := 0, waiting := 0x1FF, lost := 0x1FF } }

theorem test_wit_gates : (∀ d : Fin 9, upGates.pwr.waiting.getLsbD d = true ∧ upGates.pwr.lost.getLsbD d = true
    ∧ up.pwr.on.getLsbD d = true) ∧ upGates.pwr.refOk = true ∧ upGates.pwr.aoOk = true := by decide

/-- RST_N is held low. -/
def upRst : State := { State.reset with pwr := { State.reset.pwr with rstLow := true } }

theorem test_wit_restart_refused : (upIn .run).lands 0 = true ∧ (upIn .run).inMode [.configure, .commission, .maintain, .safeHold] = false
    ∧ upRst.pwr.rstLow = true ∧ upRst.pwr.aoOk = true := by decide

/-- Boot stands at a step. -/
def upBoot (k : BitVec 4) : State := { up with sys := { State.reset.sys with step := k } }

theorem test_wit_self_tests : (upBoot 2).sys.mode = .boot ∧ (upBoot 2).sys.step = 2 ∧ (upBoot 2).pwr.waiting = 0
    ∧ ({ upBoot 2 with keep := { up.keep with lockdown := true } } : State).keep.lockdown = true := by decide

theorem test_wit_config_read_none : (upBoot 4).sys.leave = none ∧ (upBoot 4).sys.mode = .boot ∧ (upBoot 4).sys.step = 4 ∧ bankValid (upBoot 4).nv.bank0 true = false
    ∧ bankValid (upBoot 4).nv.bank1 true = false ∧ (upBoot 4).pwr.aoOk = true := by decide

/-- Bank 0 holds a valid configuration. -/
def stored : Nv := { State.reset.nv with bank0 := bank }

theorem test_wit_config_read_bank : (selectBank stored false true 0).1 = some 0 := by
  have h : bankValid stored.bank0 false = true := test_bank_valid
  have h1 : bankValid stored.bank1 true = false := by decide
  have h2 : (stored.bank 1).isEmpty = true := by decide
  simp only [selectBank, h, h1, Bool.and_false, Bool.false_eq_true, if_false, if_true]
  have h3 : (1 : Fin 2) - 0 = 1 := by decide
  rw [h3, h2]; rfl

/-- Bank 0 is current and Boot stands at the load. -/
def upLoad : State := { upBoot 5 with nv := stored, cfg := { up.cfg with cur := some 0 } }

set_option maxRecDepth 200000 in
theorem test_wit_load : upLoad.cfg.cur = some 0 ∧ upLoad.sys.mode = .boot ∧ upLoad.sys.step = 5 ∧ upLoad.sys.loaded = false
    ∧ upLoad.lan.image = none ∧ sectionOk upLoad.regs (upLoad.nv.bank 0) = true
    ∧ rget (loadEntries upLoad.regs (regSection (upLoad.nv.bank 0))) R.OSR_ID_NDEV = 0 := by decide +kernel

theorem test_wit_load_image : imageRefused (imageBytes (upLoad.nv.bank 0)) = false := test_image_accepted

set_option maxRecDepth 20000 in
theorem test_wit_load_refused : loadFails upLoad [] 0 = true := by
  have h : imageRefused (imageBytes ([] : Map Byte)) = true := by decide +kernel
  simp [loadFails, h]

set_option maxRecDepth 200000 in
theorem test_wit_load_passes : upLoad.sys.leave = none ∧ loadFails upLoad (upLoad.nv.bank 0) 1 = false := by
  refine ⟨rfl, ?_⟩
  have h := test_wit_load_image
  have h1 : sectionOk upLoad.regs (upLoad.nv.bank 0) = true := by decide +kernel
  have h2 : rget (loadEntries upLoad.regs (regSection (upLoad.nv.bank 0))) R.OSR_ID_NDEV = 0 := by decide +kernel
  have h3 : ((List.finRange 3).filter fun l => (1 : BitVec 3).getLsbD l.val && !upLoad.lan.lanes[l].retired).length = 1 := by decide
  rw [loadFails, h, h1, h2, h3]; rfl

/-- The load is done; the partner wait has begun. -/
def upLate : State := { upBoot 6 with sys := { (upBoot 6).sys with loaded := true, pwaitAt := some 7 } }

/-- A record stands in slot 3 of the sump. -/
def recorded : Nv := { State.reset.nv with slots := State.reset.nv.slots.set 3 (some ⟨9, [(4096, 5)]⟩) }

theorem test_wit_last_steps : upLate.sys.mode = .boot ∧ upLate.smp.restored = false ∧ upLate.pwr.aoOk = true ∧ upLate.sys.loaded = true
    ∧ upLate.dom 4 = true ∧ newestRecord upLate.nv 0 = none ∧ newestRecord recorded 0 = some (3, ⟨9, [(4096, 5)]⟩)
    ∧ upLate.sys.internal = false ∧ upLate.sys.pwaitAt = some 7 ∧ upLate.sys.partners = false
    ∧ upLate.comes (7 + upLate.r R.SYS_PARTNER_PWAIT * 100 * ms) = true ∧ (∀ k : Fin 6, (0 : BitVec 6).getLsbD k = slotLost [(15, some 3)] k)
    ∧ (∀ k : Fin 6, (8 : BitVec 6).getLsbD k = slotLost [(15, none)] k) ∧ (15 : BitVec 5).toNat / 5 = 3 ∧ recorded.slots[(3 : Fin 6)].isSome = true
    ∧ newestRecord recorded 8 = none := by decide

/-! ### Witnesses: configuration store, transactions, sump -/

theorem test_wit_key : up.pwr.aoOk = true := by decide

/-- Bank 1 is current. -/
def upCur (m : Mode) : State := { upIn m with cfg := { up.cfg with cur := some 1, seal0 := true } }

theorem test_wit_seal : (upCur .run).cfg.cur = some 1 ∧ (upCur .run).sys.mode ≠ .configure ∧ (upCur .run).pwr.aoOk = true
    ∧ (0xFF : BitVec 8).toNat = bitsOf (bankWord ((upCur .run).nv.bank 1) 0x0C) 7 0
    ∧ (0 : BitVec 8).toNat ≠ bitsOf (bankWord ((upCur .run).nv.bank 1) 0x0C) 7 0
    ∧ (mread 0 (upCur .run).regs 0xBF010).getLsbD 31 = false ∧ (upCur .run).comes (sealDue (upCur .run)) = true := by decide

/-- Every page of the candidate is erased. -/
def upErased : State := { up with cfg := { up.cfg with erased := BitVec.allOnes 64 } }

/-- The host has written what VALIDATE compares. -/
def upValidate : State := ((upCur .commission).w R.CFG_VAL_SIG_SIG 0xFFFFFFFF).w R.CFG_VAL_SEAL_SEAL 0xFF

theorem test_wit_config_commands : up.lands 11 = true ∧ cfgRefusal up 1 0 = 0 ∧ upErased.lands 11 = true ∧ cfgRefusal upErased 2 62 = 0
    ∧ cfgRefusal up 3 0 = 0 ∧ upValidate.lands 11 = true ∧ cfgRefusal upValidate 4 0 = 0 ∧ upValidate.cfg.cur = some 1
    ∧ cfgRefusal (upIn .run) 1 0 = 1 ∧ cfgRefusal up 2 1 = 3 ∧ cfgRefusal upErased 2 63 = 3 ∧ cfgRefusal (upIn .commission) 4 0 = 7 := by decide

/-- A command runs. -/
def upCmd (op : BitVec 3) (page : BitVec 6) : State := { up with cfg := { up.cfg with cmd := some (op, page) } }

theorem test_wit_config_complete : (upCmd 2 62).pwr.aoOk = true ∧ (upCmd 2 62).cfg.cmd = some (2, 62) ∧ (upCmd 1 0).cfg.cmd = some (1, 0)
    ∧ (upCmd 3 0).cfg.cmd = some (3, 0) ∧ (upCur .run).cfg.cur = some 1 ∧ (upCur .run).pwr.aoOk = true
    ∧ ({ upCur .run with cfg := { (upCur .run).cfg with cmd := some (4, 0) } } : State).cfg.cmd = some (4, 0)
    ∧ (up.cfg.candidate : Fin 2) = 0 ∧ (upCur .run).cfg.candidate = 0 := by decide

/-- The header of a bank without entries and without an image, in CFG_BUF; FINISH runs. -/
def upFinish : State :=
  [0x4B584346, 0x000100A1, 1, 1, 0, 0, 0, 0, 0, 0, 0, 0, 0, 0, 0xEA29F209, 0x2144DF1C].zipIdx.foldl (fun s e => s.w R.CFG_BUF_DATA e.1 e.2) (upCmd 3 0)

set_option maxRecDepth 20000 in
theorem test_wit_finish : bufHeaderOk { upFinish with cfg := { upFinish.cfg with cmd := none } } = true ∧ upFinish.cfg.cmd = some (3, 0)
    ∧ (configSig (bufByte upFinish.regs) (bankByte (upFinish.nv.bank 0))).toNat = word32 (bufByte upFinish.regs) 0x38 := by decide +kernel

set_option maxRecDepth 20000 in
theorem test_wit_finish_refused : bufHeaderOk { upCmd 3 0 with cfg := { (upCmd 3 0).cfg with cmd := none } } = false := by decide +kernel

/-- An open transaction has changed the lead, to a value in its range or not. -/
def upChanged (v : Nat) : State := { upTxn with shadow := rput upTxn.regs R.CIS_SLOT_PERIOD v }

theorem test_wit_transactions : up.lands 11 = true ∧ up.cfg.txn = .idle ∧ up.sys.mode ≠ .boot ∧ up.cis.dlyLost = 0
    ∧ upTxn.lands 11 = true ∧ upTxn.cfg.txn = .open ∧ up.cfg.txn ≠ .open ∧ upTxn.cfg.txn ≠ .idle
    ∧ up.cis.clsGone = false ∧ up.sys.pdnBusy = false ∧ up.sys.pdnReady = false ∧ txnChanged (upChanged 2000) = [0x20000]
    ∧ (∀ k ∈ txnChanged (upChanged 2000), txnWhy (upChanged 2000) k = 0) ∧ txnChanged upTxn = []
    ∧ (txnChanged (upChanged 1)).find? (fun k => txnWhy (upChanged 1) k != 0) = some 0x20000 := by decide

/-- A commit waits to take force. -/
def upPend : State := { upChanged 2000 with cfg := { up.cfg with txn := .pend } }

theorem test_wit_apply : upPend.cfg.txn = .pend ∧ waitsForTick upPend = false := by decide

/-- Counting has started an hour ago; a power-down awaits its store or none. -/
def upSump (pdn : Bool) : State := { up with
  tb := 360001000000, smp := { up.smp with restored := true, at' := some 1000000 }, sys := { up.sys with pdnBusy := pdn } }

/-- A store of slot 5 runs. -/
def upStore : State := { up with smp := { up.smp with restored := true, store := some 5 } }

theorem test_wit_sump : up.pwr.aoOk = true ∧ up.pwr.refOk = true ∧ up.smp.restored = false
    ∧ (∀ pdn : Bool, (upSump pdn).smp.restored = true
    ∧ mread 0 (upSump pdn).smp.inc (statKey 0 (upSump pdn).sys.mode.num) + mread 0 (upSump pdn).smp.tot (statKey 0 (upSump pdn).sys.mode.num) < 2 ^ 32 - 1
    ∧ (upSump pdn).smp.store = none ∧ (upSump pdn).dom 4 = true ∧ (upSump pdn).smp.target = some 0 ∧ (upSump pdn).sys.pdnReady = false
    ∧ (upSump pdn).sys.pdnBusy = pdn ∧ (upSump pdn).sys.pdnHold = false ∧ (upSump pdn).cfg.cmd = none
    ∧ (upSump pdn).smp.at' = some 1000000 ∧ (upSump pdn).comes (1000000 + 360000000000) = true)
    ∧ ({ (upSump true).smp with bad := 0x3F } : Smp).target = none
    ∧ ({ upLess 4 with sys := { up.sys with pdnBusy := true } } : State).dom 4 = false
    ∧ ({ upLess 4 with sys := { up.sys with pdnBusy := true } } : State).sys.pdnBusy = true
    ∧ upStore.smp.store = some 5 ∧ upStore.smp.final = false
    ∧ ({ upStore with smp := { upStore.smp with final := true } } : State).smp.final = true := by decide

/-! ### Witnesses: cistern and slices -/

theorem test_wit_quiet_tick : upSlot.slot.next = 1 ∧ QuietTick upSlot upSlot.slot.next ∧ (∀ n : Fin 16, upSlot.cis.serving n.castSucc = some n)
    ∧ (∀ p : Fin 17, upSlot.sliceOn p = true ∧ upSlot.cis.phys[p].failed = false) := by
  unfold QuietTick; decide

/-- Port 3 is ready. -/
def upReady : State := { upSlot with vpt := { up.vpt with ports := up.vpt.ports.set 3 { st := .ready, sync := true } } }

theorem test_wit_fire_launch : upReady.slot.run = true ∧ upReady.slot.ticked = true ∧ upReady.pwr.refOk = true ∧ upReady.pwr.aoOk = true
    ∧ upReady.vpt.launched ≠ some upReady.slot.k ∧ launches upReady 3 = true ∧ upReady.dom 4 = true := by decide

/-- A write of codeword 1 of slot 2560 waits in slice 15. -/
def oneWrite : CwWrite := ⟨15, 2560, 1, BitVec.allOnes 64, .incFirm, none⟩

/-- That write waits. -/
def upWrite : State := { upSlot with cis := { up.cis with phys := up.cis.phys.set 15 { wq := [oneWrite] } } }

theorem test_wit_codeword_write : upWrite.cis.phys[(15 : Fin 17)].wq = [oneWrite] ∧ upWrite.sliceOn 15 = true
    ∧ upWrite.cis.phys[(15 : Fin 17)].failed = false ∧ upWrite.dom 4 = true
    ∧ ({ upWrite with cis := { upWrite.cis with phys := upWrite.cis.phys.set 16 { wq := [oneWrite] } } } : State).cis.served = none := by decide

theorem test_wit_scrubbers : up.dom 4 = true ∧ up.pwr.refOk = true ∧ (∀ l : Fin 3, up.dom l = true) ∧ (WsLoc.delay 255).wf = true := by
  decide

/-- Slice 2 has failed and has passed its TEST; S is fit and idle. -/
def upSlices : State := { upIn .maintain with
  cis := { up.cis with phys := up.cis.phys.set 2 { failed := true, testPass := true }, spareOk := true } }

/-- An operation runs on a slice. -/
def upOp (op : SliceOp) (p : Fin 17) : State := { upSlices with cis := { upSlices.cis with op := some (op, p), served := some 2 } }

theorem test_wit_slice_operations : upSlices.lands 2 = true ∧ upSlices.sys.mode = .maintain ∧ upSlices.rb R.CIS_SLC_CSTAT_BUSY = false
    ∧ upSlices.sliceOn 2 = true ∧ upSlices.cis.phys[(2 : Fin 17)].failed = true ∧ upSlices.sliceOn 16 = true ∧ upSlices.cis.served = none
    ∧ upSlices.cis.serving (3 : Fin 16).castSucc = some 3 ∧ upSlices.cis.spareOk = true ∧ upSlices.cis.mig = none
    ∧ upSlices.cis.phys[(2 : Fin 17)].testPass = true ∧ opAllowed upSlices 1 3 = false
    ∧ slcWord 0x80000102 1 2 ∧ slcWord 0x80000203 2 3 ∧ slcWord 0x80000302 3 2 ∧ (0x80000200 : BitVec 32).getLsbD 31 = true
    ∧ (upOp .migrate 3).cis.op = some (.migrate, 3) ∧ (upIn .run).sys.mode ≠ .maintain
    ∧ (upOp .test 16).cis.op = some (.test, 16) ∧ (upOp .restore 2).cis.op = some (.restore, (2 : Fin 16).castSucc)
    ∧ (upOp .restore 2).cis.served = some 2 ∧ (upOp .restore 2).cis.phys[(16 : Fin 17)].failed = false
    ∧ (upOp .test 16).lands 2 = true ∧ (upOp .test 16).sys.mode = .maintain ∧ (upOp .test 16).rb R.CIS_SLC_CSTAT_BUSY = false := by
  unfold slcWord; decide

/-! ### Witnesses: descriptors and tickets -/

/-- In Run with the sluice open, in slot 100 of 100 µs. -/
def upRun : State := { upIn .run with
  slot := { up.slot with run := true, ticked := true, k := 100 }, vpt := { up.vpt with legs := 7 } }

/-- A descriptor waits in staging, and everything before it on this edge has happened. -/
def staged (d : RawDesc) (s : State) : State := { s with edge := 7, dsc := { s.dsc with flights := [{ id := 4, raw := d, phase := .staged }] } }

/-- That descriptor. -/
def flight (d : RawDesc) : Flight := { id := 4, raw := d, phase := .staged }

/-- A descriptor with words 0, 1, 3 and 4 given. -/
def desc (w0 w1 w3 w4 : Word) : RawDesc := ⟨w0, w1, 0, w3, w4, 77, 0, 0⟩

/-- Entries wait in the submission ring, and a read request is out. -/
def upFetch : State := { upRun with rings := up.rings.set 0 { en := true, db := 20 } }

/-- One read request of one entry is out. -/
def upFetched : State := { upFetch with dsc := { up.dsc with fetchOut := [1] } }

theorem test_wit_fetch : upFetch.dom 4 = true ∧ upFetch.dmaOk = true ∧ upFetch.rings[(0 : Fin 4)].en = true
    ∧ upFetch.rb R.HIF_DMA_STAT_HALT = false ∧ fetchSize upFetch = 16 ∧ upFetched.dom 4 = true ∧ upFetched.dsc.fetchOut = [1]
    ∧ upFetched.dom 5 = true ∧ upFetched.lands 1 = true := by decide

theorem test_wit_plain : Next (staged (desc 0 0 0 0) upRun) (staged (desc 0 0 0 0) upRun) (flight (desc 0 0 0 0)) 0
    ∧ Next (staged (desc 5 0 0 0) upRun) (staged (desc 5 0 0 0) upRun) (flight (desc 5 0 0 0)) 5
    ∧ ((staged (desc 5 0 0 0) upRun).dsc.flights.find? fun g => g.peer.isNone) = some (flight (desc 5 0 0 0))
    ∧ (staged (desc 5 0 0 0) upRun).dsc.cplq = []
    ∧ nextStaged (staged (desc 6 0 0 0) upRun).dsc.flights = some (flight (desc 6 0 0 0)) ∧ fmtBad (desc 6 0 0 0) = true
    ∧ admitReady (staged (desc 6 0 0 0) upRun) (flight (desc 6 0 0 0)) = true ∧ upRun.dom 5 = true := by
  unfold Next; decide

/-- One completion entry waits. -/
def upCplq : State := { staged (desc 5 0 0 0) upRun with
  dsc := { (staged (desc 5 0 0 0) upRun).dsc with cplq := [⟨.ok, 0, false, 0, 0, 0, false⟩] } }

theorem test_wit_invalid_neighbour : ({ flight (desc 6 0 0 0) with peer := some (0, 1) } : Flight).peer ≠ none
    ∧ nextStaged [{ flight (desc 6 0 0 0) with peer := some (0, 1) }] = some { flight (desc 6 0 0 0) with peer := some (0, 1) } := by decide

theorem test_wit_fence_waits : Next upCplq upCplq (flight (desc 5 0 0 0)) 5 ∧ upCplq.dsc.cplq ≠ [] := by
  unfold Next; decide

/-- A mark of two columns and three rows, open at the instant, late, past, and the write queues full. -/
def mark : RawDesc := desc 1 1200000 0x10000 2

/-- The queue of slice 0 is full. -/
def upFull : State := { staged mark upRun with cis := { up.cis with phys := up.cis.phys.set 0 { wq := List.replicate 256 oneWrite } } }

theorem test_wit_mark : Next (staged mark upRun) (staged mark upRun) (flight mark) 1 ∧ markRefused (staged mark upRun) (flight mark) (bandOf (staged mark upRun) mark) = none
    ∧ queuesReady (staged mark upRun) (markWrites (staged mark upRun) (flight mark) (bandOf (staged mark upRun) mark)) = true
    ∧ foreignPart (staged mark upRun) mark = none ∧ (flight mark).peer = none ∧ slotOpen (staged mark upRun) (bandOf (staged mark upRun) mark).kmin = true := by
  unfold Next; decide

theorem test_wit_mark_refused : Next (staged mark (upIn .maintain)) (staged mark (upIn .maintain)) (flight mark) 1
    ∧ markRefused (staged mark (upIn .maintain)) (flight mark) (bandOf (staged mark (upIn .maintain)) mark) = some .inhibited := by
  unfold Next; decide

set_option maxRecDepth 4000 in
theorem test_wit_mark_waits : Next upFull upFull (flight mark) 1 ∧ markRefused upFull (flight mark) (bandOf upFull mark) = none
    ∧ queuesReady upFull (markWrites upFull (flight mark) (bandOf upFull mark)) = false := by
  unfold Next; decide

/-- A mark whose first slot is no longer open. -/
def lateMark : RawDesc := desc 1 1000000 0 3

theorem test_wit_mark_late : Next (staged lateMark upRun) (staged lateMark upRun) (flight lateMark) 1
    ∧ markRefused (staged lateMark upRun) (flight lateMark) (bandOf (staged lateMark upRun) lateMark) = none
    ∧ slotOpen (staged lateMark upRun) (bandOf (staged lateMark upRun) lateMark).kmin = false := by
  unfold Next; decide

/-- The leader of a ring of two, with the time lock and links UP to a neighbour on either side. -/
def upLeader : State := { upRun.w R.OSR_ID_NDEV 1 with
  osr := { upRun.osr with ringId := 0, lock := true, links := Vector.replicate 2 { st := .up, sync := true } } }

/-- A mark of four columns, the last two of which are the eastern neighbour's. -/
def edgeMark : RawDesc := desc 1 1200000 0x307FE 2

theorem test_wit_mark_forwarded : ∀ n : Fin 2, let s := staged edgeMark (if n = 0 then upLeader else { upLeader with osr := { upLeader.osr with links := upRun.osr.links } })
    Next s s (flight edgeMark) 1 ∧ markRefused s (flight edgeMark) (bandOf s edgeMark) = none
    ∧ queuesReady s (markWrites s (flight edgeMark) (bandOf s edgeMark)) = true ∧ foreignPart s edgeMark = some (0, 2048, 1)
    ∧ s.locked = true ∧ pathTo s 0 = if n = 0 then some 0 else none := by
  unfold Next; decide

/-- A speculative mark that takes the lowest free ticket. -/
def specMark : RawDesc := desc 0xFFFF0002 1200000 0 0x20000

theorem test_wit_mark_spec : Next (staged specMark upRun) (staged specMark upRun) (flight specMark) 2 ∧ (flight specMark).peer = none
    ∧ foreignPart (staged specMark upRun) specMark = none ∧ specTicket (staged specMark upRun) specMark = some 0
    ∧ markRefused (staged specMark upRun) (flight specMark) (bandOf (staged specMark upRun) specMark) = none
    ∧ queuesReady (staged specMark upRun) (markWrites (staged specMark upRun) (flight specMark) (bandOf (staged specMark upRun) specMark)) = true
    ∧ (bandOf (staged specMark upRun) specMark).kmin - max (dDl specMark) 2 = 118
    ∧ ¬((staged specMark upRun).slot.tickZ 118 ≤ (staged specMark upRun).tb)
    ∧ (bookAll (bookLimit (staged specMark upRun)) 0 118 (markWrites (staged specMark upRun) (flight specMark) (bandOf (staged specMark upRun) specMark)) []).isSome = true := by
  unfold Next; decide

/-- Slots of three ticks, in which no resolution can be booked. -/
def upShort : State := staged (desc 0xFFFF0002 1000300 0 0x20000) ({ upRun with slot := { upRun.slot with len := 3 } }.w R.CIS_LEAD_LEAD_US 0)

theorem test_wit_mark_spec_waits : Next upShort upShort (flight (desc 0xFFFF0002 1000300 0 0x20000)) 2
    ∧ markRefused upShort (flight (desc 0xFFFF0002 1000300 0 0x20000)) (bandOf upShort (desc 0xFFFF0002 1000300 0 0x20000)) = none
    ∧ foreignPart upShort (desc 0xFFFF0002 1000300 0 0x20000) = none ∧ specTicket upShort (desc 0xFFFF0002 1000300 0 0x20000) = some 0
    ∧ queuesReady upShort (markWrites upShort (flight (desc 0xFFFF0002 1000300 0 0x20000)) (bandOf upShort (desc 0xFFFF0002 1000300 0 0x20000))) = true
    ∧ bookLimit upShort = 0
    ∧ bookAll (bookLimit upShort) 0 333431 (markWrites upShort (flight (desc 0xFFFF0002 1000300 0 0x20000))
        (bandOf upShort (desc 0xFFFF0002 1000300 0 0x20000))) [] = none
    ∧ (bandOf upShort (desc 0xFFFF0002 1000300 0 0x20000)).kmin = 333433 := by
  unfold Next; decide

/-- A ticket of one cell, in slot 120 of column 0. -/
def ticket (st : TicketState) : Ticket :=
  ⟨st, false, false, 0, 0, 0, 0, 120, 0, 2, 99, 1200000, false, 0, false, false⟩

/-- Ticket 32767 is held. -/
def upTicket (st : TicketState) (s : State) : State := { s with tkt := { recs := [(32767, ticket st)], books := [] } }

theorem test_wit_confirm : ∀ e ∈ [(3, desc 0x7FFF0003 0 0 0), (4, desc 0x7FFF0004 0 0 0)],
    Next (staged e.2 upRun) (staged e.2 upRun) (flight e.2) e.1 ∧ inhibited (staged e.2 upRun) (flight e.2) = false
    ∧ mget (staged e.2 upRun).tkt.recs (dTicket e.2) = none
    ∧ Next (upTicket .open (staged e.2 upRun)) (upTicket .open (staged e.2 upRun)) (flight e.2) e.1 ∧ inhibited (upTicket .open (staged e.2 upRun)) (flight e.2) = false
    ∧ mget (upTicket .open (staged e.2 upRun)).tkt.recs (dTicket e.2) = some (ticket .open) ∧ (ticket .open).state = .open
    ∧ (ticket (.closing 7)).state ≠ .open ∧ inhibited (staged e.2 (upIn .maintain)) (flight e.2) = true
    ∧ Next (staged e.2 (upIn .maintain)) (staged e.2 (upIn .maintain)) (flight e.2) e.1 ∧ (ticket .open).fwd = false ∧ ((upTicket .open (staged e.2 upRun)).tb : Int) < upRun.slot.tickZ (ticket .open).due
    ∧ queuesReady (upTicket .open (staged e.2 upRun)) (ticketWrites (upTicket .open (staged e.2 upRun)) (ticket .open)
        (firstOpen (upTicket .open (staged e.2 upRun))) (if e.1 = 3 then .confirm else .dec) (some 4)) = true := by
  unfold Next; decide

/-- Descriptors admitted: one that lost a slice, one with a neighbour's answer, and one that is the host's alone. -/
def done (lost : Bool) (fwd : Option FwdPart) : Flight :=
  { id := 4, raw := mark, phase := .admitted, status := .ok, sliceLost := lost, fwd := fwd }

theorem test_wit_status : (done true none).phase = .admitted ∧ (done true none).sliceLost = true ∧ (done false none).fwd = none
    ∧ (done false (some ⟨0, 1, some (.past, 9)⟩)).fwd = some ⟨0, 1, some (.past, 9)⟩
    ∧ (done false (some ⟨0, 1, some (.range, 0)⟩)).sliceLost = false := by decide

/-- A host descriptor is finished; its ring is closed or open. -/
def upDone (en : Bool) : State := { upRun with
  dsc := { up.dsc with flights := [{ done false none with phase := .finished }] },
  rings := up.rings.set 1 { en := en, phase := true } }

/-- The finished descriptor is a QUIET one, a neighbour's part, or one that opens or closes a ticket. -/
def upFinished (f : Flight) : State := { upLeader with
  dsc := { up.dsc with flights := [f] }, tkt := { recs := [(32767, ticket (.closing 4))], books := [] } }

/-- A descriptor that is QUIET, that is a neighbour's part, whose ticket opens, whose mark lost a slice, and whose ticket closes. -/
def quiet : Flight := { done false none with raw := { mark with w0 := mark.w0 ||| 0x200 }, phase := .finished }
def part : Flight := { done false none with peer := some (0, 9), phase := .finished }
def opening (st : Status) : Flight :=
  { done false none with raw := specMark, ticket := some 5, opens := some (ticket .open), status := st, phase := .finished }
def closing : Flight := { done false none with raw := desc 0x7FFF0003 0 0 0, ticket := some 32767, phase := .finished }

theorem test_wit_completion_kinds : (∀ f ∈ [quiet, part, opening .ok, opening .sliceLost, closing], nextDone (upFinished f) = some f
      ∧ (upFinished f).dom 4 = true)
    ∧ quiet.peer = none ∧ dQuiet quiet.raw = true ∧ finalStatus quiet = .ok ∧ pathTo (upFinished part) 0 = some 0
    ∧ finalStatus (opening .ok) = .ok ∧ finalStatus (opening .sliceLost) = .sliceLost ∧ closing.opens = none := by decide

theorem test_wit_completion : ∀ en : Bool, nextDone (upDone en) = some { done false none with phase := .finished }
    ∧ (upDone en).dom 4 = true ∧ dQuiet mark = false ∧ (upDone en).dsc.cplq = [] ∧ (upDone en).ringReady 1 = en := by decide

/-- A booked write of ticket 32767. -/
def booking : Booking := ⟨32767, 0, 110, 120, 0, 1, false⟩

/-- That write is booked. -/
def upBooked : State := { upRun with tkt := { recs := [(32767, ticket (.resolving false false))], books := [booking] } }

theorem test_wit_notices_full : 256 ≤ (List.replicate 256 (⟨.ok, 3, true, 0, 0, 0, false⟩ : CplEntry)).length := by rw [List.length_replicate]

theorem test_wit_resolution : mget (upTicket .open upRun).tkt.recs (32767 : BitVec 15).toNat = some (ticket .open)
    ∧ ticketBusy (upTicket .open upRun) 32767 = false ∧ upRun.slot.run = true ∧ upRun.dom 4 = true ∧ upRun.cis.clsGone = false
    ∧ mget upBooked.tkt.recs 32767 = some (ticket (.resolving false false))
    ∧ upRun.comes (upRun.slot.tickZ (ticket .open).due).toNat = true ∧ upBooked.comes (upBooked.slot.tick booking.at') = true
    ∧ (upBooked.tkt.books.find? fun b => b.ticket == 32767 && !b.done) = some booking ∧ upBooked.slot.drained booking.k = false
    ∧ upBooked.slot.drained 100 = true
    ∧ upBooked.cis.physOf booking.logical = some 0
    ∧ (upTicket (.resolving true false) upRun).tkt.books.any (fun b => b.ticket == 32767) = false
    ∧ upRun.dsc.noticeq.length < 256 ∧ upRun.rb R.CIS_CLS_POLICY 0 = false
    ∧ (upRun.w R.CIS_CLS_POLICY 1 0).rb R.CIS_CLS_POLICY 0 = true := by decide

/-! ### Witnesses: host rings, endpoint -/

/-- A notice, an event and telemetry wait, and every ring takes entries or none does. -/
def upEntries (en : Bool) : State := ({ upRun with
  dsc := { up.dsc with noticeq := [⟨.ok, 3, true, 5, 0, 0, false⟩] }, evs := { up.evs with staging := [⟨⟨2, 1⟩, 1, 0, 0, {}, 5, 6, false, false⟩] },
  rings := Vector.replicate 4 { en := en, phase := true, cnt := 1, since := some 7 } }.w R.HIF_RING_IRQ_HOLD_US 5 1).w R.HIF_RING_IRQ_VEC 31 1 |>.w R.HIF_TEL_PER_MS 10

/-- The telemetry ring is enabled and full. -/
def upTelFull : State := { upEntries true with rings := (upEntries true).rings.set 3 { en := true, idx := (upEntries true).ringSize 3 - 1 } }

theorem test_wit_ring_entries : (upEntries true).dsc.noticeq ≠ [] ∧ (upEntries true).ringReady 1 = true ∧ (upEntries true).ringReady 2 = true
    ∧ (upEntries true).evs.staging ≠ [] ∧ (upEntries true).dom 4 = true ∧ (upEntries true).dom 5 = true
    ∧ (upEntries true).rings[(3 : Fin 4)].en = true ∧ (upEntries true).pwr.refOk = true ∧ (upEntries true).telPeriod ≠ 0
    ∧ (upEntries true).ringReady 3 = true ∧ upTelFull.ringReady 3 = false ∧ upTelFull.telPeriod ≠ 0
    ∧ (upEntries true).rings[(1 : Fin 4)].since = some 7 ∧ (upEntries true).r R.HIF_RING_IRQ_HOLD_US 1 ≠ 0
    ∧ (upEntries true).comes (7 + (upEntries true).r R.HIF_RING_IRQ_HOLD_US 1 * us) = true
    ∧ (upEntries false).ringReady 2 = false ∧ (upEntries false).dom 4 = true ∧ ({ upEntries true with hif := { up.hif with bme := false } } : State).hif.canSend = false
    ∧ ({ (upEntries true).hif with table := (List.range 32).map fun v => (16 * v + 12, 0) } : Hif).vecMasked 31 = false
    ∧ (upEntries true).hif.canSend = true ∧ (upEntries true).r R.HIF_RING_IRQ_VEC 1 = 31 := by decide

/-- The MSI-X table has every vector unmasked. -/
def unmasked : Map Word := (List.range 32).map fun v => (16 * v + 12, 0)

theorem test_wit_vector : ∀ v : Fin 32, ({ up.hif with table := unmasked } : Hif).vecMasked v = false := by decide

/-- The rings are enabled, and hold the device's index 9. -/
def upRings : State := { up with rings := Vector.replicate 4 { en := true, idx := 9 } }

theorem test_wit_doorbells : upRings.hostReach = true ∧ (∀ n : Fin 4, upRings.rings[n].en = true ∧ up.rings[n].en = false
    ∧ (9 : Word).toNat < upRings.ringSize n ∧ upRings.ringSize n ≤ (0xFFFFFFFF : Word).toNat
    ∧ ((9 : Word).toNat + upRings.ringSize n - upRings.rings[n].db) % upRings.ringSize n
        ≤ (upRings.rings[n].idx + upRings.ringSize n - upRings.rings[n].db) % upRings.ringSize n
    ∧ (upRings.rings[n].idx + upRings.ringSize n - upRings.rings[n].db) % upRings.ringSize n
        < ((10 : Word).toNat + upRings.ringSize n - upRings.rings[n].db) % upRings.ringSize n) ∧ upRings.dsc.cplq = [] := by decide

/-- Ring 1 is enabled alone; every ring is busy. -/
def upRing1 : State := { up with rings := up.rings.set 1 { en := true } }

/-- Every ring is busy. -/
def upBusy : State := { up with rings := Vector.replicate 4 { busy := true } }

theorem test_wit_ring_enable : upRing1.lands 1 = true ∧ upRing1.rings[(0 : Fin 4)].en = false ∧ upRing1.rings[(1 : Fin 4)].en = true
    ∧ upRing1.rings[(0 : Fin 4)].busy = false ∧ upRing1.dsc.cplq = [] ∧ 6 ≤ upRing1.r R.HIF_RING_CFG_LOG2SIZE 1
    ∧ upRing1.r R.HIF_RING_CFG_LOG2SIZE 1 ≤ 16 ∧ upRing1.r R.HIF_RING_CFG_LOG2SIZE 1 ≠ 16
    ∧ (∀ n : Fin 4, upBusy.rings[n].busy = true ∧ upBusy.dsc.fetchOut = []) := by decide

theorem test_wit_endpoint : up.dom 5 = true ∧ up.hif.dlUp = true ∧ up.cfgReach = true
    ∧ ({ up with hif := { up.hif with d3 := true } } : State).cfgReach = true ∧ up.dsc.cplq = [] ∧ up.hif.pba = 0
    ∧ up.hif.d3 = false ∧ (upLess 5).dom 5 = false := by decide

/-- The link is down; vectors are pending; the vector 0 message is held. -/
def upDown : State := { up with hif := { up.hif with dlUp := false } }

/-- Vectors are pending and unmasked, and the vector 0 message is held. -/
def upHeld : State := { upRings with hif := { up.hif with pba := 0x80000002, nmtHeld := 2, table := unmasked } }

theorem test_wit_link : up.dom 5 = true ∧ up.hif.perstN = true ∧ up.hif.dlUp = true ∧ upDown.hif.perstN = true ∧ upDown.hif.dlUp = false
    ∧ (4 : BitVec 3).toNat < up.r R.HIF_LINK_MIN_WIDTH + 4 ∧ (1 : BitVec 3).toNat < (up.w R.HIF_LINK_MIN_WIDTH 2).r R.HIF_LINK_MIN_WIDTH
    ∧ (1 : BitVec 4).toNat < (up.w R.HIF_LINK_MIN_SPEED 2).r R.HIF_LINK_MIN_SPEED
    ∧ ({ up with hif := { up.hif with ready := false } } : State).hif.ready = false
    ∧ upHeld.ringReady 2 = true ∧ upHeld.evs.staging = [] ∧ upHeld.cfgReach = true ∧ upHeld.hif.canSend = true ∧ upHeld.hif.nmtHeld ≠ 0 ∧ upHeld.dsc.cplq = []
    ∧ upHeld.hif.pba.getLsbD 31 = true ∧ upHeld.hif.vecMasked 31 = false := by decide

/-- A heartbeat with count 65535 was accepted. -/
def upBeat : State := { up with hif := { up.hif with hbSeen := true, hbCount := 0xFFFF } }

theorem test_wit_heartbeat : up.hostReach = true ∧ up.hif.hbSeen = false ∧ upBeat.hostReach = true
    ∧ bitsOf (0 : Word).toNat 31 16 = 0 ∧ bitsOf (0 : Word).toNat 15 0 = (upBeat.hif.hbCount.toNat + 1) % 65536
    ∧ ¬(bitsOf (0x10000 : Word).toNat 31 16 = 0) ∧ ¬(bitsOf (1 : Word).toNat 15 0 = (upBeat.hif.hbCount.toNat + 1) % 65536) := by decide

/-- The latest heartbeat grows too old within the input agreement phase of a scan. -/
def upHost : State := { upScan 1 with
  hif := { up.hif with silent := false, hbSeen := true, hbAt := 99 }, lan := { (upScan 1).lan with boundary := 10000000 } }

theorem test_wit_host : upHost.lan.run = true ∧ upHost.lan.phase = 1 ∧ upHost.hif.silent = false ∧ upHost.hif.hbSeen = true ∧ upHost.dom 5 = true
    ∧ upHost.hif.hbAt + upHost.r R.HIF_HB_TO_MS * ms + 1 ≤ upHost.lan.boundary + 20 * us
    ∧ upHost.comes (upHost.hif.hbAt + upHost.r R.HIF_HB_TO_MS * ms + 1) = true ∧ up.hif.perstN = true
    ∧ ({ up with hif := { up.hif with d3 := true } } : State).d3Reach = true ∧ up.hif.cfg.ecrcCheck = false
    ∧ ({ up with hif := { up.hif with cfg := { ecrcCheck := true } } } : State).hostReach = true ∧ up.hostReach = true
    ∧ diagOpen up = true ∧ up.dom 4 = true ∧ diagOpen (upIn .run) = false ∧ (upIn .run).hostReach = true
    ∧ (0xFFF80 : BitVec 20).toNat % 4096 + 128 ≤ 4096 := by decide

/-! ### Witnesses: lanes and scan -/

/-- Lane l is retired, with its automatic request due. -/
def upRetired (l : Fin 3) (s : State) : State :=
  ({ s with lan := { s.lan with lanes := s.lan.lanes.set l { retired := true, autoDue := some 50 } } } : State).w R.LAN_CFG_AUTO 1

/-- A self-test or re-admission of lane 1 is at a step. -/
def upJoin (test : Bool) (k : Nat) : State := { upScan 2 with lan := { (upScan 2).lan with join := some ⟨1, test, k, some 9, false, true⟩ } }

theorem test_wit_lane_requests : ∀ l : Fin 3, (upRetired l (upScan 2)).lands 4 = true ∧ (upRetired l (upScan 2)).lan.join = none
    ∧ (upRetired l (upScan 2)).lan.lanes[l].retired = true ∧ (upRetired l (upScan 2)).dom l = true
    ∧ (upRetired l (upScan 2)).inMode [.boot, .safeHold, .lockdown] = false ∧ retires24 (upRetired l (upScan 2)) l < 3
    ∧ (upRetired l (upScan 2)).lan.lanes[l].autoDue = some 50 ∧ (upRetired l (upScan 2)).rb R.LAN_CFG_AUTO = true
    ∧ (upRetired l (upScan 2)).comes 50 = true ∧ retires24 ((upRetired l (upScan 2)).at 50) l < 3 := by decide

theorem test_wit_lane_refusals : (upScan 2).lands 4 = true ∧ (upScan 2).lan.join = none ∧ (∀ i : Fin 3, (upScan 2).lan.lanes[i].retired = false)
    ∧ (upScan 2).inMode [.run, .maintain] = true ∧ (upJoin true 0).lands 4 = true ∧ (upJoin true 0).lan.join.isSome = true
    ∧ (upIn .lockdown).hostReach = true ∧ (upIn .lockdown).sys.mode = .lockdown ∧ (upIn .boot).inMode [.boot, .safeHold, .lockdown] = true
    ∧ 2 ≤ popcount (5 : BitVec 3) := by decide

/-- A sample frame of eight words. -/
def sample : Frame := sealFrame [1, 2, 3, 4, 5, 6, 7]

theorem test_wit_sample_frame : frameGood sample = true ∧ sample.length = 8 ∧ frameGood ([] : Frame) = false
    ∧ (∀ l : Fin 3, up.dom l = true ∧ up.lan.lanes[l].stopped = false) := by decide +kernel

theorem test_wit_self_test : (some 9 : Option Nat).isSome = true ∧ ∀ test : Bool, (upJoin test 1).lan.join = some ⟨1, test, 1, some 9, false, true⟩
    ∧ (upJoin test 1).pwr.aoOk = true := by decide

/-- The image that bank 0 holds is loaded. -/
def upReload : State := { upJoin false 1 with
  nv := stored, cfg := { up.cfg with cur := some 0 },
  lan := { (upJoin false 1).lan with image := some (readImage (imageBytes bank)) } }

theorem test_wit_reload : reloadOk upReload = true := by
  have h : imageRefused (imageBytes (stored.bank 0)) = false := test_image_accepted
  have e : (readImage (imageBytes (stored.bank 0))).sig = (readImage (imageBytes bank)).sig := rfl
  simp only [reloadOk, upReload, h, e]
  simp [up, State.reset]

/-- The repair timer runs. -/
def upRepair : State := { upScan 0 with lan := { (upScan 0).lan with repairRun := true } }

/-- A comparator has failed in the last 24 hours. -/
def upRecur : State := { upIn .degraded with keep := { up.keep with recur := true, recurTicks := 5 } }

theorem test_wit_lane_timers : upRepair.lan.repairRun = true ∧ upRepair.lan.repairExpired = false ∧ upRepair.sys.mode ≠ .boot
    ∧ upRepair.comes (upRepair.lan.boundary + upRepair.keep.repairLeft) = true
    ∧ upRecur.comes (upRecur.lan.boundary + (24 * 360000000000 - upRecur.keep.recurTicks)) = true
    ∧ upRepair.pwr.aoOk = true ∧ upRecur.keep.recur = true ∧ upRecur.inMode [.run, .degraded] = true := by decide

theorem test_wit_scan : scanReady (upScan 0) = true ∧ (upScan 0).lan.run = true ∧ scanReady { upScan 0 with lan := { (upScan 0).lan with run := false } } = true
    ∧ (upScan 0).sys.reqAgreed = none ∧ (upScan 1).clocked = true ∧ (upScan 1).lan.phase = 1 ∧ (upScan 1).lan.image = some image ∧ (upScan 1).ringed = false
    ∧ evaluators (upScan 1) = [0, 1, 2] := by decide

/-- A ring of two devices, of which this is the one with the number given; both links are up and in synchronisation. -/
def ringOf (id : BitVec 3) (s : State) : State := { s.w R.OSR_ID_NDEV 1 with
  osr := { s.osr with ringId := id, links := Vector.replicate 2 { st := .up, sync := true } } }

/-- A lane has reached its ring point. -/
def upMid : State := { ringOf 1 (upScan 1) with
  lan := { (upScan 1).lan with lanes := up.lan.lanes.set 2 { mid := some ⟨[], 0, 0, Vector.replicate 32 0, 0⟩ } } }

theorem test_wit_ring_phases : upMid.ringed = true ∧ upMid.clocked = true ∧ voters upMid = [0, 1, 2] ∧ (∀ l : Fin 3, (7 : BitVec 3).getLsbD l.val = true)
    ∧ upMid.lan.image = some image ∧ upMid.lan.lanes[(2 : Fin 3)].mid.isSome = true := by decide

/-- A lane's result with the commands given. -/
def result (cmds : BitVec 21) : LaneResult := ⟨cmds, 0, 0, 0⟩

/-- Lane results as given. -/
def upResults (a b c : BitVec 21) : State := { upScan 2 with lan := { (upScan 2).lan with
  lanes := ((up.lan.lanes.set 0 { res := some (result a) }).set 1 { res := some (result b) }).set 2 { res := some (result c) } } }

theorem test_wit_comparison (a b c : BitVec 21) : (upResults a b c).clocked = true ∧ (upResults a b c).lan.phase = 2 ∧ (upResults a b c).lan.cmpX = true
    ∧ (upResults a b c).lan.cmpY = true ∧ (upResults a b c).lan.ka = none ∧ (upResults a b c).pwr.aoOk = true
    ∧ voters (upResults a b c) = [0, 1, 2] ∧ (upResults a b c).lan.verdict = none
    ∧ (upResults a b c).lan.join = none :=
  ⟨rfl, rfl, rfl, rfl, rfl, rfl, rfl, rfl, rfl⟩

theorem test_wit_minority : (finding 0 (upResults 0 0 1)).minor = some 2 ∧ (finding 0 (upResults 1 0 0)).minor = some 0
    ∧ (finding 0 (upResults 0 1 2)).code = 4 := by decide

/-- The comparators in service are those given, and known answers still to run. -/
def upCmp (x y : Bool) (ka : Option Nat) : State := { upResults 0 0 0 with lan := { (upResults 0 0 0).lan with cmpX := x, cmpY := y, ka := ka } }

theorem test_wit_comparators : (0 : BitVec 192) = 0 ∧ (1 : BitVec 8) ≠ 0 ∧ (1 : BitVec 192).getLsbD ((upResults 0 0 0).lan.scanNo.toNat % 192) = true
    ∧ (upCmp true true (some 1)).lan.ka = some 1 ∧ (1 : BitVec 8) &&& 0x3F ≠ 0
    ∧ (∀ x : Bool, (upCmp x false none).clocked = true ∧ (upCmp x false none).lan.phase = 2 ∧ (upCmp x false none).pwr.aoOk = true
      ∧ (upCmp x false none).lan.cmpX = x ∧ (upCmp x false none).lan.cmpY = false ∧ (upCmp x false none).lan.ka = none
      ∧ (upCmp x false none).lan.secondHeld.getLsbD 26 = false ∧ (upCmp x false none).lan.secondNow.getLsbD 26 = false) := by decide

/-- The drive phase of a scan with raisings that act, a deliberate reset, and a power-down that enters Safe-hold. -/
def upActs (sev : BitVec 3) (drst pdn : Bool) (repair : Bool) : State := { upScan 3 with
  sys := { (upScan 3).sys with acts := if sev = 0 then [] else [⟨⟨3, 3⟩, sev, 2, 0, 5, false⟩], drstScan := drst, pdnHold := pdn }
  lan := { (upScan 3).lan with verdict := some 0, repairExpired := repair } }

theorem test_wit_drive_acts : (∀ v : BitVec 3, (upActs v false false false).clocked = true ∧ (upActs v false false false).lan.phase = 3
      ∧ bootHeld (upActs v false false false) = false ∧ (upActs v false false false).sys.mode ≠ .lockdown)
    ∧ (∀ v ∈ [2, 3, 4], ∃ h ∈ (upActs v false false false).sys.acts, h.sev = v)
    ∧ (∀ h ∈ (upActs 3 false false false).sys.acts, h.sev.toNat < 4) ∧ (upActs 0 false true false).sys.pdnHold = true
    ∧ (upActs 0 true false false).sys.drstScan = true ∧ (upActs 0 true false false).sys.acts = [] ∧ (upActs 0 true false false).sys.pdnHold = false
    ∧ drstWhy (upActs 0 true false false) = 0 ∧ drstWhy (upActs 0 true false true) = 2 := by decide

theorem test_wit_drive : (upScan 3).clocked = true ∧ (upScan 3).lan.phase = 3 ∧ (upScan 3).sys.acts = [] ∧ (upScan 3).sys.pdnHold = false
    ∧ (upScan 3).sys.drstScan = false ∧ drivers (upScan 3) = [0, 1, 2]
    ∧ ({ upScan 3 with lan := { (upScan 3).lan with forceOff := true } } : State).lan.forceOff = true
    ∧ ({ upScan 3 with sys := { up.sys with mode := .safeHold } } : State).inMode [.commission, .run, .maintain, .degraded] = false := by decide

/-! ### Witnesses: field die -/

/-- The field die samples; every link carries symbols; the islands have accepted frames; the watchdog is armed. -/
def upField : State := { upScan 0 with fld := { up.fld with
  sampleAt := some 900000, links := 7, accAt := Vector.replicate 3 (some 9), refresh := Vector.replicate 3 (some 4),
  frameAt := some 8, armed := true, cfgLoaded := true } }

/-- A drive frame with a refresh number. -/
def drive (n : Word) : Frame := sealFrame [n, 0xFFFFF, 0]

theorem test_wit_drive_frame : frameGood (drive 5) = true ∧ (drive 5).length = 4 ∧ fw (drive 5) 0 = 5 ∧ frameGood (drive 4) = true
    ∧ fw (drive 4) 0 = 4 ∧ (drive 4).length = 4 := by decide +kernel

theorem test_wit_islands : (∀ l : Fin 3, upField.fld.links.getLsbD l.val = true ∧ upField.fld.refresh[l] ≠ some 5
    ∧ upField.fld.refresh[l] = some 4 ∧ upField.fld.accAt[l] = some 9 ∧ upField.dom l = true ∧ upField.lan.lanes[l].stopped = false)
    ∧ frameGood ([] : Frame) = false ∧ upField.fld.frameAt = some 8 ∧ upField.fldRuns = true ∧ upField.fld.armed = true
    ∧ upField.fld.expired = false := by decide

/-- A field reset frame was sent. -/
def upSent : State := { upField with lan := { upField.lan with fldReset := true } }

/-- A configuration frame. -/
def fldFrame : Frame := sealFrame (List.replicate 86 0)

set_option maxRecDepth 20000 in
theorem test_wit_field_frame : frameGood fldFrame = true ∧ fldFrame.length = 87 := by decide +kernel

theorem test_wit_field_config : upSent.fldRuns = true ∧ 2 ≤ popcount ((3 : BitVec 3) &&& upSent.fld.links)
    ∧ (∀ l : Fin 3, upSent.fld.links.getLsbD l.val = true)
    ∧ (∀ l m : Fin 3, l ≠ m → (⟨#[some [1], none, some [2]], rfl⟩ : Vector (Option Frame) 3)[l] = some [1]
        → (⟨#[some [1], none, some [2]], rfl⟩ : Vector (Option Frame) 3)[m] ≠ some [1])
    ∧ popcount ((4 : BitVec 3) &&& upSent.fld.links) < 2 ∧ upSent.lan.fldReset = true := by decide

theorem test_wit_field_sample : upField.fldRuns = true ∧ upField.fld.links ≠ 0 ∧ upField.fld.sampleAt = some 900000 ∧ upField.fld.cfgNew = none
    ∧ ({ upField.fld with incons := 1 } : Fld).incons.getLsbD 0 = true ∧ ({ upField.fld with incons := 1 } : Fld).inconsRun.getLsbD 0 = false := by
  decide

/-- The sample just taken stands at the instant of generator g. -/
def upTp (g : Nat) : State := { upField with fld := { upField.fld with fpos := (50 * g + 1) % 400 } }

theorem test_wit_test_pulse : ∀ g : Fin 8, (upTp g).fldRuns = true ∧ (upTp g).fld.sampleAt = some 900000
    ∧ ((upTp g).fld.fpos + 399) % 400 = 50 * g.val ∧ (upTp g).fld.tpHeld.getLsbD g.val = false
    ∧ (upTp g).fld.sunk.getLsbD (g.val / 4) = false ∧ ({ (upTp g).fld with tpHeld := 0xFF } : Fld).tpHeld.getLsbD g.val = true := by decide

/-- An off-pulse test without a finding: its target with all its legs. -/
def pulse : Pulse :=
  { target := 5, step := 1, links := 3, refresh := 9, at' := 100, rbBefore := 0, rbIn := 0x20, legs := 3, expect := 3, sampled := true, on := true,
    abandoned := false }

/-- A pulse runs in group A. -/
def upPulse (p : Pulse) : State := { upField with fld := { upField.fld with
  pulse := upField.fld.pulse.set 0 (some p), cmd := Vector.replicate 3 0xFFFFF } }

/-- Its forms: the test fields differ; no sample came; no finding; every leg conducts where one is expected; no leg does and the
readback stays. -/
def pulses : List Pulse :=
  [{ pulse with differ := true }, { pulse with sampled := false }, pulse, { pulse with legs := 7, expect := 3 }, { pulse with legs := 0, expect := 0 }]

theorem test_wit_off_pulse : ∀ p ∈ pulses, (upPulse p).fld.pulse[(0 : Fin 2)] = some p
    ∧ nextPulseEnd 0 (upPulse p).fld = some (p.at' + (upPulse p).fld.width p.target.val * 1000)
    ∧ (upPulse p).fld.pulse[(1 - 0 : Fin 2)] = none ∧ (pulseWatch (upPulse p).fld p).abandoned = false
    ∧ (pulseWatch (upPulse p).fld p).on = true := by decide

theorem test_wit_off_pulse_faults : pulses.map testFaults = [[], [], [], [S.FLD_LEG_ON], [S.FLD_STUCK]] := by decide

/-- Readbacks have mismatched since an instant. -/
def upRb : State := { upField with fld := { upField.fld with rbOnSince := Vector.replicate 20 (some 3), rbOffSince := Vector.replicate 20 (some 3) } }

theorem test_wit_outputs : (∀ o : Fin 20, upRb.fld.rbOnSince[o] = some 3 ∧ upRb.fld.stuckHeld.getLsbD o.val = false
    ∧ upRb.fld.rbOffSince[o] = some 3) ∧ (∀ g : Fin 2, upField.fldRuns = true ∧ upField.pwr.fsOk.getLsbD g.val = true
    ∧ upField.fld.cfgLoaded = true ∧ upField.fld.low.getLsbD g.val = false ∧ upField.fld.sag.getLsbD g.val = false
    ∧ upField.fld.gone.getLsbD g.val = false ∧ upField.pwr.fsOk.getLsbD (1 - g).val = true ∧ ({ upField with pwr := { up.pwr with fsOk := 1 } } : State).pwr.fsOk.getLsbD 1 = false) := by
  decide

/-! ### Witnesses: network and ring -/

/-- Port 0 in a state. -/
def upPath (st : PathState) : State := { upScan 0 with net := { up.net with ports := up.net.ports.set 0 { st := st, sync := true } } }

/-- A connection is open, with accepted data. -/
def upConn : State := { upPath .up with lan := { (upPath .up).lan with phase := 1, boundary := 2000000 }, net := { (upPath .up).net with
  conns := up.net.conns.set 31 { st := .open, ts := some 5, ok := true, pathAt := ⟨#[some 1000000, some 1000000], rfl⟩ } } }

theorem test_wit_paths : (∀ st : List PathState, st = [.down, .up, .qual, .lost] → ∀ x ∈ st, (upPath x).dom 6 = true ∧ PathIs (upPath x) 0 x
      ∧ (upPath x).net.ports[(0 : Fin 2)].sync = true ∧ (upPath x).net.ports[(0 : Fin 2)].dead = false
      ∧ ∀ n : Fin 32, (upPath x).net.conns[n].st ≠ .open)
    ∧ PathIs upConn 0 .up ∧ upConn.net.conns[(31 : Fin 32)].st = .open ∧ upConn.net.conns[(31 : Fin 32)].pathAt[(0 : Fin 2)] = some 1000000
    ∧ upConn.net.conns[(31 : Fin 32)].pathAt[(1 - 0 : Fin 2)] = some 1000000
    ∧ max 1000000 (max upConn.net.ports[(0 : Fin 2)].upAt upConn.net.conns[(31 : Fin 32)].openedAt) = 1000000
    ∧ upConn.comes (1000000 + connWd upConn 31) = true ∧ (upConn.at (1000000 + connWd upConn 31)).tb ≤ 1000000 + connWd upConn 31
    ∧ upConn.net.conns[(31 : Fin 32)].ts = some 5 ∧ 5 + connWd upConn 31 < upConn.lan.boundary
    ∧ upConn.net.conns[(31 : Fin 32)].ok = true ∧ upConn.lan.run = true ∧ upConn.lan.phase = 1
    ∧ (upPath .qual).comes ((upPath .qual).net.ports[(0 : Fin 2)].cleanAt + (upPath .qual).r R.NET_QUAL_MS * ms) = true
    ∧ (upPath .lost).comes ((upPath .lost).net.ports[(0 : Fin 2)].cleanAt + 100 * ms) = true := by
  refine ⟨?_, ?_⟩
  · rintro _ rfl; unfold PathIs; decide
  · unfold PathIs; decide

/-- An Ethernet frame for port 0 with a type. -/
def eth (etype : BitVec 16) (n : Nat) : EthFrame :=
  let e : EthFrame := ⟨false, Config.mac 0, 0, none, etype, List.replicate n 0, 0⟩
  { e with fcs := crc32 (ethBytes e.dst e.src e.tag e.etype e.payload) }

theorem test_wit_ethernet_sound : ∀ e n, EthSound (eth e n) := fun _ _ => ⟨rfl, rfl⟩

theorem test_wit_ethernet : (upPath .up).net.ports[(0 : Fin 2)].st ≠ .down ∧ (eth 0x8808 46).etype = 0x8808 ∧ ethLen (eth 0x8808 46) = 64
    ∧ ethLen (eth 0x8808 45) < 64 ∧ 1522 < ethLen (eth 0x1234 1505) ∧ ¬EthSound ⟨true, 0, 0, none, 0, [], 0⟩
    ∧ (eth 0x1234 46).etype ≠ 0x8808 ∧ (eth 0x1234 46).etype.toNat ≠ (upPath .up).r R.NET_ETYPE_ETYPE
    ∧ (BitVec.ofNat 16 ((upPath .up).r R.NET_ETYPE_ETYPE)).toNat = (upPath .up).r R.NET_ETYPE_ETYPE
    ∧ BitVec.ofNat 16 ((upPath .up).r R.NET_ETYPE_ETYPE) ≠ 0x8808 ∧ (upPath .up).lands 6 = true ∧ (upPath .up).rb R.NET_MDIO_BUSY = false
    ∧ ((upPath .up).w R.NET_MDIO_BUSY 1).rb R.NET_MDIO_BUSY = true := by
  have h : ∀ e n, ethLen (eth e n) = 18 + n := fun e n => by simp [ethLen, eth]
  simp only [h]
  refine ⟨by decide, by decide, by decide, by decide, by decide, fun h => absurd h.2 (by decide), by decide⟩

set_option maxRecDepth 20000 in
theorem test_wit_ethernet_violation : checkCopy (upPath .qual) 0 (bytesWords ((eth 0x1234 46).payload.take 36)) 1000000 = .bad 1 0 := by decide +kernel

theorem test_wit_ethernet_address : (eth 0x8808 46).dst = Config.mac 0 ∧ 36 ≤ (eth 0x8808 46).payload.length
    ∧ ethLen (eth 0x8808 46) ≤ 1522 ∧ ({ up with net := { up.net with mdio := true } } : State).net.mdio = true :=
  ⟨rfl, by decide, by decide, rfl⟩

/-- A link of a ring in a state. -/
def upLink (st : LinkState) : State := { ringOf 1 upRun with osr := { up.osr with ringId := 1, links := Vector.replicate 2 { st := st, sync := true } } }

theorem test_wit_links : (upLink .train).ringed = true ∧ (upLink .lost).comes (0 + 100 * ms) = true ∧ (upLink .lost).osr.links[(0 : Fin 2)].lostAt = 0 ∧ (∀ p : Fin 2, (upLink .down).osr.links[p].dead = false ∧ (upLink .down).osr.links[p].st = .down
    ∧ (upLink .up).osr.links[p].sync = true ∧ (upLink .up).osr.links[p].st = .up ∧ (upLink .lost).osr.links[p].st = .lost
    ∧ (upLink .train).osr.links[p].st = .train ∧ (upLink .up).osr.links[p].peerCls = none
    ∧ ((upLink .up).w R.OSR_ERR_LIM_LIM 1).r R.OSR_ERR_LIM_LIM ≤ min ((upLink .up).osr.links[p].consec.toNat + 1) 255
    ∧ min ((upLink .up).osr.links[p].consec.toNat + 1) 255 < ((upLink .up).w R.OSR_ERR_LIM_LIM 2).r R.OSR_ERR_LIM_LIM) := by decide

/-- A HELLO frame: answer bit, device and the fields that must fit. -/
def hello (ans dev : Nat) : Frame := sealFrame [BitVec.ofNat 32 (1 + 16 * dev + 256 + 4096 * ans), 100000, 200, 0, clsCrc (upLink .train)]

set_option maxRecDepth 20000 in
theorem test_wit_hello : frameGood (hello 0 0) = true ∧ fw (hello 0 0) 0 % 16 = 1 ∧ (hello 0 0).length = 6
    ∧ bitsOf (fw (hello 0 0) 0) 12 12 = 0 ∧ frameGood (hello 1 0) = true ∧ bitsOf (fw (hello 1 0) 0) 12 12 = 1
    ∧ bitsOf (fw (hello 1 0) 0) 6 4 = peerId (upLink .train) 0 ∧ bitsOf (fw (hello 1 0) 0) 10 8 = (upLink .train).r R.OSR_ID_NDEV
    ∧ bitsOf (fw (hello 1 0) 1) 20 0 = (upLink .train).period ∧ bitsOf (fw (hello 1 0) 2) 11 0 = ((upLink .train).w R.OSR_CFG_RSEND 200).r R.OSR_CFG_RSEND
    ∧ helloBad (hello 0 0) = false ∧ helloBad (hello 1 0) = false ∧ helloBad (hello 0 1) = false ∧ 15100 - 10000 ≤ 5100 ∧ (hello 1 0).getD 4 0 = clsCrc (upLink .train) ∧ bitsOf (fw (hello 1 3) 0) 6 4 ≠ peerId (upLink .train) 0
    ∧ frameGood (hello 1 3) = true := by decide +kernel

/-- A ring of three devices. -/
def upThree : State := (upLink .up).w R.OSR_ID_NDEV 2

/-- A frame of a ring with a first word and a length. -/
def ringFrame (w : Word) (n : Nat) : Frame := sealFrame (w :: List.replicate (n - 2) 0)

set_option maxRecDepth 20000 in
theorem test_wit_ring_frames : (∀ e ∈ [((0x1002 : Word), 12), (0x1003, 10), (0x1103, 10), (0x104, 6), (0x105, 8)],
      frameGood (ringFrame e.1 e.2) = true ∧ (ringFrame e.1 e.2).length = e.2 ∧ fw (ringFrame e.1 e.2) 0 = e.1.toNat)
    ∧ bitsOf 0x1003 6 4 < (upLink .up).ndev ∧ bitsOf 0x1003 10 8 < (upLink .up).ndev ∧ bitsOf 0x105 10 8 < (upThree).ndev ∧ bitsOf 0x105 6 4 ≠ (upThree).ringId
    ∧ bitsOf 0x1002 6 4 < (upLink .up).ndev ∧ bitsOf 0x1002 12 12 = 1 ∧ 1 ≤ bitsOf 0x1103 15 12 ∧ bitsOf 0x1103 15 12 ≤ 4
    ∧ bitsOf 0x1103 10 8 = (upLink .up).ringId ∧ bitsOf 0x1103 6 4 ≠ (upLink .up).ringId ∧ bitsOf 0x1003 10 8 ≠ (upLink .up).ringId
    ∧ (sideOf (upLink .up) 0).isSome = true ∧ (∀ p : Fin 2, (upLink .up).osrUp (1 - p) = true)
    ∧ bitsOf 0x104 10 8 = (upLink .up).ringId ∧ (statusOf (bitsOf 0x104 23 16)).isSome = true
    ∧ 1 ≤ bitsOf 0x105 10 8 ∧ bitsOf 0x105 10 8 + 1 = (upLink .up).ndev := by decide +kernel

/-- A TIME frame with LOCK of the other device of a ring of two, without a change announced. -/
def timeFrameOf (n : Word) : Frame := sealFrame [0x1002, n, 0, 0, 0, 0, 0, 10000, 0, 0, 0]

set_option maxRecDepth 20000 in
set_option maxRecDepth 20000 in
theorem test_wit_time_frame : frameGood (timeFrameOf 1000007) = true ∧ (timeFrameOf 1000007).length = 12
    ∧ fw (timeFrameOf 1000007) 1 = 1000007 := by decide +kernel

theorem test_wit_time_source : timeBad (upLink .up) (timeFrameOf 1000007) = false ∧ bitsOf (fw (timeFrameOf 1000007) 0) 12 12 = 1
    ∧ fw (timeFrameOf 1000007) 0 % 16 = 2 ∧ fw (timeFrameOf 1000007) 8 = 0 ∧ fw (timeFrameOf 1000007) 9 = 0
    ∧ ∀ p : Fin 2, (upLink .up).osr.links[p].st = .up ∧ (upLink .up).osr.links[1 - p].time = none ∧ (upLink .up).osr.links[p].sync = true := by
  decide +kernel

/-- A descriptor awaits a neighbour's answer. -/
def upAwait : State := { upLink .up with dsc := { up.dsc with flights := [{ done false (some ⟨0, 0, none⟩) with tA := 999000 }] } }

theorem test_wit_await : awaiting upAwait 0 = some { done false (some ⟨0, 0, none⟩) with tA := 999000 } ∧ upAwait.comes (999000 + 150 * us) = true
    ∧ awaiting upAwait 1 = none ∧ bitsOf 0x105 10 8 + 1 < upThree.ndev
    ∧ upThree.lan.ringRelayed.contains ((0 : Fin 2), BitVec.ofNat 3 0, BitVec.ofNat 16 0) = false := by decide

/-- A follower that has the lock, or that has taken no step and scans nothing. -/
def upFollow : State := { ringOf 1 up with osr := { (ringOf 1 up).osr with lock := true }, sys := { up.sys with step := 3 } }

theorem test_wit_timebase : (ringOf 0 upRun).ringed = true ∧ (ringOf 0 upRun).ringId = 0 ∧ upFollow.sys.leave = none
    ∧ ({ upFollow.osr with stepped := true } : Osr).stepped = true ∧ upFollow.comes (lastTime upFollow + 100 * us) = true ∧ upFollow.ringed = true ∧ upFollow.ringId ≠ 0
    ∧ upFollow.osr.lock = true ∧ (∀ p : Fin 2, upFollow.osr.links[p].st = .up ∧ upFollow.osr.links[p].time = none) ∧ upFollow.osr.stepped = false
    ∧ upFollow.lan.run = false ∧ upFollow.slot.run = false ∧ upFollow.sys.step ≠ 15 ∧ upFollow.pwr.refOk = true
    ∧ ((10 * 1000000 + 9 : Int) - (1000000 * 10 + upFollow.r R.OSR_SYNC_DLY_NS)).natAbs ≤ 100 ∧ upFollow.tb = 1000000 ∧ upFollow.osr.syncFail < 2
    ∧ 2 ≤ ({ upFollow with osr := { upFollow.osr with syncFail := 2 } } : State).osr.syncFail := by decide

/-! ### Witnesses: valve ports -/

/-- Every port is enabled, in the state given, with its line in synchronisation. -/
def upPort (p : Port) : State := ({ upRun with vpt := { upRun.vpt with ports := Vector.replicate 16 { p with sync := true } } } : State).w R.VPT_EN_EN 0xFFFF

/-- A frame of a port. -/
def portFrame (w : Word) (n : Nat) : Frame := sealFrame (w :: List.replicate (n - 2) 0)

theorem test_wit_discovery : (∀ n : Fin 16, (upPort {}).portOn n = true ∧ (upPort {}).vpt.ports[n].st = .off
      ∧ (upPort { st := .search }).vpt.ports[n].st = .search ∧ (upPort { st := .config }).portOn n = true
      ∧ (upPort { st := .config, cfgid := 3 }).vpt.ports[n].st = .config
      ∧ (upPort { st := .lost }).vpt.ports[n].st = .lost ∧ ((upPort { st := .lost }).w R.VPT_CTRL_AUTO 1).rb R.VPT_CTRL_AUTO = true)
    ∧ identOk (upPort { st := .search }) 15 (portFrame 0x8019 6) = true ∧ (15100 - 10000 + 10) / 20 ≤ 255 ∧ 255 < (15110 - 10000 + 10) / 20
    ∧ identOk (upPort { st := .search }) 15 (portFrame 0x8029 6) = false
    ∧ bitsOf 0x030F001A 31 24 = (3 : BitVec 8).toNat ∧ bitsOf 0x030F001A 23 16 = 15 ∧ bitsOf 0x030F001A 6 4 = 1 := by decide

set_option maxRecDepth 100000 in
theorem test_wit_port_frames : ∀ e ∈ [((0x8019 : Word), 6, 9), (0x8029, 6, 9), (0x030F001A, 2, 10), (0x0300001B, 10, 11), (0x0300012B, 10, 11),
      (0x0300003B, 10, 11), (0x0300000C, 34, 12)],
    PortGood (upPort { st := .search }) 15 e.2.2 e.2.1 (portFrame e.1 e.2.1) ∧ fw (portFrame e.1 e.2.1) 0 = e.1.toNat := by
  unfold PortGood; decide +kernel

/-- A READY port that awaits the STATUS of its FIRE frame. -/
def ready : Port := { st := .ready, cfgid := 3, seq := 1, await := true, coil := BitVec.allOnes 256, capBurst := true }

theorem test_wit_line : (∀ n : Fin 16, (upPort ready).dom 7 = true ∧ (upPort ready).vpt.ports[n].sync = true
      ∧ (upPort { ready with halt := true }).vpt.ports[n].st = .ready ∧ (upPort { ready with halt := true }).vpt.ports[n].halt = true
      ∧ (upPort ready).vpt.ports[n].halt = false) := by decide

theorem test_wit_answers : (∀ n : Fin 16, (upPort ready).vpt.ports[n].st = .ready ∧ (upPort ready).vpt.ports[n].await = true
      ∧ (upPort ready).vpt.ports[n].armed1 = false ∧ min ((upPort ready).vpt.ports[n].consec.toNat + 1) 255 < (upPort ready).r R.VPT_ERR_LIM_LIM
      ∧ (upPort { ready with consec := 255 }).r R.VPT_ERR_LIM_LIM ≤ min ((upPort { ready with consec := 255 }).vpt.ports[n].consec.toNat + 1) 255)
    ∧ (upPort ready).vpt.burst = none ∧ bitsOf 0x0300012B 31 24 = ready.cfgid.toNat ∧ bitsOf 0x0300012B 15 8 = ready.seq.toNat
    ∧ bitsOf 0x0300012B 6 4 = 2 ∧ bitsOf 0x0300003B 6 4 = 3
    ∧ statusLoses ready (portFrame 0x0300003B 10) ∧ ¬statusLoses ready (portFrame 0x0300012B 10)
    ∧ statusLoses { ready with armed0 := true, armed1 := true } (portFrame 0x0300001B 10) ∧ (upPort ready).comes ((upPort ready).slot.tick 100 + 800) = true
    ∧ (∀ v, v < 128 → coilOf (portFrame 0x0300012B 10) v = 0 ∨ bitsOf ready.coil.toNat (2 * v + 1) (2 * v) ≠ 0) := by
  refine ⟨by decide, rfl, rfl, rfl, rfl, rfl, by unfold statusLoses; decide +kernel, by unfold statusLoses; decide +kernel,
    by unfold statusLoses; decide +kernel, by decide, fun v h => .inr ?_⟩
  revert v; decide +kernel

/-- A burst of port 15 runs since slot 0; the present slot is 256. -/
def upBurst (tries : Nat) (acc : Bool) : State :=
  { upPort ready with
    vpt := { (upPort ready).vpt with burst := some ⟨15, 127, tries, 0, acc⟩ }
    slot := { (upPort ready).slot with k := 256 } }

theorem test_wit_bursts : (upPort ready).lands 3 = true ∧ (0x800007FF : BitVec 32).getLsbD 31 = true
    ∧ (upPort ready).rb R.VPT_BURST_STAT_BUSY = false ∧ ((15 : Fin 16)).val = bitsOf (0x800007FF : BitVec 32).toNat 3 0
    ∧ (upPort ready).vpt.ports[(15 : Fin 16)].st = .ready ∧ (upPort ready).vpt.ports[(15 : Fin 16)].capBurst = true
    ∧ (upPort {}).vpt.ports[(15 : Fin 16)].st ≠ .ready ∧ (upPort {}).lands 3 = true ∧ (upPort {}).rb R.VPT_BURST_STAT_BUSY = false
    ∧ (∀ t ∈ [1, 3, 4], (upBurst t false).vpt.burst = some ⟨15, 127, t, 0, false⟩ ∧ t ≠ 0)
    ∧ (upBurst 0 true).vpt.burst = some ⟨15, 127, 0, 0, true⟩ ∧ (upBurst 0 true).vpt.ports[(15 : Fin 16)].st = .ready ∧ (upBurst 0 true).dom 7 = true
    ∧ 0 + 256 ≤ (upBurst 0 true).slot.k ∧ bitsOf 0x0300000C 31 24 = (upBurst 0 true).vpt.ports[(15 : Fin 16)].cfgid.toNat := by decide

/-! ### Witnesses: analog measurement and timers -/

/-- Both converters as given, with triggers waiting and sequences of one entry. -/
def upConv (v : Conv) : State := (((({ upRun with
    adc := { upRun.adc with conv := Vector.replicate 2 v, injDue := 3, regDue := 3 }
    lan := { upRun.lan with run := true } } : State).w R.ADC_INJ_CFG_LEN 1 0).w
  R.ADC_INJ_CFG_LEN 1 1).w R.ADC_SEQ_CFG_LEN 1 0).w R.ADC_SEQ_CFG_LEN 1 1

/-- A converter with coefficients. -/
def conv : Conv := { coef := some (0, 0x8000) }

theorem test_wit_triggers : ∀ c : Fin 2, (upConv conv).dom 8 = true ∧ (upConv conv).adc.injDue.getLsbD c.val = true ∧ InjReady (upConv conv) c
    ∧ InjReady ((upConv conv).w R.ADC_INJ_CFG_TRIG 1 c.val) c ∧ ((upConv conv).w R.ADC_INJ_CFG_TRIG 1 c.val).r R.ADC_INJ_CFG_TRIG c.val = 1
    ∧ ((upConv conv).w R.ADC_INJ_CFG_TRIG 1 c.val).lands 8 = true
    ∧ InjReady ((upConv conv).w R.ADC_INJ_CFG_TRIG 2 c.val) c ∧ ((upConv conv).w R.ADC_INJ_CFG_TRIG 2 c.val).r R.ADC_INJ_CFG_TRIG c.val = 2
    ∧ (upConv conv).lan.run = true ∧ 2 ≤ popcount ((6 : BitVec 3) &&& (upConv conv).lan.svc)
    ∧ (upConv { conv with cal := true }).adc.conv[c].cal = true ∧ (upConv { conv with cal := true }).adc.conv[c].held = false
    ∧ (upConv { conv with cal := true }).adc.conv[c].inj = false ∧ (upConv { conv with inj := true }).adc.conv[c].inj = true
    ∧ (upConv conv).adc.regDue.getLsbD c.val = true ∧ (upConv conv).r R.ADC_SEQ_CFG_LEN c.val ≠ 0 ∧ (upConv conv).r R.ADC_INJ_CFG_LEN c.val ≠ 0
    ∧ (upConv conv).adc.conv[c].passBusy = false ∧ (upConv { conv with passBusy := true }).adc.conv[c].passBusy = true
    ∧ (upConv { conv with passBusy := true }).adc.conv[c].coef.isSome = true := by
  unfold InjReady; decide

/-- A calibration of each converter waits. -/
def upCal (c : Fin 2) : State := { upConv conv with adc := { (upConv conv).adc with calq := [c, 1 - c] } }

theorem test_wit_rolled : (adcRoll 1 (upConv { conv with pipe := [⟨31, true, 1000010, 0⟩] })).adc.conv[(1 : Fin 2)].pipe.head? = some ⟨31, true, 1000010, 0⟩
    ∧ ∀ c : Fin 2, (adcRoll c (upCal c)).adc.conv[c].pipe = [] ∧ (adcRoll c (upCal c)).adc.conv[c].inj = false
      ∧ (adcRoll c (upCal c)).adc.conv[c].halted = false := by decide +kernel

theorem test_wit_calibrations : (upConv { conv with coef := none }).adc.conv[(0 : Fin 2)].coef = none
    ∧ (upConv { conv with held := true }).adc.conv[(0 : Fin 2)].held = true
    ∧ (∀ c : Fin 2, (upConv conv).lands 8 = true ∧ (BitVec.ofNat 32 (2 ^ c.val)).getLsbD c.val = true
      ∧ (BitVec.ofNat 32 (2 ^ c.val)).getLsbD (1 - c).val = false ∧ (upConv conv).adc.conv[c].halted = false ∧ (upConv conv).adc.conv[c].cal = false
      ∧ c ∉ (upConv conv).adc.calq ∧ ((upConv conv).w R.ADC_CAL_CTRL_PER_S 1).r R.ADC_CAL_CTRL_PER_S ≠ 0
      ∧ c ∉ ((upConv conv).w R.ADC_CAL_CTRL_PER_S 1).adc.calq
      ∧ (upCal c).adc.calq = [c, 1 - c] ∧ (upCal c).adc.conv[(0 : Fin 2)].cal = false ∧ (upCal c).adc.conv[(1 : Fin 2)].cal = false
      ∧ (upCal c).adc.conv[c].pipe = [] ∧ (upCal c).adc.conv[c].inj = false ∧ (upCal c).adc.conv[c].halted = false
      ∧ (upConv { conv with cal := true, held := true, fails := 1 }).adc.conv[c].cal = true
      ∧ (upConv { conv with cal := true, held := true, fails := 1 }).adc.conv[c].held = true
      ∧ 1 ≤ (upConv { conv with cal := true, held := true, fails := 1 }).adc.conv[c].fails)
    ∧ calGood (-512) 33751 = true ∧ calGood 511 31785 = true ∧ calGood 512 32768 = false ∧ calGood 0 31784 = false := by decide

/-- Timer n is enabled with a source event, at a count. -/
def upTimer (n : Fin 8) (cnt : Nat) : State :=
  ({ upRun with tmr := { upRun.tmr with capDue := Vector.replicate 16 [1000005] } }.w R.TMR_TC_CTRL_EN 1 n.val).w R.TMR_TC_CNT_CNT cnt n.val

theorem test_wit_timer_step : ∀ n : Fin 8, (upTimer n 5).dom 4 = true ∧ (upTimer n 5).rb R.TMR_TC_CTRL_EN n.val = true
    ∧ (∃ due, timerEventDue n (settleFrames (upTimer n 5)) = some due ∧ (upTimer n 5).comes due = true)
    ∧ ({ (upTimer n 5).tmr with cntAt := Vector.replicate 8 (some 1000000) } : Tmr).cntAt[n] = some 1000000
    ∧ (upTimer n 5).r R.TMR_TC_DIV_INT n.val * 65536 + (upTimer n 5).r R.TMR_TC_DIV_FRAC n.val ≤ (upTimer n 5).tmr.acc[n].toNat + 0x10000
    ∧ (upTimer n 5).tmr.acc[n].toNat + 0x10000
        < ((upTimer n 5).w R.TMR_TC_DIV_INT 2 n.val).r R.TMR_TC_DIV_INT n.val * 65536 + (upTimer n 5).r R.TMR_TC_DIV_FRAC n.val
    ∧ (upTimer n 5).r R.TMR_TC_CNT_CNT n.val < (upTimer n 5).r R.TMR_TC_TOP_TOP n.val
    ∧ (upTimer n 0xFFFFFFFF).r R.TMR_TC_TOP_TOP n.val ≤ (upTimer n 0xFFFFFFFF).r R.TMR_TC_CNT_CNT n.val := by decide

theorem test_wit_timer_writes : ∀ n : Fin 8, (upTimer n 5).lands 9 = true ∧ timerBound (upTimer n 5).regs n.val = false
    ∧ (upTimer n 5).rb R.TMR_TC_CTRL_MIP0 n.val = false ∧ (upTimer n 5).rb R.TMR_TC_CTRL_MIP1 n.val = false
    ∧ timerBound ((upTimer n 5).w R.ADC_SEQ_CFG_TRIG (8 + n.val) 1).regs n.val = true
    ∧ capTrig ((upTimer n 5).w R.TMR_TC_CAPCFG_TRIG0 1 n.val).regs n.val 0 = 1 ∧ timerBound ((upTimer n 5).w R.TMR_TC_CAPCFG_TRIG0 1 n.val).regs n.val = false
    ∧ capTrig ((upTimer n 5).w R.TMR_TC_CAPCFG_TRIG1 1 n.val).regs n.val 1 = 1 
    ∧ (∀ k : Fin 2, (settleFrames (upTimer n 5)).tmr.capDue[capPlace n k] = [1000005] ∧ (upTimer n 5).comes 1000005 = true)
    ∧ ((upTimer n 5).w R.TMR_TC_CTRL_MIP0 1 n.val).rb R.TMR_TC_CTRL_MIP0 n.val = true ∧ mipNow 5 5 9 = true
    ∧ ((upTimer n 5).w R.TMR_TC_FLAG_NEW0 1 n.val).r R.TMR_TC_FLAG_NEW0 n.val = 1 ∧ (upTimer n 5).hostReach = true := by decide

/-! ### Witnesses: modes, faults, ERR_N, JTAG -/

/-- In Run, with a request outstanding. -/
def upReq : State := { upIn .run with sys := { (upIn .run).sys with req := some ⟨1, 5⟩ } }

theorem test_wit_modes : (upIn .run).lands 0 = true ∧ pdnActive (upIn .run) = false ∧ pdnActive { upIn .run with sys := { up.sys with pdnBusy := true } } = true
    ∧ pdnActive { up with lan := { up.lan with run := true } } = false ∧ up.lan.run = false ∧ up.sys.mode ≠ .safeHold
    ∧ (upIn .run).sys.req = none ∧ (upIn .run).sys.reqAgreed = none ∧ upReq.lands 0 = true ∧ upReq.sys.req.isSome = true
    ∧ (upIn .run).inMode [.configure, .commission, .maintain, .safeHold] = false
    ∧ ({ up with lan := { up.lan with run := true } } : State).inMode [.configure, .commission, .maintain, .safeHold] = true
    ∧ ({ up with lan := { up.lan with run := true } } : State).lan.run = true ∧ (0xD4 : BitVec 8) ≠ 0xD5 := by decide

/-- BLK reactions await every block. -/
def upBlk : State := { upPort {} with sys := { (upPort {}).sys with blkDue := 0xFFFF } }

theorem test_wit_forced_and_blocks : (∀ blk : Fin 16, blk.val < 14 → up.lands blk.val = true ∧ (upIn .run).lands blk.val = true)
    ∧ up.inMode [.configure, .commission, .maintain] = true ∧ up.cfg.key = true ∧ (upIn .run).inMode [.configure, .commission, .maintain] = false
    ∧ (0x2 : BitVec 32).getLsbD 1 = true ∧ (srcRow ⟨BitVec.ofNat 4 13, 1⟩).isSome = true
    ∧ (∀ blk : Fin 16, upBlk.sys.blkDue.getLsbD blk.val = true) ∧ upBlk.dom 7 = true ∧ upBlk.dom 4 = true
    ∧ (∀ n : Fin 16, upBlk.portOn n = true) ∧ (∀ b ∈ [1, 3, 6, 7, 8, 10], upBlk.blockUp b = true) ∧ (upLess 6).blockUp 6 = false ∧ (2 : Fin 16).val ∉ [1, 3, 6, 7, 8, 10] := by decide

/-- ERR_N has latched low, at an instant, with a release waiting. -/
def upErr (at' : Nat) : State := { upScan 3 with sys := { (upScan 3).sys with errLatch := true, epinAt := at', errRelWait := true } }

/-- Pump mode with the square wave running and three fresh tokens. -/
def upPump : State := ({ upScan 3 with
  sys := { (upScan 3).sys with errArmed := true, pump := true, waveAt := 900000 },
  lan := { (upScan 3).lan with lanes := Vector.replicate 3 { tokenAt := some 990000 } } } : State).w R.SYS_ERR_CFG_MODE 1

theorem test_wit_err : (upErr 5).lands 0 = true ∧ (upErr 5).sys.errLatch = true ∧ (upErr 5).keep.lockdown = false ∧ (upErr 5).comes ((upErr 5).sys.epinAt + (upErr 5).r R.SYS_ERR_CFG_MIN_MS * ms) = true
    ∧ upPump.comes (tokenEnd upPump) = true ∧ pumpRuns { upPump with sys := { upPump.sys with pump := false } } = true
    ∧ ({ upErr 5 with keep := { up.keep with lockdown := true } } : State).keep.lockdown = true
    ∧ (upErr 5).rb R.SYS_ERR_CFG_MODE = false
    ∧ (upErr 5).sys.epinAt + ((upErr 5).w R.SYS_ERR_CFG_MIN_MS 1).r R.SYS_ERR_CFG_MIN_MS * 100000 ≤ (upErr 5).tb
    ∧ (upErr 999999).tb < (upErr 999999).sys.epinAt + ((upErr 999999).w R.SYS_ERR_CFG_MIN_MS 1).r R.SYS_ERR_CFG_MIN_MS * 100000
    ∧ (upErr 5).sys.errRelWait = true ∧ upPump.sys.pump = true
    ∧ pumpRuns (upPump.at (upPump.sys.waveAt + 50000000 / upPump.r R.SYS_ERR_CFG_HZ)) = true ∧ up.sys.pump = false ∧ pumpRuns up = false := by decide

/-- The port captures or shifts a data register, with an instruction. -/
def upTap (st : TapState) (i : TapInstr) : State := { up with jtag := { up.jtag with st := st, instr := i, dr := [true, false] } }

theorem test_wit_jtag : (upTap .captureDr .idcode).pwr.aoOk = true ∧ (upTap .captureDr .idcode).jtag.st = .captureDr
    ∧ (upTap .captureDr .idcode).jtag.instr = .idcode ∧ (upTap .captureDr .extest).jtag.instr = .extest
    ∧ (upTap .captureDr .extest).pwr.testMode = false ∧ (upTap .shiftDr .sample).jtag.st = .shiftDr ∧ (⟨true, false, true, true⟩ : TapIn).trstN = true
    ∧ (⟨false, false, true, true⟩ : TapIn).trstN = false := by decide

/-! ### Witnesses: the whole machine -/

theorem test_wit_step_keeps : Memory.wf up = true ∧ step up = .next (idleTick up) ∧ Memory.wf { up with nv := stored } = true := by
  refine ⟨by decide, rfl, ?_⟩
  decide +kernel

/-- In Lockdown, Boot at its self-tests. -/
def upLatched : State := { upBoot 2 with keep := { up.keep with lockdown := true } }

theorem test_wit_lockdown : up.blockUp S.VPT_LINK.blk.toNat = true
    ∧ (upErr 5).pwr.aoOk = true ∧ upLatched.keep.lockdown = true ∧ upLatched.pwr.aoOk = true ∧ upLatched.sys.mode = .boot ∧ upLatched.sys.step = 2
    ∧ upLatched.pwr.waiting = 0 ∧ Instr.errRelease ≠ .vddAoLoss := by decide

/-! ### Values that the spec works out -/

/-- The check string "123456789". -/
def checkBytes : List Byte := [0x31, 0x32, 0x33, 0x34, 0x35, 0x36, 0x37, 0x38, 0x39]

-- R123, R392, R488: the values of the check string.
theorem test_check_string : crc32 checkBytes = 0xCBF43926 ∧ scrc checkBytes = 0xE3069283 ∧ crc64 checkBytes = 0x6C40DF5F0B497347 := by
  decide +kernel

-- 15_timers_crc.md, "Example: the check string": the three writes of general unit 0.
theorem test_crc_unit :
    let s := crcFeed 0 1 0x39 (crcFeed 0 4 0x38373635 (crcFeed 0 4 0x34333231 (crcStartEff 0 up)))
    s.crc[(0 : Fin 4)].result = 0xCBF43926 ∧ s.crc[(0 : Fin 4)].len = 9 := by decide +kernel

-- 06_valve_ports.md, "Example: one FIRE frame on VP0": the header and bytes 36 to 38.
theorem test_fire_frame :
    let f := fireFrame true none 0x3A 5 (fun v => v == 52 || v == 53) (fun v => if v = 52 then 3 else if v = 53 then 4 else 0)
    f.length = 22 ∧ f[0]! = 0x053A0011 ∧ (wordBytes f[9]!).take 3 = [0x70, 0x12, 0x00] := by decide +kernel

/-- Device 1 of the worked example of 02_cistern_timing.md. -/
def upExample : State :=
  let s := upLink .up
  { ((((s.w R.OSR_ID_NDEV 1).w R.CIS_DLY_DELAY 400 52).w R.CIS_DLY_DELAY 400 53).w R.CIS_DLY_DELAY 401 54 |>.w R.CIS_CLS_OFFSET 255 2
      |>.w R.CIS_CLS_STRETCH 1 2) with
    tb := 123502000
    osr := { s.osr with ringId := 1 }
    slot := { run := true, ticked := true, e := 1000000, len := 5000, k := 24500 } }

/-- Its descriptor. -/
def exampleDesc : RawDesc := ⟨0x21, 123456789, 0, 2100 + 2 * 65536, 3, 0, 0, 0⟩

-- 02_cistern_timing.md, the worked example: rows and slots; column 54 is open one slot longer when the mark is late.
theorem test_band : upExample.slot.slotOf 123456789 = 24491 ∧ bandOf upExample exampleDesc
      = ⟨[(52, 24890), (53, 24890), (54, 24891)], 5, 24890, 24895⟩ ∧ upExample.slot.tickZ 24890 = 125450000
    ∧ slotOpen upExample 24890 = true
    ∧ firstOpen { upExample with tb := 125444000 } = 24892 := by decide +kernel

-- 05_speculation.md, the worked example: column 302 in row 2,201 through A, B, C, REVOKE 7, CONFIRM 8.
theorem test_cells : (stepCell .incSpec 0x1).1 = 0x2 ∧ (stepCell .incFirm 0x2).1 = 0x6 ∧ (stepCell .dec 0x6).1 = 0x5
    ∧ (stepCell .confirm 0x5).1 = 0x8 ∧ stepCell .incSpec 0x7 = (0xF, true, false) ∧ stepCell .confirm 0xD = (0xF, true, false)
    ∧ stepCell .incFirm 0xB = (0xF, true, false) := by decide

-- 15_timers_crc.md, "Example: compare writes on a 1 ms timer": which written values match at once.
theorem test_compare : mipNow 600 600 999 = true ∧ mipNow 601 600 999 = false ∧ mipNow 599 600 999 = true ∧ mipNow 100 600 999 = false
    ∧ mipNow 1200 600 999 = false := by decide

-- R585: the IDCODE, captured least significant bit first.
theorem test_idcode : tapCapture (upTap .captureDr .idcode) = (List.range 32).map fun i => (0xA204878D : Word).getLsbD i := by decide

end Sys2Proof.Tests
end

section
/-! SUPPORT. Host accesses to BAR0: what the two instructions do by the DW-aligned offset, and offsets that hold no register
(R12). -/

namespace Sys2Proof.Machine

/-! ### The instructions by the aligned offset -/

theorem exec_registerWrite_bar0 (off : BitVec 20) (val : Word) (s : State) :
    exec (.registerWrite off val) s = .next (registerWriteEff (off.toNat / 4 * 4) val s) := rfl

theorem exec_registerRcRead_bar0 (off : BitVec 20) (be : BitVec 4) (ev : Option Word) (s : State) :
    exec (.registerRcRead off be ev) s =
      .next (if s.hostReach then registerReadEff (off.toNat / 4 * 4) be ev (s.order 6) else readRefused s) := rfl

/-- An offset rounded down to its DW is an offset of 20 bits that rounds to itself. -/
theorem toNat_ofNat_align (off : BitVec 20) :
    (BitVec.ofNat 20 (off.toNat / 4 * 4)).toNat / 4 * 4 = off.toNat / 4 * 4 := by
  have hlt : off.toNat / 4 * 4 < 2 ^ 20 := Nat.lt_of_le_of_lt (Nat.div_mul_le_self _ 4) off.isLt
  rw [BitVec.toNat_ofNat, Nat.mod_eq_of_lt hlt, Nat.mul_div_cancel _ (by decide)]

/-- The two lowest bits of an offset do not act in a write (R12). -/
theorem exec_registerWrite_align (off : BitVec 20) (val : Word) (s : State) :
    exec (.registerWrite off val) s = exec (.registerWrite (BitVec.ofNat 20 (off.toNat / 4 * 4)) val) s := by
  rw [exec_registerWrite_bar0, exec_registerWrite_bar0, toNat_ofNat_align]

/-! ### Offsets that hold no register -/

/-- Which offsets hold a register does not depend on the instant. -/
@[simp] theorem offsetUsed_order (s : State) (n off : Nat) : offsetUsed (s.order n) off = offsetUsed s off := rfl

theorem registerWriteEff_of_unused {off : Nat} (val : Word) {s : State} (h : offsetUsed s off = false) :
    registerWriteEff off val s = s := by
  simp [registerWriteEff, h]

theorem registerReadEff_of_unused {off : Nat} (be : BitVec 4) (ev : Option Word) {s : State} (h : offsetUsed s off = false) :
    registerReadEff off be ev s = readOut be 0 s := by
  simp [registerReadEff, h]

/-- Of a word of zeros every choice of bytes reads 0. -/
theorem readOut_zero (be : BitVec 4) (s : State) : readOut be 0 s = { s with hif := { s.hif with rd := [0] } } := by
  simp [readOut]

/-- Settles O3: the guard of each access answers before any register or fault is reached. -/
theorem noRegisterAtOffset : Obligations.NoRegisterAtOffset := by
  intro off val be ev s
  refine ⟨fun hunused => ?write, fun hunused hreach => ?read, exec_registerWrite_align off val s⟩
  case write => rw [exec_registerWrite_bar0, registerWriteEff_of_unused val hunused]
  case read =>
    have hunused' : offsetUsed (s.order 6) (off.toNat / 4 * 4) = false := by rw [offsetUsed_order, hunused]
    rw [exec_registerRcRead_bar0, if_pos hreach, registerReadEff_of_unused be ev hunused', readOut_zero, State.order_hif]

end Sys2Proof.Machine
end

section
/-! SUPPORT. A slot tick for which no change, migration or write waits (`QuietTick`): it opens its slot, drains, and reaches the timers,
and does nothing else (R65, R66). -/

namespace Sys2Proof.Machine

/-! ### Sparse maps and bits -/

/-- A map restricted by its keys reads as before at the keys that stay, and lists nothing at the others. -/
theorem mget_filter_key {α : Type} (q : Nat → Bool) (m : Map α) (k : Nat) :
    mget (m.filter fun e => q e.1) k = if q k then mget m k else none := by
  induction m with
  | nil => simp [mget]
  | cons e m ih =>
    obtain ⟨a, x⟩ := e
    by_cases ha : a = k
    · subst ha
      by_cases hq : q a <;> simp [mget, hq] at ih ⊢
      exact ih
    · by_cases hq : q a <;> simp [mget, hq, ha] at ih ⊢ <;> exact ih

/-- The sum of the powers of two that a predicate names stays below the next power. -/
theorem sum_b2n_two_pow_lt (f : Nat → Bool) (n : Nat) : ((List.range n).map fun j => b2n (f j) * 2 ^ j).sum < 2 ^ n := by
  induction n with
  | zero => simp
  | succ n ih =>
    have hb : b2n (f n) * 2 ^ n ≤ 2 ^ n := by cases f n <;> simp [b2n]
    rw [List.range_succ, List.map_append, List.sum_append, Nat.pow_succ]
    simp only [List.map_cons, List.map_nil, List.sum_cons, List.sum_nil]
    omega

/-- Bit i of that sum is the predicate at i. -/
theorem testBit_sum_b2n (f : Nat → Bool) {n i : Nat} (hi : i < n) :
    ((List.range n).map fun j => b2n (f j) * 2 ^ j).sum.testBit i = f i := by
  induction n with
  | zero => omega
  | succ n ih =>
    have hsum : ((List.range (n + 1)).map fun j => b2n (f j) * 2 ^ j).sum
        = 2 ^ n * b2n (f n) + ((List.range n).map fun j => b2n (f j) * 2 ^ j).sum := by
      simp [List.range_succ, Nat.mul_comm, Nat.add_comm]
    rw [hsum, Nat.testBit_two_pow_mul_add _ (sum_b2n_two_pow_lt f n)]
    split
    · next hlt => exact ih hlt
    · have : i = n := by omega
      subst this
      cases f i <;> simp [b2n]

/-- A change of an element that keeps its value changes nothing. -/
theorem vmod_of_fixed {α : Type} {n : Nat} {v : Vector α n} {i : Fin n} (f : α → α) (h : f v[i] = v[i]) : vmod v i f = v := by
  rw [vmod, h]
  exact Vector.set_getElem_self _

/-! ### Before the drain -/

/-- With no resolution write due, none is performed at a tick. -/
theorem bookedUpTo_of_none_due {k : Nat} {s : State} (h : ∀ b ∈ s.tkt.books, b.done = true ∨ k ≤ b.at') : bookedUpTo k s = s := by
  have hnone : (s.tkt.books.filter fun b => !b.done && decide (b.at' < k) && s.tkt.dropping b.ticket) = [] := by
    refine List.filter_eq_nil_iff.2 fun b hb => ?_
    rcases h b hb with hdone | hlate
    · simp [hdone]
    · simp [Nat.not_lt.2 hlate]
  simp [bookedUpTo, hnone, Tkt.perform]

theorem commitTick_of_not_pend {k : Nat} {s : State} (h : s.cfg.txn ≠ .pend) : commitTick k s = s := by
  simp [commitTick, h]

theorem flushSlice_of_empty {k : Nat} {s : State} {p : Fin 17} (h : s.cis.phys[p].wq = []) : flushSlice k s p = s := by
  have hfix : ∀ x : Phys, x.wq = [] → { x with wq := x.wq.filter fun w => k < w.slot } = x := by
    intro x hx; cases x; simp_all
  have hphys : (vmod s.cis.phys p fun x => { x with wq := x.wq.filter fun w => k < w.slot }) = s.cis.phys :=
    vmod_of_fixed _ (hfix _ h)
  simp only [flushSlice, hphys, h, List.filter_nil, List.foldl_nil]

theorem flushSlices_of_empty {k : Nat} {s : State} (h : ∀ p : Fin 17, s.cis.phys[p].wq = []) (l : List (Fin 17)) :
    l.foldl (flushSlice k) s = s := by
  induction l with
  | nil => rfl
  | cons p l ih => rw [List.foldl_cons, flushSlice_of_empty (h p), ih]

/-- What tick k does where it is quiet, up to the drain: its instant has come, and slot k is the present one. -/
def tickOpened (k : Nat) (s : State) : State :=
  { (s.at (s.slot.tick k)).order 2 with slot := { s.slot with k := k, ticked := true } }

@[simp] theorem tickOpened_cis (k : Nat) (s : State) : (tickOpened k s).cis = s.cis := rfl

/-- The state after the quiet tick k. -/
def quietTicked (io : DrainIn) (k : Nat) (s : State) : State :=
  tickTimers (drainPeak io (drainAll io (k % 2560) (tickOpened k s)))

theorem slotTickEff_of_quiet {s : State} {k : Nat} (h : QuietTick s k) (io : DrainIn) : slotTickEff io s = quietTicked io k s := by
  obtain ⟨rfl, hlen, htxn, hmig, hwq, hbooks, -⟩ := h
  unfold slotTickEff
  extract_lets k booked len committed sized slot opened flushed mig
  have hbooked : booked = (s.at (s.slot.tick k)).order 2 := bookedUpTo_of_none_due hbooks
  have hlen' : len = none := by rw [← hlen]; simp only [len, hbooked]; rfl
  have hsized : sized = (s.at (s.slot.tick k)).order 2 := by
    simp only [sized, hlen', committed, hbooked]
    exact commitTick_of_not_pend htxn
  have hopened : opened = tickOpened k s := by
    simp only [opened, slot, hsized]
    rfl
  have hflushed : flushed = tickOpened k s := by
    have hempty : ∀ p : Fin 17, (tickOpened k s).cis.phys[p].wq = [] := hwq
    simp only [flushed, hopened]
    exact flushSlices_of_empty hempty _
  have hmig' : mig = none := by simp only [mig, hflushed, tickOpened_cis, hmig]
  rw [hflushed, hmig']
  rfl

theorem exec_slotTick_of_quiet {s : State} {k : Nat} (h : QuietTick s k) (io : DrainIn) :
    exec (.slotTick io) s = .next (quietTicked io k s) := by
  have heff := slotTickEff_of_quiet h io
  obtain ⟨-, -, -, -, -, -, hrun, href, hao⟩ := h
  have hexec : exec (.slotTick io) s = execSlotTick io s := rfl
  rw [hexec, execSlotTick, hrun, href, hao, heff]
  rfl

end Sys2Proof.Machine
end

section
/-! SUPPORT. Reports of corrected and uncorrectable codewords: which parts of the state and of the cistern they leave alone, and the failure
of a slice (R42, R43). -/

namespace Sys2Proof.Machine

/-! ### What the report of a codeword leaves alone (R42, R43) -/

/-- Of the cistern nothing changes but the slices, their assignment and the migration. -/
def Cis.onlySlices (a b : Cis) : Prop :=
  b = { a with phys := b.phys, served := b.served, spareOk := b.spareOk, dark := b.dark, mig := b.mig }

theorem Cis.onlySlices.trans {a b c : Cis} (h : a.onlySlices b) (h' : b.onlySlices c) : a.onlySlices c := by
  unfold Cis.onlySlices at *; rw [h', h]

theorem Cis.onlySlices.cells {a b : Cis} (h : a.onlySlices b) : b.cells = a.cells := by unfold Cis.onlySlices at h; rw [h]
theorem Cis.onlySlices.fire {a b : Cis} (h : a.onlySlices b) : b.fire = a.fire := by unfold Cis.onlySlices at h; rw [h]
theorem Cis.onlySlices.openBits {a b : Cis} (h : a.onlySlices b) (n cw : Nat) : openBits b n cw = openBits a n cw := by
  unfold Cis.onlySlices at h; rw [h]; rfl

/-- The parts of the state that the report of a codeword may change. -/
def reportParts : List Part := .cis :: .dsc :: raiseParts

/-- What reports may do to the state: of the cistern they reach the slices alone. -/
def Reported (s t : State) : Prop := OnlyChanges reportParts s t ∧ s.cis.onlySlices t.cis

theorem Reported.refl (s : State) : Reported s s := ⟨.refl _ s, rfl⟩

theorem Reported.trans {s t u : State} (h : Reported s t) (h' : Reported t u) : Reported s u := ⟨h.1.trans h'.1, h.2.trans h'.2⟩

theorem Reported.ite {s a b : State} (c : Prop) [Decidable c] (h : Reported s a) (h' : Reported s b) :
    Reported s (if c then a else b) := by split <;> assumption

/-- What changes faults, registers and messages alone. -/
theorem Reported.of_raise {s t : State} (h : OnlyChanges raiseParts s t) : Reported s t := by
  refine ⟨h.mono (by decide), ?_⟩
  have hcis : t.cis = s.cis := h .cis (by decide)
  rw [hcis]; rfl

/-- A change of the slices, of the flights' marks and of registers. -/
theorem Reported.of_onlySlices {s : State} {c : Cis} (h : s.cis.onlySlices c) (d : Dsc) (m : Map Word) :
    Reported s { s with cis := c, dsc := d, regs := m } := by
  refine ⟨fun q hq => ?_, h⟩
  cases q <;> first | rfl | exact absurd hq (by decide)

theorem failCis_onlySlices (c : Cis) (p : Fin 17) : c.onlySlices (failCis c p) := by
  unfold failCis
  dsimp only
  split
  · rfl
  · split
    · split <;> rfl
    · rfl

theorem failSlice_reported (p : Fin 17) (s : State) : Reported s (failSlice p s) := by
  refine .ite _ (.refl s) (.trans ?_ (.of_raise (raiseAll_only _ _)))
  exact .trans (.of_onlySlices (failCis_onlySlices s.cis p) _ s.regs)
    (.ite _ (.refl _) (.of_raise ((State.add_only _ _ _ _ _).mono (by decide))))

theorem spareUnfit_reported (s : State) : Reported s (spareUnfit s) := by
  have hunfit : s.cis.onlySlices { s.cis with spareOk := false } := rfl
  exact .ite _ (.trans (.of_onlySlices hunfit s.dsc s.regs) (.of_raise (raise_only _ _ _))) (.refl s)

theorem corrected_reported (p : Fin 17) (row cw : Nat) (sym : Fin 38) (second : Option (Fin 38)) (s : State) :
    Reported s (corrected p row cw sym second s) := by
  unfold corrected
  extract_lets n cis counted first raised lim fails limited
  have hcount : s.cis.onlySlices { s.cis with phys := vmod s.cis.phys p fun x => { x with ceNow := n } } := rfl
  have hraised : Reported s raised := .trans (.of_onlySlices hcount s.dsc _) (.of_raise (raise_only _ _ counted))
  refine .ite _ hraised ?_
  split
  · exact .trans (hraised.trans (.of_raise (raise_only S.CIS_SLC_CE 0 raised))) (.ite _ (failSlice_reported p _) (.refl _))
  · exact hraised.trans (.ite _ (spareUnfit_reported _) (.refl _))

theorem uncorrectable_reported (p : Fin 17) (row cw : Nat) (s : State) : Reported s (uncorrectable p row cw s) :=
  .trans (.of_raise (raise_only S.CIS_ECC_U (sliceDetail p row cw 63 0) s))
    (.ite _ (spareUnfit_reported _) (failSlice_reported p _))

theorem drainReport_of_clean {io : DrainIn} {p : Fin 17} {cw : Fin 2} (h : drainEcc io p cw = .clean) (row : Nat) (s : State) :
    drainReport io p row s cw = s := by
  simp [drainReport, h]

theorem drainReport_reported (io : DrainIn) (p : Fin 17) (row : Nat) (s : State) (cw : Fin 2) :
    Reported s (drainReport io p row s cw) := by
  unfold drainReport
  split
  · exact corrected_reported p row cw _ _ s
  · exact uncorrectable_reported p row cw s
  · exact .refl s

/-! ### An uncorrectable codeword fails its slice (R43) -/

theorem failCis_failed (c : Cis) (p : Fin 17) : (failCis c p).phys[p].failed = true := by
  have hspare : ∀ (v : Vector Phys 17) (f : Phys → Phys), v[p].failed = true → (∀ x, (f x).failed = x.failed) →
      (vmod v 16 f)[p].failed = true := by
    intro v f hv hf
    by_cases hp : p = 16
    · subst hp; simpa [vmod, hf] using hv
    · have : (16 : Nat) ≠ p := fun e => hp (Fin.ext e.symm)
      simpa [vmod, Vector.getElem_set, this] using hv
  unfold failCis
  dsimp only
  split
  · exact hspare _ (fun x => { x with wq := [] }) (by simp) fun _ => rfl
  · split
    · split
      · exact hspare _ _ (by simp) fun _ => rfl
      · simp
    · simp

theorem failSlice_failed (p : Fin 17) (s : State) : (failSlice p s).cis.phys[p].failed = true := by
  unfold failSlice
  split
  · assumption
  · simp only [raiseAll_cis, countDark]
    split <;> exact failCis_failed _ p

theorem uncorrectable_failed {p : Fin 17} {s : State} (h : p ≠ 16 ∨ s.cis.served ≠ none) (row cw : Nat) :
    (uncorrectable p row cw s).cis.phys[p].failed = true := by
  have hin : (p = 16 && s.cis.served.isNone) = false := by
    rcases h with h | h
    · simp [h]
    · simp [Option.isNone_eq_false_iff, Option.isSome_iff_ne_none, h]
  simp only [uncorrectable, raise_cis, hin]
  exact failSlice_failed p _

end Sys2Proof.Machine
end

section
/-! SUPPORT. The drain: the cells and fire bits of a row, the drain of one slice, and of several one after another (R66, R68, R213). -/

namespace Sys2Proof.Machine

/-! ### Cells (R53) -/

theorem cellKey_div {col : Nat} (p row : Nat) (h : col < 128) : cellKey p row col / 128 = p * 2560 + row := by
  unfold cellKey; omega

/-- After a row is cleared its cells read zero, and every other cell reads as before. -/
theorem mread_clearRow (p row q row' : Nat) {col : Nat} (m : Map (BitVec 4)) (h : row < 2560) (h' : row' < 2560) (hcol : col < 128) :
    mread 0 (clearRow p row m) (cellKey q row' col) = if q = p ∧ row' = row then 0 else mread 0 m (cellKey q row' col) := by
  have hkey : cellKey q row' col / 128 ≠ p * 2560 + row ↔ ¬(q = p ∧ row' = row) := by
    rw [cellKey_div q row' hcol]; omega
  rw [mread, clearRow, mget_filter_key fun a => a / 128 != p * 2560 + row]
  by_cases hc : q = p ∧ row' = row
  · simp [hc, cellKey_div p row hcol]
  · simp [hc, hkey.2 hc, mread]

theorem nonzeroBits_getLsbD (m : Map (BitVec 4)) (p row cw : Nat) {j : Nat} (h : j < 64) :
    (nonzeroBits m p row cw).getLsbD j = (mread 0 m (cellKey p row (64 * cw + j)) != 0) := by
  rw [nonzeroBits, BitVec.getLsbD_ofNat, testBit_sum_b2n (fun j => mread 0 m (cellKey p row (64 * cw + j)) != 0) h]
  simp [h]

theorem openBits_getLsbD (c : Cis) (n cw : Nat) {j : Nat} (h : j < 64) :
    (openBits c n cw).getLsbD j = !c.suppressed (128 * n + 64 * cw + j) := by
  have hcol : (128 * n + 64 * cw + j) / 8 = 16 * n + 8 * cw + j / 8 := by omega
  unfold openBits Cis.suppressed
  split
  · next hgone => simp [hgone]
  · next hgone =>
    rw [BitVec.getLsbD_ofNat, testBit_sum_b2n (fun j => !c.dlyLost.getLsbD (16 * n + 8 * cw + j / 8)) h, hcol]
    simp [h, hgone]

/-- Bit i of a row's fire bits lies in the low half or in the high one. -/
theorem getLsbD_halves (hi lo : BitVec 64) (i : Nat) :
    (hi ++ lo : BitVec 128).getLsbD i = if i < 64 then lo.getLsbD i else hi.getLsbD (i - 64) := BitVec.getLsbD_append

/-! ### Fire bits of one codeword (R66, R68) -/

theorem codewordFire_of_uncorrectable {io : DrainIn} {p : Fin 17} {cw : Fin 2} (h : drainEcc io p cw = .uncorrectable) (s : State)
    (row : Nat) (n : Fin 16) : codewordFire s io p row cw n = 0 := by
  simp [codewordFire, h]

/-- A codeword read right fires where its cell is not zero and its column is not suppressed. -/
theorem codewordFire_getLsbD {io : DrainIn} {p : Fin 17} {cw : Fin 2}
    (h : drainEcc io p cw = .clean ∨ ∃ a b, drainEcc io p cw = .corrected a b) (s : State) (row : Nat) (n : Fin 16) {j : Nat} (hj : j < 64) :
    (codewordFire s io p row cw n).getLsbD j =
      (mread 0 s.cis.cells (cellKey p row (64 * cw + j)) != 0 && !s.cis.suppressed (128 * n + 64 * cw + j)) := by
  have hread : codewordFire s io p row cw n = nonzeroBits s.cis.cells p row cw &&& openBits s.cis n cw := by
    rcases h with h | ⟨a, b, h⟩ <;> simp [codewordFire, h]
  rw [hread, BitVec.getLsbD_and, nonzeroBits_getLsbD _ _ _ _ hj, openBits_getLsbD _ _ _ hj]

/-- Fire bits depend on the cells of the row, on what is suppressed and on the free values. -/
theorem codewordFire_congr {s t : State} (io : DrainIn) (p : Fin 17) (row : Nat) (cw : Fin 2) (n : Fin 16)
    (hcells : ∀ j, j < 128 → mread 0 t.cis.cells (cellKey p row j) = mread 0 s.cis.cells (cellKey p row j))
    (hopen : openBits t.cis n cw = openBits s.cis n cw) (hfree : t.free = s.free) :
    codewordFire t io p row cw n = codewordFire s io p row cw n := by
  have hbits : nonzeroBits t.cis.cells p row cw = nonzeroBits s.cis.cells p row cw := by
    apply BitVec.eq_of_getLsbD_eq
    intro j hj
    rw [nonzeroBits_getLsbD _ _ _ _ hj, nonzeroBits_getLsbD _ _ _ _ hj, hcells (64 * cw + j) (by omega)]
  have hfv : ∀ k, t.fv k = s.fv k := fun k => by rw [State.fv, State.fv, hfree]
  unfold codewordFire
  rw [hbits, hopen, hfv, hfv]

/-! ### The drain of one slice (R66, R213) -/

/-- A slice that is failed or whose domain is off is not drained. -/
def drains (c0 : Cis) (s : State) (p : Fin 17) : Bool := !(c0.phys[p].failed || !s.sliceOn p)

/-- Fire bits after the drain of slice p, which served `n` when the tick came. -/
def firedBy (io : DrainIn) (row : Nat) (c0 : Cis) (s : State) (p : Fin 17) : Vector (BitVec 128) 16 :=
  match c0.serving p with
  | some n => s.cis.fire.set n (codewordFire s io p row 1 n ++ codewordFire s io p row 0 n)
  | none => s.cis.fire

/-- Slice p drained, before its codewords are reported. -/
def sliceDrained (io : DrainIn) (row : Nat) (c0 : Cis) (s : State) (p : Fin 17) : State :=
  { s with cis := { s.cis with fire := firedBy io row c0 s p, cells := clearRow p row s.cis.cells } }

theorem drainSlice_of_not_drains {c0 : Cis} {s : State} {p : Fin 17} (h : drains c0 s p = false) (io : DrainIn) (row : Nat) :
    drainSlice io row c0 s p = s := by
  simp only [drains, Bool.not_eq_false'] at h
  rw [drainSlice, if_pos h]

theorem drainSlice_of_drains {c0 : Cis} {s : State} {p : Fin 17} (h : drains c0 s p = true) (io : DrainIn) (row : Nat) :
    drainSlice io row c0 s p = drainReport io p row (drainReport io p row (sliceDrained io row c0 s p) 0) 1 := by
  simp only [drains, Bool.not_eq_true'] at h
  rw [drainSlice, h]
  rfl

theorem drainSlice_reported {c0 : Cis} {s : State} {p : Fin 17} (h : drains c0 s p = true) (io : DrainIn) (row : Nat) :
    Reported (sliceDrained io row c0 s p) (drainSlice io row c0 s p) := by
  rw [drainSlice_of_drains h]
  exact (drainReport_reported io p row _ 0).trans (drainReport_reported io p row _ 1)

theorem drainSlice_only (io : DrainIn) (row : Nat) (c0 : Cis) (s : State) (p : Fin 17) :
    OnlyChanges reportParts s (drainSlice io row c0 s p) := by
  cases h : drains c0 s p
  · rw [drainSlice_of_not_drains h]; exact .refl _ s
  · refine .trans ?_ (drainSlice_reported h io row).1
    intro q hq; cases q <;> first | rfl | exact absurd hq (by decide)

@[simp] theorem drainSlice_sliceOn (io : DrainIn) (row : Nat) (c0 : Cis) (s : State) (p q : Fin 17) :
    (drainSlice io row c0 s p).sliceOn q = s.sliceOn q := by
  have hpwr : (drainSlice io row c0 s p).pwr = s.pwr := drainSlice_only io row c0 s p .pwr (by decide)
  simp only [State.sliceOn, State.dom, hpwr]

theorem drainSlice_cells (io : DrainIn) (row : Nat) (c0 : Cis) (s : State) (p : Fin 17) :
    (drainSlice io row c0 s p).cis.cells = if drains c0 s p then clearRow p row s.cis.cells else s.cis.cells := by
  cases h : drains c0 s p
  · rw [drainSlice_of_not_drains h]; rfl
  · rw [(drainSlice_reported h io row).2.cells]; rfl

theorem drainSlice_fire (io : DrainIn) (row : Nat) (c0 : Cis) (s : State) (p : Fin 17) :
    (drainSlice io row c0 s p).cis.fire = if drains c0 s p then firedBy io row c0 s p else s.cis.fire := by
  cases h : drains c0 s p
  · rw [drainSlice_of_not_drains h]; rfl
  · rw [(drainSlice_reported h io row).2.fire]; rfl

theorem drainSlice_openBits (io : DrainIn) (row : Nat) (c0 : Cis) (s : State) (p : Fin 17) (n cw : Nat) :
    openBits (drainSlice io row c0 s p).cis n cw = openBits s.cis n cw := by
  cases h : drains c0 s p
  · rw [drainSlice_of_not_drains h]
  · rw [(drainSlice_reported h io row).2.openBits]; rfl

/-- The drain of a slice whose codewords read clean touches cells and fire bits alone. -/
theorem drainSlice_of_clean {io : DrainIn} {p : Fin 17} (h : ∀ cw, drainEcc io p cw = .clean) (row : Nat) (c0 : Cis) (s : State) :
    drainSlice io row c0 s p = if drains c0 s p then sliceDrained io row c0 s p else s := by
  cases hd : drains c0 s p
  · exact drainSlice_of_not_drains hd io row
  · rw [drainSlice_of_drains hd, drainReport_of_clean (h 0), drainReport_of_clean (h 1)]; rfl

/-! ### The drain of several slices -/

/-- The slices of a list drained one after another. -/
def drainSlices (io : DrainIn) (row : Nat) (c0 : Cis) (l : List (Fin 17)) (s : State) : State := l.foldl (drainSlice io row c0) s

theorem drainSlices_only (io : DrainIn) (row : Nat) (c0 : Cis) (l : List (Fin 17)) (s : State) :
    OnlyChanges reportParts s (drainSlices io row c0 l s) :=
  .foldl _ (fun s p => drainSlice_only io row c0 s p) l s

@[simp] theorem drainSlices_sliceOn (io : DrainIn) (row : Nat) (c0 : Cis) (l : List (Fin 17)) (s : State) (q : Fin 17) :
    (drainSlices io row c0 l s).sliceOn q = s.sliceOn q := by
  have hpwr : (drainSlices io row c0 l s).pwr = s.pwr := drainSlices_only io row c0 l s .pwr (by decide)
  simp only [State.sliceOn, State.dom, hpwr]

theorem drainSlices_append (io : DrainIn) (row : Nat) (c0 : Cis) (l₁ l₂ : List (Fin 17)) (p : Fin 17) (s : State) :
    drainSlices io row c0 (l₁ ++ p :: l₂) s = drainSlices io row c0 l₂ (drainSlice io row c0 (drainSlices io row c0 l₁ s) p) := by
  simp [drainSlices]

theorem drainSlices_openBits (io : DrainIn) (row : Nat) (c0 : Cis) (l : List (Fin 17)) (s : State) (n cw : Nat) :
    openBits (drainSlices io row c0 l s).cis n cw = openBits s.cis n cw := by
  induction l generalizing s with
  | nil => rfl
  | cons p l ih => rw [drainSlices, List.foldl_cons]; exact (ih _).trans (drainSlice_openBits ..)

section Cells
variable {io : DrainIn} {row row' j : Nat} {c0 : Cis} {s : State} {p : Fin 17}

/-- The drain of slice q clears its row, and no other cell changes. -/
theorem mread_drainSlice (q : Fin 17) (hrow : row < 2560) (hrow' : row' < 2560) (hj : j < 128) :
    mread 0 (drainSlice io row c0 s q).cis.cells (cellKey p row' j) =
      if drains c0 s q ∧ p = q ∧ row' = row then 0 else mread 0 s.cis.cells (cellKey p row' j) := by
  rw [drainSlice_cells]
  cases drains c0 s q
  · simp
  · simp only [if_true, true_and, mread_clearRow _ _ _ _ _ hrow hrow' hj, Fin.val_inj]

/-- Cells of other slices and of other rows keep their values. -/
theorem mread_drainSlices_other {l : List (Fin 17)} (hrow : row < 2560) (hrow' : row' < 2560) (hj : j < 128)
    (h : p ∉ l ∨ row' ≠ row) :
    mread 0 (drainSlices io row c0 l s).cis.cells (cellKey p row' j) = mread 0 s.cis.cells (cellKey p row' j) := by
  induction l generalizing s with
  | nil => rfl
  | cons q l ih =>
    have hq : ¬(p = q ∧ row' = row) := by
      rintro ⟨rfl, rfl⟩; simp at h
    refine (ih (h.imp_left fun hp hl => hp (List.mem_cons_of_mem q hl))).trans ?_
    rw [mread_drainSlice q hrow hrow' hj, if_neg fun hc => hq hc.2]

/-- A cell that reads zero still does after the drain. -/
theorem mread_drainSlices_zero {l : List (Fin 17)} (hrow : row < 2560) (hrow' : row' < 2560) (hj : j < 128)
    (h : mread 0 s.cis.cells (cellKey p row' j) = 0) :
    mread 0 (drainSlices io row c0 l s).cis.cells (cellKey p row' j) = 0 := by
  induction l generalizing s with
  | nil => exact h
  | cons q l ih =>
    refine ih ?_
    rw [mread_drainSlice q hrow hrow' hj, h, ite_self]

/-- The row of a drained slice is left all zeros. -/
theorem mread_drainSlices_drained {l : List (Fin 17)} (hrow : row < 2560) (hj : j < 128) (hp : p ∈ l) (hd : drains c0 s p = true) :
    mread 0 (drainSlices io row c0 l s).cis.cells (cellKey p row j) = 0 := by
  obtain ⟨l₁, l₂, rfl⟩ := List.append_of_mem hp
  rw [drainSlices_append]
  refine mread_drainSlices_zero hrow hrow hj ?_
  rw [mread_drainSlice p hrow hrow hj, if_pos]
  simpa [drains] using hd

end Cells

section Fire
variable {io : DrainIn} {row : Nat} {c0 : Cis} {s : State} {p : Fin 17} {n : Fin 16}

/-- No two physical slices serve one logical slice (R215). -/
theorem Cis.serving_inj {c : Cis} {p q : Fin 17} {n : Fin 16} (hp : c.serving p = some n) (hq : c.serving q = some n) : p = q := by
  have hcases : ∀ r : Fin 17, c.serving r = some n → r = 16 ∧ c.served = some n ∨ r.val = n ∧ c.served ≠ some n := by
    intro r hr
    unfold Cis.serving at hr
    split at hr
    · split at hr
      · cases hr
      · next hserves =>
        cases hr
        simp only [Bool.or_eq_true, not_or, beq_iff_eq] at hserves
        exact .inr ⟨rfl, hserves.2⟩
    · exact .inl ⟨by omega, hr⟩
  rcases hcases p hp with ⟨hp, hs⟩ | ⟨hp, hs⟩ <;> rcases hcases q hq with ⟨hq, hs'⟩ | ⟨hq, hs'⟩
  · rw [hp, hq]
  · exact absurd hs hs'
  · exact absurd hs' hs
  · exact Fin.ext (hp.trans hq.symm)

theorem firedBy_of_serving (h : c0.serving p = some n) :
    (firedBy io row c0 s p)[n] = codewordFire s io p row 1 n ++ codewordFire s io p row 0 n := by
  simp [firedBy, h]

theorem firedBy_of_not_serving (h : c0.serving p ≠ some n) : (firedBy io row c0 s p)[n] = s.cis.fire[n] := by
  unfold firedBy
  split
  · next m hm =>
    have : (m : Nat) ≠ n := fun e => h (Fin.ext e ▸ hm)
    simp [this]
  · rfl

/-- The fire bits of a logical slice that none of the slices serves keep their values. -/
theorem drainSlices_fire_other {l : List (Fin 17)} (h : ∀ q ∈ l, c0.serving q ≠ some n) :
    (drainSlices io row c0 l s).cis.fire[n] = s.cis.fire[n] := by
  induction l generalizing s with
  | nil => rfl
  | cons q l ih =>
    refine (ih fun r hr => h r (List.mem_cons_of_mem q hr)).trans ?_
    rw [drainSlice_fire]
    split
    · exact firedBy_of_not_serving (h q List.mem_cons_self)
    · rfl

/-- The fire bits of a logical slice are those that its slice reads from the row as the tick finds it. -/
theorem drainSlices_fire {l : List (Fin 17)} (hl : l.Nodup) (hp : p ∈ l) (hrow : row < 2560) (hd : drains c0 s p = true)
    (hn : c0.serving p = some n) :
    (drainSlices io row c0 l s).cis.fire[n] = codewordFire s io p row 1 n ++ codewordFire s io p row 0 n := by
  obtain ⟨l₁, l₂, rfl⟩ := List.append_of_mem hp
  obtain ⟨-, hl₂, hdisj⟩ := List.nodup_append.1 hl
  have hp₁ : p ∉ l₁ := fun h => hdisj p h p List.mem_cons_self rfl
  have hother : ∀ q ∈ l₂, c0.serving q ≠ some n := by
    intro q hq hqn
    rw [Cis.serving_inj hqn hn] at hq
    exact (List.nodup_cons.1 hl₂).1 hq
  have hd' : drains c0 (drainSlices io row c0 l₁ s) p = true := by simpa [drains] using hd
  have hsame : ∀ cw, codewordFire (drainSlices io row c0 l₁ s) io p row cw n = codewordFire s io p row cw n := fun cw =>
    codewordFire_congr io p row cw n (fun j hj => mread_drainSlices_other hrow hrow hj (.inl hp₁))
      (drainSlices_openBits io row c0 l₁ s n cw) (drainSlices_only io row c0 l₁ s .free (by decide))
  rw [drainSlices_append, drainSlices_fire_other hother, drainSlice_fire, if_pos hd', firedBy_of_serving hn, hsame, hsame]

end Fire

end Sys2Proof.Machine
end

section
/-! SUPPORT. What a quiet slot tick as a whole does, and the two statements about it (R66, R68). -/

namespace Sys2Proof.Machine

/-! ### The whole quiet tick -/

/-- The state in which the drain of a quiet tick k begins: no fire bit stands. -/
def drainStart (k : Nat) (s : State) : State :=
  { tickOpened k s with cis := { s.cis with fire := Vector.replicate 16 0 } }

@[simp] theorem drainStart_sliceOn (k : Nat) (s : State) (p : Fin 17) : (drainStart k s).sliceOn p = s.sliceOn p := rfl

theorem drainStart_only (k : Nat) (s : State) : OnlyChanges [.slot, .cis] ((s.at (s.slot.tick k)).order 2) (drainStart k s) := by
  intro p hp; cases p <;> first | rfl | exact absurd hp (by decide)

theorem quietTicked_eq (io : DrainIn) (k : Nat) (s : State) :
    quietTicked io k s =
      tickTimers (drainPeak io ((drainSlices io (k % 2560) s.cis (List.finRange 17) (drainStart k s)).took 68)) := rfl

theorem tickTimers_only (s : State) : OnlyChanges [.tmr] s (tickTimers s) := by
  unfold tickTimers
  dsimp only
  split <;> (intro p hp; cases p <;> first | rfl | exact absurd hp (by decide))

theorem drainPeak_only (io : DrainIn) (s : State) : OnlyChanges [.regs, .evs] s (drainPeak io s) := by
  intro p hp; cases p <;> first | rfl | exact absurd hp (by decide)

/-- After the drain nothing but timers and peaks follows. -/
theorem tickTimers_drainPeak_only (io : DrainIn) (s : State) : OnlyChanges [.tmr, .regs, .evs] s (tickTimers (drainPeak io s)) :=
  ((drainPeak_only io s).mono (by decide)).trans ((tickTimers_only _).mono (by decide))

theorem quietTicked_cis (io : DrainIn) (k : Nat) (s : State) :
    (quietTicked io k s).cis = (drainSlices io (k % 2560) s.cis (List.finRange 17) (drainStart k s)).cis :=
  tickTimers_drainPeak_only io _ .cis (by decide)

/-- Every quiet tick takes 68 free values, whatever the drain meets (log entry 6). -/
theorem quietTicked_free (io : DrainIn) (k : Nat) (s : State) : (quietTicked io k s).free = s.free + 68 := by
  have hafter : (quietTicked io k s).free = (drainSlices io (k % 2560) s.cis (List.finRange 17) (drainStart k s)).free + 68 :=
    tickTimers_drainPeak_only io _ .free (by decide)
  have hdrain : (drainSlices io (k % 2560) s.cis (List.finRange 17) (drainStart k s)).free = s.free :=
    drainSlices_only io _ _ _ _ .free (by decide)
  rw [hafter, hdrain]

section Tick
variable {io : DrainIn} {k : Nat} {s : State} {p : Fin 17} {n : Fin 16}

theorem drains_drainStart (hon : s.sliceOn p = true) (hok : s.cis.phys[p].failed = false) :
    drains s.cis (drainStart k s) p = true := by
  rw [drains, drainStart_sliceOn, hon, hok]; rfl

theorem quietTicked_fire (hn : s.cis.serving p = some n) (hon : s.sliceOn p = true) (hok : s.cis.phys[p].failed = false) :
    (quietTicked io k s).cis.fire[n] =
      codewordFire (drainStart k s) io p (k % 2560) 1 n ++ codewordFire (drainStart k s) io p (k % 2560) 0 n := by
  rw [quietTicked_cis]
  exact drainSlices_fire (List.nodup_finRange 17) (List.mem_finRange p) (Nat.mod_lt _ (by decide)) (drains_drainStart hon hok) hn

/-- The column 64 cw + j of a slice fires where its codeword does. -/
theorem quietTicked_fire_getLsbD (hn : s.cis.serving p = some n) (hon : s.sliceOn p = true) (hok : s.cis.phys[p].failed = false)
    (cw : Fin 2) {j : Nat} (hj : j < 64) :
    (quietTicked io k s).cis.fire[n].getLsbD (64 * cw + j) = (codewordFire (drainStart k s) io p (k % 2560) cw n).getLsbD j := by
  rw [quietTicked_fire hn hon hok, getLsbD_halves]
  match cw with
  | 0 => simp [hj]
  | 1 => simp

theorem quietTicked_row_cleared (hon : s.sliceOn p = true) (hok : s.cis.phys[p].failed = false) {j : Nat} (hj : j < 128) :
    mread 0 (quietTicked io k s).cis.cells (cellKey p (k % 2560) j) = 0 := by
  rw [quietTicked_cis]
  exact mread_drainSlices_drained (Nat.mod_lt _ (by decide)) hj (List.mem_finRange p) (drains_drainStart hon hok)

theorem quietTicked_other_rows {row j : Nat} (hrow : row < 2560) (hj : j < 128) (hne : row ≠ k % 2560) :
    mread 0 (quietTicked io k s).cis.cells (cellKey p row j) = mread 0 s.cis.cells (cellKey p row j) := by
  rw [quietTicked_cis]
  exact mread_drainSlices_other (Nat.mod_lt _ (by decide)) hrow hj (.inr hne)

end Tick

/-! ### O20 -/

/-- The parts that a quiet tick may change. -/
theorem quietTicked_only (io : DrainIn) (k : Nat) (s : State) :
    OnlyChanges (.free :: .slot :: .tmr :: reportParts) ((s.at (s.slot.tick k)).order 2) (quietTicked io k s) := by
  have hdrain := drainSlices_only io (k % 2560) s.cis (List.finRange 17) (drainStart k s)
  exact ((((drainStart_only k s).mono (by decide)).trans (hdrain.mono (by decide))).trans ((State.took_only _ 68).mono (by decide))).trans
    ((tickTimers_drainPeak_only io _).mono (by decide))

/-- Where every codeword reads clean nothing is raised. -/
theorem quietTicked_only_of_no_eccs {io : DrainIn} (h : io.eccs = []) (k : Nat) (s : State) :
    OnlyChanges [.slot, .cis, .regs, .evs, .tmr, .free] ((s.at (s.slot.tick k)).order 2) (quietTicked io k s) := by
  have hclean : ∀ q c, drainEcc io q c = .clean := fun q c => by simp [drainEcc, h]
  have hslice : ∀ t q, OnlyChanges [.slot, .cis, .regs, .evs, .tmr, .free] t (drainSlice io (k % 2560) s.cis t q) := by
    intro t q
    rw [drainSlice_of_clean (hclean q)]
    refine .ite _ (fun p hp => ?_) (.refl _ t)
    cases p <;> first | rfl | exact absurd hp (by decide)
  exact (((drainStart_only k s).mono (by decide)).trans (.foldl _ hslice (List.finRange 17) _)).trans
    (((State.took_only _ 68).mono (by decide)).trans ((tickTimers_drainPeak_only io _).mono (by decide)))

theorem quietTicked_slot (io : DrainIn) (k : Nat) (s : State) :
    (quietTicked io k s).slot = { s.slot with k := k, ticked := true } :=
  (tickTimers_drainPeak_only io _ .slot (by decide)).trans (drainSlices_only io _ _ _ _ .slot (by decide))

theorem drainEcc_of_corrected_only {io : DrainIn} (h : ∀ e ∈ io.eccs, e.ecc = .clean ∨ ∃ a b, e.ecc = .corrected a b) (p : Fin 17)
    (cw : Fin 2) : drainEcc io p cw = .clean ∨ ∃ a b, drainEcc io p cw = .corrected a b := by
  unfold drainEcc
  split
  · next e he => exact h e (List.mem_of_find?_eq_some he)
  · exact .inl rfl

/-- What R66 says of a quiet tick whose codewords read right, which is O20 with `free` in its first frame: a column fires where its cell
is not zero and it is not suppressed, the row is left all zeros, and no other cell changes. -/
theorem slotTick_drains_row (s : State) (k : Nat) (io : DrainIn) (hquiet : QuietTick s k)
    (hecc : ∀ e ∈ io.eccs, e.ecc = .clean ∨ ∃ a b, e.ecc = .corrected a b) :
    ∃ t, exec (.slotTick io) s = .next t
      ∧ OnlyChanges (.free :: .slot :: .tmr :: reportParts) ((s.at (s.slot.tick k)).order 2) t
      ∧ (io.eccs = [] → OnlyChanges [.slot, .cis, .regs, .evs, .tmr, .free] ((s.at (s.slot.tick k)).order 2) t)
      ∧ t.slot = { s.slot with k := k, ticked := true }
      ∧ (∀ (n : Fin 16) (p : Fin 17) (j : Nat), s.cis.serving p = some n → s.sliceOn p = true → s.cis.phys[p].failed = false → j < 128 →
          t.cis.fire[n].getLsbD j = (mread 0 s.cis.cells (cellKey p (k % 2560) j) != 0 && !s.cis.suppressed (128 * n + j)))
      ∧ (∀ (p : Fin 17) (j : Nat), s.sliceOn p = true → s.cis.phys[p].failed = false → j < 128 →
          mread 0 t.cis.cells (cellKey p (k % 2560) j) = 0)
      ∧ (∀ (p : Fin 17) (row j : Nat), row < 2560 → j < 128 → row ≠ k % 2560 →
          mread 0 t.cis.cells (cellKey p row j) = mread 0 s.cis.cells (cellKey p row j)) := by
  refine ⟨_, exec_slotTick_of_quiet hquiet io, quietTicked_only io k s, fun h => quietTicked_only_of_no_eccs h k s,
    quietTicked_slot io k s, fun n p j hn hon hok hj => ?fire, fun p j hon hok hj => quietTicked_row_cleared hon hok hj,
    fun p row j hrow hj hne => quietTicked_other_rows hrow hj hne⟩
  obtain ⟨cw, i, hi, rfl⟩ : ∃ (cw : Fin 2) (i : Nat), i < 64 ∧ j = 64 * cw + i :=
    ⟨⟨j / 64, by omega⟩, j % 64, Nat.mod_lt _ (by decide), (Nat.div_add_mod j 64).symm⟩
  rw [quietTicked_fire_getLsbD hn hon hok cw hi, codewordFire_getLsbD (drainEcc_of_corrected_only hecc p cw) _ _ _ hi, Nat.add_assoc]
  rfl

/-- The device with its slot clock running, before its first tick. -/
def beforeFirstTick : State :=
  { State.reset with pwr := { State.reset.pwr with refOk := true }, slot := { State.reset.slot with run := true } }

theorem beforeFirstTick_quiet : QuietTick beforeFirstTick 0 := by
  unfold QuietTick; decide

/-- Refutes O20: the tick takes 68 free values whatever it meets, and the first frame of the statement leaves `free` out (its second
frame, for a drain that meets clean codewords alone, has it). Slot tick 0 of a device whose slot clock has just started goes from 0 to
68. -/
theorem not_slotTickDrains : ¬ Obligations.SlotTickDrains := by
  unfold Obligations.SlotTickDrains
  intro h
  obtain ⟨t, hexec, hframe, -⟩ := h beforeFirstTick _ 0 ⟨[], 0, 0⟩ beforeFirstTick_quiet rfl (by simp)
  rw [exec_slotTick_of_quiet beforeFirstTick_quiet] at hexec
  cases hexec
  have hkept : (quietTicked ⟨[], 0, 0⟩ 0 beforeFirstTick).free = 0 := hframe .free (by decide)
  have htaken : (quietTicked ⟨[], 0, 0⟩ 0 beforeFirstTick).free = 68 := quietTicked_free _ _ _
  omega

/-! ### O21 -/

theorem drainEcc_of_one (p q : Fin 17) (cw c : Fin 2) (e : Ecc) (unf : BitVec 17) (ticks : BitVec 16) :
    drainEcc ⟨[⟨p, cw, e⟩], unf, ticks⟩ q c = if p = q ∧ cw = c then e else .clean := by
  by_cases h : p = q ∧ cw = c <;> simp [drainEcc, h]

section Uncorrectable
variable {io : DrainIn} {row : Nat} {c0 : Cis} {s : State} {p : Fin 17} {cw : Fin 2}

/-- Slices whose codewords read clean keep their state and their assignment. -/
theorem drainSlices_of_clean {l : List (Fin 17)} (h : ∀ q ∈ l, ∀ c, drainEcc io q c = .clean) :
    (drainSlices io row c0 l s).cis.phys = s.cis.phys ∧ (drainSlices io row c0 l s).cis.served = s.cis.served := by
  induction l generalizing s with
  | nil => exact ⟨rfl, rfl⟩
  | cons q l ih =>
    have hq : (drainSlice io row c0 s q).cis.phys = s.cis.phys ∧ (drainSlice io row c0 s q).cis.served = s.cis.served := by
      rw [drainSlice_of_clean (h q List.mem_cons_self)]
      split <;> exact ⟨rfl, rfl⟩
    rw [← hq.1, ← hq.2]
    exact ih fun r hr => h r (List.mem_cons_of_mem q hr)

/-- A slice in service whose drain meets one uncorrectable codeword fails (R43). -/
theorem drainSlice_failed (hd : drains c0 s p = true) (hin : p ≠ 16 ∨ s.cis.served ≠ none)
    (hbad : drainEcc io p cw = .uncorrectable) (hclean : ∀ c, c ≠ cw → drainEcc io p c = .clean) :
    (drainSlice io row c0 s p).cis.phys[p].failed = true := by
  have hreport : ∀ t : State, drainReport io p row t cw = uncorrectable p row cw t := fun t => by simp [drainReport, hbad]
  have hin' : p ≠ 16 ∨ (sliceDrained io row c0 s p).cis.served ≠ none := hin
  rw [drainSlice_of_drains hd]
  match cw with
  | 0 =>
    rw [drainReport_of_clean (hclean 1 (by decide)), hreport]
    exact uncorrectable_failed hin' row _
  | 1 =>
    rw [drainReport_of_clean (hclean 0 (by decide)), hreport]
    exact uncorrectable_failed hin' row _

/-- That slice fails also when the other slices are drained with it. -/
theorem drainSlices_failed {l : List (Fin 17)} (hl : l.Nodup) (hp : p ∈ l) (hd : drains c0 s p = true)
    (hin : p ≠ 16 ∨ s.cis.served ≠ none) (hbad : drainEcc io p cw = .uncorrectable)
    (hclean : ∀ q c, ¬(q = p ∧ c = cw) → drainEcc io q c = .clean) :
    (drainSlices io row c0 l s).cis.phys[p].failed = true := by
  obtain ⟨l₁, l₂, rfl⟩ := List.append_of_mem hp
  obtain ⟨-, hl₂, hdisj⟩ := List.nodup_append.1 hl
  have hclean₁ : ∀ q ∈ l₁, ∀ c, drainEcc io q c = .clean := fun q hq c =>
    hclean q c fun h => hdisj q hq p List.mem_cons_self h.1
  have hclean₂ : ∀ q ∈ l₂, ∀ c, drainEcc io q c = .clean := fun q hq c =>
    hclean q c fun h => (List.nodup_cons.1 hl₂).1 (h.1 ▸ hq)
  have hin₁ : p ≠ 16 ∨ (drainSlices io row c0 l₁ s).cis.served ≠ none := by rwa [(drainSlices_of_clean hclean₁).2]
  rw [drainSlices_append, (drainSlices_of_clean hclean₂).1]
  exact drainSlice_failed (by simpa [drains] using hd) hin₁ hbad fun c hc => hclean p c fun h => hc h.2

end Uncorrectable

/-- S serves a logical slice only while it is assigned to it. -/
theorem Cis.served_of_serving {c : Cis} {p : Fin 17} {n : Fin 16} (h : c.serving p = some n) : p ≠ 16 ∨ c.served ≠ none := by
  by_cases hp : p = 16
  · subst hp
    have hserved : c.served = some n := by simpa [Cis.serving] using h
    exact .inr (by simp [hserved])
  · exact .inl hp

/-- Settles O21: the codeword's fire bits are zero by its outcome, its row is cleared as every drained row is, and no report but its own
reaches the slices. -/
theorem uncorrectableDrainFiresNothing : Obligations.UncorrectableDrainFiresNothing := by
  unfold Obligations.UncorrectableDrainFiresNothing
  intro s k p n cw unf ticks hquiet hn hon hok
  have hbad : drainEcc ⟨[⟨p, cw, .uncorrectable⟩], unf, ticks⟩ p cw = .uncorrectable := by rw [drainEcc_of_one, if_pos ⟨rfl, rfl⟩]
  refine ⟨_, exec_slotTick_of_quiet hquiet _, fun j hlo hhi => ?fire, fun j hj => quietTicked_row_cleared hon hok hj, ?failed⟩
  case fire =>
    obtain ⟨i, rfl⟩ := Nat.exists_eq_add_of_le hlo
    rw [quietTicked_fire_getLsbD hn hon hok cw (by omega), codewordFire_of_uncorrectable hbad]
    exact BitVec.getLsbD_zero
  case failed =>
    rw [quietTicked_cis]
    refine drainSlices_failed (List.nodup_finRange 17) (List.mem_finRange p) (drains_drainStart hon hok) (Cis.served_of_serving hn) hbad ?_
    intro q c hqc
    rw [drainEcc_of_one, if_neg fun h => hqc ⟨h.1.symm, h.2.symm⟩]

end Sys2Proof.Machine
end

section
/-! SUPPORT. A raising seen from the host: the parts of the endpoint that its messages leave alone, and writes to BAR2 (R88, R101, R501). -/

namespace Sys2Proof.Machine

/-! ### The endpoint through a raising -/

/-- The parts of the endpoint that a message leaves alone: all but the pending vectors and the held vector 0 messages. -/
def Hif.still (a b : Hif) : Prop := b = { a with pba := b.pba, nmtHeld := b.nmtHeld }

theorem Hif.still.trans {a b c : Hif} (h : a.still b) (h' : b.still c) : a.still c := by
  unfold Hif.still at *; rw [h', h]

theorem Hif.still_msi (h : Hif) (v : Nat) : h.still (h.msi v).1 := by
  unfold Hif.msi
  split
  · rfl
  · split <;> rfl

theorem Hif.still_nmt (h : Hif) : h.still h.nmt.1 := by
  unfold Hif.nmt
  split <;> rfl

theorem Hif.still_ite {h : Hif} {x : Hif × List Tx} (hx : h.still x.1) (c : Prop) [Decidable c] : h.still (if c then x else (h, [])).1 := by
  split
  · exact hx
  · rfl

theorem Raising.hif_still (r : Raising) (s : State) : s.hif.still (r.hif s).1 := by
  unfold Raising.hif
  dsimp only
  split
  · exact (Hif.still_ite (s.hif.still_msi _) _).trans (Hif.still_ite (Hif.still_nmt _) _)
  · rfl

theorem raiseOne_hif (r : Raising) (s : State) : s.hif.still (raiseOne r s).hif := by
  unfold raiseOne raiseRec
  dsimp only
  split
  · exact r.settle.hif_still s
  · rfl

theorem raiseWith_hif (r : Raising) (s : State) : s.hif.still (raiseWith r s).hif := by
  unfold raiseWith
  dsimp only
  split
  · exact (raiseOne_hif _ _).trans (raiseOne_hif _ _)
  · exact raiseOne_hif _ _

/-- The status bit of the source raised is set where its block's domain is up (R492, R493). -/
theorem raiseWith_raised_self (r : Raising) {s : State} (h : s.blockUp r.src.blk.toNat = true) : (raiseWith r s).raised r.src = true :=
  raiseWith_raised r s r.src (.inr ⟨rfl, h⟩)

/-! ### Writes to BAR2 -/

theorem bar2Wr_of_hostReach {s : State} (h : s.hostReach = true) (eff : State → State) : bar2Wr eff s = eff (s.order 6) := if_pos h

/-- Where host requests reach the registers, HS is on, and so is the HIF block. -/
theorem blockUp_hif_of_hostReach {s : State} (h : s.hostReach = true) : s.blockUp 1 = true := by
  simp only [State.hostReach, Bool.and_eq_true] at h
  exact h.1.1.1.1.1

end Sys2Proof.Machine
end

section
/-! SUPPORT. The doorbells of the host rings: which are accepted, and the completions that an accepted completion head lets be written
(R89, R112, R114). -/

namespace Sys2Proof.Machine

/-! ### Completions that wait -/

/-- Everything that writing waiting completions may change: ring 1 but for its doorbell value, the completions, and messages. -/
structure CplWritten (s t : State) : Prop where
  only : OnlyChanges [.rings, .dsc, .hif, .tx] s t
  flights : t.dsc.flights = s.dsc.flights
  db : t.rings[(1 : Fin 4)].db = s.rings[(1 : Fin 4)].db
  others : ∀ k : Fin 4, k ≠ 1 → t.rings[k] = s.rings[k]

theorem CplWritten.refl (s : State) : CplWritten s s := ⟨.refl _ s, rfl, rfl, fun _ _ => rfl⟩

theorem CplWritten.trans {s t u : State} (h : CplWritten s t) (h' : CplWritten t u) : CplWritten s u :=
  ⟨h.only.trans h'.only, h'.flights.trans h.flights, h'.db.trans h.db, fun k hk => (h'.others k hk).trans (h.others k hk)⟩

theorem set_getElem_other {α : Type} {m : Nat} (v : Vector α m) {n k : Fin m} (x : α) (h : k ≠ n) : (v.set n x)[k] = v[k] :=
  Vector.getElem_set_ne _ _ fun e => h (Fin.ext e.symm)

/-- A counted happening leaves the doorbell value of its ring (R147). -/
theorem ringCount_db (s : State) (n : Fin 4) (now : Bool) : (ringCount s n now).rings[n].db = s.rings[n].db := by
  simp only [ringCount, Fin.getElem_fin, Vector.getElem_set_self]
  split <;> rfl

theorem ringCount_rings_other (s : State) {n k : Fin 4} (now : Bool) (h : k ≠ n) : (ringCount s n now).rings[k] = s.rings[k] :=
  set_getElem_other _ _ h

/-- An entry moves the index of its ring and leaves its doorbell value (R112). -/
theorem ringEntry_db (s : State) (n : Fin 4) (b : Nat) (ws : List Word) (now : Bool) :
    (ringEntry s n b ws now).rings[n].db = s.rings[n].db := by
  unfold ringEntry
  rw [ringCount_db]
  simp

theorem ringEntry_rings_other (s : State) {n k : Fin 4} (b : Nat) (ws : List Word) (now : Bool) (h : k ≠ n) :
    (ringEntry s n b ws now).rings[k] = s.rings[k] :=
  (ringCount_rings_other _ now h).trans (set_getElem_other _ _ h)

/-- Write one waiting completion, where ring 1 has room. -/
def writeCpl (t : State) (e : CplEntry) : State :=
  if t.ringReady 1 then ringEntry { t with dsc := { t.dsc with cplq := t.dsc.cplq.drop 1 } } 1 15 (cplWords e) e.irqNow else t

theorem flushCpl_eq_foldl (s : State) : flushCpl s = s.dsc.cplq.foldl writeCpl s := rfl

theorem flushCpl_of_empty {s : State} (h : s.dsc.cplq = []) : flushCpl s = s := by rw [flushCpl_eq_foldl, h, List.foldl_nil]

theorem writeCpl_written (t : State) (e : CplEntry) : CplWritten t (writeCpl t e) := by
  unfold writeCpl
  split
  · refine ⟨?only, rfl, ringEntry_db _ 1 _ _ _, fun k hk => ringEntry_rings_other _ _ _ _ hk⟩
    have hdrop : OnlyChanges [.rings, .dsc, .hif, .tx] t { t with dsc := { t.dsc with cplq := t.dsc.cplq.drop 1 } } := by
      intro p hp; cases p <;> first | rfl | exact absurd hp (by decide)
    exact hdrop.trans ((ringEntry_only _ _ _ _ _).mono (by decide))
  · exact .refl t

theorem flushCpl_written (s : State) : CplWritten s (flushCpl s) := by
  rw [flushCpl_eq_foldl]
  generalize s.dsc.cplq = l
  induction l generalizing s with
  | nil => exact .refl s
  | cons e l ih => exact (writeCpl_written s e).trans (ih _)

/-! ### Doorbells (R89, R114) -/

theorem dbOk_iff (s : State) (n : Fin 4) (val : Word) : dbOk s n val = true ↔
    s.rings[n].en = true ∧ val.toNat < s.ringSize n ∧
      (n = 0 ∨ (val.toNat + s.ringSize n - s.rings[n].db) % s.ringSize n ≤ (s.rings[n].idx + s.ringSize n - s.rings[n].db) % s.ringSize n) := by
  simp [dbOk, and_assoc]

theorem dbOk_eq_false_iff (s : State) (n : Fin 4) (val : Word) : dbOk s n val = false ↔
    s.rings[n].en = false ∨ s.ringSize n ≤ val.toNat ∨
      n ≠ 0 ∧ (s.rings[n].idx + s.ringSize n - s.rings[n].db) % s.ringSize n < (val.toNat + s.ringSize n - s.rings[n].db) % s.ringSize n := by
  rw [← Bool.not_eq_true, dbOk_iff, not_and_or, not_and_or, not_or]
  simp only [Bool.not_eq_true, Nat.not_lt, Nat.not_le, ne_eq]

/-- Which doorbells are accepted does not depend on the instant. -/
@[simp] theorem dbOk_order (s : State) (k : Nat) (n : Fin 4) (val : Word) : dbOk (s.order k) n val = dbOk s n val := rfl

/-- The device with another doorbell value of ring n. -/
def withDb (n : Fin 4) (val : Word) (s : State) : State :=
  { s with rings := s.rings.set n { (s.rings[n]) with db := val.toNat } }

theorem withDb_only (n : Fin 4) (val : Word) (s : State) : OnlyChanges [.rings] s (withDb n val s) := by
  intro p hp; cases p <;> first | rfl | exact absurd hp (by decide)

@[simp] theorem withDb_db (n : Fin 4) (val : Word) (s : State) : (withDb n val s).rings[n].db = val.toNat := by simp [withDb]

theorem withDb_rings_other {n k : Fin 4} (val : Word) (s : State) (h : k ≠ n) : (withDb n val s).rings[k] = s.rings[k] :=
  set_getElem_other _ _ h

theorem dbEff_of_ok {n : Fin 4} {val : Word} {s : State} (h : dbOk s n val = true) :
    dbEff n val s = if n = 1 then flushCpl (withDb n val s) else withDb n val s := if_pos h

theorem dbEff_of_not_ok {n : Fin 4} {val : Word} {s : State} (h : dbOk s n val = false) :
    ∃ r : Raising, r.src = S.HIF_DB_RANGE ∧ dbEff n val s = raiseWith r s :=
  ⟨_, rfl, if_neg (by simp [h])⟩

/-- Only a completion head with completions that wait does more than replace the index. -/
theorem dbEff_eq_withDb {n : Fin 4} {val : Word} {s : State} (h : dbOk s n val = true) (hq : n ≠ 1 ∨ s.dsc.cplq = []) :
    dbEff n val s = withDb n val s := by
  rw [dbEff_of_ok h]
  split
  case isTrue hn => exact flushCpl_of_empty (hq.resolve_left (not_not_intro hn))
  case isFalse => rfl

theorem dbEff_accepted {n : Fin 4} {val : Word} {s : State} (h : dbOk s n val = true) :
    (dbEff n val s).rings[n].db = val.toNat ∧ OnlyChanges [.rings, .dsc, .hif, .tx] s (dbEff n val s)
      ∧ (dbEff n val s).dsc.flights = s.dsc.flights ∧ ∀ k, k ≠ n → (dbEff n val s).rings[k] = s.rings[k] := by
  have hset : OnlyChanges [.rings, .dsc, .hif, .tx] s (withDb n val s) := (withDb_only n val s).mono (by decide)
  rw [dbEff_of_ok h]
  split
  case isTrue hn =>
    subst hn
    have hw := flushCpl_written (withDb 1 val s)
    exact ⟨hw.db.trans (withDb_db 1 val s), hset.trans hw.only, hw.flights,
      fun k hk => (hw.others k hk).trans (withDb_rings_other val s hk)⟩
  case isFalse => exact ⟨withDb_db n val s, hset, rfl, fun k hk => withDb_rings_other val s hk⟩

/-- Each of the four doorbells has the effect of its ring's doorbell. -/
theorem exec_doorbell {n : Fin 4} {val : Word} {c : Instr} {s : State}
    (hc : (n, c) ∈ [(0, Instr.dbSubTail val), (1, .dbCplHead val), (2, .dbEvtHead val), (3, .dbTelHead val)]) (h : s.hostReach = true) :
    exec c s = .next (dbEff n val (s.order 6)) := by
  rw [← bar2Wr_of_hostReach h (dbEff n val)]
  simp only [List.mem_cons, Prod.mk.injEq, List.not_mem_nil, or_false] at hc
  obtain ⟨rfl, rfl⟩ | ⟨rfl, rfl⟩ | ⟨rfl, rfl⟩ | ⟨rfl, rfl⟩ := hc <;> rfl

/-- Settles O33: the two conditions are the guard of the doorbell and its negation; what waits is written in ring 1 alone. -/
theorem ringDoorbells : Obligations.RingDoorbells := by
  unfold Obligations.RingDoorbells
  rintro s u n val c hc hreach rfl
  refine ⟨fun hen hsize hpast => ?accepted, fun hrefused => ?discarded⟩
  case accepted =>
    have hok : dbOk (s.order 6) n val = true := by
      rw [dbOk_order]; exact (dbOk_iff s n val).mpr ⟨hen, hsize, hpast⟩
    obtain ⟨hdb, honly, hflights, hothers⟩ := dbEff_accepted hok
    simp only [State.order_rings, State.order_dsc] at hflights hothers
    refine ⟨_, exec_doorbell hc hreach, hdb, fun hq => ?_, honly, hflights, hothers⟩
    rw [dbEff_eq_withDb hok (by rwa [State.order_dsc]), withDb, State.order_rings]
  case discarded =>
    have hno : dbOk (s.order 6) n val = false := by
      rw [dbOk_order]; exact (dbOk_eq_false_iff s n val).mpr hrefused
    obtain ⟨r, hsrc, heff⟩ := dbEff_of_not_ok hno
    have hup : (s.order 6).blockUp r.src.blk.toNat = true := by rw [hsrc]; exact blockUp_hif_of_hostReach hreach
    refine ⟨raiseWith r (s.order 6), by rw [exec_doorbell hc hreach, heff], raiseWith_rings r _, ?_, raiseWith_only r _⟩
    rw [← hsrc]
    exact raiseWith_raised_self r hup

end Sys2Proof.Machine
end

section
/-! SUPPORT. The heartbeat: which are accepted, and what a discarded one leaves alone (R91). -/

namespace Sys2Proof.Machine

theorem hbOk_iff (h : Hif) (val : Word) : hbOk h val = true ↔
    bitsOf val.toNat 31 16 = 0 ∧ (h.hbSeen = false ∨ bitsOf val.toNat 15 0 = (h.hbCount.toNat + 1) % 65536) := by
  simp [hbOk]

theorem exec_heartbeat {s : State} (h : s.hostReach = true) (val : Word) : exec (.heartbeat val) s = .next (hbEff val (s.order 6)) := by
  rw [← bar2Wr_of_hostReach h (hbEff val)]; rfl

theorem hbEff_of_ok {val : Word} {s : State} (h : hbOk s.hif val = true) : hbEff val s =
    { s with hif := { s.hif with hbSeen := true, hbCount := val.setWidth 16, hbAt := s.tb, hbRun := min 2 (s.hif.hbRun + 1) } } :=
  if_pos h

/-- A discarded heartbeat is counted and raises HIF.HB_SEQ. -/
theorem hbEff_of_not_ok {val : Word} {s : State} (h : ¬ hbOk s.hif val = true) :
    ∃ r : Raising, r.src = S.HIF_HB_SEQ ∧ hbEff val s = raiseWith r (s.add R.HIF_VIOL_CNT_HB 1) :=
  ⟨_, rfl, if_neg h⟩

/-- A discarded heartbeat changes nothing of the endpoint but what messages change. -/
theorem hbEff_discarded_hif {val : Word} {s : State} (h : ¬ hbOk s.hif val = true) : s.hif.still (hbEff val s).hif := by
  obtain ⟨r, -, heff⟩ := hbEff_of_not_ok h
  rw [heff]
  exact raiseWith_hif r (s.add R.HIF_VIOL_CNT_HB 1)

theorem hbEff_discarded_only {val : Word} {s : State} (h : ¬ hbOk s.hif val = true) : OnlyChanges raiseParts s (hbEff val s) := by
  obtain ⟨r, -, heff⟩ := hbEff_of_not_ok h
  rw [heff]
  exact ((State.add_only s _ 1 0 0).mono (by decide)).trans (raiseWith_only r _)

theorem hbEff_discarded_raised {val : Word} {s : State} (h : ¬ hbOk s.hif val = true) (hup : s.blockUp 1 = true) :
    (hbEff val s).raised S.HIF_HB_SEQ = true := by
  obtain ⟨r, hsrc, heff⟩ := hbEff_of_not_ok h
  have hup' : (s.add R.HIF_VIOL_CNT_HB 1).blockUp r.src.blk.toNat = true := by rw [hsrc]; exact hup
  rw [heff, ← hsrc]
  exact raiseWith_raised_self r hup'

/-- Settles O37: the two conditions are the guard of the heartbeat and its negation; a raising leaves the heartbeats and the silence
alone. -/
theorem heartbeatAcceptance : Obligations.HeartbeatAcceptance := by
  unfold Obligations.HeartbeatAcceptance
  rintro val s u hreach rfl
  refine ⟨fun hres hcount => ?accepted, fun hrefused => ?discarded⟩
  case accepted =>
    have hok : hbOk (s.order 6).hif val = true := by
      rw [State.order_hif]; exact (hbOk_iff s.hif val).mpr ⟨hres, hcount⟩
    rw [exec_heartbeat hreach, hbEff_of_ok hok, State.order_hif]
  case discarded =>
    have hno : ¬ hbOk (s.order 6).hif val = true := by
      rwa [State.order_hif, hbOk_iff]
    have hup : (s.order 6).blockUp 1 = true := blockUp_hif_of_hostReach hreach
    have hstill := hbEff_discarded_hif hno
    rw [State.order_hif, Hif.still] at hstill
    refine ⟨_, exec_heartbeat hreach val, hbEff_discarded_raised hno hup, hbEff_discarded_only hno, ?_⟩
    rw [hstill]
    exact ⟨rfl, rfl, rfl, rfl, rfl⟩

end Sys2Proof.Machine
end

section
/-! SUPPORT. Counting in a cell: its two fields, where a sum reaches STICKY, and the counting steps of the four opcodes (R53, R54, R155). -/

namespace Sys2Proof.Machine

/-- The sum of FIRM's step is STICKY at FIRM = 2 and SPEC = 3 alone. -/
theorem add_four_eq_sticky_iff (c : BitVec 4) : c + 4 = 15 ↔ firm c = 2 ∧ spec c = 3 := by
  rw [firm, spec]
  bv_omega

/-- The sum of SPEC's step is STICKY at SPEC = 2 and FIRM = 3 alone. -/
theorem add_one_eq_sticky_iff (c : BitVec 4) : c + 1 = 15 ↔ spec c = 2 ∧ firm c = 3 := by
  rw [firm, spec]
  bv_omega

/-- A cell with a SPEC count loses one of it without a borrow from FIRM. -/
theorem toNat_sub_one_of_spec {c : BitVec 4} (h : spec c ≠ 0) : (c - 1).toNat = c.toNat - 1 := by
  rw [spec] at h
  bv_omega

theorem firm_sub_one {c : BitVec 4} (h : spec c ≠ 0) : firm (c - 1) = firm c := by
  rw [firm, firm, toNat_sub_one_of_spec h]
  rw [spec] at h
  omega

theorem spec_sub_one {c : BitVec 4} (h : spec c ≠ 0) : spec (c - 1) = spec c - 1 := by
  rw [spec, spec, toNat_sub_one_of_spec h]
  rw [spec] at h
  omega

theorem spec_le_three (c : BitVec 4) : spec c ≤ 3 := Nat.le_of_lt_succ (Nat.mod_lt _ (by decide))

theorem spec_sub_one_ne_three {c : BitVec 4} (h : spec c ≠ 0) : spec (c - 1) ≠ 3 := by
  rw [spec_sub_one h]
  have := spec_le_three c
  omega

/-- An increment steps into STICKY from a full field, or where the sum reads STICKY (R54). -/
theorem incCell_of_ne_sticky {c : BitVec 4} (h : c ≠ 15) (isFirm : Bool) : incCell isFirm c =
    if (if isFirm then firm c else spec c) = 3 ∨ c + (if isFirm then 4 else 1) = 15 then (15, true)
    else (c + (if isFirm then 4 else 1), false) := by
  rw [incCell, if_neg h]
  by_cases hfull : (if isFirm then firm c else spec c) = 3
  · rw [if_pos hfull, if_pos (Or.inl hfull)]
  rw [if_neg hfull]
  by_cases hsum : c + (if isFirm then 4 else 1) = 15
  · rw [if_pos (Or.inr hsum), hsum]; rfl
  · rw [if_neg (not_or.mpr ⟨hfull, hsum⟩)]
    exact Prod.ext rfl (beq_false_of_ne hsum)

theorem incCell_firm {c : BitVec 4} (h : c ≠ 15) : incCell true c =
    if firm c = 3 ∨ firm c = 2 ∧ spec c = 3 then (15, true) else (c + 4, false) := by
  simp only [← add_four_eq_sticky_iff]; exact incCell_of_ne_sticky h true

theorem incCell_spec {c : BitVec 4} (h : c ≠ 15) : incCell false c =
    if spec c = 3 ∨ spec c = 2 ∧ firm c = 3 then (15, true) else (c + 1, false) := by
  simp only [← add_one_eq_sticky_iff]; exact incCell_of_ne_sticky h false

/-- FIRM's increment after a SPEC count is taken: the sum cannot read STICKY, so only a full FIRM overflows. -/
theorem incCell_firm_sub_one {c : BitVec 4} (h : spec c ≠ 0) : incCell true (c - 1) =
    if firm c = 3 then (15, true) else (c - 1 + 4, false) := by
  have hspec : spec (c - 1) ≠ 3 := spec_sub_one_ne_three h
  have hne : c - 1 ≠ 15 := fun h15 => hspec (h15 ▸ rfl)
  simp only [incCell_firm hne, firm_sub_one h, hspec, and_false, or_false]

/-- No opcode changes a STICKY cell, and none records anything of it (R54). -/
@[simp] theorem stepCell_sticky (op : CellOp) : stepCell op 15 = (15, false, false) := by cases op <;> rfl

theorem stepCell_incFirm {c : BitVec 4} (h : c ≠ 15) : stepCell .incFirm c =
    if firm c = 3 ∨ firm c = 2 ∧ spec c = 3 then (15, true, false) else (c + 4, false, false) := by
  rw [stepCell, incCell_firm h]; split <;> rfl

theorem stepCell_incSpec {c : BitVec 4} (h : c ≠ 15) : stepCell .incSpec c =
    if spec c = 3 ∨ spec c = 2 ∧ firm c = 3 then (15, true, false) else (c + 1, false, false) := by
  rw [stepCell, incCell_spec h]; split <;> rfl

theorem stepCell_dec {c : BitVec 4} (h : c ≠ 15) : stepCell .dec c =
    if spec c = 0 then (c, false, true) else (c - 1, false, false) := by
  rw [stepCell, if_neg h]

theorem stepCell_confirm {c : BitVec 4} (h : c ≠ 15) : stepCell .confirm c =
    if spec c = 0 then (c, false, true) else if firm c = 3 then (15, true, false) else (c - 1 + 4, false, false) := by
  rw [stepCell, if_neg h]
  split
  case isTrue => rfl
  case isFalse hspec => rw [incCell_firm_sub_one hspec]; split <;> rfl

/-- Settles O19: one equation per opcode; CONFIRM's increment meets a cell with SPEC below 3, so it reaches STICKY from FIRM = 3 alone. -/
theorem cellCounting : Obligations.CellCounting := by
  unfold Obligations.CellCounting
  exact fun c => ⟨stepCell_sticky, stepCell_incFirm, stepCell_incSpec, stepCell_dec, stepCell_confirm⟩

end Sys2Proof.Machine
end

section
/-! SUPPORT. The Lockdown latch (R510) is cleared by the loss of VDD_AO alone. One lemma `…_latch` per operation of the model says so:
an operation that raises nothing leaves the latch as it is, and one that may raise leaves a set latch set. Tagged for `simp`, they
compose: the body of an operation is read branch by branch, and each branch is a chain of operations with lemmas of their own.

Here: the shared operations, the raisings, the host accesses, the converters and the check-value units. -/

namespace Sys2Proof.Machine

/-! ### Choices, folds and outcomes -/

@[simp] theorem State.keep_ite (c : Prop) [Decidable c] (a b : State) : (if c then a else b).keep = if c then a.keep else b.keep :=
  apply_ite _ _ _ _

@[simp] theorem Keep.lockdown_ite (c : Prop) [Decidable c] (a b : Keep) :
    (if c then a else b).lockdown = if c then a.lockdown else b.lockdown := apply_ite _ _ _ _

/-- A set latch stays set through a fold whose every step leaves it set. -/
@[simp] theorem foldl_latch {α : Type} {g : State → α → State} (hg : ∀ s a, s.keep.lockdown → (g s a).keep.lockdown)
    {l : List α} {s : State} (h : s.keep.lockdown) : (l.foldl g s).keep.lockdown := by
  induction l generalizing s with
  | nil => exact h
  | cons a l ih => exact ih (hg s a h)

/-- A fold leaves the latch as it is where its every step does. -/
@[simp] theorem foldl_latch_eq {α : Type} {g : State → α → State} (hg : ∀ s a, (g s a).keep.lockdown = s.keep.lockdown)
    (l : List α) (s : State) : (l.foldl g s).keep.lockdown = s.keep.lockdown := by
  induction l generalizing s with
  | nil => rfl
  | cons a l ih => exact (ih _).trans (hg s a)

/-- Where a command answers a next state, the latch is set there. -/
def NextLatched (o : Host.Outcome State Fault Refusal) : Prop := ∀ t, o = .next t → t.keep.lockdown = true

@[simp] theorem nextLatched_next (t : State) : NextLatched (.next t) ↔ t.keep.lockdown = true := by simp [NextLatched]

variable {s : State}

/-! ### Shared operations -/

@[simp] theorem ringCount_latch (n now) : (ringCount s n now).keep.lockdown = s.keep.lockdown := by simp [ringCount]

/-! ### Raisings (chapter 16) -/

@[simp] theorem raiseRec_latch (r) (h : s.keep.lockdown) : (raiseRec r s).keep.lockdown := by simp [raiseRec, h]
@[simp] theorem raiseOne_latch (r) (h : s.keep.lockdown) : (raiseOne r s).keep.lockdown := by simp [raiseOne, h]
@[simp] theorem raiseWith_latch (r) (h : s.keep.lockdown) : (raiseWith r s).keep.lockdown := by
    unfold raiseWith; dsimp only; split <;> simp [h]
@[simp] theorem raise_latch (c detail) (h : s.keep.lockdown) : (raise c detail s).keep.lockdown := by simp [raise, h]
@[simp] theorem raiseIf_latch (b c detail) (h : s.keep.lockdown) : (raiseIf b c detail s).keep.lockdown := by unfold raiseIf; split <;> simp [h]
@[simp] theorem raiseAll_latch (l) (h : s.keep.lockdown) : (raiseAll l s).keep.lockdown := by simp +contextual [raiseAll, h]
@[simp] theorem raiseAccess_latch (blk write addr) (h : s.keep.lockdown) : (raiseAccess blk write addr s).keep.lockdown := by
  simp [raiseAccess, h]

/-! ### Host accesses (R13, R105, R513) -/

@[simp] theorem aerRecord_latch (bit) : (aerRecord bit s).keep.lockdown = s.keep.lockdown := by simp [aerRecord]
@[simp] theorem answerUr_latch : (answerUr s).keep.lockdown = s.keep.lockdown := by simp [answerUr]
@[simp] theorem readRefused_latch : (readRefused s).keep.lockdown = s.keep.lockdown := by unfold readRefused; split <;> simp

/-- A host write keeps a set latch where its effect does. -/
@[simp] theorem hostWr_latch (off : Nat) {eff : State → State} (heff : ∀ t, t.keep.lockdown → (eff t).keep.lockdown) (h : s.keep.lockdown) :
    (hostWr off eff s).keep.lockdown := by
  obtain e | e | e | e := hostWr_cases off eff s <;> simp [e, h, heff]
@[simp] theorem fieldWrite_latch (off val) (h : s.keep.lockdown) : (fieldWrite off val s).keep.lockdown := by
  unfold fieldWrite; split <;> simp [h]

/-! ### Converters (chapter 14) -/

@[simp] theorem State.withConv_latch (c f) : (State.withConv s c f).keep.lockdown = s.keep.lockdown := by simp [State.withConv]
@[simp] theorem adcRoll_latch (c) : (adcRoll c s).keep.lockdown = s.keep.lockdown := by simp [adcRoll]
@[simp] theorem adcSync_latch : (adcSync s).keep.lockdown = s.keep.lockdown := by unfold adcSync; split <;> simp
@[simp] theorem adcIgnore_latch (c) (h : s.keep.lockdown) : (adcIgnore c s).keep.lockdown := by simp [adcIgnore, h]
@[simp] theorem injTrigger_latch (c) (h : s.keep.lockdown) : (injTrigger c s).keep.lockdown := by simp [injTrigger, h]
@[simp] theorem regTrigger_latch (c) (h : s.keep.lockdown) : (regTrigger c s).keep.lockdown := by simp [regTrigger, h]
@[simp] theorem calRequest_latch (c) : (calRequest c s).keep.lockdown = s.keep.lockdown := by simp [calRequest]
@[simp] theorem adcHalt_latch (c) (h : s.keep.lockdown) : (adcHalt c s).keep.lockdown := by simp [adcHalt, h]
@[simp] theorem calResult_latch (c offset gain) (h : s.keep.lockdown) : (calResult c offset gain s).keep.lockdown := by simp [calResult, h]
@[simp] theorem adcResultEff_latch (c x) : (adcResultEff c x s).keep.lockdown = s.keep.lockdown := by
  unfold adcResultEff; dsimp only; split <;> simp

@[simp] theorem whenAn_latch {eff : State → State} (heff : ∀ t, t.keep.lockdown → (eff t).keep.lockdown) (h : s.keep.lockdown) :
    NextLatched (whenAn eff s) := by
  simp [whenAn, h, heff]

@[simp] theorem execAdcResult_latch (c v) (h : s.keep.lockdown) : NextLatched (execAdcResult c v s) := by simp [execAdcResult, h]
@[simp] theorem execAdcRegTrigger_latch (c) (h : s.keep.lockdown) : NextLatched (execAdcRegTrigger c s) := by
  simp +contextual [execAdcRegTrigger, h]
@[simp] theorem execAdcInjTrigger_latch (c) (h : s.keep.lockdown) : NextLatched (execAdcInjTrigger c s) := by
  simp +contextual [execAdcInjTrigger, h]
@[simp] theorem injGoEff_latch (val) (h : s.keep.lockdown) : (injGoEff val s).keep.lockdown := by simp [injGoEff, h]
@[simp] theorem execAdcInjGo_latch (val) (h : s.keep.lockdown) : NextLatched (execAdcInjGo val s) := by simp +contextual [execAdcInjGo, h]
@[simp] theorem execAdcScanTrigger_latch (c lanes) (h : s.keep.lockdown) : NextLatched (execAdcScanTrigger c lanes s) := by
  simp +contextual [execAdcScanTrigger, h]
@[simp] theorem calCtrlEff_latch (val) (h : s.keep.lockdown) : (calCtrlEff val s).keep.lockdown := by simp [calCtrlEff, h]
@[simp] theorem execAdcCalReq_latch (val) (h : s.keep.lockdown) : NextLatched (execAdcCalReq val s) := by simp +contextual [execAdcCalReq, h]
@[simp] theorem execAdcCalAuto_latch (c) (h : s.keep.lockdown) : NextLatched (execAdcCalAuto c s) := by simp [execAdcCalAuto, h]
@[simp] theorem execAdcCalStart_latch (c) (h : s.keep.lockdown) : NextLatched (execAdcCalStart c s) := by simp [execAdcCalStart, h]
@[simp] theorem execAdcCalDone_latch (c offset gain) (h : s.keep.lockdown) : NextLatched (execAdcCalDone c offset gain s) := by
  simp +contextual [execAdcCalDone, h]
@[simp] theorem execAdcRefFault_latch (h : s.keep.lockdown) : NextLatched (execAdcRefFault s) := whenAn_latch (fun t ht => by simp [ht]) h
@[simp] theorem adcBlk_latch : (adcBlk s).keep.lockdown = s.keep.lockdown := by simp [adcBlk]

/-! ### Check-value units (R482-R484) -/

@[simp] theorem crcFeed_latch (u n val) : (crcFeed u n val s).keep.lockdown = s.keep.lockdown := by simp [crcFeed]
@[simp] theorem crcStartEff_latch (u) : (crcStartEff u s).keep.lockdown = s.keep.lockdown := by simp [crcStartEff]
@[simp] theorem execCrcStart_latch (u) (h : s.keep.lockdown) : NextLatched (execCrcStart u s) := by simp [execCrcStart, h]
@[simp] theorem execCrcDin8_latch (u val) (h : s.keep.lockdown) : NextLatched (execCrcDin8 u val s) := by simp [execCrcDin8, h]
@[simp] theorem execCrcDin16_latch (u val) (h : s.keep.lockdown) : NextLatched (execCrcDin16 u val s) := by simp [execCrcDin16, h]
@[simp] theorem execCrcDin32_latch (u val) (h : s.keep.lockdown) : NextLatched (execCrcDin32 u val s) := by simp [execCrcDin32, h]

end Sys2Proof.Machine
end

section
/-! SUPPORT. The Lockdown latch (R510) through the slices, the host rings, the tickets and the endpoint. -/

namespace Sys2Proof.Machine

variable {s : State}

/-! ### Slices (chapters 1, 7) -/

@[simp] theorem scrambleCells_latch (p row cw) : (scrambleCells s p row cw).keep.lockdown = s.keep.lockdown := by simp [scrambleCells]

@[simp] theorem notice_latch (status opcode ticket tag drain) (h : s.keep.lockdown) :
    (notice status opcode ticket tag drain s).keep.lockdown := by
  unfold notice; split <;> simp [h]

@[simp] theorem countDark_latch (n) : (countDark n s).keep.lockdown = s.keep.lockdown := by unfold countDark; split <;> simp
@[simp] theorem failSlice_latch (p) (h : s.keep.lockdown) : (failSlice p s).keep.lockdown := by unfold failSlice; split <;> simp [h]
@[simp] theorem spareUnfit_latch (h : s.keep.lockdown) : (spareUnfit s).keep.lockdown := by unfold spareUnfit; split <;> simp [h]

@[simp] theorem corrected_latch (p row cw sym second) (h : s.keep.lockdown) : (corrected p row cw sym second s).keep.lockdown := by
  unfold corrected
  dsimp only
  generalize hr : raise S.CIS_ECC_C _ _ = r
  have hl : r.keep.lockdown = true := by rw [← hr]; simp [h]
  split
  · exact hl
  · split
    · split <;> simp [hl]
    · split <;> simp [hl]

@[simp] theorem uncorrectable_latch (p row cw) (h : s.keep.lockdown) : (uncorrectable p row cw s).keep.lockdown := by simp [uncorrectable, h]
@[simp] theorem writeCells_latch (p w) (h : s.keep.lockdown) : (writeCells p w s).keep.lockdown := by simp [writeCells, h]
@[simp] theorem performWrite_latch (p w e) (h : s.keep.lockdown) : (performWrite p w e s).keep.lockdown := by
  unfold performWrite; split <;> simp [h]
@[simp] theorem enqueue_latch (w) : (enqueue s w).keep.lockdown = s.keep.lockdown := by unfold enqueue; split <;> simp
@[simp] theorem execSliceRmw_latch (p ecc) (h : s.keep.lockdown) : NextLatched (execSliceRmw p ecc s) := by
  unfold execSliceRmw; split <;> simp [h]
@[simp] theorem execCeInterval_latch (h : s.keep.lockdown) : NextLatched (execCeInterval s) := by unfold execCeInterval; split <;> simp [h]
@[simp] theorem sliceCtrlEff_latch (val) (h : s.keep.lockdown) : (sliceCtrlEff val s).keep.lockdown := by simp [sliceCtrlEff, h]
@[simp] theorem execSliceTest_latch (val) (h : s.keep.lockdown) : NextLatched (execSliceTest val s) := by simp +contextual [execSliceTest, h]
@[simp] theorem execSliceMigrate_latch (val) (h : s.keep.lockdown) : NextLatched (execSliceMigrate val s) := by
  simp +contextual [execSliceMigrate, h]
@[simp] theorem execSliceRestore_latch (val) (h : s.keep.lockdown) : NextLatched (execSliceRestore val s) := by
  simp +contextual [execSliceRestore, h]
@[simp] theorem execSliceOpDone_latch (pass) (h : s.keep.lockdown) : NextLatched (execSliceOpDone pass s) := by
  unfold execSliceOpDone; split <;> simp [h]

/-! ### Host rings (chapter 3) -/

@[simp] theorem bar2Wr_latch {eff : State → State} (heff : ∀ t, t.keep.lockdown → (eff t).keep.lockdown) (h : s.keep.lockdown) :
    (bar2Wr eff s).keep.lockdown := by
  unfold bar2Wr; split <;> simp [h, heff]

@[simp] theorem ringEntry_latch (n b ws now) : (ringEntry s n b ws now).keep.lockdown = s.keep.lockdown := by simp [ringEntry]
@[simp] theorem flushCpl_latch : (flushCpl s).keep.lockdown = s.keep.lockdown := by simp [flushCpl]
@[simp] theorem dbEff_latch (n val) (h : s.keep.lockdown) : (dbEff n val s).keep.lockdown := by unfold dbEff; split <;> simp [h]
@[simp] theorem execDbSubTail_latch (val) (h : s.keep.lockdown) : NextLatched (execDbSubTail val s) := by simp +contextual [execDbSubTail, h]
@[simp] theorem execDbCplHead_latch (val) (h : s.keep.lockdown) : NextLatched (execDbCplHead val s) := by simp +contextual [execDbCplHead, h]
@[simp] theorem execDbEvtHead_latch (val) (h : s.keep.lockdown) : NextLatched (execDbEvtHead val s) := by simp +contextual [execDbEvtHead, h]
@[simp] theorem execDbTelHead_latch (val) (h : s.keep.lockdown) : NextLatched (execDbTelHead val s) := by simp +contextual [execDbTelHead, h]
@[simp] theorem ringCfgEff_latch (n val) (h : s.keep.lockdown) : (ringCfgEff n val s).keep.lockdown := by simp [ringCfgEff, h]
@[simp] theorem execRingEnable_latch (n val) (h : s.keep.lockdown) : NextLatched (execRingEnable n val s) := by
  simp +contextual [execRingEnable, h]
@[simp] theorem execRingDisable_latch (n val) (h : s.keep.lockdown) : NextLatched (execRingDisable n val s) := by
  simp +contextual [execRingDisable, h]
@[simp] theorem execRingDisableDone_latch (n) (h : s.keep.lockdown) : NextLatched (execRingDisableDone n s) := by
  unfold execRingDisableDone; split <;> simp [h]
@[simp] theorem ringBaseEff_latch (n off val) (h : s.keep.lockdown) : (ringBaseEff n off val s).keep.lockdown := by
  unfold ringBaseEff; split <;> simp [h]
@[simp] theorem execNoticeWrite_latch (h : s.keep.lockdown) : NextLatched (execNoticeWrite s) := by unfold execNoticeWrite; split <;> simp [h]
@[simp] theorem nmtFlush_latch : (nmtFlush s).keep.lockdown = s.keep.lockdown := foldl_latch_eq (fun t _ => by simp) _ _
@[simp] theorem execEventWrite_latch (h : s.keep.lockdown) : NextLatched (execEventWrite s) := by
  unfold execEventWrite; (repeat' split) <;> simp [h]
@[simp] theorem telRecord_latch : (telRecord s).keep.lockdown = s.keep.lockdown := by simp [telRecord]
@[simp] theorem execTelemetryRecord_latch (h : s.keep.lockdown) : NextLatched (execTelemetryRecord s) := by
  unfold execTelemetryRecord; split <;> simp [h]
@[simp] theorem execIrqHoldExpire_latch (n) (h : s.keep.lockdown) : NextLatched (execIrqHoldExpire n s) := by
  unfold execIrqHoldExpire; split <;> simp [h]

/-! ### Tickets and work SRAM (chapter 5) -/

@[simp] theorem resolve_latch (t r fire lost) : (resolve t r fire lost s).keep.lockdown = s.keep.lockdown := by simp [resolve]
@[simp] theorem execTicketDeadline_latch (t) (h : s.keep.lockdown) : NextLatched (execTicketDeadline t s) := by
  unfold execTicketDeadline; split <;> simp [h]
@[simp] theorem bookedEff_latch (b e) (h : s.keep.lockdown) : (bookedEff b e s).keep.lockdown := by
  unfold bookedEff; (repeat' split) <;> simp [h]
@[simp] theorem execBookedWrite_latch (t ecc) (h : s.keep.lockdown) : NextLatched (execBookedWrite t ecc s) := by
  unfold execBookedWrite; (repeat' split) <;> simp [h]
@[simp] theorem bookedUpTo_latch (k) (h : s.keep.lockdown) : (bookedUpTo k s).keep.lockdown := by simp +contextual [bookedUpTo, h]
@[simp] theorem execResolutionDone_latch (t) (h : s.keep.lockdown) : NextLatched (execResolutionDone t s) := by
  unfold execResolutionDone; (repeat' split) <;> simp [h]

@[simp] theorem loseRecord_latch (half t) : (loseRecord half s t).keep.lockdown = s.keep.lockdown := by
  unfold loseRecord
  split
  · rfl
  · dsimp only; split
    · simp
    · split <;> simp
    · simp

@[simp] theorem loseDelay_latch (gen cw) : (loseDelay gen cw s).keep.lockdown = s.keep.lockdown := by simp [loseDelay]
@[simp] theorem loseStats_latch (totals cw) : (loseStats totals cw s).keep.lockdown = s.keep.lockdown := by simp [loseStats]
@[simp] theorem scrambleLoc_latch (loc) : (scrambleLoc loc s).keep.lockdown = s.keep.lockdown := by unfold scrambleLoc; split <;> simp
@[simp] theorem wsReport_latch (src loc sym nsym) (h : s.keep.lockdown) : (wsReport src loc sym nsym s).keep.lockdown := by simp [wsReport, h]
@[simp] theorem wsLost_latch (loc) (h : s.keep.lockdown) : (wsLost loc s).keep.lockdown := by   cases loc <;> simp +contextual [wsLost, h]
@[simp] theorem wsDrop_latch (loc) : (wsDrop loc s).keep.lockdown = s.keep.lockdown := by unfold wsDrop; split <;> simp
@[simp] theorem wsCorrected_latch (loc sym second) (h : s.keep.lockdown) : (wsCorrected loc sym second s).keep.lockdown := by
  simp [wsCorrected, h]
@[simp] theorem execWorkSramScrub_latch (loc ecc) (h : s.keep.lockdown) : NextLatched (execWorkSramScrub loc ecc s) := by
  unfold execWorkSramScrub; (repeat' split) <;> simp [h]

/-! ### Endpoint and host link (chapter 3) -/

@[simp] theorem endpointReset_latch : (endpointReset s).keep.lockdown = s.keep.lockdown := by simp [endpointReset]
@[simp] theorem linkDown_latch (h : s.keep.lockdown) : (linkDown s).keep.lockdown := by simp [linkDown, h]
@[simp] theorem execPerstNAssert_latch (h : s.keep.lockdown) : NextLatched (execPerstNAssert s) := by simp [execPerstNAssert, h]
@[simp] theorem execPerstNRelease_latch (h : s.keep.lockdown) : NextLatched (execPerstNRelease s) := by simp [execPerstNRelease, h]
@[simp] theorem execConfigResponseReady_latch (h : s.keep.lockdown) : NextLatched (execConfigResponseReady s) := by
  unfold execConfigResponseReady; split <;> simp [h]
@[simp] theorem trained_latch (width speed) (h : s.keep.lockdown) : (trained width speed s).keep.lockdown := by simp [trained, h]
@[simp] theorem execLinkRetrain_latch (width speed) (h : s.keep.lockdown) : NextLatched (execLinkRetrain width speed s) := by
  unfold execLinkRetrain; split <;> simp [h]
@[simp] theorem execDataLinkUp_latch (width speed) (h : s.keep.lockdown) : NextLatched (execDataLinkUp width speed s) := by
  unfold execDataLinkUp; split <;> simp [h]
@[simp] theorem execDataLinkDown_latch (h : s.keep.lockdown) : NextLatched (execDataLinkDown s) := by unfold execDataLinkDown; split <;> simp [h]

@[simp] theorem cfgReq_latch {eff : State → State} (heff : ∀ t, t.keep.lockdown → (eff t).keep.lockdown) (h : s.keep.lockdown) :
    (cfgReq eff s).keep.lockdown := by
  simp [cfgReq, h, heff]

@[simp] theorem flrEff_latch : (flrEff s).keep.lockdown = s.keep.lockdown := by simp [flrEff]
@[simp] theorem execFlr_latch (h : s.keep.lockdown) : NextLatched (execFlr s) := by simp [execFlr, h]
@[simp] theorem execFlrDone_latch (h : s.keep.lockdown) : NextLatched (execFlrDone s) := by simp [execFlrDone, h]
@[simp] theorem d3Eff_latch : (d3Eff s).keep.lockdown = s.keep.lockdown := by unfold d3Eff; split <;> simp
@[simp] theorem execD3hotEntry_latch (h : s.keep.lockdown) : NextLatched (execD3hotEntry s) := by simp [execD3hotEntry, h]
@[simp] theorem releaseInts_latch : (releaseInts s).keep.lockdown = s.keep.lockdown := by simp [releaseInts]
@[simp] theorem d0Eff_latch : (d0Eff s).keep.lockdown = s.keep.lockdown := by unfold d0Eff; split <;> simp
@[simp] theorem execD3hotExit_latch (h : s.keep.lockdown) : NextLatched (execD3hotExit s) := by simp [execD3hotExit, h]
@[simp] theorem bmeEff_latch (on) : (bmeEff on s).keep.lockdown = s.keep.lockdown := by simp [bmeEff]
@[simp] theorem execBusMasterDisable_latch (h : s.keep.lockdown) : NextLatched (execBusMasterDisable s) := by simp [execBusMasterDisable, h]
@[simp] theorem execBusMasterEnable_latch (h : s.keep.lockdown) : NextLatched (execBusMasterEnable s) := by simp [execBusMasterEnable, h]
@[simp] theorem msixEff_latch (enable mask) : (msixEff enable mask s).keep.lockdown = s.keep.lockdown := by simp [msixEff]
@[simp] theorem execMsixControlWrite_latch (enable mask) (h : s.keep.lockdown) : NextLatched (execMsixControlWrite enable mask s) := by
  simp [execMsixControlWrite, h]
@[simp] theorem execNmtRelease_latch (h : s.keep.lockdown) : NextLatched (execNmtRelease s) := by unfold execNmtRelease; split <;> simp [h]
@[simp] theorem hbEff_latch (val) (h : s.keep.lockdown) : (hbEff val s).keep.lockdown := by unfold hbEff; split <;> simp [h]
@[simp] theorem execHeartbeat_latch (val) (h : s.keep.lockdown) : NextLatched (execHeartbeat val s) := by simp +contextual [execHeartbeat, h]
@[simp] theorem takeSilent_latch (now run) (h : s.keep.lockdown) : (takeSilent now run s).keep.lockdown := by simp [takeSilent, h]
@[simp] theorem execHbTimeout_latch (h : s.keep.lockdown) : NextLatched (execHbTimeout s) := by simp [execHbTimeout, h]
@[simp] theorem tlpRaise_latch (c access addr) (h : s.keep.lockdown) : (tlpRaise c access addr s).keep.lockdown := by simp [tlpRaise, h]

@[simp] theorem badWrite_latch {eff : State → State} (heff : ∀ t, t.keep.lockdown → (eff t).keep.lockdown) (h : s.keep.lockdown) :
    (badWrite eff s).keep.lockdown := by
  simp [badWrite, h, heff]

@[simp] theorem violationEff_latch (kind addr) (h : s.keep.lockdown) : (violationEff kind addr s).keep.lockdown := by
    cases kind <;> simp +contextual [violationEff, h]
@[simp] theorem execTlpViolation_latch (kind addr) (h : s.keep.lockdown) : NextLatched (execTlpViolation kind addr s) := by
  simp [execTlpViolation, h]
@[simp] theorem diagHit_latch (h) (hs : s.keep.lockdown) : (diagHit s h).keep.lockdown := by   unfold diagHit; split <;> simp [hs]

@[simp] theorem execDiagRead_latch (addr len hits) (h : s.keep.lockdown) : NextLatched (execDiagRead addr len hits s) := by
  unfold execDiagRead
  simp +contextual [h]

end Sys2Proof.Machine
end

section
/-! SUPPORT. The Lockdown latch (R510) through the safe network, the timers, the configuration store and its transactions. -/

namespace Sys2Proof.Machine

variable {s : State}

/-! ### Safe network (chapter 12) -/

@[simp] theorem State.nport_latch (p f) : (State.nport s p f).keep.lockdown = s.keep.lockdown := by simp [State.nport]
@[simp] theorem State.conn_latch (n f) : (State.conn s n f).keep.lockdown = s.keep.lockdown := by simp [State.conn]
@[simp] theorem pathLeave_latch (p cause st) (h : s.keep.lockdown) : (pathLeave p cause st s).keep.lockdown := by simp [pathLeave, h]
@[simp] theorem execNetLinkUp_latch (p fullDuplex) (h : s.keep.lockdown) : NextLatched (execNetLinkUp p fullDuplex s) := by
  simp [execNetLinkUp, h]
@[simp] theorem netDown_latch (p) (h : s.keep.lockdown) : (netDown p s).keep.lockdown := by simp [netDown, h]
@[simp] theorem execNetLinkDown_latch (p) (h : s.keep.lockdown) : NextLatched (execNetLinkDown p s) := by
  unfold execNetLinkDown; split <;> simp [h]
@[simp] theorem execNetQualDone_latch (p) (h : s.keep.lockdown) : NextLatched (execNetQualDone p s) := by simp [execNetQualDone, h]
@[simp] theorem execNetLostRecover_latch (p) (h : s.keep.lockdown) : NextLatched (execNetLostRecover p s) := by
  unfold execNetLostRecover; split <;> simp [h]
@[simp] theorem execNetPathSilence_latch (p n) (h : s.keep.lockdown) : NextLatched (execNetPathSilence p n s) := by simp [execNetPathSilence, h]
/-- The session counter of a connection stands beside the latch (R396). -/
@[simp] theorem openConn_latch (n) : (openConn n s).keep.lockdown = s.keep.lockdown := by simp [openConn]
@[simp] theorem loseConn_latch (n) (h : s.keep.lockdown) : (loseConn n s).keep.lockdown := by simp [loseConn, h]
@[simp] theorem judgeConn_latch (b n) (h : s.keep.lockdown) : (judgeConn b s n).keep.lockdown := by simp [judgeConn, h]
@[simp] theorem execConnWatchdogExpire_latch (n) (h : s.keep.lockdown) : NextLatched (execConnWatchdogExpire n s) := by
  unfold execConnWatchdogExpire; split <;> simp [h]

@[simp] theorem netViolation_latch (p check conn) (h : s.keep.lockdown) : (netViolation p check conn s).keep.lockdown := by
  unfold netViolation
  dsimp only
  split
  · exact pathLeave_latch _ _ _ (by simp [h])
  · simp [h]

@[simp] theorem acceptFrame_latch (n f) (h : s.keep.lockdown) : (acceptFrame n f s).keep.lockdown := by unfold acceptFrame; split <;> simp [h]
@[simp] theorem acceptCopy_latch (p n f at') (h : s.keep.lockdown) : (acceptCopy p n f at' s).keep.lockdown := by simp [acceptCopy, h]
@[simp] theorem copiesDiffer_latch (p n) (h : s.keep.lockdown) : (copiesDiffer p n s).keep.lockdown :=
  netViolation_latch _ _ _ (netViolation_latch _ _ _ (by simp [h]))
@[simp] theorem secondCopy_latch (p n f at') (h : s.keep.lockdown) : (secondCopy p n f at' s).keep.lockdown := by simp [secondCopy, h]

/-- Each received copy is judged by operations that keep a set latch. -/
@[simp] theorem takeCopies_latch (b l gone) (h : s.keep.lockdown) : (takeCopies b l gone s).keep.lockdown := by
  induction l generalizing gone s with
  | nil => exact h
  | cons e l ih =>
    unfold takeCopies
    (repeat' split) <;> exact ih _ (by simp [h])
@[simp] theorem enableConn_latch (n) : (enableConn s n).keep.lockdown = s.keep.lockdown := by simp [enableConn]

@[simp] theorem netPhase1_latch (b) (h : s.keep.lockdown) : (netPhase1 b s).keep.lockdown := by
  simp only [netPhase1]
  apply foldl_latch (fun t n ht => judgeConn_latch b n ht)
  apply takeCopies_latch
  simp +contextual [h]

@[simp] theorem pathCompare_latch (p n f) (h : s.keep.lockdown) : (pathCompare p n f s).keep.lockdown := by
  unfold pathCompare
  dsimp only
  split
  · simp [h]
  · split
    · simp [h]
    · split
      · simp [h]
      · split
        · simp [h]
        · exact foldl_latch (fun t q ht => netViolation_latch q 0 n ht) (by simp [h])

@[simp] theorem netTake_latch (p f) (h : s.keep.lockdown) : (netTake p f s).keep.lockdown := by unfold netTake; split <;> simp [h]
@[simp] theorem ethOffer_latch (p e) (h : s.keep.lockdown) : (ethOffer p e s).keep.lockdown := by simp [ethOffer, h]
@[simp] theorem execEthFrameReceive_latch (p e) (h : s.keep.lockdown) : NextLatched (execEthFrameReceive p e s) := by
  unfold execEthFrameReceive; split <;> simp [h]
@[simp] theorem sendConn_latch (n typ pses echo body) : (sendConn n typ pses echo body s).keep.lockdown = s.keep.lockdown := by simp [sendConn]

@[simp] theorem connSend_latch (n) : (connSend s n).keep.lockdown = s.keep.lockdown := by
  unfold connSend
  dsimp only
  split
  · (repeat' split) <;> simp
  · (repeat' split) <;> simp

@[simp] theorem connAfter_latch (n) : (connAfter s n).keep.lockdown = s.keep.lockdown := by simp [connAfter]
@[simp] theorem netPhase4_latch (sends) : (netPhase4 sends s).keep.lockdown = s.keep.lockdown := by simp [netPhase4]
@[simp] theorem netCommit_latch (before changed) (h : s.keep.lockdown) : (netCommit before changed s).keep.lockdown := by
  simp +contextual [netCommit, h]

@[simp] theorem netReset_latch (h : s.keep.lockdown) : (netReset s).keep.lockdown := by
  simp only [netReset]
  refine foldl_latch (fun t n ht => ?_) (foldl_latch (fun t p ht => netDown_latch p ht) h)
  split <;> simp [ht]

@[simp] theorem mdioEff_latch (val) : (mdioEff val s).keep.lockdown = s.keep.lockdown := by simp [mdioEff]
@[simp] theorem execMdioGo_latch (val) (h : s.keep.lockdown) : NextLatched (execMdioGo val s) := by simp [execMdioGo, h]
@[simp] theorem execMdioDone_latch (data) (h : s.keep.lockdown) : NextLatched (execMdioDone data s) := by unfold execMdioDone; split <;> simp [h]

/-! ### Timers (chapter 15) -/

@[simp] theorem settleFrames_latch : (settleFrames s).keep.lockdown = s.keep.lockdown := by simp [settleFrames]
@[simp] theorem State.past_latch (last) : (State.past s last).keep.lockdown = s.keep.lockdown := by simp [State.past]
@[simp] theorem timerMatch_latch (n m0 m1) : (timerMatch n m0 m1 s).keep.lockdown = s.keep.lockdown := by simp [timerMatch]
@[simp] theorem timerStepEff_latch (n) : (timerStepEff n s).keep.lockdown = s.keep.lockdown := by simp [timerStepEff]
@[simp] theorem timerEvent_latch (n) : (timerEvent n s).keep.lockdown = s.keep.lockdown := by simp [timerEvent]

@[simp] theorem execTimerStep_latch (n) (h : s.keep.lockdown) : NextLatched (execTimerStep n s) := by
  simp only [execTimerStep, nextLatched_next]
  (repeat' split) <;> simp [h]

@[simp] theorem unboundWr_latch (n off : Nat) {eff : State → State} (heff : ∀ t, t.keep.lockdown → (eff t).keep.lockdown)
    (h : s.keep.lockdown) : (unboundWr n off eff s).keep.lockdown :=
  hostWr_latch off (fun t ht => by simp [ht, heff]) h

@[simp] theorem tcCntEff_latch (n val) : (tcCntEff n val s).keep.lockdown = s.keep.lockdown := by simp [tcCntEff]
@[simp] theorem execTcCntWrite_latch (n val) (h : s.keep.lockdown) : NextLatched (execTcCntWrite n val s) := by simp [execTcCntWrite, h]
@[simp] theorem tcCmpEff_latch (n k val) : (tcCmpEff n k val s).keep.lockdown = s.keep.lockdown := by simp [tcCmpEff]
@[simp] theorem execTcCmpWrite_latch (n k val) (h : s.keep.lockdown) : NextLatched (execTcCmpWrite n k val s) := by
  unfold execTcCmpWrite; split <;> simp [h]
@[simp] theorem captureEff_latch (n k) : (captureEff n k s).keep.lockdown = s.keep.lockdown := by simp [captureEff]
@[simp] theorem tcCapEff_latch (n val) : (tcCapEff n val s).keep.lockdown = s.keep.lockdown := by simp [tcCapEff]
@[simp] theorem execTcCapCmd_latch (n val) (h : s.keep.lockdown) : NextLatched (execTcCapCmd n val s) := by simp [execTcCapCmd, h]

@[simp] theorem execTcCapture_latch (n k) (h : s.keep.lockdown) : NextLatched (execTcCapture n k s) := by
  simp only [execTcCapture, nextLatched_next]
  (repeat' split) <;> simp [h]

@[simp] theorem timerRead_latch (off) : (timerRead off s).keep.lockdown = s.keep.lockdown := by unfold timerRead; split <;> simp
@[simp] theorem flagReadEff_latch (n event) : (flagReadEff n event s).keep.lockdown = s.keep.lockdown := by simp [flagReadEff]
@[simp] theorem execTcFlagRead_latch (n event) (h : s.keep.lockdown) : NextLatched (execTcFlagRead n event s) := by
  unfold execTcFlagRead; split <;> simp [h]

/-! ### Configuration store (chapter 18) -/

@[simp] theorem cfgResult_latch (res why) : (cfgResult res why s).keep.lockdown = s.keep.lockdown := by simp [cfgResult]
@[simp] theorem cfgComplete_latch (res why) : (cfgComplete res why s).keep.lockdown = s.keep.lockdown := by simp [cfgComplete]
@[simp] theorem cfgStart_latch (op page) : (cfgStart op page s).keep.lockdown = s.keep.lockdown := by simp [cfgStart]
@[simp] theorem cfgVerifyFail_latch (b) (h : s.keep.lockdown) : (cfgVerifyFail b s).keep.lockdown := by simp [cfgVerifyFail, h]

@[simp] theorem cfgDoneEff_latch (op page verifyOk uncorr) (h : s.keep.lockdown) : (cfgDoneEff op page verifyOk uncorr s).keep.lockdown := by
  unfold cfgDoneEff
  dsimp only
  (repeat' split) <;> simp [h]

@[simp] theorem cfgCmdWr_latch (op page) (h : s.keep.lockdown) : NextLatched (cfgCmdWr op page s) := by simp [cfgCmdWr, h]
@[simp] theorem execCfgErase_latch (h : s.keep.lockdown) : NextLatched (execCfgErase s) := by simp [execCfgErase, h]
@[simp] theorem execCfgProgram_latch (page) (h : s.keep.lockdown) : NextLatched (execCfgProgram page s) := by simp [execCfgProgram, h]
@[simp] theorem execCfgFinish_latch (h : s.keep.lockdown) : NextLatched (execCfgFinish s) := by simp [execCfgFinish, h]
@[simp] theorem execCfgValidate_latch (h : s.keep.lockdown) : NextLatched (execCfgValidate s) := by simp [execCfgValidate, h]
@[simp] theorem execCfgCmdDone_latch (verifyOk uncorr) (h : s.keep.lockdown) : NextLatched (execCfgCmdDone verifyOk uncorr s) := by
  unfold execCfgCmdDone; split <;> simp [h]
@[simp] theorem hourlyEff_latch (b corr unc) (h : s.keep.lockdown) : (hourlyEff b corr unc s).keep.lockdown := by simp [hourlyEff, h]

@[simp] theorem execCfgHourlyCheck_latch (corrected uncorrected) (h : s.keep.lockdown) :
    NextLatched (execCfgHourlyCheck corrected uncorrected s) := by
  unfold execCfgHourlyCheck; split <;> simp [h]

@[simp] theorem execKeyAssert_latch (h : s.keep.lockdown) : NextLatched (execKeyAssert s) := by simp [execKeyAssert, h]
@[simp] theorem execKeyRelease_latch (h : s.keep.lockdown) : NextLatched (execKeyRelease s) := by simp [execKeyRelease, h]
@[simp] theorem sealEff_latch (b r0 r1 r2) (h : s.keep.lockdown) : (sealEff b r0 r1 r2 s).keep.lockdown := by simp [sealEff, h]
@[simp] theorem execSealCompare_latch (seal0 seal1 seal2) (h : s.keep.lockdown) : NextLatched (execSealCompare seal0 seal1 seal2 s) := by
  unfold execSealCompare; split <;> simp [h]

/-! ### Transactions (R550-R553) -/

@[simp] theorem txnTo_latch (t) : (txnTo t s).keep.lockdown = s.keep.lockdown := by simp [txnTo]
@[simp] theorem txnResult_latch (res why off) : (txnResult res why off s).keep.lockdown = s.keep.lockdown := by simp [txnResult]
@[simp] theorem txnRefuse_latch : (txnRefuse s).keep.lockdown = s.keep.lockdown := by simp [txnRefuse]
@[simp] theorem txnBeginEff_latch : (txnBeginEff s).keep.lockdown = s.keep.lockdown := by unfold txnBeginEff; split <;> simp

@[simp] theorem txnCommitEff_latch : (txnCommitEff s).keep.lockdown = s.keep.lockdown := by
  unfold txnCommitEff
  split
  · simp
  · dsimp only
    split
    · simp
    · split <;> simp

@[simp] theorem txnRollbackEff_latch : (txnRollbackEff s).keep.lockdown = s.keep.lockdown := by unfold txnRollbackEff; split <;> simp
@[simp] theorem applyCommit_latch (h : s.keep.lockdown) : (applyCommit s).keep.lockdown := by simp [applyCommit, h]
@[simp] theorem execTxnBegin_latch (h : s.keep.lockdown) : NextLatched (execTxnBegin s) := by simp [execTxnBegin, h]
@[simp] theorem execTxnCommit_latch (h : s.keep.lockdown) : NextLatched (execTxnCommit s) := by simp [execTxnCommit, h]
@[simp] theorem execTxnRollback_latch (h : s.keep.lockdown) : NextLatched (execTxnRollback s) := by simp [execTxnRollback, h]
@[simp] theorem execTxnApply_latch (h : s.keep.lockdown) : NextLatched (execTxnApply s) := by unfold execTxnApply; split <;> simp [h]
@[simp] theorem txnDomainLost_latch (d) : (txnDomainLost d s).keep.lockdown = s.keep.lockdown := by unfold txnDomainLost; split <;> simp

end Sys2Proof.Machine
end

section
/-! SUPPORT. The Lockdown latch (R510) through the field die, the valve ports, the lanes, the descriptors and the Osrin ring. -/

namespace Sys2Proof.Machine

variable {s : State}

/-! ### Field die (chapter 11) -/

@[simp] theorem testAbandon_latch (p) : (testAbandon p s).keep.lockdown = s.keep.lockdown := by simp [testAbandon]

@[simp] theorem fldSettle_latch (f) : (fldSettle s f).keep.lockdown = s.keep.lockdown := by
  refine foldl_latch_eq (fun t p => ?_) _ _
  (repeat' split) <;> simp

@[simp] theorem fldLoad_latch (c fs) : (fldLoad s c fs).keep.lockdown = s.keep.lockdown := by simp [fldLoad]

@[simp] theorem fieldSampleEff_latch (io) : (fieldSampleEff io s).keep.lockdown = s.keep.lockdown := by
  simp only [fieldSampleEff]
  (repeat' split) <;> simp

@[simp] theorem execFieldSample_latch (io) (h : s.keep.lockdown) : NextLatched (execFieldSample io s) := by
  unfold execFieldSample; split <;> simp [h]
@[simp] theorem execTpPulse_latch (g) (h : s.keep.lockdown) : NextLatched (execTpPulse g s) := by unfold execTpPulse; split <;> simp [h]
@[simp] theorem execTpCheck_latch (g low) (h : s.keep.lockdown) : NextLatched (execTpCheck g low s) := by unfold execTpCheck; split <;> simp [h]
@[simp] theorem execTpOvlTimer_latch (g) (h : s.keep.lockdown) : NextLatched (execTpOvlTimer g s) := by unfold execTpOvlTimer; split <;> simp [h]
@[simp] theorem driveEff_latch (l f) : (driveEff l f s).keep.lockdown = s.keep.lockdown := by simp [driveEff]
@[simp] theorem execDriveFrameReceive_latch (l f) (h : s.keep.lockdown) : NextLatched (execDriveFrameReceive l f s) := by
  unfold execDriveFrameReceive; split <;> simp [h]
@[simp] theorem execIslandTimeout_latch (l) (h : s.keep.lockdown) : NextLatched (execIslandTimeout l s) := by
  unfold execIslandTimeout; split <;> simp [h]
@[simp] theorem State.lane_latch (l f) : (State.lane s l f).keep.lockdown = s.keep.lockdown := by simp [State.lane]
@[simp] theorem linkSilent_latch (l) : (linkSilent l s).keep.lockdown = s.keep.lockdown := by simp [linkSilent]
@[simp] theorem execFdlLinkSilent_latch (l) (h : s.keep.lockdown) : NextLatched (execFdlLinkSilent l s) := by
  unfold execFdlLinkSilent; split <;> simp [h]
@[simp] theorem execFdlLinkSyncGain_latch (l) (h : s.keep.lockdown) : NextLatched (execFdlLinkSyncGain l s) := by
  unfold execFdlLinkSyncGain; split <;> simp [h]
@[simp] theorem pulseEnd_latch (g p) : (pulseEnd g p s).keep.lockdown = s.keep.lockdown := by simp [pulseEnd]
@[simp] theorem strayEnds_latch (g) : (strayEnds g s).keep.lockdown = s.keep.lockdown := by simp [strayEnds]

@[simp] theorem execOffPulseEnd_latch (grp) (h : s.keep.lockdown) : NextLatched (execOffPulseEnd grp s) := by
  simp only [execOffPulseEnd, nextLatched_next]
  (repeat' split) <;> simp [h]

@[simp] theorem execStuckTimerExpire_latch (t) (h : s.keep.lockdown) : NextLatched (execStuckTimerExpire t s) := by
  unfold execStuckTimerExpire; split <;> simp [h]
@[simp] theorem execOutputOvlTimer_latch (t) (h : s.keep.lockdown) : NextLatched (execOutputOvlTimer t s) := by
  unfold execOutputOvlTimer; split <;> simp [h]
@[simp] theorem execGroupOvlTimer_latch (g) (h : s.keep.lockdown) : NextLatched (execGroupOvlTimer g s) := by
  unfold execGroupOvlTimer; split <;> simp [h]
@[simp] theorem execFsLowEnter_latch (g) (h : s.keep.lockdown) : NextLatched (execFsLowEnter g s) := by unfold execFsLowEnter; split <;> simp [h]
@[simp] theorem execFsLowLeave_latch (g) (h : s.keep.lockdown) : NextLatched (execFsLowLeave g s) := by unfold execFsLowLeave; split <;> simp [h]
@[simp] theorem execFsSag_latch (g) (h : s.keep.lockdown) : NextLatched (execFsSag g s) := by unfold execFsSag; split <;> simp [h]
@[simp] theorem execFsMissing_latch (g) (h : s.keep.lockdown) : NextLatched (execFsMissing g s) := by unfold execFsMissing; split <;> simp [h]
@[simp] theorem execFieldSupplyReturn_latch (g) (h : s.keep.lockdown) : NextLatched (execFieldSupplyReturn g s) := by
  simp [execFieldSupplyReturn, h]

@[simp] theorem endPulses_latch : (endPulses s).keep.lockdown = s.keep.lockdown := by
  refine (fldSettle_latch _).trans (foldl_latch_eq (fun t p => ?_) _ _)
  (repeat' split) <;> simp

@[simp] theorem execWatchdogExpire_latch (h : s.keep.lockdown) : NextLatched (execWatchdogExpire s) := by
  unfold execWatchdogExpire; split <;> simp [h]
@[simp] theorem execFieldConfigReceive_latch (frames) (h : s.keep.lockdown) : NextLatched (execFieldConfigReceive frames s) := by
  unfold execFieldConfigReceive; split <;> simp [h]
@[simp] theorem fldClear_latch : (fldClear s).keep.lockdown = s.keep.lockdown := by simp [fldClear]
@[simp] theorem execFieldResetFrame_latch (links) (h : s.keep.lockdown) : NextLatched (execFieldResetFrame links s) := by
  unfold execFieldResetFrame; split <;> simp [h]

/-! ### Valve ports (chapter 6) -/

@[simp] theorem State.port_latch (n f) : (State.port s n f).keep.lockdown = s.keep.lockdown := by simp [State.port]
@[simp] theorem vpDrop_latch (n crc) (h : s.keep.lockdown) : (vpDrop n crc s).keep.lockdown := by simp [vpDrop, h]
@[simp] theorem portLoss_latch (n cause) (h : s.keep.lockdown) : (portLoss n cause s).keep.lockdown := by simp [portLoss, h]

@[simp] theorem vpReceive_latch (n : Fin 16) (f : Frame) (typ words : Nat) (expected : Bool) {eff : State → State}
    (heff : ∀ t, t.keep.lockdown → (eff t).keep.lockdown) (h : s.keep.lockdown) : (vpReceive n f typ words expected eff s).keep.lockdown := by
  simp [vpReceive, h, heff]

@[simp] theorem discover_latch (n) : (discover n s).keep.lockdown = s.keep.lockdown := by simp [discover]
@[simp] theorem execDiscoverSend_latch (n) (h : s.keep.lockdown) : NextLatched (execDiscoverSend n s) := by simp [execDiscoverSend, h]
@[simp] theorem sendConfig_latch (n) : (sendConfig n s).keep.lockdown = s.keep.lockdown := by simp [sendConfig]
@[simp] theorem identEff_latch (n f rtt) (h : s.keep.lockdown) : (identEff n f rtt s).keep.lockdown := by simp [identEff, h]
@[simp] theorem execIdentReceive_latch (n f rtt) (h : s.keep.lockdown) : NextLatched (execIdentReceive n f rtt s) := by
  simp +contextual [execIdentReceive, h]
@[simp] theorem configAckEff_latch (n f) (h : s.keep.lockdown) : (configAckEff n f s).keep.lockdown := by simp [configAckEff, h]
@[simp] theorem execConfigAckReceive_latch (n f) (h : s.keep.lockdown) : NextLatched (execConfigAckReceive n f s) := by
  simp +contextual [execConfigAckReceive, h]
@[simp] theorem execConfigAckTimeout_latch (n) (h : s.keep.lockdown) : NextLatched (execConfigAckTimeout n s) := by
  unfold execConfigAckTimeout; split <;> simp [h]
@[simp] theorem reconfigure_latch (n) : (reconfigure n s).keep.lockdown = s.keep.lockdown := by unfold reconfigure; split <;> simp
@[simp] theorem coilEff_latch (n f) (h : s.keep.lockdown) : (coilEff n f s).keep.lockdown := by simp +contextual [coilEff, h]
@[simp] theorem burstEnd_latch (flag) : (burstEnd flag s).keep.lockdown = s.keep.lockdown := by simp [burstEnd]
@[simp] theorem burstAnswer_latch (n bpend) : (burstAnswer n bpend s).keep.lockdown = s.keep.lockdown := by unfold burstAnswer; split <;> simp
@[simp] theorem statusAnswer_latch (n f) : (statusAnswer n f s).keep.lockdown = s.keep.lockdown := by simp [statusAnswer]

@[simp] theorem statusEff_latch (n f) (h : s.keep.lockdown) : (statusEff n f s).keep.lockdown := by
  unfold statusEff
  dsimp only
  generalize ht : raiseIf _ S.VPT_MOD_FAULT 0 _ = t
  have hl : t.keep.lockdown = true := by rw [← ht]; simp [h]
  (repeat' split) <;> simp [h, hl]

@[simp] theorem execStatusReceive_latch (n f) (h : s.keep.lockdown) : NextLatched (execStatusReceive n f s) := by
  simp +contextual [execStatusReceive, h]
@[simp] theorem errorSlot_latch (n) (h : s.keep.lockdown) : (errorSlot n s).keep.lockdown := by simp [errorSlot, h]
@[simp] theorem execStatusDeadline_latch (n) (h : s.keep.lockdown) : NextLatched (execStatusDeadline n s) := by
  unfold execStatusDeadline; split <;> simp [h]
@[simp] theorem burstCtrlEff_latch (val) : (burstCtrlEff val s).keep.lockdown = s.keep.lockdown := by simp [burstCtrlEff]
@[simp] theorem execBurstGo_latch (val) (h : s.keep.lockdown) : NextLatched (execBurstGo val s) := by simp [execBurstGo, h]
@[simp] theorem burstEff_latch (n f) (h : s.keep.lockdown) : (burstEff n f s).keep.lockdown := by unfold burstEff; split <;> simp [h]
@[simp] theorem execBurstReceive_latch (n f) (h : s.keep.lockdown) : NextLatched (execBurstReceive n f s) := by
  simp +contextual [execBurstReceive, h]
@[simp] theorem execBurstTimeout_latch (h : s.keep.lockdown) : NextLatched (execBurstTimeout s) := by unfold execBurstTimeout; split <;> simp [h]
@[simp] theorem execVpFrameDrop_latch (n crc) (h : s.keep.lockdown) : NextLatched (execVpFrameDrop n crc s) := by
  unfold execVpFrameDrop; split <;> simp [h]
@[simp] theorem execVpSyncLoss_latch (n) (h : s.keep.lockdown) : NextLatched (execVpSyncLoss n s) := by simp [execVpSyncLoss, h]
@[simp] theorem execVpSyncGain_latch (n) (h : s.keep.lockdown) : NextLatched (execVpSyncGain n s) := by unfold execVpSyncGain; split <;> simp [h]
@[simp] theorem execHaltSend_latch (h : s.keep.lockdown) : NextLatched (execHaltSend s) := by simp [execHaltSend, h]

/-! ### Safety lanes (chapter 8) -/

@[simp] theorem laneQuiet_latch (l) : (laneQuiet l s).keep.lockdown = s.keep.lockdown := by simp [laneQuiet]
@[simp] theorem retire_latch (l cause) : (retire l cause s).keep.lockdown = s.keep.lockdown := by simp [retire]
@[simp] theorem lanResult_latch (res lane) : (lanResult res lane s).keep.lockdown = s.keep.lockdown := by simp [lanResult]
@[simp] theorem joinEnd_latch (cause) : (joinEnd cause s).keep.lockdown = s.keep.lockdown := by unfold joinEnd; split <;> simp
@[simp] theorem joinFail_latch (c) (h : s.keep.lockdown) : (joinFail c s).keep.lockdown := by unfold joinFail; (repeat' split) <;> simp [h]
@[simp] theorem secondFault_latch (cond) (h : s.keep.lockdown) : (secondFault cond s).keep.lockdown := by simp [secondFault, h]
@[simp] theorem laneFault_latch (l cause c) (h : s.keep.lockdown) : (laneFault l cause c s).keep.lockdown := by
  unfold laneFault; (repeat' split) <;> simp [h]
@[simp] theorem laneRequest_latch (test l) : (laneRequest test l s).keep.lockdown = s.keep.lockdown := by simp [laneRequest]
@[simp] theorem lanCtrlEff_latch (readmit test) : (lanCtrlEff readmit test s).keep.lockdown = s.keep.lockdown := by
  unfold lanCtrlEff; split <;> simp
@[simp] theorem execLaneReadmitReq_latch (bits) (h : s.keep.lockdown) : NextLatched (execLaneReadmitReq bits s) := by
  simp [execLaneReadmitReq, h]
@[simp] theorem execLaneTestReq_latch (bits) (h : s.keep.lockdown) : NextLatched (execLaneTestReq bits s) := by simp [execLaneTestReq, h]
@[simp] theorem execAutoReadmit_latch (l) (h : s.keep.lockdown) : NextLatched (execAutoReadmit l s) := by
  unfold execAutoReadmit; split <;> simp [h]
@[simp] theorem execLaneSelftestDone_latch (pass refuse) (h : s.keep.lockdown) : NextLatched (execLaneSelftestDone pass refuse s) := by
  unfold execLaneSelftestDone; split <;> simp [h]
@[simp] theorem laneFrame_latch (l f) (h : s.keep.lockdown) : (laneFrame l f s).keep.lockdown := by unfold laneFrame; split <;> simp [h]
@[simp] theorem copyFrame_latch (l f) : (copyFrame l f s).keep.lockdown = s.keep.lockdown := by unfold copyFrame; split <;> simp
@[simp] theorem execSampleFrameReceive_latch (l f) (h : s.keep.lockdown) : NextLatched (execSampleFrameReceive l f s) := by
  simp [execSampleFrameReceive, h]
@[simp] theorem laneEccU_latch (l) (h : s.keep.lockdown) : (laneEccU l s).keep.lockdown := by simp [laneEccU, h]
@[simp] theorem laneScramble_latch (l) : (laneScramble l s).keep.lockdown = s.keep.lockdown := by simp [laneScramble]
@[simp] theorem execLaneSramScrub_latch (l ecc) (h : s.keep.lockdown) : NextLatched (execLaneSramScrub l ecc s) := by
  unfold execLaneSramScrub; (repeat' split) <;> simp [h]
@[simp] theorem repairScan_latch (dt) : (repairScan dt s).keep.lockdown = s.keep.lockdown := by simp [repairScan]
@[simp] theorem execRepairTimerExpire_latch (h : s.keep.lockdown) : NextLatched (execRepairTimerExpire s) := by
  unfold execRepairTimerExpire; split <;> simp [h]
@[simp] theorem recurScan_latch (dt) : (recurScan dt s).keep.lockdown = s.keep.lockdown := by unfold recurScan; split <;> simp
@[simp] theorem execRecurClear_latch (h : s.keep.lockdown) : NextLatched (execRecurClear s) := by simp [execRecurClear, h]

/-! ### Descriptors (chapters 3, 4) -/

@[simp] theorem execRingFetch_latch (h : s.keep.lockdown) : NextLatched (execRingFetch s) := by simp [execRingFetch, h]
@[simp] theorem stageOne_latch (d) (h : s.keep.lockdown) : (stageOne s d).keep.lockdown := by simp [stageOne, h]
@[simp] theorem execFetchCompletion_latch (ds) (h : s.keep.lockdown) : NextLatched (execFetchCompletion ds s) := by
  unfold execFetchCompletion; split <;> simp +contextual [h]
@[simp] theorem execFetchError_latch (k) (h : s.keep.lockdown) : NextLatched (execFetchError s k) := by unfold execFetchError; split <;> simp [h]
@[simp] theorem dmaCtrlEff_latch (val) : (dmaCtrlEff val s).keep.lockdown = s.keep.lockdown := by unfold dmaCtrlEff; split <;> simp
@[simp] theorem execDmaResume_latch (h : s.keep.lockdown) : NextLatched (execDmaResume s) := by simp [execDmaResume, h]
@[simp] theorem updFlight_latch (id g) : (updFlight s id g).keep.lockdown = s.keep.lockdown := by simp [updFlight]
@[simp] theorem admitNow_latch (f) : (admitNow f s).keep.lockdown = s.keep.lockdown := by simp [admitNow]
@[simp] theorem finish_latch (f st) : (finish f st s).keep.lockdown = s.keep.lockdown := by simp [finish]

@[simp] theorem withNext_latch (op) {eff : Flight → State → State}
    (heff : ∀ f t, t.keep.lockdown → (eff f t).keep.lockdown) (h : s.keep.lockdown) : (withNext op eff s).keep.lockdown := by
  unfold withNext; split <;> simp [h, heff]

@[simp] theorem sendFwd_latch (id side d ticket first n kdl) : (sendFwd id side d ticket first n kdl s).keep.lockdown = s.keep.lockdown := by
  unfold sendFwd; split <;> simp
@[simp] theorem execAdmitNop_latch (h : s.keep.lockdown) : NextLatched (execAdmitNop s) := by simp [execAdmitNop, h]
@[simp] theorem execAdmitFence_latch (h : s.keep.lockdown) : NextLatched (execAdmitFence s) := by simp [execAdmitFence, h]
@[simp] theorem execAdmitInvalidOpcode_latch (h : s.keep.lockdown) : NextLatched (execAdmitInvalidOpcode s) := by
  unfold execAdmitInvalidOpcode; split <;> simp [h]

@[simp] theorem beginWrites_latch (f ws st drain ticket opens dark) :
    (beginWrites f ws st drain ticket opens dark s).keep.lockdown = s.keep.lockdown := by
  simp [beginWrites]

@[simp] theorem forwardMark_latch (f ticket kdl) : (forwardMark f ticket kdl s).keep.lockdown = s.keep.lockdown := by
  unfold forwardMark; (repeat' split) <;> simp
@[simp] theorem markEff_latch (f) : (markEff f s).keep.lockdown = s.keep.lockdown := by unfold markEff; dsimp only; split <;> simp
@[simp] theorem execAdmitMark_latch (h : s.keep.lockdown) : NextLatched (execAdmitMark s) := by simp [execAdmitMark, h]

@[simp] theorem specEff_latch (f) : (specEff f s).keep.lockdown = s.keep.lockdown := by
  unfold specEff
  dsimp only
  split
  · simp
  · rfl
  · split
    · rfl
    · split <;> simp

@[simp] theorem execAdmitMarkSpec_latch (h : s.keep.lockdown) : NextLatched (execAdmitMarkSpec s) := by simp [execAdmitMarkSpec, h]

@[simp] theorem closeEff_latch (op f) : (closeEff op f s).keep.lockdown = s.keep.lockdown := by
  unfold closeEff
  dsimp only
  (repeat' split) <;> simp

@[simp] theorem execAdmitConfirm_latch (h : s.keep.lockdown) : NextLatched (execAdmitConfirm s) := by simp +contextual [execAdmitConfirm, h]
@[simp] theorem execAdmitRevoke_latch (h : s.keep.lockdown) : NextLatched (execAdmitRevoke s) := by simp +contextual [execAdmitRevoke, h]
@[simp] theorem undo_latch (f) (h : s.keep.lockdown) : (undo f s).keep.lockdown := by simp +contextual [undo, h]
@[simp] theorem ticketDone_latch (f st) (h : s.keep.lockdown) : (ticketDone f st s).keep.lockdown := by unfold ticketDone; split <;> simp [h]
@[simp] theorem report_latch (f st drain) : (report f st drain s).keep.lockdown = s.keep.lockdown := by unfold report; (repeat' split) <;> simp
@[simp] theorem completeEff_latch (f) (h : s.keep.lockdown) : (completeEff f s).keep.lockdown := by simp [completeEff, h]
@[simp] theorem execDescComplete_latch (h : s.keep.lockdown) : NextLatched (execDescComplete s) := by unfold execDescComplete; split <;> simp [h]

/-! ### Osrin ring (chapter 13) -/

@[simp] theorem State.link_latch (p f) : (State.link s p f).keep.lockdown = s.keep.lockdown := by simp [State.link]
@[simp] theorem linkLeave_latch (p cause) (h : s.keep.lockdown) : (linkLeave p cause s).keep.lockdown := by simp [linkLeave, h]
@[simp] theorem osrDrop_latch (p crc) (h : s.keep.lockdown) : (osrDrop p crc s).keep.lockdown := by simp [osrDrop, h]
@[simp] theorem execOsrFrameDrop_latch (p crc) (h : s.keep.lockdown) : NextLatched (execOsrFrameDrop p crc s) := by
  unfold execOsrFrameDrop; split <;> simp [h]

@[simp] theorem osrTake_latch (p : Fin 2) (typ len : Nat) (bad : Bool) (f : Frame) {eff : State → State}
    (heff : ∀ t, t.keep.lockdown → (eff t).keep.lockdown) (h : s.keep.lockdown) : (osrTake p typ len bad f eff s).keep.lockdown := by
  simp [osrTake, h, heff]

@[simp] theorem trainLink_latch (p) : (trainLink s p).keep.lockdown = s.keep.lockdown := by unfold trainLink; split <;> simp
@[simp] theorem execOsrSyncGain_latch (p) (h : s.keep.lockdown) : NextLatched (execOsrSyncGain p s) := by
  unfold execOsrSyncGain; split <;> simp [h]
@[simp] theorem osrSyncLost_latch (p) (h : s.keep.lockdown) : (osrSyncLost p s).keep.lockdown := by simp [osrSyncLost, h]
@[simp] theorem execOsrSyncLoss_latch (p) (h : s.keep.lockdown) : NextLatched (execOsrSyncLoss p s) := by
  unfold execOsrSyncLoss; split <;> simp [h]
@[simp] theorem execOsrLostExpire_latch (p) (h : s.keep.lockdown) : NextLatched (execOsrLostExpire p s) := by
  unfold execOsrLostExpire; split <;> simp [h]
@[simp] theorem execHelloSend_latch (p) (h : s.keep.lockdown) : NextLatched (execHelloSend p s) := by unfold execHelloSend; split <;> simp [h]
@[simp] theorem judgeCls_latch (p peer) (h : s.keep.lockdown) : (judgeCls p peer s).keep.lockdown := by simp [judgeCls, h]
@[simp] theorem helloJudge_latch (p f rtt) (h : s.keep.lockdown) : (helloJudge p f rtt s).keep.lockdown := by simp [helloJudge, h]
@[simp] theorem execHelloReceive_latch (p f rtt) (h : s.keep.lockdown) : NextLatched (execHelloReceive p f rtt s) := by
  simp +contextual [execHelloReceive, h]
@[simp] theorem execOsrRttMeasure_latch (p rtt) (h : s.keep.lockdown) : NextLatched (execOsrRttMeasure p rtt s) := by
  unfold execOsrRttMeasure; (repeat' split) <;> simp [h]
@[simp] theorem execTimeSend_latch (h : s.keep.lockdown) : NextLatched (execTimeSend s) := by unfold execTimeSend; split <;> simp [h]
@[simp] theorem slotStart_latch : (slotStart s).keep.lockdown = s.keep.lockdown := by unfold slotStart; (repeat' split) <;> simp
@[simp] theorem timeStuck_latch (h : s.keep.lockdown) : (timeStuck s).keep.lockdown := by simp [timeStuck, h]
@[simp] theorem takeKc_latch (t) (h : s.keep.lockdown) : (takeKc t s).keep.lockdown := by unfold takeKc; split <;> simp [h]
@[simp] theorem steer_latch (est) : (steer est s).keep.lockdown = s.keep.lockdown := by unfold steer; split <;> simp
@[simp] theorem timeEff_latch (p f) (h : s.keep.lockdown) : (timeEff p f s).keep.lockdown := by simp [timeEff, h]
@[simp] theorem execTimeLockTimeout_latch (h : s.keep.lockdown) : NextLatched (execTimeLockTimeout s) := by
  unfold execTimeLockTimeout; split <;> simp [h]
@[simp] theorem execRingSyncMark_latch (h : s.keep.lockdown) : NextLatched (execRingSyncMark s) := by unfold execRingSyncMark; split <;> simp [h]
@[simp] theorem execRingSyncEdge_latch (edge) (h : s.keep.lockdown) : NextLatched (execRingSyncEdge edge s) := by simp [execRingSyncEdge, h]
@[simp] theorem relay_latch (p f) : (relay p f s).keep.lockdown = s.keep.lockdown := by unfold relay; split <;> simp
@[simp] theorem stageFwd_latch (side f) : (stageFwd side f s).keep.lockdown = s.keep.lockdown := by unfold stageFwd; split <;> simp

@[simp] theorem execFwdReceive_latch (p f) (h : s.keep.lockdown) : NextLatched (execFwdReceive p f s) := by
  simp only [execFwdReceive, nextLatched_next]
  refine osrTake_latch _ _ _ _ _ (fun t ht => ?_) h
  (repeat' split) <;> simp [ht]

@[simp] theorem answered_latch (id st drain) : (answered s id st drain).keep.lockdown = s.keep.lockdown := by simp [answered]

@[simp] theorem execAnsReceive_latch (p f) (h : s.keep.lockdown) : NextLatched (execAnsReceive p f s) := by
  simp only [execAnsReceive, nextLatched_next]
  refine osrTake_latch _ _ _ _ _ (fun t ht => ?_) h
  (repeat' split) <;> simp [ht]

@[simp] theorem execFwdAnsTimeout_latch (fseq) (h : s.keep.lockdown) : NextLatched (execFwdAnsTimeout fseq s) := by
  unfold execFwdAnsTimeout; split <;> simp [h]
@[simp] theorem execRswSend_latch (h : s.keep.lockdown) : NextLatched (execRswSend s) := by unfold execRswSend; split <;> simp [h]
@[simp] theorem execRswReceive_latch (p f) (h : s.keep.lockdown) : NextLatched (execRswReceive p f s) := by simp [execRswReceive, h]

end Sys2Proof.Machine
end

section
/-! SUPPORT. The Lockdown latch (R510) through the domains, the device reset, the sump, the modes and the phases of a scan. -/

namespace Sys2Proof.Machine

variable {s : State}

/-! ### Domains (R32-R39) -/

@[simp] theorem loseLane_latch (l) (h : s.keep.lockdown) : (loseLane l s).keep.lockdown := by
  simp only [loseLane]
  (repeat' split) <;> simp [h]

@[simp] theorem loseCs0_latch (h : s.keep.lockdown) : (loseCs0 s).keep.lockdown := by simp [loseCs0, h]
@[simp] theorem loseCs1_latch : (loseCs1 s).keep.lockdown = s.keep.lockdown := by simp [loseCs1]
@[simp] theorem loseHs_latch : (loseHs s).keep.lockdown = s.keep.lockdown := by simp [loseHs]
@[simp] theorem loseVp_latch : (loseVp s).keep.lockdown = s.keep.lockdown := by simp [loseVp]
@[simp] theorem loseDomain_latch (d) (h : s.keep.lockdown) : (loseDomain d s).keep.lockdown := by unfold loseDomain; split <;> simp [h]
@[simp] theorem tripDomain_latch (d) (h : s.keep.lockdown) : (tripDomain d s).keep.lockdown := by simp [tripDomain, h]
@[simp] theorem execDomainOpenTimeout_latch (d) (h : s.keep.lockdown) : NextLatched (execDomainOpenTimeout d s) := by
  unfold execDomainOpenTimeout; split <;> simp [h]
@[simp] theorem openDomain_latch (d) : (openDomain d s).keep.lockdown = s.keep.lockdown := by simp [openDomain]
@[simp] theorem restartLength_latch : (restartLength s).keep.lockdown = s.keep.lockdown := by simp [restartLength]
@[simp] theorem restartCs1_latch : (restartCs1 s).keep.lockdown = s.keep.lockdown := by simp [restartCs1]
@[simp] theorem restartDomain_latch (fail d) : (restartDomain fail s d).keep.lockdown = s.keep.lockdown := by
  unfold restartDomain; dsimp only; split <;> simp
@[simp] theorem restartDomains_latch (recovered fail) : (restartDomains recovered fail s).keep.lockdown = s.keep.lockdown := by
  simp [restartDomains]

/-! ### The device reset (R518) -/

/-- The device reset keeps the latch (R510, R518). -/
@[simp] theorem deviceReset_latch (cause) : (deviceReset cause s).keep.lockdown = s.keep.lockdown := by simp [deviceReset]

/-! ### Sump (chapter 19) -/

@[simp] theorem countTemp_latch (src base) : (countTemp src base s).keep.lockdown = s.keep.lockdown := by unfold countTemp; split <;> simp

@[simp] theorem secondEff_latch (mv) : (secondEff mv s).keep.lockdown = s.keep.lockdown := by
  refine (foldl_latch_eq (fun t d => by simp) _ _).trans ?_
  simp

@[simp] theorem execStatsSecond_latch (mv) (h : s.keep.lockdown) : NextLatched (execStatsSecond mv s) := by
  unfold execStatsSecond; split <;> simp [h]
@[simp] theorem pdnDone_latch : (pdnDone s).keep.lockdown = s.keep.lockdown := by simp [pdnDone]
@[simp] theorem storeEnd_latch : (storeEnd s).keep.lockdown = s.keep.lockdown := by simp [storeEnd]
@[simp] theorem storeBegin_latch (final) (h : s.keep.lockdown) : (storeBegin final s).keep.lockdown := by unfold storeBegin; split <;> simp [h]
@[simp] theorem execSumpStoreStart_latch (h : s.keep.lockdown) : NextLatched (execSumpStoreStart s) := by
  unfold execSumpStoreStart; (repeat' split) <;> simp [h]

@[simp] theorem execSumpStoreDone_latch (ok) (h : s.keep.lockdown) : NextLatched (execSumpStoreDone ok s) := by
  simp only [execSumpStoreDone, nextLatched_next]
  (repeat' split) <;> simp [h]

@[simp] theorem restoreEcc_latch (hits) (h : s.keep.lockdown) : (restoreEcc hits s).keep.lockdown := by
  refine foldl_latch (fun t e ht => ?_) h
  split <;> simp [ht]

@[simp] theorem restoreEff_latch (hits) (h : s.keep.lockdown) : (restoreEff hits s).keep.lockdown := by simp [restoreEff, h]
@[simp] theorem bootInternal_latch : (bootInternal s).keep.lockdown = s.keep.lockdown := by unfold bootInternal; split <;> simp
@[simp] theorem execSumpRestore_latch (hits) (h : s.keep.lockdown) : NextLatched (execSumpRestore hits s) := by
  unfold execSumpRestore; split <;> simp [h]

/-! ### Modes, requests and reactions (chapters 16, 17) -/

@[simp] theorem bootExit_latch : (bootExit s).keep.lockdown = s.keep.lockdown := by simp [bootExit]
@[simp] theorem setMode_latch (m) : (setMode m s).keep.lockdown = s.keep.lockdown := by unfold setMode; split <;> simp
@[simp] theorem bootLeave_latch : (bootLeave s).keep.lockdown = s.keep.lockdown := by unfold bootLeave; split <;> simp
@[simp] theorem execTimeReceive_latch (p f) (h : s.keep.lockdown) : NextLatched (execTimeReceive p f s) := by
  simp +contextual [execTimeReceive, h]
@[simp] theorem enterHold_latch : (enterHold s).keep.lockdown = s.keep.lockdown := by unfold enterHold; split <;> simp
@[simp] theorem judgePartners_latch : (judgePartners s).keep.lockdown = s.keep.lockdown := by simp [judgePartners]
@[simp] theorem execPartnerWaitExpire_latch (h : s.keep.lockdown) : NextLatched (execPartnerWaitExpire s) := by
  unfold execPartnerWaitExpire; split <;> simp +contextual [h]
@[simp] theorem reqResult_latch (res why) : (reqResult res why s).keep.lockdown = s.keep.lockdown := by simp [reqResult]
@[simp] theorem modeReqEff_latch (val) : (modeReqEff val s).keep.lockdown = s.keep.lockdown := by simp [modeReqEff]
@[simp] theorem execModeReqConfigure_latch (h : s.keep.lockdown) : NextLatched (execModeReqConfigure s) := by simp [execModeReqConfigure, h]
@[simp] theorem execModeReqRun_latch (h : s.keep.lockdown) : NextLatched (execModeReqRun s) := by simp [execModeReqRun, h]
@[simp] theorem execModeReqMaintain_latch (h : s.keep.lockdown) : NextLatched (execModeReqMaintain s) := by simp [execModeReqMaintain, h]
@[simp] theorem judgeReq_latch : (judgeReq s).keep.lockdown = s.keep.lockdown := by unfold judgeReq; split <;> simp
@[simp] theorem overtakeReq_latch : (overtakeReq s).keep.lockdown = s.keep.lockdown := by unfold overtakeReq; split <;> simp
@[simp] theorem takeReq_latch (recovered fail) : (takeReq recovered fail s).keep.lockdown = s.keep.lockdown := by
  unfold takeReq; (repeat' split) <;> simp
@[simp] theorem drstResult_latch (res why) : (drstResult res why s).keep.lockdown = s.keep.lockdown := by simp [drstResult]
@[simp] theorem drstEff_latch : (drstEff s).keep.lockdown = s.keep.lockdown := by simp [drstEff]
@[simp] theorem restartEff_latch : (restartEff s).keep.lockdown = s.keep.lockdown := by unfold restartEff; split <;> simp
@[simp] theorem pdnEff_latch : (pdnEff s).keep.lockdown = s.keep.lockdown := by unfold pdnEff; split <;> simp
@[simp] theorem sysCtrlEff_latch (val) (h : s.keep.lockdown) : (sysCtrlEff val s).keep.lockdown := by simp [sysCtrlEff, h]
@[simp] theorem sysCtrlWr_latch (act key) (h : s.keep.lockdown) : NextLatched (sysCtrlWr act key s) := by simp +contextual [sysCtrlWr, h]
@[simp] theorem execDeliberateReset_latch (key) (h : s.keep.lockdown) : NextLatched (execDeliberateReset key s) := by
  simp [execDeliberateReset, h]
@[simp] theorem execRestart_latch (key) (h : s.keep.lockdown) : NextLatched (execRestart key s) := by simp [execRestart, h]
@[simp] theorem execPowerDown_latch (key) (h : s.keep.lockdown) : NextLatched (execPowerDown key s) := by simp [execPowerDown, h]
@[simp] theorem drstGroups_latch : (drstGroups s).keep.lockdown = s.keep.lockdown := by unfold drstGroups; split <;> simp
@[simp] theorem drstBoundary_latch (recovered fail) : (drstBoundary recovered fail s).keep.lockdown = s.keep.lockdown := by
  unfold drstBoundary; split <;> simp
@[simp] theorem forceEff_latch (blk val) (h : s.keep.lockdown) : (forceEff blk val s).keep.lockdown := by simp +contextual [forceEff, h]
@[simp] theorem execFaultForce_latch (blk val) (h : s.keep.lockdown) : NextLatched (execFaultForce blk val s) := by
  simp +contextual [execFaultForce, h]
@[simp] theorem blkEff_latch (blk) (h : s.keep.lockdown) : (blkEff blk s).keep.lockdown := by unfold blkEff; split <;> simp +contextual [h]
@[simp] theorem execBlkReset_latch (blk) (h : s.keep.lockdown) : NextLatched (execBlkReset blk s) := by unfold execBlkReset; split <;> simp [h]
@[simp] theorem execChipReset_latch (h : s.keep.lockdown) : NextLatched (execChipReset s) := by unfold execChipReset; split <;> simp [h]
@[simp] theorem errRelEff_latch : (errRelEff s).keep.lockdown = s.keep.lockdown := by unfold errRelEff; split <;> simp
@[simp] theorem execErrRelease_latch (h : s.keep.lockdown) : NextLatched (execErrRelease s) := by simp [execErrRelease, h]
@[simp] theorem execErrMinWidthEnd_latch (h : s.keep.lockdown) : NextLatched (execErrMinWidthEnd s) := by
  unfold execErrMinWidthEnd; split <;> simp [h]
@[simp] theorem execPumpSquareWaveEdge_latch (h : s.keep.lockdown) : NextLatched (execPumpSquareWaveEdge s) := by
  simp [execPumpSquareWaveEdge, h]
@[simp] theorem execPumpTokenExpire_latch (h : s.keep.lockdown) : NextLatched (execPumpTokenExpire s) := by
  unfold execPumpTokenExpire; split <;> simp [h]

/-! ### Scan boundary and phase 1 (chapters 8, 10) -/

@[simp] theorem joinZero_latch (j) : (joinZero j s).keep.lockdown = s.keep.lockdown := by simp [joinZero]
@[simp] theorem joinTransfer_latch (j) (h : s.keep.lockdown) : (joinTransfer j s).keep.lockdown := by unfold joinTransfer; split <;> simp [h]
@[simp] theorem joinAdmit_latch (j) : (joinAdmit j s).keep.lockdown = s.keep.lockdown := by simp [joinAdmit]
@[simp] theorem joinScan_latch (h : s.keep.lockdown) : (joinScan s).keep.lockdown := by unfold joinScan; (repeat' split) <;> simp [h]
@[simp] theorem openScan_latch (b) (h : s.keep.lockdown) : (openScan b s).keep.lockdown := by simp [openScan, h]
@[simp] theorem laneTransitions_latch : (laneTransitions s).keep.lockdown = s.keep.lockdown := by unfold laneTransitions; split <;> simp
@[simp] theorem validatedRun_latch : (validatedRun s).keep.lockdown = s.keep.lockdown := by unfold validatedRun; split <;> simp
@[simp] theorem bootEnd_latch : (bootEnd s).keep.lockdown = s.keep.lockdown := by unfold bootEnd; split <;> simp
@[simp] theorem transitions_latch (io) : (transitions io s).keep.lockdown = s.keep.lockdown := by simp [transitions]
@[simp] theorem takeHolds_latch (first) : (takeHolds first s).keep.lockdown = s.keep.lockdown := by simp [takeHolds]
@[simp] theorem hostResetScan_latch : (hostResetScan s).keep.lockdown = s.keep.lockdown := by unfold hostResetScan; split <;> simp
@[simp] theorem inputResetScan_latch (before) : (inputResetScan before s).keep.lockdown = s.keep.lockdown := by simp [inputResetScan]
@[simp] theorem agree_latch (ex silent) : (agree ex silent s).1.keep.lockdown = s.keep.lockdown := by simp [agree]
@[simp] theorem judgeMinority_latch (v hit) (h : s.keep.lockdown) : (judgeMinority v hit s).keep.lockdown := by
  simp +contextual [judgeMinority, h]
@[simp] theorem minority_latch (minor) (h : s.keep.lockdown) : (minority minor s).keep.lockdown := by simp [minority, h]
@[simp] theorem paceLane_latch (io l) (h : s.keep.lockdown) : (paceLane io s l).keep.lockdown := by unfold paceLane; split <;> simp [h]
@[simp] theorem fieldEvent_latch (h : s.keep.lockdown) : (fieldEvent s).keep.lockdown := by simp [fieldEvent, h]
@[simp] theorem fieldState_latch (wdgBefore) (h : s.keep.lockdown) : (fieldState wdgBefore s).keep.lockdown := by simp [fieldState, h]
@[simp] theorem judgeBoot_latch : (judgeBoot s).keep.lockdown = s.keep.lockdown := by simp [judgeBoot]

@[simp] theorem phase1_latch (io) (h : s.keep.lockdown) : (phase1 io s).keep.lockdown := by
  simp only [phase1, judgeBoot_latch, judgeReq_latch, judgePartners_latch]
  refine fieldState_latch _ (fieldEvent_latch (foldl_latch (fun t l ht => paceLane_latch io l ht) (minority_latch _ ?_)))
  simp [h]

@[simp] theorem scanCaptures_latch : (scanCaptures s).keep.lockdown = s.keep.lockdown := by unfold scanCaptures; split <;> simp
@[simp] theorem execScanBoundary_latch (io) (h : s.keep.lockdown) : NextLatched (execScanBoundary io s) := by
  unfold execScanBoundary; split <;> simp [h]

/-! ### Evaluation, comparison and drive (chapters 8, 10) -/

@[simp] theorem evalEff_latch (io) (h : s.keep.lockdown) : (evalEff io s).keep.lockdown := by unfold evalEff; split <;> simp +contextual [h]
@[simp] theorem execEvalPhase_latch (io) (h : s.keep.lockdown) : NextLatched (execEvalPhase io s) := by unfold execEvalPhase; split <;> simp [h]
@[simp] theorem ringVote_latch (ex) : (ringVote ex s).1.keep.lockdown = s.keep.lockdown := by
  simp [ringVote]
@[simp] theorem ringMinority_latch (minor) (h : s.keep.lockdown) : (ringMinority minor s).keep.lockdown := by simp [ringMinority, h]
@[simp] theorem ringAgreeEff_latch (ex) (h : s.keep.lockdown) : (ringAgreeEff ex s).keep.lockdown := by
  unfold ringAgreeEff; dsimp only; split <;> simp [h]
@[simp] theorem execRingAgree_latch (ex) (h : s.keep.lockdown) : NextLatched (execRingAgree s ex) := by unfold execRingAgree; split <;> simp [h]
/-- RECUR stands beside the latch (R266). -/
@[simp] theorem knownAnswers_latch (io) (h : s.keep.lockdown) : (knownAnswers io s).keep.lockdown := by unfold knownAnswers; split <;> simp [h]
@[simp] theorem comparatorFault_latch : (comparatorFault s).keep.lockdown = s.keep.lockdown := by simp [comparatorFault]
@[simp] theorem checkWords_latch (x y) (h : s.keep.lockdown) : (checkWords x y s).keep.lockdown := by unfold checkWords; split <;> simp [h]
@[simp] theorem retireMinority_latch (w l) (h : s.keep.lockdown) : (retireMinority w l s).keep.lockdown := by simp [retireMinority, h]
@[simp] theorem blockReport_latch (e) (h : s.keep.lockdown) : (blockReport s e).keep.lockdown := by simp [blockReport, h]
@[simp] theorem countReactions_latch (im cmds) : (countReactions im cmds s).keep.lockdown = s.keep.lockdown := by
  unfold countReactions; split <;> simp
@[simp] theorem release_latch (a) (h : s.keep.lockdown) : (release a s).keep.lockdown := by unfold release; split <;> simp +contextual [h]
@[simp] theorem actVerdict_latch (h : s.keep.lockdown) : (actVerdict s).keep.lockdown := by unfold actVerdict; (repeat' split) <;> simp [h]
@[simp] theorem judgeJoin_latch (h : s.keep.lockdown) : (judgeJoin s).keep.lockdown := by unfold judgeJoin; split <;> simp [h]
@[simp] theorem upsetResults_latch (us') : (upsetResults us' s).keep.lockdown = s.keep.lockdown := by simp [upsetResults]
@[simp] theorem compareEff_latch (io) (h : s.keep.lockdown) : (compareEff io s).keep.lockdown :=
  judgeJoin_latch (actVerdict_latch (checkWords_latch _ _ (by simp [h])))
@[simp] theorem execComparePhase_latch (io) (h : s.keep.lockdown) : NextLatched (execComparePhase io s) := by
  unfold execComparePhase; split <;> simp [h]
@[simp] theorem overtaken_latch : (overtaken s).keep.lockdown = s.keep.lockdown := by simp [overtaken]
@[simp] theorem actHolds_latch : (actHolds s).keep.lockdown = s.keep.lockdown := by simp [actHolds]
@[simp] theorem actReset_latch : (actReset s).keep.lockdown = s.keep.lockdown := by unfold actReset; split <;> simp
@[simp] theorem testPhase_latch (cmds) : (testPhase cmds s).1.keep.lockdown = s.keep.lockdown :=
  foldl_latch_eq (fun t g => by split <;> rfl) _ _
@[simp] theorem sendDrives_latch : (sendDrives s).keep.lockdown = s.keep.lockdown := by simp [sendDrives]
@[simp] theorem driveLines_latch : (driveLines s).keep.lockdown = s.keep.lockdown := by simp [driveLines]
@[simp] theorem driveEff4_latch : (driveEff4 s).keep.lockdown = s.keep.lockdown := by simp [driveEff4]
@[simp] theorem execDrivePhase_latch (h : s.keep.lockdown) : NextLatched (execDrivePhase s) := by unfold execDrivePhase; split <;> simp [h]

end Sys2Proof.Machine
end

section
/-! SUPPORT. The Lockdown latch (R510) through power-up and Boot, the slot tick, and the writes and reads of the host. -/

namespace Sys2Proof.Machine

variable {s : State}

/-! ### Power-up and Boot (chapter 17) -/

@[simp] theorem execRef100Accept_latch (dev) (h : s.keep.lockdown) : NextLatched (execRef100Accept dev s) := by
  unfold execRef100Accept; split <;> simp [h]
@[simp] theorem execRef100Lost_latch (h : s.keep.lockdown) : NextLatched (execRef100Lost s) := by unfold execRef100Lost; split <;> simp [h]
@[simp] theorem seqEnd_latch : (seqEnd s).keep.lockdown = s.keep.lockdown := by simp [seqEnd]
@[simp] theorem seqEff_latch (inLimits) : (seqEff inLimits s).keep.lockdown = s.keep.lockdown := by simp [seqEff]
@[simp] theorem execPowerupSeqStep_latch (inLimits) (h : s.keep.lockdown) : NextLatched (execPowerupSeqStep inLimits s) := by
  unfold execPowerupSeqStep; split <;> simp [h]
@[simp] theorem execDomainLateOpen_latch (d) (h : s.keep.lockdown) : NextLatched (execDomainLateOpen d s) := by
  unfold execDomainLateOpen; split <;> simp [h]
@[simp] theorem execLaneGateReopen_latch (l) (h : s.keep.lockdown) : NextLatched (execLaneGateReopen l s) := by
  unfold execLaneGateReopen; split <;> simp [h]
@[simp] theorem aoOver_latch (h : s.keep.lockdown) : (aoOver s).keep.lockdown := by simp [aoOver, h]
@[simp] theorem gatesClosed_latch : (gatesClosed s).keep.lockdown = s.keep.lockdown := by simp [gatesClosed]
@[simp] theorem execTestModeRise_latch (h : s.keep.lockdown) : NextLatched (execTestModeRise s) := by unfold execTestModeRise; split <;> simp [h]
@[simp] theorem execRstNAssert_latch (h : s.keep.lockdown) : NextLatched (execRstNAssert s) := by unfold execRstNAssert; split <;> simp [h]
@[simp] theorem execRstNRelease_latch (ringId testMode) (h : s.keep.lockdown) : NextLatched (execRstNRelease ringId testMode s) := by
  unfold execRstNRelease; split <;> simp [h]

@[simp] theorem sliceTests_latch (fail) (h : s.keep.lockdown) : (sliceTests fail s).keep.lockdown := by
  refine foldl_latch (fun t p ht => ?_) (by simp [h])
  split
  · exact ht
  · dsimp only
    split
    · exact raise_latch _ _ (by simp [ht])
    · simp [ht]

@[simp] theorem laneTests_latch (fail) (h : s.keep.lockdown) : (laneTests fail s).keep.lockdown := by simp +contextual [laneTests, h]
@[simp] theorem loopbacks_latch (r) (h : s.keep.lockdown) : (loopbacks r s).keep.lockdown := by simp [loopbacks, h]
@[simp] theorem bootCal_latch (c r) (h : s.keep.lockdown) : (bootCal c r s).keep.lockdown := by unfold bootCal; split <;> simp [h]
@[simp] theorem bootCals_latch (r) (h : s.keep.lockdown) : (bootCals r s).keep.lockdown := by simp [bootCals, h]
/-- The state in which the self-tests decide how Boot goes on: the tests have run and raised what they found. -/
def selftested (r : SelfTests) (s : State) : State :=
  let r := testsRan r s
  let bits := (failedBlocks r).foldl (fun n e => n ||| 2 ^ e.1) 0
  let s := { s.w R.SYS_STEST_FAIL bits with
    lan := { s.lan with cmpX := s.dom 0 && !r.cmp.getLsbD 0, cmpY := s.dom 1 && !r.cmp.getLsbD 1 } }
  raiseAll (((failedBlocks r).filter (·.2)).map fun e => (S.SYS_STEST, 65536 * e.1))
    (bootCals r (loopbacks r (sliceTests r.slices (laneTests r.lanes s))))

theorem selftestEff_eq (r : SelfTests) (s : State) : selftestEff r s =
    if (selftested r s).keep.lockdown then setMode .lockdown { selftested r s with sys := { (selftested r s).sys with step := 3 } }
    else { selftested r s with sys := { (selftested r s).sys with step := 4 } } := rfl

theorem selftested_latch (r : SelfTests) (h : s.keep.lockdown) : (selftested r s).keep.lockdown :=
  raiseAll_latch _ (bootCals_latch _ (loopbacks_latch _ (by simp [h])))

@[simp] theorem selftestEff_latch (r : SelfTests) (h : s.keep.lockdown) : (selftestEff r s).keep.lockdown := by
  rw [selftestEff_eq, if_pos (selftested_latch r h)]
  exact (setMode_latch _).trans (selftested_latch r h)

@[simp] theorem execBootSelftestDone_latch (r) (h : s.keep.lockdown) : NextLatched (execBootSelftestDone r s) := by
  unfold execBootSelftestDone; split <;> simp [h]
@[simp] theorem bootRefuse_latch (c) (h : s.keep.lockdown) : (bootRefuse c s).keep.lockdown := by simp [bootRefuse, h]
@[simp] theorem readBank_latch (b raised r0 r1 r2) (h : s.keep.lockdown) : (readBank b raised r0 r1 r2 s).keep.lockdown := by simp [readBank, h]

@[simp] theorem bankEcc_latch (hits) (h : s.keep.lockdown) : (bankEcc hits s).keep.lockdown := by
  refine foldl_latch (fun t e ht => ?_) h
  dsimp only; split <;> simp [ht]

@[simp] theorem configReadEff_latch (hits r0 r1 r2) (h : s.keep.lockdown) : (configReadEff hits r0 r1 r2 s).keep.lockdown := by
  unfold configReadEff; dsimp only; split <;> simp [h]

@[simp] theorem execBootConfigReadDone_latch (hits0 hits1 seal0 seal1 seal2) (h : s.keep.lockdown) :
    NextLatched (execBootConfigReadDone hits0 hits1 seal0 seal1 seal2 s) := by
  unfold execBootConfigReadDone; split <;> simp [h]

@[simp] theorem loadDone_latch (m im) (h : s.keep.lockdown) : (loadDone m im s).keep.lockdown := by simp [loadDone, h]
@[simp] theorem loadEff_latch (b refuse) (h : s.keep.lockdown) : (loadEff b refuse s).keep.lockdown := by simp +contextual [loadEff, h]
@[simp] theorem execBootLoadDone_latch (refuse) (h : s.keep.lockdown) : NextLatched (execBootLoadDone refuse s) := by
  unfold execBootLoadDone; split <;> simp [h]

/-! ### Slot tick and launch (chapters 1, 2) -/

@[simp] theorem flushSlice_latch (k p) (h : s.keep.lockdown) : (flushSlice k s p).keep.lockdown := by simp +contextual [flushSlice, h]
@[simp] theorem drainReport_latch (io p row cw) (h : s.keep.lockdown) : (drainReport io p row s cw).keep.lockdown := by
  unfold drainReport; split <;> simp [h]
@[simp] theorem drainSlice_latch (io row c0 p) (h : s.keep.lockdown) : (drainSlice io row c0 s p).keep.lockdown := by
  unfold drainSlice; split <;> simp [h]
@[simp] theorem drainAll_latch (io row) (h : s.keep.lockdown) : (drainAll io row s).keep.lockdown := by simp +contextual [drainAll, h]
@[simp] theorem slotLength_latch (k len) : (slotLength k len s).keep.lockdown = s.keep.lockdown := by simp [slotLength]
@[simp] theorem commitTick_latch (k) (h : s.keep.lockdown) : (commitTick k s).keep.lockdown := by simp [commitTick, h]
@[simp] theorem takeover_latch (k before) (h : s.keep.lockdown) : (takeover k before s).keep.lockdown := by unfold takeover; split <;> simp [h]
@[simp] theorem tickTimers_latch : (tickTimers s).keep.lockdown = s.keep.lockdown := by simp [tickTimers]
@[simp] theorem drainPeak_latch (io) : (drainPeak io s).keep.lockdown = s.keep.lockdown := by simp [drainPeak]

/-- The tick in its order: booked writes, commit, new length, queued writes, drain, take-over. -/
@[simp] theorem slotTickEff_latch (io) (h : s.keep.lockdown) : (slotTickEff io s).keep.lockdown := by
  unfold slotTickEff
  extract_lets k t len u v slot w x mig
  have ht : t.keep.lockdown = true := bookedUpTo_latch _ (by simp [h])
  have hu : u.keep.lockdown = true := commitTick_latch _ ht
  have hv : v.keep.lockdown = true := by cases hl : t.slot.newLen k <;> simp [v, len, hl, hu]
  have hw : w.keep.lockdown = true := by simp [w, hv]
  have hx : x.keep.lockdown = true := by simp +contextual [x, hw]
  simp [drainAll_latch _ _ hx]
@[simp] theorem execSlotTick_latch (io) (h : s.keep.lockdown) : NextLatched (execSlotTick io s) := by unfold execSlotTick; split <;> simp [h]

@[simp] theorem overruns_latch (late) (h : s.keep.lockdown) : (overruns late s).keep.lockdown := by
  refine foldl_latch (fun t n ht => ?_) h
  dsimp only
  generalize t.cis.physOf n = o
  cases o with
  | none => simp [ht]
  | some p =>
    dsimp only
    split
    · exact failSlice_latch _ (raise_latch _ _ (by simp [ht]))
    · simp [ht]

@[simp] theorem fireLaunchEff_latch (late) (h : s.keep.lockdown) : (fireLaunchEff late s).keep.lockdown := by simp [fireLaunchEff, h]
@[simp] theorem execFireLaunch_latch (late) (h : s.keep.lockdown) : NextLatched (execFireLaunch late s) := by
  unfold execFireLaunch; split <;> simp [h]

/-! ### Configuration space (chapter 3) -/

@[simp] theorem headerWrite_latch (o val) : (headerWrite o val s).keep.lockdown = s.keep.lockdown := by simp [headerWrite]
@[simp] theorem pmWrite_latch (val) : (pmWrite val s).keep.lockdown = s.keep.lockdown := by unfold pmWrite; split <;> simp
@[simp] theorem pcieWrite_latch (k val) : (pcieWrite k val s).keep.lockdown = s.keep.lockdown := by unfold pcieWrite; split <;> simp
@[simp] theorem aerWrite_latch (k val) : (aerWrite k val s).keep.lockdown = s.keep.lockdown := by unfold aerWrite; split <;> simp
@[simp] theorem configWrite_latch (o val) : (configWrite o val s).keep.lockdown = s.keep.lockdown := by
  unfold configWrite; (repeat' split) <;> simp
@[simp] theorem bar2Write_latch (o val) (h : s.keep.lockdown) : (bar2Write o val s).keep.lockdown := by
  unfold bar2Write; (repeat' split) <;> simp [h]

/-! ### Register accesses (R12-R16, R513) -/

@[simp] theorem clearFirst_latch (blk) : (clearFirst blk s).keep.lockdown = s.keep.lockdown := by simp [clearFirst]

theorem faultWrite_latch {off val} {t : State} (h : s.keep.lockdown) (ht : faultWrite off val s = some t) :
    t.keep.lockdown := by
  unfold faultWrite at ht
  dsimp only at ht
  split at ht
  · exact absurd ht nofun
  · split at ht <;> cases ht <;> simp [h]

@[simp] theorem tableWrite_latch (o val) : (tableWrite o val s).keep.lockdown = s.keep.lockdown := by simp [tableWrite]
@[simp] theorem writeSys_latch (off val) (h : s.keep.lockdown) : (writeSys off val s).keep.lockdown := by unfold writeSys; split <;> simp [h]

@[simp] theorem writeHif_latch (off val) (h : s.keep.lockdown) : (writeHif off val s).keep.lockdown := by
  unfold writeHif
  dsimp only
  (repeat' split) <;> simp [h]

@[simp] theorem writeTmr_latch (off val) (h : s.keep.lockdown) : (writeTmr off val s).keep.lockdown := by
  unfold writeTmr
  dsimp only
  (repeat' split) <;> simp +contextual [h]

@[simp] theorem writeCrc_latch (off val) (h : s.keep.lockdown) : (writeCrc off val s).keep.lockdown := by
  unfold writeCrc
  dsimp only
  (repeat' split) <;> simp [h]

@[simp] theorem writeCfg_latch (off val) (h : s.keep.lockdown) : (writeCfg off val s).keep.lockdown := by
  unfold writeCfg; (repeat' split) <;> simp [h]
@[simp] theorem writeBlock_latch (off val) (h : s.keep.lockdown) : (writeBlock off val s).keep.lockdown := by
  unfold writeBlock; split <;> simp [h]

@[simp] theorem writeEff_latch (off val) (h : s.keep.lockdown) : (writeEff off val s).keep.lockdown := by
  unfold writeEff
  cases hf : faultWrite off val s with
  | none => simp [h]
  | some t => exact faultWrite_latch h hf

@[simp] theorem lockdownWrite_latch (off val) (h : s.keep.lockdown) : (lockdownWrite off val s).keep.lockdown := by
  unfold lockdownWrite; split <;> simp [h]
@[simp] theorem registerWriteEff_latch (off val) (h : s.keep.lockdown) : (registerWriteEff off val s).keep.lockdown := by
  simp +contextual [registerWriteEff, h]
@[simp] theorem execRegisterWrite_latch (off val space) (h : s.keep.lockdown) : NextLatched (execRegisterWrite off val s space) := by
  unfold execRegisterWrite; split <;> simp +contextual [h]
@[simp] theorem readOut_latch (be w) : (readOut be w s).keep.lockdown = s.keep.lockdown := by simp [readOut]
@[simp] theorem registerReadEff_latch (off be event) : (registerReadEff off be event s).keep.lockdown = s.keep.lockdown := by
  simp [registerReadEff]
@[simp] theorem execRegisterRcRead_latch (off be event space) (h : s.keep.lockdown) : NextLatched (execRegisterRcRead off be event s space) := by
  unfold execRegisterRcRead; split <;> simp [h]

/-! ### JTAG port (R585) -/

@[simp] theorem tapRise_latch (io) : (tapRise io s).keep.lockdown = s.keep.lockdown := by simp [tapRise]
@[simp] theorem tapFall_latch : (tapFall s).keep.lockdown = s.keep.lockdown := by simp [tapFall]
@[simp] theorem execJtagTapClock_latch (io) (h : s.keep.lockdown) : NextLatched (execJtagTapClock io s) := by
  unfold execJtagTapClock; split <;> simp [h]

end Sys2Proof.Machine
end

section
/-! SUPPORT. The latch over every command, a raising at S4, and the self-tests of a Boot with the latch set (R510, R521; log entry
56). -/

namespace Sys2Proof.Machine

/-! ### The raising (R501, R510) -/

theorem Raising.settle_severity (r : Raising) (s : State) : r.settle.severity s = r.severity s := by
  simp [Raising.severity, r.settle_src]

/-- A raising whose severity in force is S4 sets the latch, where the block of its source is up. -/
theorem raiseOne_sets_latch {r : Raising} {s : State} (hup : s.blockUp r.src.blk.toNat = true) (hsev : r.severity s = 4) :
    (raiseOne r s).keep.lockdown := by
  simp [raiseOne, raiseRec, r.settle_src, r.settle_severity, hup, hsev]

theorem raiseWith_sets_latch {r : Raising} {s : State} (hup : s.blockUp r.src.blk.toNat = true) (hsev : r.severity s = 4) :
    (raiseWith r s).keep.lockdown := by
  unfold raiseWith; dsimp only; split <;> simp [raiseOne_sets_latch hup hsev]

/-! ### The self-tests of a Boot (R521) -/

/-- What R38, R414 and R438 look at while the device is in Boot: the mode, the gates, the wiring and the lock of the ring, and the
register of OSR_ID. -/
def bootView (s : State) : Mode × BitVec 9 × Bool × BitVec 3 × Bool × Option Word :=
  (s.sys.mode, s.pwr.on, s.osr.wiringBad, s.osr.ringId, s.osr.lock, mget s.regs 0x70000)

theorem mode_of_bootView {s t : State} (h : bootView t = bootView s) : t.sys.mode = s.sys.mode := congrArg Prod.fst h

theorem bootHeld_of_bootView {s t : State} (h : bootView t = bootView s) : bootHeld t = bootHeld s := by
  simp only [bootView, Prod.mk.injEq] at h
  obtain ⟨hmode, hon, hwiring, hid, hlock, hreg⟩ := h
  simp [bootHeld, State.ndev, State.ringId, State.r, rget, mread, RegField.off, R.OSR_ID_NDEV, hmode, hon, hwiring, hid, hlock, hreg]

theorem bootView_w {f : RegField} {i j : Nat} (h : 0x70000 ≠ f.off i j) (s : State) (v : Nat) : bootView (s.w f v i j) = bootView s := by
  simp [bootView, mget_rput_ne _ _ _ _ _ _ h]

theorem bootView_add {f : RegField} {i j : Nat} (h : 0x70000 ≠ f.off i j) (s : State) (n : Nat) :
    bootView (s.add f n i j) = bootView s := bootView_w h s _

theorem foldl_bootView {α : Type} {g : State → α → State} (hg : ∀ s a, bootView (g s a) = bootView s) (l : List α) (s : State) :
    bootView (l.foldl g s) = bootView s := by
  induction l generalizing s with
  | nil => rfl
  | cons a l ih => exact (ih _).trans (hg s a)

@[simp] theorem raise_bootView (c : Src) (d : Nat) (s : State) : bootView (raise c d s) = bootView s := by
  have hreg : raiseLeaves 0x70000 := by simp [raiseLeaves]
  simp [bootView, raise_regs_leaves c d s hreg]

@[simp] theorem raiseAll_bootView (l : List (Src × Nat)) (s : State) : bootView (raiseAll l s) = bootView s := by
  have hreg : raiseLeaves 0x70000 := by simp [raiseLeaves]
  simp [bootView, raiseAll_regs_leaves l s hreg]

@[simp] theorem State.stat_bootView (s : State) (k i n : Nat) : bootView (s.stat k i n) = bootView s := by
  simp only [bootView, State.stat]

@[simp] theorem State.lane_bootView (s : State) (l : Fin 3) (f : Lane → Lane) : bootView (s.lane l f) = bootView s := by
  simp only [bootView, State.lane]

@[simp] theorem State.withConv_bootView (s : State) (c : Fin 2) (f : Conv → Conv) : bootView (s.withConv c f) = bootView s := by
  simp only [bootView, State.withConv]

@[simp] theorem laneQuiet_bootView (l : Fin 3) (s : State) : bootView (laneQuiet l s) = bootView s := by
  simp only [bootView, laneQuiet, State.lane]

@[simp] theorem retire_bootView (l : Fin 3) (cause : Nat) (s : State) : bootView (retire l cause s) = bootView s := by
  have hreg : 0x70000 ≠ R.LAN_RETIRE_CAUSE.off l 0 := by simp [RegField.off, R.LAN_RETIRE_CAUSE]; omega
  simp [retire, bootView_w hreg]

theorem laneTests_bootView (fail : BitVec 3) (s : State) : bootView (laneTests fail s) = bootView s := by
  unfold laneTests
  exact foldl_bootView (fun t l => by simp) _ s

@[simp] theorem failSlice_bootView (p : Fin 17) (s : State) : bootView (failSlice p s) = bootView s := by
  have hreg : 0x70000 ≠ R.CIS_DARK_CNT_CNT.off 0 0 := by simp [RegField.off, R.CIS_DARK_CNT_CNT]
  have hdark : ∀ n t, bootView (countDark n t) = bootView t := fun n t => by
    unfold countDark; split <;> simp [bootView_add hreg]
  unfold failSlice
  split
  · rfl
  · simp only [raiseAll_bootView, hdark]; simp only [bootView]

theorem sliceTests_bootView (fail : BitVec 17) (s : State) : bootView (sliceTests fail s) = bootView s := by
  simp only [sliceTests]
  refine (foldl_bootView (fun t p => ?_) _ _).trans ?_
  · split
    · rfl
    · split
      · rw [raise_bootView, State.stat_bootView]
        exact (failSlice_bootView p _).trans (raise_bootView _ _ t)
      · simp
  · split <;> simp only [bootView]

theorem loopbacks_bootView (r : SelfTests) (s : State) : bootView (loopbacks r s) = bootView s := by
  simp only [loopbacks, raiseAll_bootView]; simp only [bootView]

@[simp] theorem adcRoll_bootView (c : Fin 2) (s : State) : bootView (adcRoll c s) = bootView s := State.withConv_bootView _ _ _

@[simp] theorem adcHalt_bootView (c : Fin 2) (s : State) : bootView (adcHalt c s) = bootView s := by
  simp only [adcHalt, raise_bootView]; simp only [bootView, adcRoll, State.withConv]

theorem calResult_bootView (c : Fin 2) (offset gain : Int) (s : State) : bootView (calResult c offset gain s) = bootView s := by
  have hcoef : ∀ f : RegField, f = R.ADC_CAL_COEF_OFFSET ∨ f = R.ADC_CAL_COEF_GAIN → 0x70000 ≠ f.off c 0 := by
    rintro f (rfl | rfl) <;> simp [RegField.off, R.ADC_CAL_COEF_OFFSET, R.ADC_CAL_COEF_GAIN] <;> omega
  have hdone : 0x70000 ≠ (if c = 0 then R.ADC_CAL_CNT_P_DONE else R.ADC_CAL_CNT_Q_DONE).off 0 0 := by split <;> decide
  have hfail : 0x70000 ≠ (if c = 0 then R.ADC_CAL_CNT_P_FAIL else R.ADC_CAL_CNT_Q_FAIL).off 0 0 := by split <;> decide
  unfold calResult
  dsimp only
  split
  · simp only [bootView_add hdone, bootView_w (hcoef _ (.inr rfl)), bootView_w (hcoef _ (.inl rfl)), State.withConv_bootView,
      adcRoll_bootView]
  · split <;> simp only [adcHalt_bootView, raise_bootView, bootView_add hfail, State.withConv_bootView, adcRoll_bootView]

theorem bootCal_bootView (c : Fin 2) (r : CalResult) (s : State) : bootView (bootCal c r s) = bootView s := by
  unfold bootCal; split
  · exact calResult_bootView _ _ _ s
  · rfl

theorem selftested_bootView (r : SelfTests) (s : State) : bootView (selftested r s) = bootView s := by
  simp only [selftested, raiseAll_bootView, bootCals, bootCal_bootView, loopbacks_bootView, sliceTests_bootView, laneTests_bootView]
  exact bootView_w (f := R.SYS_STEST_FAIL) (i := 0) (j := 0) (by decide) s _

theorem slotStart_sys (s : State) : (slotStart s).sys = s.sys := by
  unfold slotStart; (repeat' split) <;> rfl

/-- A Boot that the latch ends: into Lockdown, or, while R38, R414 or R438 holds it, as soon as nothing does (log entry 56). -/
theorem setMode_lockdown_of_boot {s : State} (hboot : s.sys.mode = .boot) :
    (bootHeld s = false → (setMode .lockdown s).sys.mode = .lockdown)
    ∧ (bootHeld s = true → (setMode .lockdown s).sys.mode = .boot ∧ (setMode .lockdown s).sys.leave = some .lockdown) := by
  have hleave : leaveMode s.sys.leave .lockdown = .lockdown := by unfold leaveMode; split <;> rfl
  constructor <;> intro hheld
  · simp [setMode, hboot, hheld, bootExit, slotStart_sys]
  · simp [setMode, hboot, hheld, hleave]

/-! ### Every command -/

theorem execPowerUp_latch {rstN testMode : Bool} {ringId : BitVec 3} {fsHigh : BitVec 2} {s : State} (hao : s.pwr.aoOk = true)
    (h : s.keep.lockdown) : NextLatched (execPowerUp rstN testMode ringId fsHigh s) := by
  simp [execPowerUp, hao, h]

theorem execDomainTrip_latch {d : Fin 10} {high : Bool} {s : State} (hfall : Instr.domainTrip d high ≠ .domainTrip 9 false)
    (h : s.keep.lockdown) : NextLatched (execDomainTrip d high s) := by
  rw [execDomainTrip, nextLatched_next]
  by_cases hd : d = 9
  · subst hd
    cases high
    · exact absurd rfl hfall
    · simp [h]
  · have hd' : d.val ≠ 9 := fun hv => hd (Fin.ext hv)
    simp [hd', h]

/-- No command but the fall of VDD_AO clears the latch: a POWER_UP meets VDD_AO within its limits and is none, and a trip of VDD_AO
clears the latch only where it is low. -/
theorem exec_latch {c : Instr} {s : State} (hao : s.pwr.aoOk = true) (h : s.keep.lockdown) (hloss : c ≠ .vddAoLoss)
    (hfall : c ≠ .domainTrip 9 false) : NextLatched (exec c s) := by
  cases c with
  | vddAoLoss => exact absurd rfl hloss
  | powerUp rstN testMode ringId fsHigh => exact execPowerUp_latch hao h
  | domainTrip d high => exact execDomainTrip_latch hfall h
  | _ => simp [exec, h]

theorem exec_vddAoLoss_latch {s : State} (hao : s.pwr.aoOk = true) :
    ∃ t, exec .vddAoLoss s = .next t ∧ t.keep.lockdown = false :=
  ⟨aoDown (s.order 1), by simp [exec, execVddAoLoss, hao], rfl⟩

theorem exec_bootSelftestDone {s : State} (hboot : s.sys.mode = .boot) (hstep : s.sys.step = 2) (hwait : s.pwr.waiting = 0)
    (r : SelfTests) : exec (.bootSelftestDone r) s = .next (selftestEff r s) := by
  simp [exec, execBootSelftestDone, hboot, hstep, hwait]

theorem selftestEff_of_latch (r : SelfTests) {s : State} (h : s.keep.lockdown) (hboot : s.sys.mode = .boot) :
    (bootHeld s = false → (selftestEff r s).sys.mode = .lockdown)
    ∧ (bootHeld s = true → (selftestEff r s).sys.mode = .boot ∧ (selftestEff r s).sys.leave = some .lockdown) := by
  have hview := selftested_bootView r s
  have hmode : (selftested r s).sys.mode = .boot := (mode_of_bootView hview).trans hboot
  have hend := setMode_lockdown_of_boot (s := { selftested r s with sys := { (selftested r s).sys with step := 3 } }) hmode
  rw [selftestEff_eq, if_pos (selftested_latch r h), ← bootHeld_of_bootView hview]
  exact hend

/-- Settles O59: the raising writes the latch at S4; `exec_latch` is the frame of every command but the fall of VDD_AO; the self-tests
leave what holds a Boot as it was, so `setMode` ends it in Lockdown or remembers that it will. -/
theorem lockdownLatch : Obligations.LockdownLatch := by
  unfold Obligations.LockdownLatch
  refine ⟨fun r s hup hsev => raiseWith_sets_latch hup hsev,
    fun c s t hao h hloss hfall ht => exec_latch hao h hloss hfall t ht,
    fun s hao => exec_vddAoLoss_latch hao,
    fun r s h hboot hstep hwait => ?_⟩
  exact ⟨selftestEff r s, exec_bootSelftestDone hboot hstep hwait r, selftestEff_latch r h, selftestEff_of_latch r h hboot⟩

end Sys2Proof.Machine
end

section
/-! SUPPORT. What every command keeps of the queue of waiting commands, of the timebase (R465), of the cells of the cistern (R53) and of the
nonvolatile contents (R532, R561). A `Track` names what is followed of these four parts, and one lemma `…_holds` per operation of the model
says that it goes on holding: an operation that touches none of the four parts leaves it as it is (`↔`), one at which time passes needs
that it holds of later instants too (`Track.Rises`), one that writes the nonvolatile contents that it holds of every store in canonical
form (`Track.Stores`). Tagged for `simp`, they compose as the operations do.

Here: what is followed, the shared operations, the raisings, the host accesses, the converters and the check-value units. -/

namespace Sys2Proof.Machine

/-- What is followed along a command: a property of the nonvolatile contents, of the timebase and of the cells, and the queue of waiting
commands. The property of the cells is one that every write, every clearing and every reset of the cells keeps. -/
structure Track where
  nv : Nv → Prop
  tb : Nat → Prop
  cells : Map (BitVec 4) → Prop
  queue : List Instr
  cells_nil : cells []
  cells_mput : ∀ m k v, cells m → cells (mput 0 m k v)
  cells_filter : ∀ m p, cells m → cells (m.filter p)

/-- What is followed holds of the parts of a state that it speaks of. -/
def Track.HoldsOf (K : Track) (nv : Nv) (tb : Nat) (cells : Map (BitVec 4)) (queue : List Instr) : Prop :=
  K.nv nv ∧ K.tb tb ∧ K.cells cells ∧ queue = K.queue

/-- What is followed holds in a state. -/
def Track.Holds (K : Track) (s : State) : Prop := K.HoldsOf s.nv s.tb s.cis.cells s.pending

/-- The command answers a next state, in which what is followed holds. -/
def Track.Answers (K : Track) (o : Host.Outcome State Fault Refusal) : Prop := ∃ t, o = .next t ∧ K.Holds t

/-- What is followed of the timebase goes on holding as the timebase advances. -/
def Track.Rises (K : Track) : Prop := ∀ a b, a ≤ b → K.tb a → K.tb b

variable {K : Track} {s : State}

@[simp] theorem Track.answers_next (t : State) : K.Answers (.next t) ↔ K.Holds t := by simp [Track.Answers]

@[simp] theorem Track.holds_ite (c : Prop) [Decidable c] (a b : State) :
    K.Holds (if c then a else b) ↔ if c then K.Holds a else K.Holds b := by split <;> rfl

/-- A state that differs in no part that is followed. -/
@[simp] theorem Track.holdsOf_fields (s : State) : K.HoldsOf s.nv s.tb s.cis.cells s.pending ↔ K.Holds s := Iff.rfl

@[simp] theorem Track.holds_mk (tb pwr keep nv slot cis dsc tkt rings evs hif vpt lan fld net osr adc tmr crc sys cfg smp jtag regs shadow tx
    pending edge free) :
    K.Holds (State.mk tb pwr keep nv slot cis dsc tkt rings evs hif vpt lan fld net osr adc tmr crc sys cfg smp jtag regs shadow tx
      pending edge free) ↔ K.HoldsOf nv tb cis.cells pending := Iff.rfl

/-- A fold keeps what its every step keeps. -/
@[simp] theorem foldl_holds {α : Type} {g : State → α → State} (hg : ∀ s a, K.Holds s → K.Holds (g s a))
    {l : List α} {s : State} (h : K.Holds s) : K.Holds (l.foldl g s) := by
  induction l generalizing s with
  | nil => exact h
  | cons a l ih => exact ih (hg s a h)

/-- A fold leaves what is followed as it is where its every step does. -/
@[simp] theorem foldl_holds_iff {α : Type} {g : State → α → State} (hg : ∀ s a, K.Holds (g s a) ↔ K.Holds s)
    {l : List α} {s : State} : K.Holds (l.foldl g s) ↔ K.Holds s := by
  induction l generalizing s with
  | nil => rfl
  | cons a l ih => exact ih.trans (hg s a)

theorem Track.Holds.tb_le (hr : K.Rises) {s t : State} (h : K.Holds s) (hle : s.tb ≤ t.tb)
    (hn : t.nv = s.nv) (hc : t.cis.cells = s.cis.cells) (hq : t.pending = s.pending) : K.Holds t := by
  obtain ⟨h1, h2, h3, h4⟩ := h
  exact ⟨hn ▸ h1, hr _ _ hle h2, hc ▸ h3, hq ▸ h4⟩

/-! ### Cells and nonvolatile contents -/

theorem Track.HoldsOf.of_cells {nv tb c d q} (h : K.HoldsOf nv tb c q) (hc : K.cells c → K.cells d) : K.HoldsOf nv tb d q :=
  ⟨h.1, h.2.1, hc h.2.2.1, h.2.2.2⟩

/-- The two banks of the configuration store are in canonical form. -/
def Nv.wf (n : Nv) : Prop := mwf (fun _ => 0xFF) n.bank0 = true ∧ mwf (fun _ => 0xFF) n.bank1 = true

/-- What is followed of the nonvolatile contents goes on holding as long as the banks stay in canonical form. -/
def Track.Stores (K : Track) : Prop := ∀ a b : Nv, (a.wf → b.wf) → K.nv a → K.nv b

/-- Nothing is followed of the timebase. -/
def Track.Free (K : Track) : Prop := ∀ n, K.tb n

theorem Track.HoldsOf.of_nv {nv tb c q n} (h : K.HoldsOf nv tb c q) (hs : K.Stores) (hn : nv.wf → n.wf) : K.HoldsOf n tb c q :=
  ⟨hs _ _ hn h.1, h.2⟩

theorem Track.HoldsOf.of_tb {nv tb c q n} (h : K.HoldsOf nv tb c q) (ht : K.tb tb → K.tb n) : K.HoldsOf nv n c q :=
  ⟨h.1, ht h.2.1, h.2.2⟩

theorem Nv.wf.bank {n : Nv} (h : n.wf) (b : Fin 2) : mwf (fun _ => 0xFF) (n.bank b) = true := by
  unfold Nv.bank; split
  · exact h.1
  · exact h.2

theorem Nv.wf.setBank {n : Nv} (h : n.wf) (b : Fin 2) {m : Map Byte} (hm : mwf (fun _ => 0xFF) m = true) : (n.setBank b m).wf := by
  unfold Nv.setBank; split
  · exact ⟨hm, h.2⟩
  · exact ⟨h.1, hm⟩

theorem foldl_mput_wf {α β : Type} [DecidableEq β] {d : Nat → β} (key : α → Nat) (val : α → β) (l : List α) {m : Map β} (h : mwf d m = true) :
    mwf d (l.foldl (fun m a => mput (d (key a)) m (key a) (val a)) m) = true := by
  induction l generalizing m with
  | nil => exact h
  | cons a l ih => exact ih (mput_wf d m _ _ h)

theorem programPage_wf {m : Map Byte} (h : mwf (fun _ => 0xFF) m = true) (regs page) : mwf (fun _ => 0xFF) (programPage m regs page) = true :=
  foldl_mput_wf _ _ _ h

theorem bankPut_wf {m : Map Byte} (h : mwf (fun _ => 0xFF) m = true) (o l) : mwf (fun _ => 0xFF) (bankPut m o l) = true :=
  foldl_mput_wf _ _ _ h

theorem stepCells_cells {op p row cw cols} {m : Map (BitVec 4)} (h : K.cells m) : K.cells (stepCells op p row cw cols m).1 := by
  unfold stepCells
  suffices ∀ (l : List Nat) (acc : Map (BitVec 4) × List Nat × List Nat), K.cells acc.1 → K.cells (l.foldl _ acc).1 from this _ _ h
  intro l
  induction l with
  | nil => exact fun _ h => h
  | cons a l ih => exact fun acc h => ih _ (K.cells_mput _ _ _ h)

theorem clearSlice_cells {p} {m : Map (BitVec 4)} (h : K.cells m) : K.cells (clearSlice p m) := K.cells_filter _ _ h
theorem clearRow_cells {p row} {m : Map (BitVec 4)} (h : K.cells m) : K.cells (clearRow p row m) := K.cells_filter _ _ h
theorem dropSlices_cells {mine} {c : Cis} (h : K.cells c.cells) : K.cells (dropSlices mine c).cells := K.cells_filter _ _ h

@[simp] theorem failCis_cells (c p) : (failCis c p).cells = c.cells := (failCis_onlySlices c p).cells

/-! ### State updates -/

@[simp] theorem idleTick_holds (hr : K.Rises) (h : K.Holds s) : K.Holds (idleTick s) := h.tb_le hr (idleTick_le_tb s) rfl rfl rfl
@[simp] theorem State.at_holds (hr : K.Rises) (due) (h : K.Holds s) : K.Holds (s.at due) := h.tb_le hr (State.le_at_tb s due) rfl rfl rfl
@[simp] theorem State.past_holds (hr : K.Rises) (last) (h : K.Holds s) : K.Holds (s.past last) := State.at_holds hr _ h
@[simp] theorem State.order_holds (hr : K.Rises) (n) (h : K.Holds s) : K.Holds (s.order n) := h.tb_le hr (State.le_order_tb s n) rfl rfl rfl
@[simp] theorem State.order_at_holdsOf (s : State) (n due) :
    K.HoldsOf s.nv ((s.at due).order n).tb s.cis.cells s.pending ↔ K.Holds ((s.at due).order n) := Iff.rfl

/-- A happening of R600 that the present edge has not passed leaves the timebase as it is. -/
theorem State.order_holds_of_edge {n : Nat} (he : s.edge ≤ n) (h : K.Holds s) : K.Holds (s.order n) := by
  have hb : (s.order n).tb = s.tb := if_neg (Nat.not_lt.2 he)
  exact Track.HoldsOf.of_tb h fun ht => hb ▸ ht

@[simp] theorem State.at_holdsOf (s : State) (due) : K.HoldsOf s.nv (s.at due).tb s.cis.cells s.pending ↔ K.Holds (s.at due) := Iff.rfl
@[simp] theorem State.past_holdsOf (s : State) (last) : K.HoldsOf s.nv (s.past last).tb s.cis.cells s.pending ↔ K.Holds (s.past last) := Iff.rfl
@[simp] theorem State.order_holdsOf (s : State) (n) : K.HoldsOf s.nv (s.order n).tb s.cis.cells s.pending ↔ K.Holds (s.order n) := Iff.rfl
@[simp] theorem State.w_holds (f v i j) : K.Holds (s.w f v i j) ↔ K.Holds s := Iff.rfl
@[simp] theorem State.add_holds (f n i j) : K.Holds (s.add f n i j) ↔ K.Holds s := Iff.rfl
@[simp] theorem State.took_holds (n) : K.Holds (s.took n) ↔ K.Holds s := Iff.rfl
@[simp] theorem State.send_holds (l) : K.Holds (s.send l) ↔ K.Holds s := Iff.rfl
@[simp] theorem State.stat_holds (k i n) : K.Holds (s.stat k i n) ↔ K.Holds s := Iff.rfl
@[simp] theorem State.msi_holds (v) : K.Holds (s.msi v) ↔ K.Holds s := Iff.rfl
@[simp] theorem State.nmt_holds : K.Holds s.nmt ↔ K.Holds s := Iff.rfl

/-! ### Shared operations -/

@[simp] theorem ringCount_holds (n now) : K.Holds (ringCount s n now) ↔ K.Holds s := by simp [ringCount]

/-! ### Raisings (chapter 16) -/

@[simp] theorem raiseRec_holds (r) : K.Holds (raiseRec r s) ↔ K.Holds s := by simp [raiseRec]
@[simp] theorem raiseOne_holds (r) : K.Holds (raiseOne r s) ↔ K.Holds s := by simp [raiseOne]
@[simp] theorem raiseWith_holds (r) : K.Holds (raiseWith r s) ↔ K.Holds s := by
    unfold raiseWith; dsimp only; split <;> simp
@[simp] theorem raise_holds (c detail) : K.Holds (raise c detail s) ↔ K.Holds s := by simp [raise]
@[simp] theorem raiseIf_holds (b c detail) : K.Holds (raiseIf b c detail s) ↔ K.Holds s := by unfold raiseIf; split <;> simp
@[simp] theorem raiseAll_holds (l) : K.Holds (raiseAll l s) ↔ K.Holds s := by simp [raiseAll]
@[simp] theorem raiseAccess_holds (blk write addr) : K.Holds (raiseAccess blk write addr s) ↔ K.Holds s := by
  simp [raiseAccess]

/-! ### Host accesses (R13, R105, R513) -/

@[simp] theorem aerRecord_holds (bit) : K.Holds (aerRecord bit s) ↔ K.Holds s := by simp [aerRecord]
@[simp] theorem answerUr_holds : K.Holds (answerUr s) ↔ K.Holds s := by simp [answerUr]
@[simp] theorem readRefused_holds (hr : K.Rises) (h : K.Holds s) : K.Holds (readRefused s) := by unfold readRefused; split <;> simp [hr, h]

/-- A host write keeps what is followed where its effect does; the effect comes at the order 6 of R600. -/
theorem hostWr_holds_of_order (off : Nat) {eff : State → State} (heff : ∀ t, t.edge = 6 → K.Holds t → K.Holds (eff t)) (h : K.Holds s)
    (ho : K.Holds (s.order 6)) : K.Holds (hostWr off eff s) := by
  obtain e | e | e | e := hostWr_cases off eff s <;> rw [e]
  · exact h
  · simpa using ho
  · exact heff _ (by simp) (by simpa using ho)
  · exact heff _ rfl ho

@[simp] theorem hostWr_holds (hr : K.Rises) (off : Nat) {eff : State → State} (heff : ∀ t, K.Holds t → K.Holds (eff t)) (h : K.Holds s) :
    K.Holds (hostWr off eff s) :=
  hostWr_holds_of_order off (fun t _ ht => heff t ht) h (State.order_holds hr 6 h)
@[simp] theorem fieldWrite_holds (off val) : K.Holds (fieldWrite off val s) ↔ K.Holds s := by
  unfold fieldWrite; split <;> simp

/-! ### Converters (chapter 14) -/

@[simp] theorem State.withConv_holds (c f) : K.Holds (State.withConv s c f) ↔ K.Holds s := by simp [State.withConv]
@[simp] theorem adcRoll_holds (c) : K.Holds (adcRoll c s) ↔ K.Holds s := by simp [adcRoll]
@[simp] theorem adcSync_holds : K.Holds (adcSync s) ↔ K.Holds s := by unfold adcSync; split <;> simp
@[simp] theorem adcIgnore_holds (c) : K.Holds (adcIgnore c s) ↔ K.Holds s := by simp [adcIgnore]
@[simp] theorem injTrigger_holds (c) : K.Holds (injTrigger c s) ↔ K.Holds s := by simp [injTrigger]
@[simp] theorem regTrigger_holds (c) : K.Holds (regTrigger c s) ↔ K.Holds s := by simp [regTrigger]
@[simp] theorem calRequest_holds (c) : K.Holds (calRequest c s) ↔ K.Holds s := by simp [calRequest]
@[simp] theorem adcHalt_holds (c) : K.Holds (adcHalt c s) ↔ K.Holds s := by simp [adcHalt]
@[simp] theorem calResult_holds (c offset gain) : K.Holds (calResult c offset gain s) ↔ K.Holds s := by simp [calResult]
@[simp] theorem adcResultEff_holds (hr : K.Rises) (c x) (h : K.Holds s) : K.Holds (adcResultEff c x s) := by
  unfold adcResultEff; dsimp only; split <;> simp [hr, h]

@[simp] theorem whenAn_holds {eff : State → State} (heff : ∀ t, K.Holds t → K.Holds (eff t)) (h : K.Holds s) :
    K.Answers (whenAn eff s) := by
  simp [whenAn, heff, h]

@[simp] theorem execAdcResult_holds (hr : K.Rises) (c v) (h : K.Holds s) : K.Answers (execAdcResult c v s) :=
  whenAn_holds (fun t ht => by simp [hr, ht]) h
@[simp] theorem execAdcRegTrigger_holds (c) (h : K.Holds s) : K.Answers (execAdcRegTrigger c s) := by
  simp +contextual [execAdcRegTrigger, h]
@[simp] theorem execAdcInjTrigger_holds (c) (h : K.Holds s) : K.Answers (execAdcInjTrigger c s) := by
  simp +contextual [execAdcInjTrigger, h]
@[simp] theorem injGoEff_holds (val) : K.Holds (injGoEff val s) ↔ K.Holds s := by simp [injGoEff]
@[simp] theorem execAdcInjGo_holds (hr : K.Rises) (val) (h : K.Holds s) : K.Answers (execAdcInjGo val s) := by
  simp +contextual [execAdcInjGo, hr, h]
@[simp] theorem execAdcScanTrigger_holds (hr : K.Rises) (c lanes) (h : K.Holds s) : K.Answers (execAdcScanTrigger c lanes s) := by
  simp +contextual [execAdcScanTrigger, hr, h]
@[simp] theorem calCtrlEff_holds (val) : K.Holds (calCtrlEff val s) ↔ K.Holds s := by simp [calCtrlEff]
@[simp] theorem execAdcCalReq_holds (hr : K.Rises) (val) (h : K.Holds s) : K.Answers (execAdcCalReq val s) := by
  simp +contextual [execAdcCalReq, hr, h]
@[simp] theorem execAdcCalAuto_holds (hr : K.Rises) (c) (h : K.Holds s) : K.Answers (execAdcCalAuto c s) := by
  refine whenAn_holds (fun t ht => ?_) h
  dsimp only
  split <;> simp [hr, ht]
@[simp] theorem execAdcCalStart_holds (c) (h : K.Holds s) : K.Answers (execAdcCalStart c s) := by simp [execAdcCalStart, h]
@[simp] theorem execAdcCalDone_holds (hr : K.Rises) (c offset gain) (h : K.Holds s) : K.Answers (execAdcCalDone c offset gain s) := by
  simp +contextual [execAdcCalDone, hr, h]
@[simp] theorem execAdcRefFault_holds (h : K.Holds s) : K.Answers (execAdcRefFault s) := whenAn_holds (fun t ht => by simp [ht]) h
@[simp] theorem adcBlk_holds : K.Holds (adcBlk s) ↔ K.Holds s := by simp [adcBlk]

/-! ### Check-value units (R482-R484) -/

@[simp] theorem crcFeed_holds (u n val) : K.Holds (crcFeed u n val s) ↔ K.Holds s := by simp [crcFeed]
@[simp] theorem crcStartEff_holds (u) : K.Holds (crcStartEff u s) ↔ K.Holds s := by simp [crcStartEff]
@[simp] theorem execCrcStart_holds (hr : K.Rises) (u) (h : K.Holds s) : K.Answers (execCrcStart u s) := by simp [execCrcStart, hr, h]
@[simp] theorem execCrcDin8_holds (hr : K.Rises) (u val) (h : K.Holds s) : K.Answers (execCrcDin8 u val s) := by simp [execCrcDin8, hr, h]
@[simp] theorem execCrcDin16_holds (hr : K.Rises) (u val) (h : K.Holds s) : K.Answers (execCrcDin16 u val s) := by simp [execCrcDin16, hr, h]
@[simp] theorem execCrcDin32_holds (hr : K.Rises) (u val) (h : K.Holds s) : K.Answers (execCrcDin32 u val s) := by simp [execCrcDin32, hr, h]

end Sys2Proof.Machine
end

section
/-! SUPPORT. What is followed (`Track`) through the slices, the host rings, the tickets and the endpoint. -/

namespace Sys2Proof.Machine

variable {K : Track} {s : State}

/-! ### Slices (chapters 1, 7) -/

@[simp] theorem scrambleCells_holds (p row cw) (h : K.Holds s) : K.Holds (scrambleCells s p row cw) := by
  refine foldl_holds (fun t j ht => ?_) h
  exact Track.HoldsOf.of_cells ht fun hc => K.cells_mput _ _ _ hc

@[simp] theorem notice_holds (status opcode ticket tag drain) : K.Holds (notice status opcode ticket tag drain s) ↔ K.Holds s := by
  unfold notice; split <;> simp

@[simp] theorem countDark_holds (n) : K.Holds (countDark n s) ↔ K.Holds s := by unfold countDark; split <;> simp
@[simp] theorem failSlice_holds (p) : K.Holds (failSlice p s) ↔ K.Holds s := by unfold failSlice; split <;> simp
@[simp] theorem spareUnfit_holds : K.Holds (spareUnfit s) ↔ K.Holds s := by unfold spareUnfit; split <;> simp

@[simp] theorem corrected_holds (p row cw sym second) : K.Holds (corrected p row cw sym second s) ↔ K.Holds s := by
  unfold corrected
  dsimp only
  generalize he : raise S.CIS_ECC_C _ _ = r
  have hl : K.Holds r ↔ K.Holds s := by rw [← he]; simp
  split
  · exact hl
  · split
    · split <;> simp [hl]
    · split <;> simp [hl]

@[simp] theorem uncorrectable_holds (p row cw) : K.Holds (uncorrectable p row cw s) ↔ K.Holds s := by simp [uncorrectable]
@[simp] theorem writeCells_holds (p w) (h : K.Holds s) : K.Holds (writeCells p w s) := by
  simpa [writeCells] using Track.HoldsOf.of_cells h stepCells_cells
@[simp] theorem performWrite_holds (p w e) (h : K.Holds s) : K.Holds (performWrite p w e s) := by
  unfold performWrite; split <;> simp [h]
@[simp] theorem enqueue_holds (w) : K.Holds (enqueue s w) ↔ K.Holds s := by unfold enqueue; split <;> simp
@[simp] theorem execSliceRmw_holds (p ecc) (h : K.Holds s) : K.Answers (execSliceRmw p ecc s) := by
  unfold execSliceRmw; split <;> simp [h]
@[simp] theorem execCeInterval_holds (hr : K.Rises) (h : K.Holds s) : K.Answers (execCeInterval s) := by
  unfold execCeInterval; split <;> simp [hr, h]
@[simp] theorem sliceCtrlEff_holds (val) : K.Holds (sliceCtrlEff val s) ↔ K.Holds s := by simp [sliceCtrlEff]
@[simp] theorem execSliceTest_holds (hr : K.Rises) (val) (h : K.Holds s) : K.Answers (execSliceTest val s) := by
  simp +contextual [execSliceTest, hr, h]
@[simp] theorem execSliceMigrate_holds (hr : K.Rises) (val) (h : K.Holds s) : K.Answers (execSliceMigrate val s) := by
  simp +contextual [execSliceMigrate, hr, h]
@[simp] theorem execSliceRestore_holds (hr : K.Rises) (val) (h : K.Holds s) : K.Answers (execSliceRestore val s) := by
  simp +contextual [execSliceRestore, hr, h]
@[simp] theorem execSliceOpDone_holds (pass) (h : K.Holds s) : K.Answers (execSliceOpDone pass s) := by
  unfold execSliceOpDone
  split
  · simpa [testDone] using Track.HoldsOf.of_cells h clearSlice_cells
  · simp [h]
  · simp only [Track.answers_next, Track.holds_mk, restoreDone]
    split
    · exact Track.HoldsOf.of_cells h clearSlice_cells
    · exact h
  · simp [h]

/-! ### Host rings (chapter 3) -/

@[simp] theorem bar2Wr_holds (hr : K.Rises) {eff : State → State} (heff : ∀ t, K.Holds t → K.Holds (eff t)) (h : K.Holds s) : K.Holds (bar2Wr eff s) := by
  unfold bar2Wr; split <;> simp [heff, hr, h]

@[simp] theorem ringEntry_holds (n b ws now) : K.Holds (ringEntry s n b ws now) ↔ K.Holds s := by simp [ringEntry]
@[simp] theorem flushCpl_holds : K.Holds (flushCpl s) ↔ K.Holds s := by simp [flushCpl]
@[simp] theorem dbEff_holds (n val) : K.Holds (dbEff n val s) ↔ K.Holds s := by unfold dbEff; split <;> simp
@[simp] theorem execDbSubTail_holds (hr : K.Rises) (val) (h : K.Holds s) : K.Answers (execDbSubTail val s) := by
  simp +contextual [execDbSubTail, hr, h]
@[simp] theorem execDbCplHead_holds (hr : K.Rises) (val) (h : K.Holds s) : K.Answers (execDbCplHead val s) := by
  simp +contextual [execDbCplHead, hr, h]
@[simp] theorem execDbEvtHead_holds (hr : K.Rises) (val) (h : K.Holds s) : K.Answers (execDbEvtHead val s) := by
  simp +contextual [execDbEvtHead, hr, h]
@[simp] theorem execDbTelHead_holds (hr : K.Rises) (val) (h : K.Holds s) : K.Answers (execDbTelHead val s) := by
  simp +contextual [execDbTelHead, hr, h]
@[simp] theorem ringCfgEff_holds (n val) : K.Holds (ringCfgEff n val s) ↔ K.Holds s := by simp [ringCfgEff]
@[simp] theorem execRingEnable_holds (hr : K.Rises) (n val) (h : K.Holds s) : K.Answers (execRingEnable n val s) := by
  simp +contextual [execRingEnable, hr, h]
@[simp] theorem execRingDisable_holds (hr : K.Rises) (n val) (h : K.Holds s) : K.Answers (execRingDisable n val s) := by
  simp +contextual [execRingDisable, hr, h]
@[simp] theorem execRingDisableDone_holds (n) (h : K.Holds s) : K.Answers (execRingDisableDone n s) := by
  unfold execRingDisableDone; split <;> simp [h]
@[simp] theorem ringBaseEff_holds (n off val) : K.Holds (ringBaseEff n off val s) ↔ K.Holds s := by
  unfold ringBaseEff; split <;> simp
@[simp] theorem execNoticeWrite_holds (h : K.Holds s) : K.Answers (execNoticeWrite s) := by unfold execNoticeWrite; split <;> simp [h]
@[simp] theorem nmtFlush_holds : K.Holds (nmtFlush s) ↔ K.Holds s := (foldl_holds_iff fun _ _ => State.nmt_holds).trans Iff.rfl
@[simp] theorem execEventWrite_holds (h : K.Holds s) : K.Answers (execEventWrite s) := by
  unfold execEventWrite; (repeat' split) <;> simp [h]
@[simp] theorem telRecord_holds : K.Holds (telRecord s) ↔ K.Holds s := by simp [telRecord]
@[simp] theorem execTelemetryRecord_holds (hr : K.Rises) (h : K.Holds s) : K.Answers (execTelemetryRecord s) := by
  unfold execTelemetryRecord; split <;> simp [hr, h]
@[simp] theorem execIrqHoldExpire_holds (hr : K.Rises) (n) (h : K.Holds s) : K.Answers (execIrqHoldExpire n s) := by
  unfold execIrqHoldExpire; split <;> simp [hr, h]

/-! ### Tickets and work SRAM (chapter 5) -/

@[simp] theorem resolve_holds (t r fire lost) : K.Holds (resolve t r fire lost s) ↔ K.Holds s := by simp [resolve]
@[simp] theorem execTicketDeadline_holds (hr : K.Rises) (t) (h : K.Holds s) : K.Answers (execTicketDeadline t s) := by
  unfold execTicketDeadline; split <;> simp [hr, h]
@[simp] theorem bookedEff_holds (b e) (h : K.Holds s) : K.Holds (bookedEff b e s) := by
  unfold bookedEff; (repeat' split) <;> simp [h]
@[simp] theorem execBookedWrite_holds (hr : K.Rises) (t ecc) (h : K.Holds s) : K.Answers (execBookedWrite t ecc s) := by
  unfold execBookedWrite; (repeat' split) <;> simp [hr, h]
@[simp] theorem bookedUpTo_holds (k) (h : K.Holds s) : K.Holds (bookedUpTo k s) := by simp +contextual [bookedUpTo, h]
@[simp] theorem execResolutionDone_holds (t) (h : K.Holds s) : K.Answers (execResolutionDone t s) := by
  unfold execResolutionDone; (repeat' split) <;> simp [h]

@[simp] theorem loseRecord_holds (half t) : K.Holds (loseRecord half s t) ↔ K.Holds s := by
  unfold loseRecord
  split
  · rfl
  · dsimp only; split
    · simp
    · split <;> simp
    · simp

@[simp] theorem loseDelay_holds (gen cw) : K.Holds (loseDelay gen cw s) ↔ K.Holds s := by simp [loseDelay]
@[simp] theorem loseStats_holds (totals cw) : K.Holds (loseStats totals cw s) ↔ K.Holds s := by simp [loseStats]
@[simp] theorem scrambleLoc_holds (loc) : K.Holds (scrambleLoc loc s) ↔ K.Holds s := by unfold scrambleLoc; split <;> simp
@[simp] theorem wsReport_holds (src loc sym nsym) : K.Holds (wsReport src loc sym nsym s) ↔ K.Holds s := by simp [wsReport]
@[simp] theorem wsLost_holds (loc) : K.Holds (wsLost loc s) ↔ K.Holds s := by   cases loc <;> simp [wsLost]
@[simp] theorem wsDrop_holds (loc) : K.Holds (wsDrop loc s) ↔ K.Holds s := by unfold wsDrop; split <;> simp
@[simp] theorem wsCorrected_holds (loc sym second) : K.Holds (wsCorrected loc sym second s) ↔ K.Holds s := by
  simp [wsCorrected]
@[simp] theorem execWorkSramScrub_holds (loc ecc) (h : K.Holds s) : K.Answers (execWorkSramScrub loc ecc s) := by
  unfold execWorkSramScrub; (repeat' split) <;> simp [h]

/-! ### Endpoint and host link (chapter 3) -/

@[simp] theorem endpointReset_holds : K.Holds (endpointReset s) ↔ K.Holds s := by simp [endpointReset]
@[simp] theorem linkDown_holds : K.Holds (linkDown s) ↔ K.Holds s := by simp [linkDown]
@[simp] theorem execPerstNAssert_holds (hr : K.Rises) (h : K.Holds s) : K.Answers (execPerstNAssert s) := by simp [execPerstNAssert, hr, h]
@[simp] theorem execPerstNRelease_holds (hr : K.Rises) (h : K.Holds s) : K.Answers (execPerstNRelease s) := by simp [execPerstNRelease, hr, h]
@[simp] theorem execConfigResponseReady_holds (h : K.Holds s) : K.Answers (execConfigResponseReady s) := by
  unfold execConfigResponseReady; split <;> simp [h]
@[simp] theorem trained_holds (width speed) : K.Holds (trained width speed s) ↔ K.Holds s := by simp [trained]
@[simp] theorem execLinkRetrain_holds (width speed) (h : K.Holds s) : K.Answers (execLinkRetrain width speed s) := by
  unfold execLinkRetrain; split <;> simp [h]
@[simp] theorem execDataLinkUp_holds (width speed) (h : K.Holds s) : K.Answers (execDataLinkUp width speed s) := by
  unfold execDataLinkUp; split <;> simp [h]
@[simp] theorem execDataLinkDown_holds (h : K.Holds s) : K.Answers (execDataLinkDown s) := by unfold execDataLinkDown; split <;> simp [h]

@[simp] theorem cfgReq_holds (hr : K.Rises) {eff : State → State} (heff : ∀ t, K.Holds t → K.Holds (eff t)) (h : K.Holds s) : K.Holds (cfgReq eff s) := by
  simp [cfgReq, heff, hr, h]

@[simp] theorem flrEff_holds : K.Holds (flrEff s) ↔ K.Holds s := by simp [flrEff]
@[simp] theorem execFlr_holds (hr : K.Rises) (h : K.Holds s) : K.Answers (execFlr s) := by simp [execFlr, hr, h]
@[simp] theorem execFlrDone_holds (h : K.Holds s) : K.Answers (execFlrDone s) := by simp [execFlrDone, h]
@[simp] theorem d3Eff_holds : K.Holds (d3Eff s) ↔ K.Holds s := by unfold d3Eff; split <;> simp
@[simp] theorem execD3hotEntry_holds (hr : K.Rises) (h : K.Holds s) : K.Answers (execD3hotEntry s) := by simp [execD3hotEntry, hr, h]
@[simp] theorem releaseInts_holds : K.Holds (releaseInts s) ↔ K.Holds s := by simp [releaseInts]
@[simp] theorem d0Eff_holds : K.Holds (d0Eff s) ↔ K.Holds s := by unfold d0Eff; split <;> simp
@[simp] theorem execD3hotExit_holds (hr : K.Rises) (h : K.Holds s) : K.Answers (execD3hotExit s) := by simp [execD3hotExit, hr, h]
@[simp] theorem bmeEff_holds (on) : K.Holds (bmeEff on s) ↔ K.Holds s := by simp [bmeEff]
@[simp] theorem execBusMasterDisable_holds (hr : K.Rises) (h : K.Holds s) : K.Answers (execBusMasterDisable s) := by
  simp [execBusMasterDisable, hr, h]
@[simp] theorem execBusMasterEnable_holds (hr : K.Rises) (h : K.Holds s) : K.Answers (execBusMasterEnable s) := by
  simp [execBusMasterEnable, hr, h]
@[simp] theorem msixEff_holds (enable mask) : K.Holds (msixEff enable mask s) ↔ K.Holds s := by simp [msixEff]
@[simp] theorem execMsixControlWrite_holds (hr : K.Rises) (enable mask) (h : K.Holds s) : K.Answers (execMsixControlWrite enable mask s) := by
  simp [execMsixControlWrite, hr, h]
@[simp] theorem execNmtRelease_holds (h : K.Holds s) : K.Answers (execNmtRelease s) := by unfold execNmtRelease; split <;> simp [h]
@[simp] theorem hbEff_holds (val) : K.Holds (hbEff val s) ↔ K.Holds s := by unfold hbEff; split <;> simp
@[simp] theorem execHeartbeat_holds (hr : K.Rises) (val) (h : K.Holds s) : K.Answers (execHeartbeat val s) := by
  simp +contextual [execHeartbeat, hr, h]
@[simp] theorem takeSilent_holds (now run) : K.Holds (takeSilent now run s) ↔ K.Holds s := by simp [takeSilent]
@[simp] theorem execHbTimeout_holds (hr : K.Rises) (h : K.Holds s) : K.Answers (execHbTimeout s) := by simp [execHbTimeout, hr, h]
@[simp] theorem tlpRaise_holds (c access addr) : K.Holds (tlpRaise c access addr s) ↔ K.Holds s := by simp [tlpRaise]

@[simp] theorem badWrite_holds {eff : State → State} (heff : ∀ t, K.Holds t → K.Holds (eff t)) (h : K.Holds s) : K.Holds (badWrite eff s) := by
  simp [badWrite, heff, h]

@[simp] theorem violationEff_holds (kind addr) (h : K.Holds s) : K.Holds (violationEff kind addr s) := by
    cases kind <;> simp +contextual [violationEff, h]
@[simp] theorem execTlpViolation_holds (hr : K.Rises) (kind addr) (h : K.Holds s) : K.Answers (execTlpViolation kind addr s) := by
  simp [execTlpViolation, hr, h]
@[simp] theorem diagHit_holds (hit) : K.Holds (diagHit s hit) ↔ K.Holds s := by   unfold diagHit; split <;> simp

@[simp] theorem execDiagRead_holds (hr : K.Rises) (addr len hits) (h : K.Holds s) : K.Answers (execDiagRead addr len hits s) := by
  unfold execDiagRead
  simp +contextual [hr, h]

end Sys2Proof.Machine
end

section
/-! SUPPORT. What is followed (`Track`) through the safe network, the timers, the configuration store and its transactions. -/

namespace Sys2Proof.Machine

variable {K : Track} {s : State}

/-! ### Safe network (chapter 12) -/

@[simp] theorem State.nport_holds (p f) : K.Holds (State.nport s p f) ↔ K.Holds s := by simp [State.nport]
@[simp] theorem State.conn_holds (n f) : K.Holds (State.conn s n f) ↔ K.Holds s := by simp [State.conn]
@[simp] theorem pathLeave_holds (p cause st) : K.Holds (pathLeave p cause st s) ↔ K.Holds s := by simp [pathLeave]
@[simp] theorem execNetLinkUp_holds (p fullDuplex) (h : K.Holds s) : K.Answers (execNetLinkUp p fullDuplex s) := by
  simp [execNetLinkUp, h]
@[simp] theorem netDown_holds (p) : K.Holds (netDown p s) ↔ K.Holds s := by simp [netDown]
@[simp] theorem execNetLinkDown_holds (p) (h : K.Holds s) : K.Answers (execNetLinkDown p s) := by
  unfold execNetLinkDown; split <;> simp [h]
@[simp] theorem execNetQualDone_holds (hr : K.Rises) (p) (h : K.Holds s) : K.Answers (execNetQualDone p s) := by simp [execNetQualDone, hr, h]
@[simp] theorem execNetLostRecover_holds (hr : K.Rises) (p) (h : K.Holds s) : K.Answers (execNetLostRecover p s) := by
  unfold execNetLostRecover; split <;> simp [hr, h]
@[simp] theorem execNetPathSilence_holds (hr : K.Rises) (p n) (h : K.Holds s) : K.Answers (execNetPathSilence p n s) := by
  simp [execNetPathSilence, hr, h]
@[simp] theorem openConn_holds (n) : K.Holds (openConn n s) ↔ K.Holds s := by simp [openConn]
@[simp] theorem loseConn_holds (n) : K.Holds (loseConn n s) ↔ K.Holds s := by simp [loseConn]
@[simp] theorem judgeConn_holds (b n) : K.Holds (judgeConn b s n) ↔ K.Holds s := by simp [judgeConn]
@[simp] theorem execConnWatchdogExpire_holds (n) (h : K.Holds s) : K.Answers (execConnWatchdogExpire n s) := by
  unfold execConnWatchdogExpire; split <;> simp [h]

@[simp] theorem netViolation_holds (p check conn) : K.Holds (netViolation p check conn s) ↔ K.Holds s := by
  unfold netViolation
  dsimp only
  split <;> simp

@[simp] theorem acceptFrame_holds (n f) : K.Holds (acceptFrame n f s) ↔ K.Holds s := by unfold acceptFrame; split <;> simp
@[simp] theorem acceptCopy_holds (p n f at') : K.Holds (acceptCopy p n f at' s) ↔ K.Holds s := by simp [acceptCopy]
@[simp] theorem copiesDiffer_holds (p n) : K.Holds (copiesDiffer p n s) ↔ K.Holds s := by simp [copiesDiffer]
@[simp] theorem secondCopy_holds (p n f at') : K.Holds (secondCopy p n f at' s) ↔ K.Holds s := by simp [secondCopy]

@[simp] theorem takeCopies_holds (b l gone) : K.Holds (takeCopies b l gone s) ↔ K.Holds s := by
  induction l generalizing gone s with
  | nil => rfl
  | cons e l ih =>
    unfold takeCopies
    (repeat' split) <;> simp [ih]
@[simp] theorem enableConn_holds (n) : K.Holds (enableConn s n) ↔ K.Holds s := by simp [enableConn]

@[simp] theorem netPhase1_holds (b) : K.Holds (netPhase1 b s) ↔ K.Holds s := by
  simp only [netPhase1, Track.holds_mk, Track.holdsOf_fields]
  rw [foldl_holds_iff (fun t n => judgeConn_holds b n), takeCopies_holds]
  simp

@[simp] theorem pathCompare_holds (p n f) : K.Holds (pathCompare p n f s) ↔ K.Holds s := by
  unfold pathCompare
  dsimp only
  (repeat' split) <;> simp

@[simp] theorem netTake_holds (p f) : K.Holds (netTake p f s) ↔ K.Holds s := by unfold netTake; split <;> simp
@[simp] theorem ethOffer_holds (p e) : K.Holds (ethOffer p e s) ↔ K.Holds s := by simp [ethOffer]
@[simp] theorem execEthFrameReceive_holds (p e) (h : K.Holds s) : K.Answers (execEthFrameReceive p e s) := by
  unfold execEthFrameReceive; split <;> simp [h]
@[simp] theorem sendConn_holds (n typ pses echo body) : K.Holds (sendConn n typ pses echo body s) ↔ K.Holds s := by simp [sendConn]

@[simp] theorem connSend_holds (n) : K.Holds (connSend s n) ↔ K.Holds s := by
  unfold connSend
  dsimp only
  split
  · (repeat' split) <;> simp
  · (repeat' split) <;> simp

@[simp] theorem connAfter_holds (n) : K.Holds (connAfter s n) ↔ K.Holds s := by simp [connAfter]
@[simp] theorem netPhase4_holds (sends) : K.Holds (netPhase4 sends s) ↔ K.Holds s := by simp [netPhase4]
@[simp] theorem netCommit_holds (before changed) : K.Holds (netCommit before changed s) ↔ K.Holds s := by
  simp [netCommit]

@[simp] theorem netReset_holds : K.Holds (netReset s) ↔ K.Holds s := by
  simp only [netReset]
  rw [foldl_holds_iff (fun t n => by split <;> simp), foldl_holds_iff (fun t p => netDown_holds p)]

@[simp] theorem mdioEff_holds (val) : K.Holds (mdioEff val s) ↔ K.Holds s := by simp [mdioEff]
@[simp] theorem execMdioGo_holds (hr : K.Rises) (val) (h : K.Holds s) : K.Answers (execMdioGo val s) := by simp [execMdioGo, hr, h]
@[simp] theorem execMdioDone_holds (data) (h : K.Holds s) : K.Answers (execMdioDone data s) := by unfold execMdioDone; split <;> simp [h]

/-! ### Timers (chapter 15) -/

@[simp] theorem settleFrames_holds : K.Holds (settleFrames s) ↔ K.Holds s := by simp [settleFrames]
@[simp] theorem timerMatch_holds (n m0 m1) : K.Holds (timerMatch n m0 m1 s) ↔ K.Holds s := by simp [timerMatch]
@[simp] theorem timerStepEff_holds (n) : K.Holds (timerStepEff n s) ↔ K.Holds s := by simp [timerStepEff]
@[simp] theorem timerEvent_holds (n) : K.Holds (timerEvent n s) ↔ K.Holds s := by simp [timerEvent]

@[simp] theorem execTimerStep_holds (hr : K.Rises) (n) (h : K.Holds s) : K.Answers (execTimerStep n s) := by
  simp only [execTimerStep]
  (repeat' split) <;> simp [hr, h]

@[simp] theorem unboundWr_holds (hr : K.Rises) (n off : Nat) {eff : State → State} (heff : ∀ t, K.Holds t → K.Holds (eff t))
    (h : K.Holds s) : K.Holds (unboundWr n off eff s) :=
  hostWr_holds hr off (fun t ht => by split <;> simp [ht, heff]) h

@[simp] theorem tcCntEff_holds (hr : K.Rises) (n val) (h : K.Holds s) : K.Holds (tcCntEff n val s) := by simp [tcCntEff, hr, h]
@[simp] theorem execTcCntWrite_holds (hr : K.Rises) (n val) (h : K.Holds s) : K.Answers (execTcCntWrite n val s) := by
  simp +contextual [execTcCntWrite, hr, h]
@[simp] theorem tcCmpEff_holds (n k val) : K.Holds (tcCmpEff n k val s) ↔ K.Holds s := by simp [tcCmpEff]
@[simp] theorem execTcCmpWrite_holds (hr : K.Rises) (n k val) (h : K.Holds s) : K.Answers (execTcCmpWrite n k val s) := by
  unfold execTcCmpWrite; split <;> simp [hr, h]
@[simp] theorem captureEff_holds (n k) : K.Holds (captureEff n k s) ↔ K.Holds s := by simp [captureEff]
@[simp] theorem tcCapEff_holds (n val) : K.Holds (tcCapEff n val s) ↔ K.Holds s := by simp [tcCapEff]
@[simp] theorem execTcCapCmd_holds (hr : K.Rises) (n val) (h : K.Holds s) : K.Answers (execTcCapCmd n val s) := by simp [execTcCapCmd, hr, h]

@[simp] theorem execTcCapture_holds (hr : K.Rises) (n k) (h : K.Holds s) : K.Answers (execTcCapture n k s) := by
  simp only [execTcCapture]
  (repeat' split) <;> simp [hr, h]

@[simp] theorem timerRead_holds (hr : K.Rises) (off) (h : K.Holds s) : K.Holds (timerRead off s) := by unfold timerRead; split <;> simp [hr, h]
@[simp] theorem flagReadEff_holds (hr : K.Rises) (n event) (h : K.Holds s) : K.Holds (flagReadEff n event s) := by simp [flagReadEff, hr, h]
@[simp] theorem execTcFlagRead_holds (hr : K.Rises) (n event) (h : K.Holds s) : K.Answers (execTcFlagRead n event s) := by
  unfold execTcFlagRead; split <;> simp [hr, h]

/-! ### Configuration store (chapter 18) -/

@[simp] theorem cfgResult_holds (res why) : K.Holds (cfgResult res why s) ↔ K.Holds s := by simp [cfgResult]
@[simp] theorem cfgComplete_holds (res why) : K.Holds (cfgComplete res why s) ↔ K.Holds s := by simp [cfgComplete]
@[simp] theorem cfgStart_holds (hs : K.Stores) (op page) (h : K.Holds s) : K.Holds (cfgStart op page s) := by
  simp only [cfgStart]
  split
  · simp [h]
  · simp only [cfgResult_holds, Track.holds_mk]
    refine Track.HoldsOf.of_nv h hs fun hw => ?_
    split
    · exact hw.setBank _ rfl
    · split
      · split
        · exact hw.setBank _ (mwf_filter _ _ _ (hw.bank _))
        · exact hw
      · exact hw
@[simp] theorem cfgVerifyFail_holds (b) : K.Holds (cfgVerifyFail b s) ↔ K.Holds s := by simp [cfgVerifyFail]

@[simp] theorem cfgDoneEff_holds (hs : K.Stores) (op page verifyOk uncorr) (h : K.Holds s) : K.Holds (cfgDoneEff op page verifyOk uncorr s) := by
  have hp : ∀ (b : Fin 2) page, s.nv.wf → (s.nv.setBank b (programPage (s.nv.bank b) s.regs page)).wf :=
    fun b page hw => hw.setBank b (programPage_wf (hw.bank b) _ _)
  have hv : ∀ (b : Fin 2) o l, s.nv.wf → (s.nv.setBank b (bankPut (s.nv.bank b) o l)).wf :=
    fun b o l hw => hw.setBank b (bankPut_wf (hw.bank b) _ _)
  unfold cfgDoneEff
  dsimp only
  (repeat' split) <;> simp [h, Track.HoldsOf.of_nv h hs (hp _ _), Track.HoldsOf.of_nv h hs (hv _ _ _)]

@[simp] theorem cfgCmdWr_holds (hr : K.Rises) (hs : K.Stores) (op page) (h : K.Holds s) : K.Answers (cfgCmdWr op page s) := by
  simp +contextual [cfgCmdWr, hr, hs, h]
@[simp] theorem execCfgErase_holds (hr : K.Rises) (hs : K.Stores) (h : K.Holds s) : K.Answers (execCfgErase s) := by
  simp [execCfgErase, hr, hs, h]
@[simp] theorem execCfgProgram_holds (hr : K.Rises) (hs : K.Stores) (page) (h : K.Holds s) : K.Answers (execCfgProgram page s) := by
  simp [execCfgProgram, hr, hs, h]
@[simp] theorem execCfgFinish_holds (hr : K.Rises) (hs : K.Stores) (h : K.Holds s) : K.Answers (execCfgFinish s) := by
  simp [execCfgFinish, hr, hs, h]
@[simp] theorem execCfgValidate_holds (hr : K.Rises) (hs : K.Stores) (h : K.Holds s) : K.Answers (execCfgValidate s) := by
  simp [execCfgValidate, hr, hs, h]
@[simp] theorem execCfgCmdDone_holds (hs : K.Stores) (verifyOk uncorr) (h : K.Holds s) : K.Answers (execCfgCmdDone verifyOk uncorr s) := by
  unfold execCfgCmdDone; split <;> simp [hs, h]
@[simp] theorem hourlyEff_holds (b corr unc) : K.Holds (hourlyEff b corr unc s) ↔ K.Holds s := by simp [hourlyEff]

@[simp] theorem execCfgHourlyCheck_holds (corrected uncorrected) (h : K.Holds s) :
    K.Answers (execCfgHourlyCheck corrected uncorrected s) := by
  unfold execCfgHourlyCheck; split <;> simp [h]

@[simp] theorem execKeyAssert_holds (hr : K.Rises) (h : K.Holds s) : K.Answers (execKeyAssert s) := by simp [execKeyAssert, hr, h]
@[simp] theorem execKeyRelease_holds (hr : K.Rises) (h : K.Holds s) : K.Answers (execKeyRelease s) := by simp [execKeyRelease, hr, h]
@[simp] theorem sealEff_holds (b r0 r1 r2) : K.Holds (sealEff b r0 r1 r2 s) ↔ K.Holds s := by simp [sealEff]
@[simp] theorem execSealCompare_holds (hr : K.Rises) (seal0 seal1 seal2) (h : K.Holds s) : K.Answers (execSealCompare seal0 seal1 seal2 s) := by
  unfold execSealCompare; split <;> simp [hr, h]

/-! ### Transactions (R550-R553) -/

@[simp] theorem txnTo_holds (t) : K.Holds (txnTo t s) ↔ K.Holds s := by simp [txnTo]
@[simp] theorem txnResult_holds (res why off) : K.Holds (txnResult res why off s) ↔ K.Holds s := by simp [txnResult]
@[simp] theorem txnRefuse_holds : K.Holds (txnRefuse s) ↔ K.Holds s := by simp [txnRefuse]
@[simp] theorem txnBeginEff_holds : K.Holds (txnBeginEff s) ↔ K.Holds s := by unfold txnBeginEff; split <;> simp

@[simp] theorem txnCommitEff_holds : K.Holds (txnCommitEff s) ↔ K.Holds s := by
  unfold txnCommitEff
  split
  · simp
  · dsimp only
    split
    · simp
    · split <;> simp

@[simp] theorem txnRollbackEff_holds : K.Holds (txnRollbackEff s) ↔ K.Holds s := by unfold txnRollbackEff; split <;> simp
@[simp] theorem applyCommit_holds : K.Holds (applyCommit s) ↔ K.Holds s := by simp [applyCommit]
@[simp] theorem execTxnBegin_holds (hr : K.Rises) (h : K.Holds s) : K.Answers (execTxnBegin s) := by simp [execTxnBegin, hr, h]
@[simp] theorem execTxnCommit_holds (hr : K.Rises) (h : K.Holds s) : K.Answers (execTxnCommit s) := by simp [execTxnCommit, hr, h]
@[simp] theorem execTxnRollback_holds (hr : K.Rises) (h : K.Holds s) : K.Answers (execTxnRollback s) := by simp [execTxnRollback, hr, h]
@[simp] theorem execTxnApply_holds (h : K.Holds s) : K.Answers (execTxnApply s) := by unfold execTxnApply; split <;> simp [h]
@[simp] theorem txnDomainLost_holds (d) : K.Holds (txnDomainLost d s) ↔ K.Holds s := by unfold txnDomainLost; split <;> simp

end Sys2Proof.Machine
end

section
/-! SUPPORT. What is followed (`Track`) through the field die, the valve ports, the lanes, the descriptors and the Osrin ring. -/

namespace Sys2Proof.Machine

variable {K : Track} {s : State}

/-! ### Field die (chapter 11) -/

@[simp] theorem testAbandon_holds (p) : K.Holds (testAbandon p s) ↔ K.Holds s := by simp [testAbandon]

@[simp] theorem fldSettle_holds (f) : K.Holds (fldSettle s f) ↔ K.Holds s := by
  refine (foldl_holds_iff fun t p => ?_).trans Iff.rfl
  (repeat' split) <;> simp

@[simp] theorem fldLoad_holds (c fs) : K.Holds (fldLoad s c fs) ↔ K.Holds s := by simp [fldLoad]

@[simp] theorem fieldSampleEff_holds (hr : K.Rises) (io) (h : K.Holds s) : K.Holds (fieldSampleEff io s) := by
  simp only [fieldSampleEff]
  (repeat' split) <;> simp [hr, h]

@[simp] theorem execFieldSample_holds (hr : K.Rises) (io) (h : K.Holds s) : K.Answers (execFieldSample io s) := by
  unfold execFieldSample; split <;> simp [hr, h]
@[simp] theorem execTpPulse_holds (hr : K.Rises) (g) (h : K.Holds s) : K.Answers (execTpPulse g s) := by
  unfold execTpPulse; split <;> simp [hr, h]
@[simp] theorem execTpCheck_holds (hr : K.Rises) (g low) (h : K.Holds s) : K.Answers (execTpCheck g low s) := by
  unfold execTpCheck; split <;> simp [hr, h]
@[simp] theorem execTpOvlTimer_holds (g) (h : K.Holds s) : K.Answers (execTpOvlTimer g s) := by unfold execTpOvlTimer; split <;> simp [h]
@[simp] theorem driveEff_holds (l f) : K.Holds (driveEff l f s) ↔ K.Holds s := by simp [driveEff]
@[simp] theorem execDriveFrameReceive_holds (l f) (h : K.Holds s) : K.Answers (execDriveFrameReceive l f s) := by
  unfold execDriveFrameReceive; split <;> simp [h]
@[simp] theorem execIslandTimeout_holds (hr : K.Rises) (l) (h : K.Holds s) : K.Answers (execIslandTimeout l s) := by
  unfold execIslandTimeout; split <;> simp [hr, h]
@[simp] theorem State.lane_holds (l f) : K.Holds (State.lane s l f) ↔ K.Holds s := by simp [State.lane]
@[simp] theorem linkSilent_holds (l) : K.Holds (linkSilent l s) ↔ K.Holds s := by simp [linkSilent]
@[simp] theorem execFdlLinkSilent_holds (l) (h : K.Holds s) : K.Answers (execFdlLinkSilent l s) := by
  unfold execFdlLinkSilent; split <;> simp [h]
@[simp] theorem execFdlLinkSyncGain_holds (l) (h : K.Holds s) : K.Answers (execFdlLinkSyncGain l s) := by
  unfold execFdlLinkSyncGain; split <;> simp [h]
@[simp] theorem pulseEnd_holds (g p) : K.Holds (pulseEnd g p s) ↔ K.Holds s := by simp [pulseEnd]
@[simp] theorem strayEnds_holds (g) : K.Holds (strayEnds g s) ↔ K.Holds s := by simp [strayEnds]

@[simp] theorem execOffPulseEnd_holds (hr : K.Rises) (grp) (h : K.Holds s) : K.Answers (execOffPulseEnd grp s) := by
  simp only [execOffPulseEnd]
  (repeat' split) <;> simp [hr, h]

@[simp] theorem execStuckTimerExpire_holds (hr : K.Rises) (t) (h : K.Holds s) : K.Answers (execStuckTimerExpire t s) := by
  unfold execStuckTimerExpire; split <;> simp [hr, h]
@[simp] theorem execOutputOvlTimer_holds (hr : K.Rises) (t) (h : K.Holds s) : K.Answers (execOutputOvlTimer t s) := by
  unfold execOutputOvlTimer; split <;> simp [hr, h]
@[simp] theorem execGroupOvlTimer_holds (g) (h : K.Holds s) : K.Answers (execGroupOvlTimer g s) := by
  unfold execGroupOvlTimer; split <;> simp [h]
@[simp] theorem execFsLowEnter_holds (g) (h : K.Holds s) : K.Answers (execFsLowEnter g s) := by unfold execFsLowEnter; split <;> simp [h]
@[simp] theorem execFsLowLeave_holds (g) (h : K.Holds s) : K.Answers (execFsLowLeave g s) := by unfold execFsLowLeave; split <;> simp [h]
@[simp] theorem execFsSag_holds (g) (h : K.Holds s) : K.Answers (execFsSag g s) := by unfold execFsSag; split <;> simp [h]
@[simp] theorem execFsMissing_holds (g) (h : K.Holds s) : K.Answers (execFsMissing g s) := by unfold execFsMissing; split <;> simp [h]
@[simp] theorem execFieldSupplyReturn_holds (g) (h : K.Holds s) : K.Answers (execFieldSupplyReturn g s) := by
  simp [execFieldSupplyReturn, h]

@[simp] theorem endPulses_holds : K.Holds (endPulses s) ↔ K.Holds s := by
  refine (fldSettle_holds _).trans (foldl_holds_iff fun t p => ?_)
  (repeat' split) <;> simp

@[simp] theorem execWatchdogExpire_holds (hr : K.Rises) (h : K.Holds s) : K.Answers (execWatchdogExpire s) := by
  unfold execWatchdogExpire; split <;> simp [hr, h]
@[simp] theorem execFieldConfigReceive_holds (frames) (h : K.Holds s) : K.Answers (execFieldConfigReceive frames s) := by
  unfold execFieldConfigReceive; split <;> simp [h]
@[simp] theorem fldClear_holds : K.Holds (fldClear s) ↔ K.Holds s := by simp [fldClear]
@[simp] theorem execFieldResetFrame_holds (links) (h : K.Holds s) : K.Answers (execFieldResetFrame links s) := by
  unfold execFieldResetFrame; split <;> simp [h]

/-! ### Valve ports (chapter 6) -/

@[simp] theorem State.port_holds (n f) : K.Holds (State.port s n f) ↔ K.Holds s := by simp [State.port]
@[simp] theorem vpDrop_holds (n crc) : K.Holds (vpDrop n crc s) ↔ K.Holds s := by simp [vpDrop]
@[simp] theorem portLoss_holds (n cause) : K.Holds (portLoss n cause s) ↔ K.Holds s := by simp [portLoss]

@[simp] theorem vpReceive_holds (n : Fin 16) (f : Frame) (typ words : Nat) (expected : Bool) {eff : State → State}
    (heff : ∀ t, K.Holds t → K.Holds (eff t)) (h : K.Holds s) : K.Holds (vpReceive n f typ words expected eff s) := by
  simp [vpReceive, heff, h]

@[simp] theorem discover_holds (n) : K.Holds (discover n s) ↔ K.Holds s := by simp [discover]
@[simp] theorem execDiscoverSend_holds (n) (h : K.Holds s) : K.Answers (execDiscoverSend n s) := by simp [execDiscoverSend, h]
@[simp] theorem sendConfig_holds (n) : K.Holds (sendConfig n s) ↔ K.Holds s := by simp [sendConfig]
@[simp] theorem identEff_holds (n f rtt) : K.Holds (identEff n f rtt s) ↔ K.Holds s := by simp [identEff]
@[simp] theorem execIdentReceive_holds (n f rtt) (h : K.Holds s) : K.Answers (execIdentReceive n f rtt s) := by
  simp +contextual [execIdentReceive, h]
@[simp] theorem configAckEff_holds (n f) : K.Holds (configAckEff n f s) ↔ K.Holds s := by simp [configAckEff]
@[simp] theorem execConfigAckReceive_holds (n f) (h : K.Holds s) : K.Answers (execConfigAckReceive n f s) := by
  simp +contextual [execConfigAckReceive, h]
@[simp] theorem execConfigAckTimeout_holds (n) (h : K.Holds s) : K.Answers (execConfigAckTimeout n s) := by
  unfold execConfigAckTimeout; split <;> simp [h]
@[simp] theorem reconfigure_holds (n) : K.Holds (reconfigure n s) ↔ K.Holds s := by unfold reconfigure; split <;> simp
@[simp] theorem coilEff_holds (n f) : K.Holds (coilEff n f s) ↔ K.Holds s := by simp [coilEff]
@[simp] theorem burstEnd_holds (flag) : K.Holds (burstEnd flag s) ↔ K.Holds s := by simp [burstEnd]
@[simp] theorem burstAnswer_holds (n bpend) : K.Holds (burstAnswer n bpend s) ↔ K.Holds s := by unfold burstAnswer; split <;> simp
@[simp] theorem statusAnswer_holds (n f) : K.Holds (statusAnswer n f s) ↔ K.Holds s := by simp [statusAnswer]

@[simp] theorem statusEff_holds (n f) : K.Holds (statusEff n f s) ↔ K.Holds s := by
  unfold statusEff
  dsimp only
  generalize ht : raiseIf _ S.VPT_MOD_FAULT 0 _ = t
  have hl : K.Holds t ↔ K.Holds s := by rw [← ht]; simp
  (repeat' split) <;> simp [hl]

@[simp] theorem execStatusReceive_holds (n f) (h : K.Holds s) : K.Answers (execStatusReceive n f s) := by
  simp +contextual [execStatusReceive, h]
@[simp] theorem errorSlot_holds (n) : K.Holds (errorSlot n s) ↔ K.Holds s := by simp [errorSlot]
@[simp] theorem execStatusDeadline_holds (hr : K.Rises) (n) (h : K.Holds s) : K.Answers (execStatusDeadline n s) := by
  unfold execStatusDeadline; split <;> simp [hr, h]
@[simp] theorem burstCtrlEff_holds (val) : K.Holds (burstCtrlEff val s) ↔ K.Holds s := by simp [burstCtrlEff]
@[simp] theorem execBurstGo_holds (hr : K.Rises) (val) (h : K.Holds s) : K.Answers (execBurstGo val s) := by simp [execBurstGo, hr, h]
@[simp] theorem burstEff_holds (n f) : K.Holds (burstEff n f s) ↔ K.Holds s := by unfold burstEff; split <;> simp
@[simp] theorem execBurstReceive_holds (n f) (h : K.Holds s) : K.Answers (execBurstReceive n f s) := by
  simp +contextual [execBurstReceive, h]
@[simp] theorem execBurstTimeout_holds (h : K.Holds s) : K.Answers (execBurstTimeout s) := by unfold execBurstTimeout; split <;> simp [h]
@[simp] theorem execVpFrameDrop_holds (n crc) (h : K.Holds s) : K.Answers (execVpFrameDrop n crc s) := by
  unfold execVpFrameDrop; split <;> simp [h]
@[simp] theorem execVpSyncLoss_holds (n) (h : K.Holds s) : K.Answers (execVpSyncLoss n s) := by simp [execVpSyncLoss, h]
@[simp] theorem execVpSyncGain_holds (n) (h : K.Holds s) : K.Answers (execVpSyncGain n s) := by unfold execVpSyncGain; split <;> simp [h]
@[simp] theorem execHaltSend_holds (h : K.Holds s) : K.Answers (execHaltSend s) := by simp [execHaltSend, h]

/-! ### Safety lanes (chapter 8) -/

@[simp] theorem laneQuiet_holds (l) : K.Holds (laneQuiet l s) ↔ K.Holds s := by simp [laneQuiet]
@[simp] theorem retire_holds (l cause) : K.Holds (retire l cause s) ↔ K.Holds s := by simp [retire]
@[simp] theorem lanResult_holds (res lane) : K.Holds (lanResult res lane s) ↔ K.Holds s := by simp [lanResult]
@[simp] theorem joinEnd_holds (cause) : K.Holds (joinEnd cause s) ↔ K.Holds s := by unfold joinEnd; split <;> simp
@[simp] theorem joinFail_holds (c) : K.Holds (joinFail c s) ↔ K.Holds s := by unfold joinFail; (repeat' split) <;> simp
@[simp] theorem secondFault_holds (cond) : K.Holds (secondFault cond s) ↔ K.Holds s := by simp [secondFault]
@[simp] theorem laneFault_holds (l cause c) : K.Holds (laneFault l cause c s) ↔ K.Holds s := by
  unfold laneFault; (repeat' split) <;> simp
@[simp] theorem laneRequest_holds (test l) : K.Holds (laneRequest test l s) ↔ K.Holds s := by simp [laneRequest]
@[simp] theorem lanCtrlEff_holds (readmit test) : K.Holds (lanCtrlEff readmit test s) ↔ K.Holds s := by
  unfold lanCtrlEff; split <;> simp
@[simp] theorem execLaneReadmitReq_holds (hr : K.Rises) (bits) (h : K.Holds s) : K.Answers (execLaneReadmitReq bits s) := by
  simp [execLaneReadmitReq, hr, h]
@[simp] theorem execLaneTestReq_holds (hr : K.Rises) (bits) (h : K.Holds s) : K.Answers (execLaneTestReq bits s) := by
  simp [execLaneTestReq, hr, h]
@[simp] theorem execAutoReadmit_holds (hr : K.Rises) (l) (h : K.Holds s) : K.Answers (execAutoReadmit l s) := by
  unfold execAutoReadmit; split <;> simp [hr, h]
@[simp] theorem execLaneSelftestDone_holds (pass refuse) (h : K.Holds s) : K.Answers (execLaneSelftestDone pass refuse s) := by
  unfold execLaneSelftestDone; split <;> simp [h]
@[simp] theorem laneFrame_holds (l f) : K.Holds (laneFrame l f s) ↔ K.Holds s := by unfold laneFrame; split <;> simp
@[simp] theorem copyFrame_holds (l f) : K.Holds (copyFrame l f s) ↔ K.Holds s := by unfold copyFrame; split <;> simp
@[simp] theorem execSampleFrameReceive_holds (hr : K.Rises) (l f) (h : K.Holds s) : K.Answers (execSampleFrameReceive l f s) := by
  simp [execSampleFrameReceive, hr, h]
@[simp] theorem laneEccU_holds (l) : K.Holds (laneEccU l s) ↔ K.Holds s := by simp [laneEccU]
@[simp] theorem laneScramble_holds (l) : K.Holds (laneScramble l s) ↔ K.Holds s := by simp [laneScramble]
@[simp] theorem execLaneSramScrub_holds (l ecc) (h : K.Holds s) : K.Answers (execLaneSramScrub l ecc s) := by
  unfold execLaneSramScrub; (repeat' split) <;> simp [h]
@[simp] theorem repairScan_holds (dt) : K.Holds (repairScan dt s) ↔ K.Holds s := by simp [repairScan]
@[simp] theorem execRepairTimerExpire_holds (hr : K.Rises) (h : K.Holds s) : K.Answers (execRepairTimerExpire s) := by
  unfold execRepairTimerExpire; split <;> simp [hr, h]
@[simp] theorem recurScan_holds (dt) : K.Holds (recurScan dt s) ↔ K.Holds s := by unfold recurScan; split <;> simp
@[simp] theorem execRecurClear_holds (hr : K.Rises) (h : K.Holds s) : K.Answers (execRecurClear s) := by simp [execRecurClear, hr, h]

/-! ### Descriptors (chapters 3, 4) -/

@[simp] theorem execRingFetch_holds (h : K.Holds s) : K.Answers (execRingFetch s) := by simp [execRingFetch, h]
@[simp] theorem stageOne_holds (d) : K.Holds (stageOne s d) ↔ K.Holds s := by simp [stageOne]
@[simp] theorem execFetchCompletion_holds (ds) (h : K.Holds s) : K.Answers (execFetchCompletion ds s) := by
  unfold execFetchCompletion; split <;> simp +contextual [h]
@[simp] theorem execFetchError_holds (k) (h : K.Holds s) : K.Answers (execFetchError s k) := by unfold execFetchError; split <;> simp [h]
@[simp] theorem dmaCtrlEff_holds (val) : K.Holds (dmaCtrlEff val s) ↔ K.Holds s := by unfold dmaCtrlEff; split <;> simp
@[simp] theorem execDmaResume_holds (hr : K.Rises) (h : K.Holds s) : K.Answers (execDmaResume s) := by simp [execDmaResume, hr, h]
@[simp] theorem updFlight_holds (id g) : K.Holds (updFlight s id g) ↔ K.Holds s := by simp [updFlight]
@[simp] theorem admitNow_holds (f) : K.Holds (admitNow f s) ↔ K.Holds s := by simp [admitNow]
@[simp] theorem finish_holds (f st) : K.Holds (finish f st s) ↔ K.Holds s := by simp [finish]

@[simp] theorem withNext_holds (hr : K.Rises) (op) {eff : Flight → State → State}
    (heff : ∀ f t, K.Holds t → K.Holds (eff f t)) (h : K.Holds s) : K.Holds (withNext op eff s) := by
  unfold withNext; split <;> simp [heff, hr, h]

@[simp] theorem sendFwd_holds (id side d ticket first n kdl) : K.Holds (sendFwd id side d ticket first n kdl s) ↔ K.Holds s := by
  unfold sendFwd; split <;> simp
@[simp] theorem execAdmitNop_holds (hr : K.Rises) (h : K.Holds s) : K.Answers (execAdmitNop s) := by simp [execAdmitNop, hr, h]
@[simp] theorem execAdmitFence_holds (hr : K.Rises) (h : K.Holds s) : K.Answers (execAdmitFence s) := by simp [execAdmitFence, hr, h]
@[simp] theorem execAdmitInvalidOpcode_holds (hr : K.Rises) (h : K.Holds s) : K.Answers (execAdmitInvalidOpcode s) := by
  unfold execAdmitInvalidOpcode; split <;> simp [hr, h]

@[simp] theorem beginWrites_holds (f ws st drain ticket opens dark) : K.Holds (beginWrites f ws st drain ticket opens dark s) ↔ K.Holds s := by
  simp [beginWrites]

@[simp] theorem forwardMark_holds (f ticket kdl) : K.Holds (forwardMark f ticket kdl s) ↔ K.Holds s := by
  unfold forwardMark; (repeat' split) <;> simp
@[simp] theorem markEff_holds (f) : K.Holds (markEff f s) ↔ K.Holds s := by unfold markEff; dsimp only; split <;> simp
@[simp] theorem execAdmitMark_holds (hr : K.Rises) (h : K.Holds s) : K.Answers (execAdmitMark s) := by simp [execAdmitMark, hr, h]

@[simp] theorem specEff_holds (f) : K.Holds (specEff f s) ↔ K.Holds s := by
  unfold specEff
  dsimp only
  split
  · simp
  · rfl
  · split
    · rfl
    · split <;> simp

@[simp] theorem execAdmitMarkSpec_holds (hr : K.Rises) (h : K.Holds s) : K.Answers (execAdmitMarkSpec s) := by simp [execAdmitMarkSpec, hr, h]

@[simp] theorem closeEff_holds (op f) : K.Holds (closeEff op f s) ↔ K.Holds s := by
  unfold closeEff
  dsimp only
  (repeat' split) <;> simp

@[simp] theorem execAdmitConfirm_holds (hr : K.Rises) (h : K.Holds s) : K.Answers (execAdmitConfirm s) := by
  simp +contextual [execAdmitConfirm, hr, h]
@[simp] theorem execAdmitRevoke_holds (hr : K.Rises) (h : K.Holds s) : K.Answers (execAdmitRevoke s) := by
  simp +contextual [execAdmitRevoke, hr, h]
@[simp] theorem undo_holds (f) (h : K.Holds s) : K.Holds (undo f s) := by simp +contextual [undo, h]
@[simp] theorem ticketDone_holds (f st) (h : K.Holds s) : K.Holds (ticketDone f st s) := by unfold ticketDone; split <;> simp [h]
@[simp] theorem report_holds (f st drain) : K.Holds (report f st drain s) ↔ K.Holds s := by unfold report; (repeat' split) <;> simp
@[simp] theorem completeEff_holds (f) (h : K.Holds s) : K.Holds (completeEff f s) := by simp [completeEff, h]
@[simp] theorem execDescComplete_holds (h : K.Holds s) : K.Answers (execDescComplete s) := by unfold execDescComplete; split <;> simp [h]

/-! ### Osrin ring (chapter 13) -/

@[simp] theorem State.link_holds (p f) : K.Holds (State.link s p f) ↔ K.Holds s := by simp [State.link]
@[simp] theorem linkLeave_holds (p cause) : K.Holds (linkLeave p cause s) ↔ K.Holds s := by simp [linkLeave]
@[simp] theorem osrDrop_holds (p crc) : K.Holds (osrDrop p crc s) ↔ K.Holds s := by simp [osrDrop]
@[simp] theorem execOsrFrameDrop_holds (p crc) (h : K.Holds s) : K.Answers (execOsrFrameDrop p crc s) := by
  unfold execOsrFrameDrop; split <;> simp [h]

@[simp] theorem osrTake_holds (p : Fin 2) (typ len : Nat) (bad : Bool) (f : Frame) {eff : State → State}
    (heff : ∀ t, K.Holds t → K.Holds (eff t)) (h : K.Holds s) : K.Holds (osrTake p typ len bad f eff s) := by
  simp [osrTake, heff, h]

@[simp] theorem trainLink_holds (p) : K.Holds (trainLink s p) ↔ K.Holds s := by unfold trainLink; split <;> simp
@[simp] theorem execOsrSyncGain_holds (p) (h : K.Holds s) : K.Answers (execOsrSyncGain p s) := by
  unfold execOsrSyncGain; split <;> simp [h]
@[simp] theorem osrSyncLost_holds (p) : K.Holds (osrSyncLost p s) ↔ K.Holds s := by simp [osrSyncLost]
@[simp] theorem execOsrSyncLoss_holds (p) (h : K.Holds s) : K.Answers (execOsrSyncLoss p s) := by
  unfold execOsrSyncLoss; split <;> simp [h]
@[simp] theorem execOsrLostExpire_holds (hr : K.Rises) (p) (h : K.Holds s) : K.Answers (execOsrLostExpire p s) := by
  unfold execOsrLostExpire; split <;> simp [hr, h]
@[simp] theorem execHelloSend_holds (p) (h : K.Holds s) : K.Answers (execHelloSend p s) := by unfold execHelloSend; split <;> simp [h]
@[simp] theorem judgeCls_holds (p peer) : K.Holds (judgeCls p peer s) ↔ K.Holds s := by simp [judgeCls]
@[simp] theorem helloJudge_holds (p f rtt) : K.Holds (helloJudge p f rtt s) ↔ K.Holds s := by simp [helloJudge]
@[simp] theorem execHelloReceive_holds (p f rtt) (h : K.Holds s) : K.Answers (execHelloReceive p f rtt s) := by
  simp +contextual [execHelloReceive, h]
@[simp] theorem execOsrRttMeasure_holds (p rtt) (h : K.Holds s) : K.Answers (execOsrRttMeasure p rtt s) := by
  unfold execOsrRttMeasure; (repeat' split) <;> simp [h]
@[simp] theorem execTimeSend_holds (h : K.Holds s) : K.Answers (execTimeSend s) := by unfold execTimeSend; split <;> simp [h]
@[simp] theorem slotStart_holds : K.Holds (slotStart s) ↔ K.Holds s := by unfold slotStart; (repeat' split) <;> simp
@[simp] theorem timeStuck_holds : K.Holds (timeStuck s) ↔ K.Holds s := by simp [timeStuck]
@[simp] theorem takeKc_holds (t) : K.Holds (takeKc t s) ↔ K.Holds s := by unfold takeKc; split <;> simp
@[simp] theorem steer_holds (hr : K.Rises) (est) (hf : (!s.osr.stepped && !s.lan.run && !s.slot.run) = true → K.Free) (h : K.Holds s) :
    K.Holds (steer est s) := by
  unfold steer
  split
  · rename_i hstep
    exact Track.HoldsOf.of_tb h fun _ => hf hstep _
  · dsimp only
    split
    · simp [h]
    · refine Track.HoldsOf.of_tb h fun ht => hr _ _ ?_ ht
      dsimp only
      split <;> simp
@[simp] theorem timeEff_holds (hr : K.Rises) (p f) (hf : (!s.osr.stepped && !s.lan.run && !s.slot.run) = true → K.Free) (h : K.Holds s) :
    K.Holds (timeEff p f s) := by
  simp only [timeEff]
  split
  · exact h
  · split
    · simp only [slotStart_holds, takeKc_holds, State.link_holds]
      exact steer_holds hr _ hf h
    · simp only [takeKc_holds, State.link_holds]
      exact steer_holds hr _ hf h
@[simp] theorem execTimeLockTimeout_holds (hr : K.Rises) (h : K.Holds s) : K.Answers (execTimeLockTimeout s) := by
  unfold execTimeLockTimeout; split <;> simp [hr, h]
@[simp] theorem execRingSyncMark_holds (hr : K.Rises) (h : K.Holds s) : K.Answers (execRingSyncMark s) := by
  unfold execRingSyncMark; split <;> simp [hr, h]
@[simp] theorem execRingSyncEdge_holds (edge) (h : K.Holds s) : K.Answers (execRingSyncEdge edge s) := by simp [execRingSyncEdge, h]
@[simp] theorem relay_holds (p f) : K.Holds (relay p f s) ↔ K.Holds s := by unfold relay; split <;> simp
@[simp] theorem stageFwd_holds (side f) : K.Holds (stageFwd side f s) ↔ K.Holds s := by unfold stageFwd; split <;> simp

@[simp] theorem execFwdReceive_holds (p f) (h : K.Holds s) : K.Answers (execFwdReceive p f s) := by
  simp only [execFwdReceive, Track.answers_next]
  refine osrTake_holds _ _ _ _ _ (fun t ht => ?_) h
  (repeat' split) <;> simp [ht]

@[simp] theorem answered_holds (id st drain) : K.Holds (answered s id st drain) ↔ K.Holds s := by simp [answered]

@[simp] theorem execAnsReceive_holds (p f) (h : K.Holds s) : K.Answers (execAnsReceive p f s) := by
  simp only [execAnsReceive, Track.answers_next]
  refine osrTake_holds _ _ _ _ _ (fun t ht => ?_) h
  (repeat' split) <;> simp [ht]

@[simp] theorem execFwdAnsTimeout_holds (hr : K.Rises) (fseq) (h : K.Holds s) : K.Answers (execFwdAnsTimeout fseq s) := by
  unfold execFwdAnsTimeout; split <;> simp [hr, h]
@[simp] theorem execRswSend_holds (hr : K.Rises) (h : K.Holds s) : K.Answers (execRswSend s) := by unfold execRswSend; split <;> simp [hr, h]
@[simp] theorem execRswReceive_holds (p f) (h : K.Holds s) : K.Answers (execRswReceive p f s) := by simp [execRswReceive, h]

end Sys2Proof.Machine
end

section
/-! SUPPORT. What is followed (`Track`) through the domains, the device reset, the sump, the modes and the phases of a scan. -/

namespace Sys2Proof.Machine

variable {K : Track} {s : State}

/-! ### Domains (R32-R39) -/

@[simp] theorem loseLane_holds (l) : K.Holds (loseLane l s) ↔ K.Holds s := by
  simp only [loseLane]
  (repeat' split) <;> simp

@[simp] theorem loseCs0_holds (h : K.Holds s) : K.Holds (loseCs0 s) := by
  simpa [loseCs0] using Track.HoldsOf.of_cells h dropSlices_cells
@[simp] theorem loseCs1_holds (h : K.Holds s) : K.Holds (loseCs1 s) :=
  Track.HoldsOf.of_cells (d := (dropSlices (fun p => !cs0Slice p) s.cis).cells) h dropSlices_cells
@[simp] theorem loseHs_holds : K.Holds (loseHs s) ↔ K.Holds s := by simp [loseHs]
@[simp] theorem loseVp_holds : K.Holds (loseVp s) ↔ K.Holds s := by simp [loseVp]
@[simp] theorem loseDomain_holds (d) (h : K.Holds s) : K.Holds (loseDomain d s) := by unfold loseDomain; split <;> simp [h]
@[simp] theorem tripDomain_holds (d) (h : K.Holds s) : K.Holds (tripDomain d s) := by simp [tripDomain, h]
@[simp] theorem execDomainOpenTimeout_holds (d) (h : K.Holds s) : K.Answers (execDomainOpenTimeout d s) := by
  unfold execDomainOpenTimeout; split <;> simp [h]
@[simp] theorem openDomain_holds (d) : K.Holds (openDomain d s) ↔ K.Holds s := by simp [openDomain]
@[simp] theorem restartLength_holds : K.Holds (restartLength s) ↔ K.Holds s := by simp [restartLength]
@[simp] theorem restartCs1_holds : K.Holds (restartCs1 s) ↔ K.Holds s := by simp [restartCs1]
@[simp] theorem restartDomain_holds (fail d) : K.Holds (restartDomain fail s d) ↔ K.Holds s := by
  unfold restartDomain; dsimp only; split <;> simp [restartCs0]
@[simp] theorem restartDomains_holds (recovered fail) : K.Holds (restartDomains recovered fail s) ↔ K.Holds s := by
  simp [restartDomains]

/-! ### The device reset (R518) -/

/-- The device reset clears the cells and keeps the rest that is followed (R518). -/
@[simp] theorem deviceReset_holds (cause) (h : K.Holds s) : K.Holds (deviceReset cause s) :=
  Track.HoldsOf.of_cells h fun _ => K.cells_nil

/-! ### Sump (chapter 19) -/

@[simp] theorem countTemp_holds (src base) : K.Holds (countTemp src base s) ↔ K.Holds s := by unfold countTemp; split <;> simp

@[simp] theorem secondEff_holds (mv) : K.Holds (secondEff mv s) ↔ K.Holds s := by
  refine (foldl_holds_iff fun t d => by simp).trans ?_
  simp

@[simp] theorem execStatsSecond_holds (hr : K.Rises) (mv) (h : K.Holds s) : K.Answers (execStatsSecond mv s) := by
  unfold execStatsSecond; split <;> simp [hr, h]
@[simp] theorem pdnDone_holds : K.Holds (pdnDone s) ↔ K.Holds s := by simp [pdnDone]
@[simp] theorem storeEnd_holds : K.Holds (storeEnd s) ↔ K.Holds s := by simp [storeEnd]
@[simp] theorem storeBegin_holds (hs : K.Stores) (final) (h : K.Holds s) : K.Holds (storeBegin final s) := by
  unfold storeBegin
  split
  · simp [h]
  · exact Track.HoldsOf.of_nv h hs id
@[simp] theorem execSumpStoreStart_holds (hr : K.Rises) (hs : K.Stores) (h : K.Holds s) : K.Answers (execSumpStoreStart s) := by
  unfold execSumpStoreStart; (repeat' split) <;> simp [hr, hs, h]

@[simp] theorem execSumpStoreDone_holds (hs : K.Stores) (ok) (h : K.Holds s) : K.Answers (execSumpStoreDone ok s) := by
  have hn : ∀ v, K.HoldsOf { s.nv with slots := v } s.tb s.cis.cells s.pending := fun v => Track.HoldsOf.of_nv h hs id
  simp only [execSumpStoreDone, Track.answers_next]
  (repeat' split) <;> simp [h, hn]

@[simp] theorem restoreEcc_holds (hits) (h : K.Holds s) : K.Holds (restoreEcc hits s) := by
  refine foldl_holds (fun t e ht => ?_) h
  split <;> simp [ht]

@[simp] theorem restoreEff_holds (hits) (h : K.Holds s) : K.Holds (restoreEff hits s) := by simp [restoreEff, h]
@[simp] theorem bootInternal_holds : K.Holds (bootInternal s) ↔ K.Holds s := by unfold bootInternal; split <;> simp
@[simp] theorem execSumpRestore_holds (hits) (h : K.Holds s) : K.Answers (execSumpRestore hits s) := by
  unfold execSumpRestore; split <;> simp [h]

/-! ### Modes, requests and reactions (chapters 16, 17) -/

@[simp] theorem bootExit_holds : K.Holds (bootExit s) ↔ K.Holds s := by simp [bootExit]
@[simp] theorem setMode_holds (m) : K.Holds (setMode m s) ↔ K.Holds s := by unfold setMode; split <;> simp
@[simp] theorem bootLeave_holds : K.Holds (bootLeave s) ↔ K.Holds s := by unfold bootLeave; split <;> simp
@[simp] theorem execTimeReceive_holds (hr : K.Rises) (p f) (hf : (!s.osr.stepped && !s.lan.run && !s.slot.run) = true → K.Free)
    (h : K.Holds s) : K.Answers (execTimeReceive p f s) := by
  simp only [execTimeReceive, Track.answers_next]
  unfold osrTake
  (repeat' split)
  · exact h
  · simp [h]
  · simp [h]
  · dsimp only
    split
    · exact (bootLeave_holds).2 (timeEff_holds hr p f hf h)
    · exact h
@[simp] theorem enterHold_holds : K.Holds (enterHold s) ↔ K.Holds s := by unfold enterHold; split <;> simp
@[simp] theorem judgePartners_holds : K.Holds (judgePartners s) ↔ K.Holds s := by simp [judgePartners]
@[simp] theorem execPartnerWaitExpire_holds (hr : K.Rises) (h : K.Holds s) : K.Answers (execPartnerWaitExpire s) := by
  unfold execPartnerWaitExpire; split <;> simp +contextual [hr, h]
@[simp] theorem reqResult_holds (res why) : K.Holds (reqResult res why s) ↔ K.Holds s := by simp [reqResult]
@[simp] theorem modeReqEff_holds (val) : K.Holds (modeReqEff val s) ↔ K.Holds s := by simp [modeReqEff]
@[simp] theorem execModeReqConfigure_holds (hr : K.Rises) (h : K.Holds s) : K.Answers (execModeReqConfigure s) := by
  simp [execModeReqConfigure, hr, h]
@[simp] theorem execModeReqRun_holds (hr : K.Rises) (h : K.Holds s) : K.Answers (execModeReqRun s) := by simp [execModeReqRun, hr, h]
@[simp] theorem execModeReqMaintain_holds (hr : K.Rises) (h : K.Holds s) : K.Answers (execModeReqMaintain s) := by
  simp [execModeReqMaintain, hr, h]
@[simp] theorem judgeReq_holds : K.Holds (judgeReq s) ↔ K.Holds s := by unfold judgeReq; split <;> simp
@[simp] theorem overtakeReq_holds : K.Holds (overtakeReq s) ↔ K.Holds s := by unfold overtakeReq; split <;> simp
@[simp] theorem takeReq_holds (recovered fail) : K.Holds (takeReq recovered fail s) ↔ K.Holds s := by
  unfold takeReq; (repeat' split) <;> simp
@[simp] theorem drstResult_holds (res why) : K.Holds (drstResult res why s) ↔ K.Holds s := by simp [drstResult]
@[simp] theorem drstEff_holds : K.Holds (drstEff s) ↔ K.Holds s := by simp [drstEff]
@[simp] theorem restartEff_holds (h : K.Holds s) : K.Holds (restartEff s) := by unfold restartEff; split <;> simp [h]
@[simp] theorem pdnEff_holds : K.Holds (pdnEff s) ↔ K.Holds s := by unfold pdnEff; split <;> simp
@[simp] theorem sysCtrlEff_holds (val) (h : K.Holds s) : K.Holds (sysCtrlEff val s) := by simp [sysCtrlEff, h]
@[simp] theorem sysCtrlWr_holds (hr : K.Rises) (act key) (h : K.Holds s) : K.Answers (sysCtrlWr act key s) := by
  simp +contextual [sysCtrlWr, hr, h]
@[simp] theorem execDeliberateReset_holds (hr : K.Rises) (key) (h : K.Holds s) : K.Answers (execDeliberateReset key s) := by
  simp [execDeliberateReset, hr, h]
@[simp] theorem execRestart_holds (hr : K.Rises) (key) (h : K.Holds s) : K.Answers (execRestart key s) := by simp [execRestart, hr, h]
@[simp] theorem execPowerDown_holds (hr : K.Rises) (key) (h : K.Holds s) : K.Answers (execPowerDown key s) := by simp [execPowerDown, hr, h]
@[simp] theorem drstGroups_holds : K.Holds (drstGroups s) ↔ K.Holds s := by unfold drstGroups; split <;> simp
@[simp] theorem drstBoundary_holds (recovered fail) : K.Holds (drstBoundary recovered fail s) ↔ K.Holds s := by
  unfold drstBoundary; split <;> simp
@[simp] theorem forceEff_holds (blk val) : K.Holds (forceEff blk val s) ↔ K.Holds s := by simp [forceEff]
@[simp] theorem execFaultForce_holds (hr : K.Rises) (blk val) (h : K.Holds s) : K.Answers (execFaultForce blk val s) := by
  simp +contextual [execFaultForce, hr, h]
@[simp] theorem blkEff_holds (blk) : K.Holds (blkEff blk s) ↔ K.Holds s := by unfold blkEff; split <;> simp
@[simp] theorem execBlkReset_holds (blk) (h : K.Holds s) : K.Answers (execBlkReset blk s) := by unfold execBlkReset; split <;> simp [h]
@[simp] theorem execChipReset_holds (hr : K.Rises) (h : K.Holds s) : K.Answers (execChipReset s) := by
  unfold execChipReset
  dsimp only
  (repeat' split) <;> simp [hr, h]
@[simp] theorem errRelEff_holds : K.Holds (errRelEff s) ↔ K.Holds s := by unfold errRelEff; split <;> simp
@[simp] theorem execErrRelease_holds (hr : K.Rises) (h : K.Holds s) : K.Answers (execErrRelease s) := by simp [execErrRelease, hr, h]
@[simp] theorem execErrMinWidthEnd_holds (hr : K.Rises) (h : K.Holds s) : K.Answers (execErrMinWidthEnd s) := by
  unfold execErrMinWidthEnd; split <;> simp [hr, h]
@[simp] theorem execPumpSquareWaveEdge_holds (hr : K.Rises) (h : K.Holds s) : K.Answers (execPumpSquareWaveEdge s) := by
  simp [execPumpSquareWaveEdge, hr, h]
@[simp] theorem execPumpTokenExpire_holds (hr : K.Rises) (h : K.Holds s) : K.Answers (execPumpTokenExpire s) := by
  unfold execPumpTokenExpire; split <;> simp [hr, h]

/-! ### Scan boundary and phase 1 (chapters 8, 10) -/

@[simp] theorem joinZero_holds (j) : K.Holds (joinZero j s) ↔ K.Holds s := by simp [joinZero]
@[simp] theorem joinTransfer_holds (j) : K.Holds (joinTransfer j s) ↔ K.Holds s := by unfold joinTransfer; split <;> simp
@[simp] theorem joinAdmit_holds (j) : K.Holds (joinAdmit j s) ↔ K.Holds s := by simp [joinAdmit]
@[simp] theorem joinScan_holds : K.Holds (joinScan s) ↔ K.Holds s := by unfold joinScan; (repeat' split) <;> simp
@[simp] theorem openScan_holds (b) : K.Holds (openScan b s) ↔ K.Holds s := by simp [openScan]
@[simp] theorem laneTransitions_holds : K.Holds (laneTransitions s) ↔ K.Holds s := by unfold laneTransitions; split <;> simp
@[simp] theorem validatedRun_holds : K.Holds (validatedRun s) ↔ K.Holds s := by unfold validatedRun; split <;> simp
@[simp] theorem bootEnd_holds : K.Holds (bootEnd s) ↔ K.Holds s := by unfold bootEnd; split <;> simp
@[simp] theorem transitions_holds (io) : K.Holds (transitions io s) ↔ K.Holds s := by simp [transitions]
@[simp] theorem takeHolds_holds (first) : K.Holds (takeHolds first s) ↔ K.Holds s := by simp [takeHolds]
@[simp] theorem hostResetScan_holds : K.Holds (hostResetScan s) ↔ K.Holds s := by unfold hostResetScan; split <;> simp
@[simp] theorem inputResetScan_holds (before) : K.Holds (inputResetScan before s) ↔ K.Holds s := by simp [inputResetScan]
@[simp] theorem agree_holds (ex silent) : K.Holds (agree ex silent s).1 ↔ K.Holds s := by simp [agree]
@[simp] theorem judgeMinority_holds (v hit) : K.Holds (judgeMinority v hit s) ↔ K.Holds s := by
  simp [judgeMinority]
@[simp] theorem minority_holds (minor) : K.Holds (minority minor s) ↔ K.Holds s := by simp [minority]
@[simp] theorem paceLane_holds (io l) : K.Holds (paceLane io s l) ↔ K.Holds s := by unfold paceLane; split <;> simp
@[simp] theorem fieldEvent_holds : K.Holds (fieldEvent s) ↔ K.Holds s := by simp [fieldEvent]
@[simp] theorem fieldState_holds (wdgBefore) : K.Holds (fieldState wdgBefore s) ↔ K.Holds s := by simp [fieldState]
@[simp] theorem judgeBoot_holds : K.Holds (judgeBoot s) ↔ K.Holds s := by simp [judgeBoot]

@[simp] theorem phase1_holds (io) : K.Holds (phase1 io s) ↔ K.Holds s := by simp [phase1]

@[simp] theorem scanCaptures_holds : K.Holds (scanCaptures s) ↔ K.Holds s := by unfold scanCaptures; split <;> simp
@[simp] theorem execScanBoundary_holds (hr : K.Rises) (io) (h : K.Holds s) : K.Answers (execScanBoundary io s) := by
  unfold execScanBoundary; split <;> simp [hr, h]

/-! ### Evaluation, comparison and drive (chapters 8, 10) -/

@[simp] theorem evalEff_holds (io) : K.Holds (evalEff io s) ↔ K.Holds s := by unfold evalEff; split <;> simp
@[simp] theorem execEvalPhase_holds (hr : K.Rises) (io) (h : K.Holds s) : K.Answers (execEvalPhase io s) := by
  unfold execEvalPhase; split <;> simp [hr, h]
@[simp] theorem ringVote_holds (ex) : K.Holds (ringVote ex s).1 ↔ K.Holds s := by
  simp [ringVote]
@[simp] theorem ringMinority_holds (minor) : K.Holds (ringMinority minor s) ↔ K.Holds s := by simp [ringMinority]
@[simp] theorem ringAgreeEff_holds (ex) : K.Holds (ringAgreeEff ex s) ↔ K.Holds s := by
  unfold ringAgreeEff; dsimp only; split <;> simp
@[simp] theorem execRingAgree_holds (hr : K.Rises) (ex) (h : K.Holds s) : K.Answers (execRingAgree s ex) := by
  unfold execRingAgree; split <;> simp [hr, h]
@[simp] theorem knownAnswers_holds (io) : K.Holds (knownAnswers io s) ↔ K.Holds s := by unfold knownAnswers; split <;> simp
@[simp] theorem comparatorFault_holds : K.Holds (comparatorFault s) ↔ K.Holds s := by simp [comparatorFault]
@[simp] theorem checkWords_holds (x y) : K.Holds (checkWords x y s) ↔ K.Holds s := by unfold checkWords; split <;> simp
@[simp] theorem retireMinority_holds (w l) : K.Holds (retireMinority w l s) ↔ K.Holds s := by simp [retireMinority]
@[simp] theorem blockReport_holds (e) : K.Holds (blockReport s e) ↔ K.Holds s := by simp [blockReport]
@[simp] theorem countReactions_holds (im cmds) : K.Holds (countReactions im cmds s) ↔ K.Holds s := by
  unfold countReactions; split <;> simp
@[simp] theorem release_holds (a) : K.Holds (release a s) ↔ K.Holds s := by unfold release; split <;> simp
@[simp] theorem actVerdict_holds : K.Holds (actVerdict s) ↔ K.Holds s := by unfold actVerdict; (repeat' split) <;> simp
@[simp] theorem judgeJoin_holds : K.Holds (judgeJoin s) ↔ K.Holds s := by unfold judgeJoin; split <;> simp
@[simp] theorem upsetResults_holds (us') : K.Holds (upsetResults us' s) ↔ K.Holds s := by simp [upsetResults]
@[simp] theorem compareEff_holds (io) : K.Holds (compareEff io s) ↔ K.Holds s := by simp [compareEff]
@[simp] theorem execComparePhase_holds (hr : K.Rises) (io) (h : K.Holds s) : K.Answers (execComparePhase io s) := by
  unfold execComparePhase; split <;> simp [hr, h]
@[simp] theorem overtaken_holds : K.Holds (overtaken s) ↔ K.Holds s := by simp [overtaken]
@[simp] theorem actHolds_holds : K.Holds (actHolds s) ↔ K.Holds s := by simp [actHolds]
@[simp] theorem actReset_holds : K.Holds (actReset s) ↔ K.Holds s := by unfold actReset; split <;> simp
@[simp] theorem testPhase_holds (cmds) : K.Holds (testPhase cmds s).1 ↔ K.Holds s := by
  unfold testPhase
  dsimp only
  rw [foldl_holds_iff fun t g => by split <;> simp]
  simp
@[simp] theorem sendDrives_holds : K.Holds (sendDrives s) ↔ K.Holds s := by simp [sendDrives]
@[simp] theorem driveLines_holds : K.Holds (driveLines s) ↔ K.Holds s := by simp [driveLines]
@[simp] theorem driveEff4_holds : K.Holds (driveEff4 s) ↔ K.Holds s := by simp [driveEff4]
@[simp] theorem execDrivePhase_holds (hr : K.Rises) (h : K.Holds s) : K.Answers (execDrivePhase s) := by
  unfold execDrivePhase; split <;> simp [hr, h]

end Sys2Proof.Machine
end

section
/-! SUPPORT. What is followed (`Track`) through power-up and Boot, the slot tick, and the writes and reads of the host. -/

namespace Sys2Proof.Machine

variable {K : Track} {s : State}

/-! ### Power-up and Boot (chapter 17) -/

@[simp] theorem execRef100Accept_holds (dev) (h : K.Holds s) : K.Answers (execRef100Accept dev s) := by
  unfold execRef100Accept; split <;> simp [h]
@[simp] theorem execRef100Lost_holds (h : K.Holds s) : K.Answers (execRef100Lost s) := by unfold execRef100Lost; split <;> simp [h]
@[simp] theorem seqEnd_holds : K.Holds (seqEnd s) ↔ K.Holds s := by simp [seqEnd]
@[simp] theorem seqEff_holds (hr : K.Rises) (inLimits) (h : K.Holds s) : K.Holds (seqEff inLimits s) := by simp [seqEff, hr, h]
@[simp] theorem execPowerupSeqStep_holds (hr : K.Rises) (inLimits) (h : K.Holds s) : K.Answers (execPowerupSeqStep inLimits s) := by
  unfold execPowerupSeqStep; split <;> simp [hr, h]
@[simp] theorem execDomainLateOpen_holds (d) (h : K.Holds s) : K.Answers (execDomainLateOpen d s) := by
  unfold execDomainLateOpen; split <;> simp [h]
@[simp] theorem execLaneGateReopen_holds (l) (h : K.Holds s) : K.Answers (execLaneGateReopen l s) := by
  unfold execLaneGateReopen; split <;> simp [h]
@[simp] theorem aoOver_holds : K.Holds (aoOver s) ↔ K.Holds s := by simp [aoOver]
@[simp] theorem gatesClosed_holds (h : K.Holds s) : K.Holds (gatesClosed s) :=
  Track.HoldsOf.of_cells (loseVp_holds.2 (loseHs_holds.2 (loseCs1_holds h))) fun _ => K.cells_nil
@[simp] theorem execTestModeRise_holds (hr : K.Rises) (h : K.Holds s) : K.Answers (execTestModeRise s) := by
  unfold execTestModeRise; split <;> simp [hr, h]
@[simp] theorem execRstNAssert_holds (hr : K.Rises) (h : K.Holds s) : K.Answers (execRstNAssert s) := by
  unfold execRstNAssert; split <;> simp [hr, h]
@[simp] theorem execRstNRelease_holds (hr : K.Rises) (ringId testMode) (h : K.Holds s) : K.Answers (execRstNRelease ringId testMode s) := by
  unfold execRstNRelease; split <;> simp [hr, h]

@[simp] theorem sliceTests_holds (fail) : K.Holds (sliceTests fail s) ↔ K.Holds s := by
  refine (foldl_holds_iff fun t p => ?_).trans (by split <;> simp)
  split
  · rfl
  · dsimp only
    split <;> simp

@[simp] theorem laneTests_holds (fail) : K.Holds (laneTests fail s) ↔ K.Holds s := by simp [laneTests]
@[simp] theorem loopbacks_holds (r) : K.Holds (loopbacks r s) ↔ K.Holds s := by simp [loopbacks]
@[simp] theorem bootCal_holds (c r) : K.Holds (bootCal c r s) ↔ K.Holds s := by unfold bootCal; split <;> simp
@[simp] theorem bootCals_holds (r) : K.Holds (bootCals r s) ↔ K.Holds s := by simp [bootCals]
/-- The state in which the self-tests decide how Boot goes on: the tests have run and raised what they found. -/

theorem selftested_holds (r : SelfTests) : K.Holds (selftested r s) ↔ K.Holds s := by simp [selftested]

@[simp] theorem selftestEff_holds (r : SelfTests) : K.Holds (selftestEff r s) ↔ K.Holds s := by
  rw [selftestEff_eq]
  split <;> simp [selftested_holds]

@[simp] theorem execBootSelftestDone_holds (r) (h : K.Holds s) : K.Answers (execBootSelftestDone r s) := by
  unfold execBootSelftestDone; split <;> simp [h]
@[simp] theorem bootRefuse_holds (c) : K.Holds (bootRefuse c s) ↔ K.Holds s := by simp [bootRefuse]
@[simp] theorem readBank_holds (b raised r0 r1 r2) : K.Holds (readBank b raised r0 r1 r2 s) ↔ K.Holds s := by simp [readBank]

@[simp] theorem bankEcc_holds (hits) (h : K.Holds s) : K.Holds (bankEcc hits s) := by
  refine foldl_holds (fun t e ht => ?_) h
  dsimp only; split <;> simp [ht]

@[simp] theorem configReadEff_holds (hits r0 r1 r2) (h : K.Holds s) : K.Holds (configReadEff hits r0 r1 r2 s) := by
  unfold configReadEff; dsimp only; split <;> simp [h]

@[simp] theorem execBootConfigReadDone_holds (hits0 hits1 seal0 seal1 seal2) (h : K.Holds s) :
    K.Answers (execBootConfigReadDone hits0 hits1 seal0 seal1 seal2 s) := by
  unfold execBootConfigReadDone; split <;> simp [h]

@[simp] theorem loadDone_holds (m im) : K.Holds (loadDone m im s) ↔ K.Holds s := by simp [loadDone]
@[simp] theorem loadEff_holds (b refuse) : K.Holds (loadEff b refuse s) ↔ K.Holds s := by simp [loadEff]
@[simp] theorem execBootLoadDone_holds (refuse) (h : K.Holds s) : K.Answers (execBootLoadDone refuse s) := by
  unfold execBootLoadDone; split <;> simp [h]

/-! ### Slot tick and launch (chapters 1, 2) -/

@[simp] theorem flushSlice_holds (k p) (h : K.Holds s) : K.Holds (flushSlice k s p) := by simp +contextual [flushSlice, h]
@[simp] theorem drainReport_holds (io p row cw) : K.Holds (drainReport io p row s cw) ↔ K.Holds s := by
  unfold drainReport; split <;> simp
@[simp] theorem drainSlice_holds (io row c0 p) (h : K.Holds s) : K.Holds (drainSlice io row c0 s p) := by
  unfold drainSlice
  split
  · exact h
  · simpa using Track.HoldsOf.of_cells h clearRow_cells
@[simp] theorem drainAll_holds (io row) (h : K.Holds s) : K.Holds (drainAll io row s) := by simp +contextual [drainAll, h]
@[simp] theorem slotLength_holds (k len) : K.Holds (slotLength k len s) ↔ K.Holds s := by simp [slotLength]
@[simp] theorem commitTick_holds (k) : K.Holds (commitTick k s) ↔ K.Holds s := by simp [commitTick]
@[simp] theorem takeover_holds (k before) : K.Holds (takeover k before s) ↔ K.Holds s := by unfold takeover; split <;> simp
@[simp] theorem tickTimers_holds : K.Holds (tickTimers s) ↔ K.Holds s := by simp [tickTimers]
@[simp] theorem drainPeak_holds (io) : K.Holds (drainPeak io s) ↔ K.Holds s := by simp [drainPeak]

/-- The tick in its order: booked writes, commit, new length, queued writes, drain, take-over. -/
@[simp] theorem slotTickEff_holds (hr : K.Rises) (io) (h : K.Holds s) : K.Holds (slotTickEff io s) := by
  unfold slotTickEff
  extract_lets k t len u v slot w x mig
  have ht : K.Holds t := bookedUpTo_holds _ (by simp [hr, h])
  have hu : K.Holds u := (commitTick_holds _).2 ht
  have hv : K.Holds v := by cases hl : t.slot.newLen k <;> simp [v, len, hl, hu]
  have hw : K.Holds w := by simp [w, hv]
  have hx : K.Holds x := by simp +contextual [x, hw]
  simp [drainAll_holds _ _ hx]
@[simp] theorem execSlotTick_holds (hr : K.Rises) (io) (h : K.Holds s) : K.Answers (execSlotTick io s) := by
  unfold execSlotTick; split <;> simp [hr, h]

@[simp] theorem overruns_holds (late) : K.Holds (overruns late s) ↔ K.Holds s := by
  refine foldl_holds_iff fun t n => ?_
  dsimp only
  cases t.cis.physOf n with
  | none => simp
  | some p =>
    dsimp only
    split <;> simp

@[simp] theorem fireLaunchEff_holds (hr : K.Rises) (late) (h : K.Holds s) : K.Holds (fireLaunchEff late s) := by
  simp [fireLaunchEff, hr, h]
@[simp] theorem execFireLaunch_holds (hr : K.Rises) (late) (h : K.Holds s) : K.Answers (execFireLaunch late s) := by
  unfold execFireLaunch; split <;> simp [hr, h]

/-! ### Configuration space (chapter 3) -/

@[simp] theorem headerWrite_holds (o val) : K.Holds (headerWrite o val s) ↔ K.Holds s := by simp [headerWrite]
@[simp] theorem pmWrite_holds (val) : K.Holds (pmWrite val s) ↔ K.Holds s := by unfold pmWrite; split <;> simp
@[simp] theorem pcieWrite_holds (k val) : K.Holds (pcieWrite k val s) ↔ K.Holds s := by unfold pcieWrite; split <;> simp
@[simp] theorem aerWrite_holds (k val) : K.Holds (aerWrite k val s) ↔ K.Holds s := by unfold aerWrite; split <;> simp
@[simp] theorem configWrite_holds (o val) : K.Holds (configWrite o val s) ↔ K.Holds s := by
  unfold configWrite; (repeat' split) <;> simp
@[simp] theorem bar2Write_holds (o val) : K.Holds (bar2Write o val s) ↔ K.Holds s := by
  unfold bar2Write; (repeat' split) <;> simp

/-! ### Register accesses (R12-R16, R513) -/

@[simp] theorem clearFirst_holds (blk) : K.Holds (clearFirst blk s) ↔ K.Holds s := by simp [clearFirst]

theorem faultWrite_holds {off val} {t : State} (h : K.Holds s) (ht : faultWrite off val s = some t) : K.Holds t := by
  unfold faultWrite at ht
  dsimp only at ht
  split at ht
  · exact absurd ht nofun
  · split at ht <;> cases ht <;> simp [h]

@[simp] theorem tableWrite_holds (o val) : K.Holds (tableWrite o val s) ↔ K.Holds s := by simp [tableWrite]
@[simp] theorem writeSys_holds (off val) (h : K.Holds s) : K.Holds (writeSys off val s) := by unfold writeSys; split <;> simp [h]

@[simp] theorem writeHif_holds (off val) : K.Holds (writeHif off val s) ↔ K.Holds s := by
  unfold writeHif
  dsimp only
  (repeat' split) <;> simp

/-- The offsets of the counts of the timers. -/
def countOffset (off : Nat) : Prop := ∃ n, n < 8 ∧ off = 0x9010C + 0x40 * n

theorem writeTmr_holds {off} (h9 : off / 0x10000 = 9) (val) (he : s.edge = 6) (hc : countOffset off → K.Rises) (h : K.Holds s) :
    K.Holds (writeTmr off val s) := by
  have hu : ∀ (n : Nat) {eff : State → State}, (∀ t, K.Holds t → K.Holds (eff t)) → K.Holds (unboundWr n off eff s) := fun n eff heff =>
    hostWr_holds_of_order off (fun t _ ht => by split <;> simp [ht, heff]) h (State.order_holds_of_edge he.le h)
  unfold writeTmr
  dsimp only
  split
  · rename_i hrange
    split
    · rename_i hlow
      have hr : K.Rises := hc ⟨(off % 0x10000 - 0x100) / 0x40, by omega, by omega⟩
      exact hu _ fun t ht => tcCntEff_holds hr _ _ ht
    · exact hu _ fun t ht => by simp [ht]
    · simp [h]
    · exact hu _ fun t ht => by simp [ht]
    · simp [h]
  · simp [h]

@[simp] theorem writeCrc_holds (off val) : K.Holds (writeCrc off val s) ↔ K.Holds s := by
  unfold writeCrc
  dsimp only
  (repeat' split) <;> simp

theorem writeCfg_holds {off} (val) (hs : off = 0xB0004 → K.Stores) (h : K.Holds s) : K.Holds (writeCfg off val s) := by
  unfold writeCfg
  split
  · split
    · exact cfgStart_holds (hs rfl) _ _ h
    · simp [h]
  · split <;> simp [h]
  · simp [h]
theorem writeBlock_holds {off} (val) (he : s.edge = 6) (hc : countOffset off → K.Rises) (hs : off = 0xB0004 → K.Stores) (h : K.Holds s) :
    K.Holds (writeBlock off val s) := by
  unfold writeBlock
  split
  all_goals first | exact writeTmr_holds ‹_› val he hc h | exact writeCfg_holds val hs h | simp [h]

theorem writeEff_holds {off} (val) (he : s.edge = 6) (hc : countOffset off → K.Rises) (hs : off = 0xB0004 → K.Stores) (h : K.Holds s) :
    K.Holds (writeEff off val s) := by
  unfold writeEff
  cases hf : faultWrite off val s with
  | none => exact writeBlock_holds val he hc hs h
  | some t => exact faultWrite_holds h hf

@[simp] theorem lockdownWrite_holds (off val) : K.Holds (lockdownWrite off val s) ↔ K.Holds s := by
  unfold lockdownWrite; split <;> simp
theorem registerWriteEff_holds {off} (val) (hc : countOffset off → K.Rises) (hs : off = 0xB0004 → K.Stores) (h : K.Holds s)
    (ho : K.Holds (s.order 6)) : K.Holds (registerWriteEff off val s) := by
  unfold registerWriteEff
  split
  · exact h
  · split
    · simp [ho]
    · exact hostWr_holds_of_order off (fun t he ht => writeEff_holds val he hc hs ht) h ho
/-- A register write, from what its edge does and from what a write of a count and a command of the configuration store need. -/
theorem execRegisterWrite_holds (off val space) (hc : countOffset (spaceOff space off) → K.Rises)
    (hs : off.toNat / 4 * 4 = 0xB0004 → space = .bar0 → K.Stores) (h : K.Holds s) (ho : K.Holds (s.order 6)) :
    K.Answers (execRegisterWrite off val s space) := by
  unfold execRegisterWrite
  split
  · exact (Track.answers_next _).2 (registerWriteEff_holds val hc (fun e => hs e rfl) h ho)
  · simp only [bar2Wr, Track.answers_next]
    split
    · simp [ho]
    · exact h
  · simp only [cfgReq, Track.answers_next]
    split
    · simp [ho]
    · split <;> simp [h]
  · simp [h, ho]
@[simp] theorem readOut_holds (be w) : K.Holds (readOut be w s) ↔ K.Holds s := by simp [readOut]
@[simp] theorem registerReadEff_holds (hr : K.Rises) (off be event) (h : K.Holds s) : K.Holds (registerReadEff off be event s) := by
  simp [registerReadEff, hr, h]
@[simp] theorem execRegisterRcRead_holds (hr : K.Rises) (off be event space) (h : K.Holds s) : K.Answers (execRegisterRcRead off be event s space) := by
  unfold execRegisterRcRead; split <;> simp [hr, h]

/-! ### JTAG port (R585) -/

@[simp] theorem tapRise_holds (io) : K.Holds (tapRise io s) ↔ K.Holds s := by simp [tapRise]
@[simp] theorem tapFall_holds : K.Holds (tapFall s) ↔ K.Holds s := by simp [tapFall]
@[simp] theorem execJtagTapClock_holds (io) (h : K.Holds s) : K.Answers (execJtagTapClock io s) := by
  unfold execJtagTapClock; split <;> simp [h]

end Sys2Proof.Machine
end

section
/-! SUPPORT. Every command: what it keeps of the queue, of the timebase, of the cells and of the nonvolatile contents. -/

namespace Sys2Proof.Machine

variable {K : Track} {s : State}

/-- The commands that may change nonvolatile contents: those of the configuration store and the stores of the sump. -/
def storesNv : Instr → Prop
  | .cfgErase | .cfgProgram _ | .cfgFinish | .cfgValidate | .cfgCmdDone _ _ | .sumpStoreStart | .sumpStoreDone _ => True
  | .registerWrite off _ space => off.toNat / 4 * 4 = 0xB0004 ∧ space = .bar0
  | _ => False

/-- The commands that may set the timebase back in a state: the fall of VDD_AO, its return, and the one step of a ring follower. -/
def setsBack (s : State) : Instr → Prop
  | .vddAoLoss => True
  | .domainTrip d high => d = 9 ∧ high = false
  | .powerUp _ _ _ _ => s.pwr.aoOk = false
  | .timeReceive _ _ => (!s.osr.stepped && !s.lan.run && !s.slot.run) = true
  | _ => False

theorem aoDown_holds (hf : K.Free) (h : K.Holds s) : K.Holds (aoDown s) := ⟨h.1, hf 0, K.cells_nil, h.2.2.2⟩

theorem execVddAoLoss_holds (hr : K.Rises) (hf : K.Free) (h : K.Holds s) : K.Answers (execVddAoLoss s) := by
  unfold execVddAoLoss
  split <;> simp [aoDown_holds, hr, hf, h]

theorem execPowerUp_holds {rstN testMode : Bool} {ringId : BitVec 3} {fsHigh : BitVec 2} (hf : s.pwr.aoOk = false → K.Free) (h : K.Holds s) :
    K.Answers (execPowerUp rstN testMode ringId fsHigh s) := by
  unfold execPowerUp
  split
  · simp [h]
  · rename_i hao
    have hd : K.Holds (aoDown s) := aoDown_holds (hf (by simpa using hao)) h
    exact (Track.answers_next _).2 hd

theorem execDomainTrip_holds {d : Fin 10} {high : Bool} (hr : K.Rises) (hf : d = 9 → high = false → K.Free) (h : K.Holds s) :
    K.Answers (execDomainTrip d high s) := by
  unfold execDomainTrip
  split
  · rename_i hd
    split
    · simp [h]
    · cases high with
      | false => simp [aoDown_holds, hf (Fin.ext hd) rfl, hr, h]
      | true => simp [hr, h]
  · simp [hr, h]

/-- Every command answers a next state in which what is followed holds, where what is followed suits the command. -/
theorem exec_holds (hr : K.Rises) (c : Instr) (hs : storesNv c → K.Stores) (hf : setsBack s c → K.Free) (h : K.Holds s) :
    K.Answers (exec c s) := by
  cases c with
  | registerWrite off val space =>
    exact execRegisterWrite_holds off val space (fun _ => hr) (fun e e' => hs ⟨e, e'⟩) h (State.order_holds hr 6 h)
  | vddAoLoss => exact execVddAoLoss_holds hr (hf trivial) h
  | powerUp rstN testMode ringId fsHigh => exact execPowerUp_holds hf h
  | domainTrip d high => exact execDomainTrip_holds hr (fun hd hh => hf ⟨hd, hh⟩) h
  | timeReceive p f => exact execTimeReceive_holds hr p f hf h
  | cfgErase => exact execCfgErase_holds hr (hs trivial) h
  | cfgProgram page => exact execCfgProgram_holds hr (hs trivial) page h
  | cfgFinish => exact execCfgFinish_holds hr (hs trivial) h
  | cfgValidate => exact execCfgValidate_holds hr (hs trivial) h
  | cfgCmdDone verifyOk uncorr => exact execCfgCmdDone_holds (hs trivial) verifyOk uncorr h
  | sumpStoreStart => exact execSumpStoreStart_holds hr (hs trivial) h
  | sumpStoreDone ok => exact execSumpStoreDone_holds (hs trivial) ok h
  | _ => simp [exec, hr, h]

/-- What is followed where nothing is asked of the timebase or of the cells. -/
def Track.ofNv (nv : Nv → Prop) (queue : List Instr) : Track :=
  ⟨nv, fun _ => True, fun _ => True, queue, trivial, fun _ _ _ _ => trivial, fun _ _ _ => trivial⟩

/-- What is followed where nothing is asked of the nonvolatile contents or of the cells. -/
def Track.ofTb (tb : Nat → Prop) (queue : List Instr) : Track :=
  ⟨fun _ => True, tb, fun _ => True, queue, trivial, fun _ _ _ _ => trivial, fun _ _ _ => trivial⟩

/-- The canonical form of the addressed storages is followed. -/
def Track.canonical (queue : List Instr) : Track :=
  ⟨Nv.wf, fun _ => True, fun m => mwf (fun _ => 0) m = true, queue, rfl, fun m k v h => mput_wf (fun _ => 0) m k v h,
    fun m p h => mwf_filter _ m p h⟩

theorem exec_queue (c : Instr) (s : State) : ∃ t, exec c s = .next t ∧ t.pending = s.pending := by
  obtain ⟨t, ht, hk⟩ := exec_holds (K := .ofNv (fun _ => True) s.pending) (fun _ _ _ => id) c (fun _ _ _ _ => id) (fun _ _ => trivial)
    (s := s) ⟨trivial, trivial, trivial, rfl⟩
  exact ⟨t, ht, hk.2.2.2⟩

theorem exec_nv {c : Instr} {s t : State} (hc : ¬ storesNv c) (ht : exec c s = .next t) : t.nv = s.nv := by
  obtain ⟨u, hu, hk⟩ := exec_holds (K := .ofNv (· = s.nv) s.pending) (fun _ _ _ => id) c (fun h => absurd h hc) (fun _ _ => trivial)
    (s := s) ⟨rfl, trivial, trivial, rfl⟩
  rw [hu] at ht
  injection ht with ht
  exact ht ▸ hk.1

theorem Memory.wf_iff (s : State) : Memory.wf s = true ↔ mwf (fun _ => 0) s.cis.cells = true ∧ s.nv.wf := by
  simp [Memory.wf, Nv.wf, and_assoc]

theorem exec_keeps_canonical {c : Instr} {s t : State} (h : Memory.wf s = true) (ht : exec c s = .next t) : Memory.wf t = true := by
  obtain ⟨hcells, hnv⟩ := (Memory.wf_iff s).1 h
  obtain ⟨u, hu, hk⟩ := exec_holds (K := .canonical s.pending) (fun _ _ _ => id) c (fun _ _ _ hab ha => hab ha) (fun _ _ => trivial)
    (s := s) ⟨hnv, trivial, hcells, rfl⟩
  rw [hu] at ht
  injection ht with ht
  exact ht ▸ (Memory.wf_iff u).2 ⟨hk.2.2.1, hk.1⟩

theorem exec_tb_le {c : Instr} {s t : State} (hc : ¬ setsBack s c) (ht : exec c s = .next t) : s.tb ≤ t.tb := by
  obtain ⟨u, hu, hk⟩ := exec_holds (K := .ofTb (s.tb ≤ ·) s.pending) (fun _ _ hab ha => ha.trans hab) c (fun _ _ _ _ => id)
    (fun h => absurd h hc) (s := s) ⟨trivial, Nat.le_refl _, trivial, rfl⟩
  rw [hu] at ht
  injection ht with ht
  exact ht ▸ hk.2.1

/-- Settles O57: `exec_holds` with the queue followed, and with the nonvolatile contents as they were where the command is none of the store's. -/
theorem everyCommandCompletes : Obligations.EveryCommandCompletes := by
  unfold Obligations.EveryCommandCompletes
  intro c s
  obtain ⟨t, ht, hq⟩ := exec_queue c s
  refine ⟨t, ht, hq, ?_⟩
  by_cases hc : storesNv c
  · right
    cases c with
    | registerWrite off val space =>
      obtain ⟨hoff, rfl⟩ := hc
      simp [hoff]
    | cfgErase | cfgProgram | cfgFinish | cfgValidate | cfgCmdDone | sumpStoreStart | sumpStoreDone => simp
    | _ => exact hc.elim
  · exact .inl (exec_nv hc ht)

/-- Settles O58: an idle edge leaves the storages alone, and `exec_holds` follows their canonical form through every command. -/
theorem stepKeepsStoragesCanonical : Obligations.StepKeepsStoragesCanonical := by
  unfold Obligations.StepKeepsStoragesCanonical
  intro s t h ht
  unfold step at ht
  split at ht
  · rename_i c rest hq
    exact exec_keeps_canonical (s := { s with pending := rest }) h ht
  · injection ht with ht
    exact ht ▸ h

/-! ### The step of a ring follower -/

theorem steer_stepped (est : Nat) {s : State} (h : (!s.osr.stepped && !s.lan.run && !s.slot.run) = true) : (steer est s).osr.stepped = true := by
  rw [steer, if_pos h]

theorem slotStart_osr (s : State) : (slotStart s).osr = s.osr := by
  unfold slotStart
  (repeat' split) <;> rfl

theorem takeKc_stepped (t : TimeInfo) (s : State) : (takeKc t s).osr.stepped = s.osr.stepped := by
  unfold takeKc timeStuck
  (repeat' split) <;> simp

theorem setMode_osr (m : Mode) (s : State) : (setMode m s).osr = s.osr := setMode_only m s .osr (by decide)

theorem bootLeave_osr (s : State) : (bootLeave s).osr = s.osr := by
  unfold bootLeave
  (repeat' split) <;> simp [setMode_osr]

theorem ofTb_eq_iff {s : State} {n : Nat} {q : List Instr} : (Track.ofTb (· = n) q).Holds s ↔ s.tb = n ∧ s.pending = q := by
  simp [Track.Holds, Track.HoldsOf, Track.ofTb]

/-- A TIME frame that may step the timebase leaves it alone or steps it. -/
theorem timeEff_steps (p : Fin 2) (f : Frame) {s : State} (h : (!s.osr.stepped && !s.lan.run && !s.slot.run) = true) :
    (timeEff p f s).tb = s.tb ∨ (timeEff p f s).osr.stepped = true := by
  unfold timeEff
  extract_lets t est u v
  split
  · exact .inl rfl
  · have hv : ∀ o : Osr, o.stepped = s.osr.stepped → (steer est { t with osr := o }).osr.stepped = true := fun o ho =>
      steer_stepped est (s := { t with osr := o }) (by rw [show ({ t with osr := o } : State).osr.stepped = _ from ho]; exact h)
    right
    split
    · rw [slotStart_osr, takeKc_stepped]
      exact hv _ rfl
    · rw [takeKc_stepped]
      exact hv _ rfl

theorem execTimeReceive_steps {p : Fin 2} {f : Frame} {s t : State} (h : (!s.osr.stepped && !s.lan.run && !s.slot.run) = true)
    (ht : execTimeReceive p f s = .next t) : t.tb = s.tb ∨ t.osr.stepped = true := by
  have hs : (Track.ofTb (· = s.tb) s.pending).Holds s := ofTb_eq_iff.2 ⟨rfl, rfl⟩
  unfold execTimeReceive osrTake at ht
  injection ht with ht
  subst ht
  split
  · exact .inl rfl
  · split
    · exact .inl (ofTb_eq_iff.1 (osrDrop_holds _ _ |>.2 hs)).1
    · split
      · exact .inl (ofTb_eq_iff.1 (osrDrop_holds _ _ |>.2 hs)).1
      · dsimp only
        split
        · rw [bootLeave_osr]
          refine (timeEff_steps p f (s := s.link p _) h).imp_left fun e => ?_
          exact (ofTb_eq_iff.1 (bootLeave_holds.2 (ofTb_eq_iff (q := _).2 ⟨e, rfl⟩))).1
        · exact .inl rfl

theorem timeReceive_sets_back {p : Fin 2} {f : Frame} {s t : State} (hc : setsBack s (.timeReceive p f)) (ht : exec (.timeReceive p f) s = .next t) :
    s.tb ≤ t.tb ∨ s.osr.stepped = false ∧ t.osr.stepped = true ∧ s.lan.run = false := by
  have hflags : (s.osr.stepped = false ∧ s.lan.run = false) ∧ s.slot.run = false := by simpa [setsBack] using hc
  exact (execTimeReceive_steps hc ht).imp Eq.ge fun h => ⟨hflags.1.1, h, hflags.1.2⟩

theorem exec_registerWrite_tb {space : HostSpace} {off : BitVec 20} {val : BitVec 32} {s t : State} (he : s.edge ≤ 6)
    (hc : ∀ n, n < 8 → spaceOff space off ≠ 0x9010C + 0x40 * n) (ht : exec (.registerWrite off val space) s = .next t) : t.tb = s.tb := by
  have hs : (Track.ofTb (· = s.tb) s.pending).Holds s := ofTb_eq_iff.2 ⟨rfl, rfl⟩
  obtain ⟨u, hu, hk⟩ := execRegisterWrite_holds off val space (fun ⟨n, hn, e⟩ => absurd e (hc n hn)) (fun _ _ _ _ _ => id) hs
    (State.order_holds_of_edge he hs)
  injection hu.symm.trans ht with ht
  exact ht ▸ (ofTb_eq_iff.1 hk).1

/-- Settles O60: `exec_holds` with a lower bound of the timebase followed; a register write takes its edge, so that the timebase itself can be
followed through it where no count is written; the step of a follower is the branch of `steer` that sets STEPPED. -/
theorem timebaseNeverGoesBack : Obligations.TimebaseNeverGoesBack := by
  unfold Obligations.TimebaseNeverGoesBack
  refine ⟨fun space off val s t ht => ⟨exec_tb_le (c := .registerWrite off val space) id ht, fun he hc => exec_registerWrite_tb he hc ht⟩, ?_⟩
  intro c s t hao hloss hfall ht
  by_cases hc : setsBack s c
  · cases c with
    | vddAoLoss => exact absurd rfl hloss
    | powerUp => exact absurd (hao.symm.trans hc) nofun
    | timeReceive p f => exact (timeReceive_sets_back hc ht).imp_right fun h => ⟨⟨p, f, rfl⟩, h⟩
    | domainTrip d high =>
      obtain ⟨rfl, rfl⟩ := hc
      exact absurd rfl hfall
    | _ => exact hc.elim
  · exact .inl (exec_tb_le hc ht)

end Sys2Proof.Machine
end

section
/-! SUPPORT. Frames part by part, the status bits of fault sources, and registers that a command leaves alone: the forms in which the
statements speak of them. -/

namespace Sys2Proof.Machine

variable {s t : State}

/-! ### Frames -/

/-- A frame, part by part. With a list written out, `simp` is left with one equation per part that is not listed. -/
theorem onlyChanges_iff {l : List Part} : OnlyChanges l s t ↔
    (.tb ∉ l → t.tb = s.tb) ∧ (.pwr ∉ l → t.pwr = s.pwr) ∧ (.keep ∉ l → t.keep = s.keep) ∧ (.nv ∉ l → t.nv = s.nv)
      ∧ (.slot ∉ l → t.slot = s.slot) ∧ (.cis ∉ l → t.cis = s.cis) ∧ (.dsc ∉ l → t.dsc = s.dsc) ∧ (.tkt ∉ l → t.tkt = s.tkt)
      ∧ (.rings ∉ l → t.rings = s.rings) ∧ (.evs ∉ l → t.evs = s.evs) ∧ (.hif ∉ l → t.hif = s.hif) ∧ (.vpt ∉ l → t.vpt = s.vpt)
      ∧ (.lan ∉ l → t.lan = s.lan) ∧ (.fld ∉ l → t.fld = s.fld) ∧ (.net ∉ l → t.net = s.net) ∧ (.osr ∉ l → t.osr = s.osr)
      ∧ (.adc ∉ l → t.adc = s.adc) ∧ (.tmr ∉ l → t.tmr = s.tmr) ∧ (.crc ∉ l → t.crc = s.crc) ∧ (.sys ∉ l → t.sys = s.sys)
      ∧ (.cfg ∉ l → t.cfg = s.cfg) ∧ (.smp ∉ l → t.smp = s.smp) ∧ (.jtag ∉ l → t.jtag = s.jtag) ∧ (.regs ∉ l → t.regs = s.regs)
      ∧ (.shadow ∉ l → t.shadow = s.shadow) ∧ (.tx ∉ l → t.tx = s.tx) ∧ (.pending ∉ l → t.pending = s.pending)
      ∧ (.edge ∉ l → t.edge = s.edge) ∧ (.free ∉ l → t.free = s.free) := by
  constructor
  · intro h
    exact ⟨h .tb, h .pwr, h .keep, h .nv, h .slot, h .cis, h .dsc, h .tkt, h .rings, h .evs, h .hif, h .vpt, h .lan, h .fld, h .net, h .osr,
      h .adc, h .tmr, h .crc, h .sys, h .cfg, h .smp, h .jtag, h .regs, h .shadow, h .tx, h .pending, h .edge, h .free⟩
  · intro h p
    obtain ⟨h1, h2, h3, h4, h5, h6, h7, h8, h9, h10, h11, h12, h13, h14, h15, h16, h17, h18, h19, h20, h21, h22, h23, h24, h25, h26, h27, h28,
      h29⟩ := h
    cases p <;> assumption

/-! ### Status bits -/

/-- A status bit through an operation that writes no status register. -/
theorem State.raised_congr {c : Src} (h : mget t.regs (fltOff c.blk.toNat 0xF000) = mget s.regs (fltOff c.blk.toNat 0xF000)) :
    t.raised c = s.raised c := by
  simp [State.raised, mread, h]

theorem raised_of_raiseWith {r : Raising} {c : Src} (h : s.raised c = true) : (raiseWith r s).raised c = true :=
  raiseWith_raised r s c (.inl h)

theorem raised_of_raise {c e : Src} {d : Nat} (h : s.raised e = true) : (raise c d s).raised e = true := raised_of_raiseWith h

theorem raised_raise (c : Src) (d : Nat) (h : s.blockUp c.blk.toNat = true) : (raise c d s).raised c = true := raise_raised c d s h

theorem raised_of_raiseIf {b : Bool} {c e : Src} {d : Nat} (h : s.raised e = true) : (raiseIf b c d s).raised e = true := by
  unfold raiseIf
  split
  · exact raised_of_raise h
  · exact h

theorem raised_raiseIf {b : Bool} (hb : b = true) (c : Src) (d : Nat) (h : s.blockUp c.blk.toNat = true) :
    (raiseIf b c d s).raised c = true := by
  rw [hb]
  exact raised_raise c d h

/-- Which blocks are up follows from the supplies and gates. -/
theorem State.blockUp_congr (h : t.pwr = s.pwr) (b : Nat) : t.blockUp b = s.blockUp b := by
  simp [State.blockUp, State.dom, h]

@[simp] theorem raise_blockUp (c : Src) (d : Nat) (b : Nat) : (raise c d s).blockUp b = s.blockUp b := State.blockUp_congr (raise_pwr c d s) b

theorem raiseAll_cons (a : Src × Nat) (l : List (Src × Nat)) (s : State) : raiseAll (a :: l) s = raiseAll l (raise a.1 a.2 s) := rfl

theorem raised_of_raiseAll {l : List (Src × Nat)} {e : Src} (h : s.raised e = true) : (raiseAll l s).raised e = true := by
  induction l generalizing s with
  | nil => exact h
  | cons a l ih => rw [raiseAll_cons]; exact ih (raised_of_raise h)

/-- Every source of a list is raised by the raisings of the list. -/
theorem raised_raiseAll {l : List (Src × Nat)} {c : Src} (hc : ∃ d, (c, d) ∈ l) (h : s.blockUp c.blk.toNat = true) :
    (raiseAll l s).raised c = true := by
  obtain ⟨d, hd⟩ := hc
  induction l generalizing s with
  | nil => exact absurd hd List.not_mem_nil
  | cons a l ih =>
    rw [raiseAll_cons]
    rcases List.mem_cons.1 hd with rfl | hd
    · exact raised_of_raiseAll (raised_raise c d h)
    · exact ih ((raise_blockUp a.1 a.2 _).trans h) hd

theorem raised_raiseAccess {blk : Nat} {w : Bool} {a : Nat} (h : s.blockUp (BitVec.ofNat 4 blk).toNat = true) :
    (raiseAccess blk w a s).raised ⟨BitVec.ofNat 4 blk, 0⟩ = true := by
  refine raiseWith_raised_self _ ?_
  split <;> exact h

/-- No status bit lies in a register that is not one of the fault registers. -/
theorem State.raised_w {f : RegField} {v i j : Nat} {c : Src} (h : f.off i j % 0x10000 < 0xF000) : (s.w f v i j).raised c = s.raised c :=
  State.raised_congr (mget_rput_ne _ _ _ _ _ _ (by unfold fltOff; omega))

theorem State.raised_add {f : RegField} {n i j : Nat} {c : Src} (h : f.off i j % 0x10000 < 0xF000) :
    (s.add f n i j).raised c = s.raised c := State.raised_w h

/-! ### Registers -/

theorem RegsBut.refl (l : List Nat) (m : Map Word) : RegsBut l m m := fun _ _ => rfl

theorem RegsBut.trans {l : List Nat} {a b c : Map Word} (h : RegsBut l a b) (h' : RegsBut l b c) : RegsBut l a c :=
  fun o ho => (h' o ho).trans (h o ho)

theorem RegsBut.rput {l : List Nat} {a b : Map Word} (h : RegsBut l a b) {f : RegField} {v i j : Nat} (hf : f.off i j ∈ l) :
    RegsBut l a (rput b f v i j) :=
  h.trans fun o ho => mget_rput_ne b f v i j o fun e => ho (e ▸ hf)

theorem RegsBut.radd {l : List Nat} {a b : Map Word} (h : RegsBut l a b) {f : RegField} {n i j : Nat} (hf : f.off i j ∈ l) :
    RegsBut l a (radd b f n i j) := h.rput hf

theorem RegsBut.mput {l : List Nat} {a b : Map Word} (h : RegsBut l a b) {d : Word} {o : Nat} {v : Word} (ho : o ∈ l) :
    RegsBut l a (mput d b o v) :=
  h.trans fun _ hne => mget_mput_ne d b v fun e => hne (e ▸ ho)

/-- A field that was written reads as written. -/
theorem State.r_w_same {f : RegField} {v i j : Nat} (h : f.hi < 32) : (s.w f v i j).r f i j = v % 2 ^ (f.hi + 1 - f.lo) :=
  rget_rput_same s.regs f v i j h

/-- A field through an operation that leaves its register alone. -/
theorem State.r_congr {f : RegField} {i j : Nat} (h : mget t.regs (f.off i j) = mget s.regs (f.off i j)) : t.r f i j = s.r f i j := by
  simp [State.r, rget, mread, h]

/-! ### Commands that come to the registers -/

theorem State.lands_hostReach {b : Nat} (h : s.lands b = true) : s.hostReach = true := by
  simp only [State.lands, Bool.and_eq_true] at h
  exact h.1.1

theorem State.lands_blockUp {b : Nat} (h : s.lands b = true) : s.blockUp b = true := by
  simp only [State.lands, Bool.and_eq_true] at h
  exact h.2

theorem State.lands_mode {b : Nat} (h : s.lands b = true) : s.sys.mode ≠ .lockdown := by
  simp only [State.lands, Bool.and_eq_true, bne_iff_ne] at h
  exact h.1.2

end Sys2Proof.Machine
end

section
/-! The check-value units (R483, R484) and the reads of the host (R13, R14, R85). -/

namespace Sys2Proof.Machine

/-! ### Check-value units -/

/-- Cutting a word to its low bits is taking a remainder. -/
theorem ofNat_and_lowMask (n w : Nat) : BitVec.ofNat 32 n &&& lowMask w = BitVec.ofNat 32 (n % 2 ^ w) := by
  refine BitVec.eq_of_getLsbD_eq fun i hi => ?_
  simp only [lowMask, BitVec.getLsbD_and, BitVec.getLsbD_ofNat, hi, Nat.testBit_two_pow_sub_one, Nat.testBit_mod_two_pow]
  cases n.testBit i <;> simp

theorem testBit_two_mul_add_b2n (n : Nat) (b : Bool) (i : Nat) :
    (2 * n + b2n b).testBit i = if i = 0 then b else n.testBit (i - 1) := by
  cases i with
  | zero => cases b <;> simp [b2n, Nat.testBit_zero]
  | succ i =>
    rw [Nat.testBit_succ]
    have : (2 * n + b2n b) / 2 = n := by cases b <;> simp [b2n]; omega
    simp [this]

/-- The bits of a word read from its lowest bit on. -/
theorem testBit_foldl_bits (x : Word) (w i : Nat) :
    ((List.range w).foldl (fun n j => 2 * n + b2n (x.getLsbD j)) 0).testBit i = (decide (i < w) && x.getLsbD (w - 1 - i)) := by
  induction w generalizing i with
  | zero => simp
  | succ w ih =>
    rw [List.range_succ, List.foldl_append, List.foldl_cons, List.foldl_nil, testBit_two_mul_add_b2n, ih]
    cases i with
    | zero => simp
    | succ i => simp [Nat.sub_add_eq, Nat.sub_right_comm]

theorem reflectW_eq_reverse (x : Word) : reflectW 32 x = x.reverse := by
  refine BitVec.eq_of_getLsbD_eq fun i hi => ?_
  rw [reflectW, BitVec.getLsbD_ofNat, testBit_foldl_bits, BitVec.getLsbD_reverse, BitVec.getMsbD_eq_getLsbD]
  simp [hi]

/-- A byte through a unit with the settings of R123 is eight steps of the CRC-32. -/
theorem CrcUnit.feed_crc32 (c : CrcUnit) (b : Byte) (hw : c.width = 32) (hr : c.refin = true) (hp : c.poly = 0x04C11DB7) :
    (c.feed b).st = (byteBits b).foldl (crcStep 0x04C11DB7#32) c.st := by
  have hm : lowMask 32 = BitVec.allOnes 32 := by decide
  simp only [CrcUnit.feed, hw, hr, hp, hm, BitVec.and_allOnes, if_true]
  refine congrArg (fun f => List.foldl f c.st (byteBits b)) (funext fun s => funext fun bit => ?_)
  simp only [crcStep, BitVec.msb_eq_getLsbD_last]
  rfl

/-- The settings of a unit do not change as it is fed. -/
theorem CrcUnit.feed_settings (c : CrcUnit) (b : Byte) : (c.feed b).width = c.width ∧ (c.feed b).refin = c.refin
    ∧ (c.feed b).refout = c.refout ∧ (c.feed b).poly = c.poly ∧ (c.feed b).xorout = c.xorout := ⟨rfl, rfl, rfl, rfl, rfl⟩

theorem CrcUnit.result_foldl_feed (bs : List Byte) (c : CrcUnit) (hw : c.width = 32) (hr : c.refin = true) (ho : c.refout = true)
    (hp : c.poly = 0x04C11DB7) (hx : c.xorout = 0xFFFFFFFF) :
    (bs.foldl CrcUnit.feed c).result = revBits ((bs.flatMap byteBits).foldl (crcStep 0x04C11DB7#32) c.st) ^^^ 0xFFFFFFFF#32 := by
  induction bs generalizing c with
  | nil => simp [CrcUnit.result, hw, ho, hx, reflectW_eq_reverse, revBits]
  | cons b bs ih =>
    rw [List.foldl_cons, ih (c.feed b) hw hr ho hp hx, CrcUnit.feed_crc32 c b hw hr hp, List.flatMap_cons, List.foldl_append]

/-- Settles O6: each write lands and its effect is one unit's; a unit started under R123 steps as `crcStep` does. -/
theorem checkUnits : Obligations.CheckUnits := by
  unfold Obligations.CheckUnits
  refine ⟨fun u val s h => ?_, fun bs => ?_⟩
  · have hoff : ∀ k eff, k < 0x40 → hostWr (0xA0000 + k + 0x40 * u) eff s = eff (s.order 6) := fun k eff hk =>
      hostWr_lands eff (by rw [show (0xA0000 + k + 0x40 * u.val) / 0x10000 = 10 by omega]; exact h)
    refine ⟨⟨crcStartUnit s.regs u, ?_, rfl, ofNat_and_lowMask _ _, rfl, ofNat_and_lowMask _ _, ofNat_and_lowMask _ _, rfl, rfl⟩, ?_, ?_, ?_⟩
    · exact congrArg _ (hoff 0x10 _ (by decide))
    · exact congrArg _ (hoff 0x14 _ (by decide))
    · exact congrArg _ (hoff 0x18 _ (by decide))
    · exact congrArg _ (hoff 0x1C _ (by decide))
  · exact CrcUnit.result_foldl_feed bs {} rfl rfl rfl rfl rfl

end Sys2Proof.Machine
end

section
/-! The reads of the host (R13, R14, R85): what a read that clears leaves of the register's fields. -/

namespace Sys2Proof.Machine

/-! ### The fields of a register -/

/-- The fields of a register lie within the word, and no two share a bit. -/
def fieldsApart : List FieldRow → Bool
  | [] => true
  | f :: l => decide (f.lo ≤ f.hi ∧ f.hi < 32) && l.all (fun g => decide (f.hi < g.lo ∨ g.hi < f.lo)) && fieldsApart l

theorem rows_fieldsApart : ∀ b < 14, ∀ r ∈ blockRows b ++ regsXxx, fieldsApart r.fields = true := by decide +kernel

theorem blockRows_of_le {b : Nat} (h : 14 ≤ b) : blockRows b = [] := by
  unfold blockRows
  split <;> first | omega | rfl

theorem fieldsAt_apart {off : Nat} {l : List FieldRow} (h : fieldsAt off = some l) : fieldsApart l = true := by
  unfold fieldsAt at h
  split at h
  · rename_i r hr
    injection h with h
    subst h
    have hm := List.mem_of_find?_eq_some hr
    by_cases hb : off / 0x10000 < 14
    · exact rows_fieldsApart _ hb r (by simpa [hb] using hm)
    · simp [hb, blockRows_of_le (Nat.le_of_not_lt hb)] at hm
  · exact absurd h nofun

theorem fieldsApart_mem {l : List FieldRow} (h : fieldsApart l = true) {f : FieldRow} (hf : f ∈ l) : f.lo ≤ f.hi ∧ f.hi < 32 := by
  induction l with
  | nil => exact absurd hf List.not_mem_nil
  | cons g l ih =>
    simp only [fieldsApart, Bool.and_eq_true, decide_eq_true_eq] at h
    rcases List.mem_cons.1 hf with rfl | hf
    · exact h.1.1
    · exact ih h.2 hf

/-- Two fields of a register that share a bit are the same field. -/
theorem fieldsApart_eq {l : List FieldRow} (h : fieldsApart l = true) {f g : FieldRow} (hf : f ∈ l) (hg : g ∈ l) {i : Nat}
    (hfi : f.lo ≤ i ∧ i ≤ f.hi) (hgi : g.lo ≤ i ∧ i ≤ g.hi) : f = g := by
  induction l with
  | nil => exact absurd hf List.not_mem_nil
  | cons a l ih =>
    simp only [fieldsApart, Bool.and_eq_true, List.all_eq_true, decide_eq_true_eq] at h
    rcases List.mem_cons.1 hf with rfl | hf' <;> rcases List.mem_cons.1 hg with rfl | hg'
    · rfl
    · have := h.1.2 g hg'; omega
    · have := h.1.2 f hf'; omega
    · exact ih h.2 hf' hg'

theorem FieldRow.mask_getLsbD (f : FieldRow) {i : Nat} (hi : i < 32) : f.mask.getLsbD i = decide (f.lo ≤ i ∧ i ≤ f.hi) := by
  rw [FieldRow.mask, BitVec.getLsbD_ofNat, Nat.testBit_mul_two_pow, Nat.testBit_two_pow_sub_one]
  by_cases h1 : f.lo ≤ i <;> by_cases h2 : i ≤ f.hi <;> simp [hi, h1, h2] <;> omega

theorem foldl_mask_getLsbD (l : List FieldRow) (m : Word) {i : Nat} (hi : i < 32) :
    (l.foldl (fun m f => m ||| f.mask) m).getLsbD i = (m.getLsbD i || l.any fun f => decide (f.lo ≤ i ∧ i ≤ f.hi)) := by
  induction l generalizing m with
  | nil => simp
  | cons f l ih => rw [List.foldl_cons, ih, BitVec.getLsbD_or, f.mask_getLsbD hi, List.any_cons, Bool.or_assoc]

/-- Within a field the mask of the fields that a predicate holds of has the field's answer. -/
theorem maskOf_getLsbD {l : List FieldRow} (h : fieldsApart l = true) (p : FieldRow → Bool) {f : FieldRow} (hf : f ∈ l) {i : Nat}
    (hi : f.lo ≤ i ∧ i ≤ f.hi) : (maskOf p l).getLsbD i = p f := by
  have h32 : i < 32 := by have := fieldsApart_mem h hf; omega
  rw [maskOf, foldl_mask_getLsbD _ _ h32]
  rw [show (0 : Word).getLsbD i = false by simp, Bool.false_or]
  rw [Bool.eq_iff_iff, List.any_eq_true]
  constructor
  · rintro ⟨g, hg, hgi⟩
    rw [List.mem_filter] at hg
    exact fieldsApart_eq h hf hg.1 hi (by simpa using hgi) ▸ hg.2
  · exact fun hp => ⟨f, List.mem_filter.2 ⟨hf, hp⟩, by simpa using hi⟩

theorem blend_getLsbD (mask a b : Word) (i : Nat) (hi : i < 32) :
    (blend mask a b).getLsbD i = if mask.getLsbD i then a.getLsbD i else b.getLsbD i := by
  simp only [blend, BitVec.getLsbD_or, BitVec.getLsbD_and, BitVec.getLsbD_not, hi, decide_true, Bool.true_and]
  cases mask.getLsbD i <;> simp

/-- A field of a register of which the fields that a predicate holds of are replaced. -/
theorem bitsOf_blend_maskOf {l : List FieldRow} (h : fieldsApart l = true) (p : FieldRow → Bool) (a b : Word) {f : FieldRow} (hf : f ∈ l) :
    bitsOf (blend (maskOf p l) a b).toNat f.hi f.lo = if p f then bitsOf a.toNat f.hi f.lo else bitsOf b.toNat f.hi f.lo := by
  have hr := fieldsApart_mem h hf
  rw [← apply_ite (fun w : Word => bitsOf w.toNat f.hi f.lo)]
  refine Nat.eq_of_testBit_eq fun i => ?_
  simp only [bitsOf_testBit, BitVec.testBit_toNat]
  by_cases hi : i < f.hi + 1 - f.lo
  · rw [blend_getLsbD _ _ _ _ (by omega), maskOf_getLsbD h p hf (by omega), apply_ite (fun w : Word => w.getLsbD (f.lo + i))]
  · simp [hi]

/-! ### Reads -/

theorem timerRead_only (o : Nat) (s : State) : OnlyChanges [.tb, .edge] s (timerRead o s) := by
  unfold timerRead
  split
  · exact .ite _ (State.past_only s _) (.refl _ s)
  · exact .refl _ s

theorem timerRead_of_not_capture {o : Nat} (h : ¬(0x90100 ≤ o ∧ o < 0x90300)) (s : State) : timerRead o s = s := dif_neg h

theorem readClear_regsBut (m : Map Word) (o : Nat) (be : BitVec 4) (ev : Option Word) : RegsBut [o] m (readClear m o be ev) := by
  unfold readClear
  split
  · exact .refl _ m
  · exact (RegsBut.refl _ m).mput (by simp)

theorem storedWord_readClear {o : Nat} {l : List FieldRow} (h : fieldsAt o = some l) (m : Map Word) (be : BitVec 4) (ev : Option Word) :
    storedWord (readClear m o be ev) o = blend (maskOf (readClears be) l) (ev.getD (resetWord o)) (storedWord m o) := by
  simp [readClear, h, storedWord]

theorem readClears_iff (be : BitVec 4) (f : FieldRow) : readClears be f = true ↔ f.acc = .rc ∧ f.mask &&& byteMask be ≠ 0 := by
  simp [readClears]

theorem exec_registerRcRead {off : BitVec 20} {be : BitVec 4} {ev : Option Word} {s : State} (h : s.hostReach = true) :
    exec (.registerRcRead off be ev) s = .next (registerReadEff (off.toNat / 4 * 4) be ev (s.order 6)) :=
  congrArg _ (if_pos h)

theorem registerReadEff_of_field {o : Nat} {l : List FieldRow} {be : BitVec 4} {ev : Option Word} {s : State} (hl : fieldsAt o = some l)
    (hsrc : lacksSource o = false) (hup : s.blockUp (o / 0x10000) = true) :
    registerReadEff o be ev s = readOut be (readWord (timerRead o s) o)
      { timerRead o s with regs := readClear (timerRead o s).regs o be ev } := by
  simp [registerReadEff, offsetUsed, hl, hsrc, hup]

theorem bar2Word_ring (s : State) (n : Fin 4) : bar2Word s (0x1000 * n.val) = BitVec.ofNat 32 s.rings[n].db := by
  have h1 : 0x1000 * n.val ≠ 0x4000 := by omega
  have h2 : 0x1000 * n.val % 0x1000 = 0 ∧ 0x1000 * n.val / 0x1000 < 4 := by omega
  have h3 : 0x1000 * n.val / 0x1000 = n.val := by omega
  rw [bar2Word, if_neg h1, dif_pos h2]
  simp [h3]

theorem bar2Word_other (s : State) {o : Nat} (h : o ∉ [0, 0x1000, 0x2000, 0x3000, 0x4000]) : bar2Word s o = 0 := by
  simp only [List.mem_cons, List.not_mem_nil, or_false, not_or] at h
  rw [bar2Word, if_neg h.2.2.2.2, dif_neg (by omega)]

/-- A read that reaches a register of a block that is up. -/
theorem registerRcRead_clears (off : BitVec 20) (be : BitVec 4) (ev : Option Word) {s u : State} {l : List FieldRow} {o : Nat}
    (ho : o = off.toNat / 4 * 4) (hu : u = timerRead o (s.order 6)) (hl : fieldsAt o = some l) (hsrc : lacksSource o = false)
    (hreach : s.hostReach = true) (hup : s.blockUp (o / 0x10000) = true) :
    ∃ t, exec (.registerRcRead off be ev) s = .next t ∧ OnlyChanges [.regs, .hif] u t ∧ RegsBut [o] s.regs t.regs
      ∧ OnlyChanges [.tb, .edge] (s.order 6) u ∧ (¬(0x90100 ≤ o ∧ o < 0x90300) → u = s.order 6)
      ∧ t.hif = { s.hif with rd := [readWord u o &&& byteMask be] }
      ∧ ∀ f ∈ l, bitsOf (storedWord t.regs o).toNat f.hi f.lo =
          if f.acc = .rc ∧ f.mask &&& byteMask be ≠ 0 then bitsOf (ev.getD (resetWord o)).toNat f.hi f.lo
          else bitsOf (storedWord s.regs o).toNat f.hi f.lo := by
  have hframe := timerRead_only o (s.order 6)
  rw [← hu] at hframe
  have hup' : (s.order 6).blockUp (o / 0x10000) = true := hup
  have hregs : u.regs = s.regs := hframe .regs (by decide)
  have hhif : u.hif = s.hif := hframe .hif (by decide)
  refine ⟨readOut be (readWord u o) { u with regs := readClear u.regs o be ev }, ?_, ?_, ?_, hframe,
    fun h => hu.trans (timerRead_of_not_capture h _), by simp [readOut, hhif], fun f hf => ?_⟩
  · rw [exec_registerRcRead hreach, ← ho, registerReadEff_of_field hl hsrc hup', ← hu]
  · simp [onlyChanges_iff, readOut]
  · rw [← hregs]
    exact readClear_regsBut u.regs o be ev
  · simp only [readOut, storedWord_readClear hl, bitsOf_blend_maskOf (fieldsAt_apart hl) _ _ _ hf, readClears_iff, hregs]

theorem exec_registerRcRead_bar2 (off : BitVec 20) (be : BitVec 4) (ev : Option Word) {s : State} (h : s.hostReach = true) :
    exec (.registerRcRead off be ev .bar2) s = .next (readOut be (bar2Word s (off.toNat % 65536 / 4 * 4)) (s.order 6)) :=
  congrArg _ (if_pos h)

theorem exec_registerRcRead_config (off : BitVec 20) (be : BitVec 4) (ev : Option Word) {s : State} (h : s.cfgReach = true) :
    exec (.registerRcRead off be ev .config) s =
      .next (readOut be (configWord (s.order 6) (off.toNat % 4096 / 4 * 4)) ((s.order 6).took 1)) :=
  congrArg _ (if_pos h)

theorem answerUr_tx (s : State) : (answerUr s).tx = Tx.ur :: s.tx := rfl

/-- Settles O5: a read clears by one masked write of its register (`bitsOf_blend_maskOf`), and reads nothing else away. -/
theorem readClearsAndKeepsTheEvent : Obligations.ReadClearsAndKeepsTheEvent := by
  unfold Obligations.ReadClearsAndKeepsTheEvent
  intro off be ev s
  refine ⟨fun l o u ho hu hl hsrc hreach hup => registerRcRead_clears off be ev ho hu hl hsrc hreach hup,
    fun hused hreach hdown => ?_, fun hreach hoff => ?_, fun hreach => ?_, fun hreach => ?_⟩
  · rw [exec_registerRcRead hreach, registerReadEff]
    simp only [offsetUsed_order, hused, Bool.not_true, Bool.false_eq_true, if_false]
    exact congrArg _ (if_pos (by rw [State.blockUp_congr (s := s) (by rfl), hdown]; rfl))
  · have hmod : off.toNat % 65536 = off.toNat := Nat.mod_eq_of_lt hoff
    refine ⟨_, exec_registerRcRead_bar2 off be ev hreach, by simp [onlyChanges_iff, readOut], by simp [readOut], fun n hn => ?_, fun h4 => ?_,
      fun hno => ?_⟩
    · simp only [readOut, hmod, hn, bar2Word_ring]
    · simp [readOut, hmod, h4, bar2Word]
    · simp [readOut, hmod, bar2Word_other s hno]
  · refine ⟨_, exec_registerRcRead_config off be ev hreach, by simp [onlyChanges_iff, readOut], ?_, ?_, ?_⟩ <;>
      (rintro rfl; rfl)
  · refine ⟨answerUr (s.order 6), congrArg _ (if_pos (by simp [hreach])), answerUr_tx _, answerUr_only _⟩

end Sys2Proof.Machine
end

section
/-! The queue, the state after reset (R15, R464, R517, R600) and the reference clock (R25, R26). -/

namespace Sys2Proof.Machine

/-- Settles O1: `step` takes the front of the queue. -/
theorem stepTakesTheFrontCommand : Obligations.StepTakesTheFrontCommand := fun _ _ _ => rfl

/-- Settles O2: the three outcomes of `idleTick`, and of `State.order` by the order seen before. -/
theorem idleTickCountsAnEdge : Obligations.IdleTickCountsAnEdge := by
  refine fun s => ⟨fun ha hr => ?_, fun h => ?_, fun n => ⟨rfl, State.order_only s n, fun h => ?_, fun h ha hr hs => ?_⟩⟩
  · simp [step, idleTick, ha, hr]
  · have hgo : (s.pwr.aoOk && s.pwr.refOk) = false := by rcases h with h | h <;> simp [h]
    simp [step, idleTick, hgo]
  · simp [State.order, Nat.not_lt.2 h]
  · simp [State.order, idleTick, h, ha, hr, hs]

/-- Settles O56: the reset state, field by field. -/
theorem resetState : Obligations.ResetState :=
  ⟨by decide, rfl, rfl, rfl, rfl, rfl, rfl, rfl, rfl, rfl, rfl, rfl, rfl, rfl, fun _ _ _ => rfl⟩

/-! ### Registers that no raising writes -/

/-- No raising writes the register at an offset, as a test. -/
def raiseLeavesB (o : Nat) : Bool :=
  decide (o % 0x10000 < 0xF000) && o != 0x10030 && o != 0x10034 && o != 0x11094 && o != 0x11204

theorem raiseLeaves_of {o : Nat} (h : raiseLeavesB o = true) : raiseLeaves o := by
  simpa [raiseLeavesB, raiseLeaves, and_assoc] using h

/-! ### REF100 -/

@[simp] theorem setLegs_legs (b : BitVec 3) (v : Vpt) : (setLegs b v).legs = b := by
  unfold setLegs
  dsimp only
  split <;> rfl

theorem State.at_tb_of_lost {s : State} (h : s.pwr.refOk = false) (due : Nat) : (s.at due).tb = s.tb := by simp [State.at, h]

theorem execRef100Accept_eq (dev : BitVec 16) {s : State} (ha : s.pwr.aoOk = true) (hr : s.pwr.refOk = false) (hl : s.pwr.rstLow = false) :
    execRef100Accept dev s = .next { s with
      pwr := { s.pwr with refOk := true, seqStep := max 2 s.pwr.seqStep, acceptTb := if s.pwr.seqStep ≤ 1 then s.tb else s.pwr.acceptTb }
      edge := 0, regs := rput s.regs R.PWR_REF_STAT_DEV dev.toNat } := by
  simp [execRef100Accept, ha, hr, hl]

/-- What REF100 leaves at its loss, before PWR.REFCLK is raised. -/
def refGone (s : State) : State :=
  { s with pwr := { s.pwr with refOk := false, refGone := true }, regs := rput s.regs R.PWR_REF_STAT_LOST 1, vpt := setLegs 0 s.vpt }

theorem execRef100Lost_eq {s : State} (ha : s.pwr.aoOk = true) (hr : s.pwr.refOk = true) :
    execRef100Lost s = .next (raise S.PWR_REFCLK 0 (refGone s)) := by
  simp [execRef100Lost, ha, hr, refGone]

/-- Settles O9: an acceptance writes DEV alone; a loss is a raising of PWR.REFCLK over a state whose legs are OFF and whose timebase
stands. -/
theorem referenceClock : Obligations.ReferenceClock := by
  refine fun s => ⟨fun dev ha hr hl => ⟨_, execRef100Accept_eq dev ha hr hl, ?_, ?_, rfl, rfl, ?_⟩,
    fun ha hr => ⟨_, execRef100Lost_eq ha hr, ?_, ?_, ?_, ?_, ?_, ?_⟩⟩
  · simp [onlyChanges_iff]
  · exact (RegsBut.refl _ _).rput (by decide)
  · exact (rget_rput_same s.regs R.PWR_REF_STAT_DEV dev.toNat 0 0 (by decide)).trans (Nat.mod_eq_of_lt dev.isLt)
  · have h : OnlyChanges [.pwr, .regs, .vpt] s (refGone s) := by simp [onlyChanges_iff, refGone]
    exact (h.mono (by decide)).trans ((raise_only _ _ _).mono (by decide))
  · exact raise_pwr _ _ _
  · simp [refGone]
  · rw [raise_r _ _ _ _ _ _ (raiseLeaves_of rfl)]
    exact rget_rput_same s.regs R.PWR_REF_STAT_LOST 1 0 0 (by decide)
  · exact raised_raise _ _ ha
  · exact fun due => (State.at_tb_of_lost (by rw [raise_pwr]; rfl) due).trans (raise_tb _ _ _)

end Sys2Proof.Machine
end

section
/-! Writes of SYS_CTRL (R517, R527), RST_N going high (R414, R603), and the rise of TEST_MODE (R603). -/

namespace Sys2Proof.Machine

/-! ### Fields of one register -/

/-- Two fields share no bit, as a test: they lie in different registers, or apart in one. -/
def RegField.apart (f : RegField) (i j : Nat) (g : RegField) (i' j' : Nat) : Bool :=
  f.off i j != g.off i' j' || (f.dflt == g.dflt && decide (g.hi < 32) && (decide (f.hi < g.lo) || decide (g.hi < f.lo)))

/-- A field through a write of another field. -/
theorem rget_rput_apart (m : Map Word) {f g : RegField} (v : Nat) {i j i' j' : Nat} (h : f.apart i j g i' j' = true) :
    rget (rput m f v i j) g i' j' = rget m g i' j' := by
  simp only [RegField.apart, Bool.or_eq_true, Bool.and_eq_true, bne_iff_ne, beq_iff_eq, decide_eq_true_eq] at h
  by_cases ho : f.off i j = g.off i' j'
  · rcases h with h | ⟨⟨hd, hh⟩, h⟩
    · exact absurd ho h
    · exact rget_rput_field m g f v i' j' i j hd.symm (Eq.symm ho) hh h.symm
  · exact rget_rput_off m g f v i' j' i j (Ne.symm ho)

/-! ### SYS_CTRL -/

theorem reqResult_regsBut (res why : Nat) (s : State) : RegsBut [0x1C] s.regs (reqResult res why s).regs :=
  (((RegsBut.refl _ _).rput (by decide)).rput (by decide)).rput (by decide)

theorem reqResult_mode (res why : Nat) (s : State) : (reqResult res why s).r R.SYS_REQ_STAT_MODE = res % 8 := by
  rw [State.r, reqResult, rget_rput_apart _ _ rfl, rget_rput_apart _ _ rfl, rget_rput_same _ _ _ _ _ (by decide)]
  rfl

theorem reqResult_why (res why : Nat) (s : State) : (reqResult res why s).r R.SYS_REQ_STAT_MODE_WHY = why % 16 := by
  rw [State.r, reqResult, rget_rput_apart _ _ rfl, rget_rput_same _ _ _ _ _ (by decide)]
  rfl

theorem reqResult_new (res why : Nat) (s : State) : (reqResult res why s).r R.SYS_REQ_STAT_NEW = 1 :=
  rget_rput_same _ _ _ _ _ (by decide)

/-- With another KEY a write of SYS_CTRL is discarded with SYS.ACCESS. -/
theorem sysCtrlEff_wrongKey {act : Nat} {key : BitVec 8} (ha : act < 256) (hk : key ≠ 0xD5) (s : State) :
    sysCtrlEff (BitVec.ofNat 32 (act + 256 * key.toNat)) s = raiseAccess 0 true 0x18 s := by
  have hlt := key.isLt
  have hb : bitsOf (BitVec.ofNat 32 (act + 256 * key.toNat)).toNat 15 8 = key.toNat := by
    rw [BitVec.toNat_ofNat, bitsOf]
    omega
  have hne : key.toNat ≠ 0xD5 := fun h => hk (BitVec.eq_of_toNat_eq h)
  simp only [sysCtrlEff, hb]
  simp [hne]

theorem sysCtrlWr_wrongKey {act : Nat} {key : BitVec 8} (ha : act < 256) (hk : key ≠ 0xD5) {s : State} (h : s.lands 0 = true) :
    sysCtrlWr act key s = .next (raiseAccess 0 true 0x18 (s.order 6)) := by
  rw [sysCtrlWr, hostWr_lands _ h, sysCtrlEff_wrongKey ha hk]

theorem execRestart_eq {s : State} (h : s.lands 0 = true) : execRestart 0xD5 s = .next (restartEff (s.order 6)) := by
  rw [execRestart, sysCtrlWr, hostWr_lands _ h]
  rfl

/-! ### Reset and test pins -/

theorem execRstNRelease_eq (id : BitVec 3) (tm : Bool) {s : State} (hl : s.pwr.rstLow = true) (ha : s.pwr.aoOk = true) :
    execRstNRelease id tm s = .next { s.order 1 with
      pwr := { s.pwr with rstLow := false, testMode := tm, testHold := tm }
      osr := { (s.order 1).osr with ringId := id }
      sys := { s.sys with zero := (s.order 1).tb } } := by
  simp [execRstNRelease, hl, ha]

theorem execTestModeRise_eq {s : State} (ha : s.pwr.aoOk = true) : execTestModeRise s = .next (gatesClosed (s.order 1)) := by
  simp [execTestModeRise, ha]

theorem errPin_of_testHold {s : State} (h : s.pwr.testHold = true) : errPin s = false := by simp [errPin, errHeld, h]

theorem execPowerupSeqStep_of_testHold {s : State} (h : s.pwr.testHold = true) (lim : BitVec 12) : execPowerupSeqStep lim s = .next s := by
  simp [execPowerupSeqStep, h]

/-- Settles O11: SYS_CTRL by its KEY, the release of RST_N, and `gatesClosed`. -/
theorem restartRefusalResetReleaseAndTestMode : Obligations.RestartRefusalResetReleaseAndTestMode := by
  refine ⟨fun s => ⟨fun h hm => ?_, fun key hk h => ?_, fun id tm hl ha => ?_⟩, fun s ha => ?_⟩
  · have he : restartEff (s.order 6) = reqResult 3 1 (s.order 6) := by
      rw [restartEff, if_neg]
      simpa [State.inMode] using hm
    exact ⟨_, (execRestart_eq h).trans (congrArg _ he), reqResult_only _ _ _, reqResult_regsBut _ _ _, reqResult_mode _ _ _,
      reqResult_why _ _ _, reqResult_new _ _ _⟩
  · exact ⟨_, sysCtrlWr_wrongKey (by decide) hk h, sysCtrlWr_wrongKey (by decide) hk h, sysCtrlWr_wrongKey (by decide) hk h,
      raiseAccess_only _ _ _ _, raised_raiseAccess (State.lands_blockUp h)⟩
  · refine ⟨_, execRstNRelease_eq id tm hl ha, ?_, rfl, rfl, rfl⟩
    simp [onlyChanges_iff]
  · exact ⟨_, execTestModeRise_eq ha, ha, rfl, rfl, rfl, rfl, errPin_of_testHold rfl, rfl, rfl, rfl, rfl,
      execPowerupSeqStep_of_testHold rfl⟩

end Sys2Proof.Machine
end

section
/-! The gates of the domains and the power-up sequence (R32-R38, R519). -/

namespace Sys2Proof.Machine

/-! ### Registers by block -/

/-- The registers of two states agree but in the blocks of a list and where a raising writes. -/
def RegsIn (bs : List Nat) (a b : Map Word) : Prop := ∀ o, raiseLeaves o → o / 0x10000 ∉ bs → mget b o = mget a o

theorem RegsIn.refl (bs : List Nat) (a : Map Word) : RegsIn bs a a := fun _ _ _ => rfl

theorem RegsIn.trans {bs : List Nat} {a b c : Map Word} (h : RegsIn bs a b) (h' : RegsIn bs b c) : RegsIn bs a c :=
  fun o hl ho => (h' o hl ho).trans (h o hl ho)

theorem RegsIn.mono {bs bs' : List Nat} {a b : Map Word} (h : RegsIn bs a b) (hb : bs ⊆ bs') : RegsIn bs' a b :=
  fun o hl ho => h o hl fun hm => ho (hb hm)

theorem RegsIn.rput {bs : List Nat} {a b : Map Word} (h : RegsIn bs a b) {f : RegField} {v i j : Nat}
    (hf : f.off i j / 0x10000 ∈ bs) : RegsIn bs a (rput b f v i j) :=
  h.trans fun o _ ho => mget_rput_ne b f v i j o fun e => ho (e ▸ hf)

theorem RegsIn.filter {bs : List Nat} (a : Map Word) (q : Nat → Bool) (hq : ∀ o, o / 0x10000 ∉ bs → q o = true) :
    RegsIn bs a (a.filter fun e => q e.1) := fun o _ ho => by rw [mget_filter_key, if_pos (hq o ho)]

theorem RegsIn.ite {bs : List Nat} {a b c : Map Word} {p : Prop} [Decidable p] (h : RegsIn bs a b) (h' : RegsIn bs a c) :
    RegsIn bs a (if p then b else c) := by split <;> assumption

theorem RegsIn.raise {bs : List Nat} (a : Map Word) {s : State} {c : Src} {d : Nat} (h : RegsIn bs a s.regs) :
    RegsIn bs a (raise c d s).regs := h.trans fun _ hl _ => raise_regs_leaves _ _ _ hl

theorem RegsIn.raiseIf {bs : List Nat} (a : Map Word) {s : State} {b : Bool} {c : Src} {d : Nat} (h : RegsIn bs a s.regs) :
    RegsIn bs a (raiseIf b c d s).regs := h.trans fun _ hl _ => raiseIf_regs_leaves _ _ _ _ hl

theorem RegsIn.raiseAll {bs : List Nat} (a : Map Word) {s : State} {l : List (Src × Nat)} (h : RegsIn bs a s.regs) :
    RegsIn bs a (raiseAll l s).regs := h.trans fun _ hl _ => raiseAll_regs_leaves _ _ hl

/-- A field of another block. -/
theorem RegsIn.r {bs : List Nat} {s t : State} (h : RegsIn bs s.regs t.regs) {f : RegField} {i j : Nat}
    (hl : raiseLeavesB (f.off i j) = true) (hb : f.off i j / 0x10000 ∉ bs) : t.r f i j = s.r f i j :=
  State.r_congr (h _ (raiseLeaves_of hl) hb)

/-! ### What the loss of a domain leaves -/

theorem laneQuiet_only (l : Fin 3) (s : State) : OnlyChanges [.lan, .vpt] s (laneQuiet l s) := by
  simp [onlyChanges_iff, laneQuiet, State.lane]

theorem retire_only (l : Fin 3) (cause : Nat) (s : State) : OnlyChanges [.lan, .vpt, .regs, .smp] s (retire l cause s) := by
  simp [onlyChanges_iff, retire, laneQuiet, State.lane]

theorem retire_regs (l : Fin 3) (cause : Nat) (s : State) : (retire l cause s).regs = rput s.regs R.LAN_RETIRE_CAUSE cause l := rfl

theorem retire_regsIn (l : Fin 3) (cause : Nat) (s : State) : RegsIn [4] s.regs (retire l cause s).regs := by
  rw [retire_regs]
  exact (RegsIn.refl _ _).rput (by fin_cases l <;> decide)

theorem lanResult_regsIn (res lane : Nat) (s : State) : RegsIn [4] s.regs (lanResult res lane s).regs :=
  (((RegsIn.refl _ _).rput (by decide)).rput (by decide)).rput (by decide)

/-- The parts that the end of a lane's request may change. -/
def laneParts : List Part := .lan :: .vpt :: raiseParts

theorem joinEnd_only (cause : Nat) (s : State) : OnlyChanges laneParts s (joinEnd cause s) := by
  unfold joinEnd
  split
  · exact .refl _ s
  · rename_i j _
    have h : OnlyChanges laneParts s (lanResult 3 j.lane { s with lan := { s.lan with join := none } }) := by
      simp [onlyChanges_iff, laneParts, lanResult, raiseParts]
    exact .ite _ (h.trans ((retire_only _ _ _).mono (by decide))) h

theorem joinEnd_regsIn (cause : Nat) (s : State) : RegsIn [4] s.regs (joinEnd cause s).regs := by
  unfold joinEnd
  split
  · exact .refl _ _
  · rename_i j _
    have h := lanResult_regsIn 3 j.lane { s with lan := { s.lan with join := none } }
    dsimp only
    split
    · exact h.trans (retire_regsIn _ _ _)
    · exact h

theorem joinFail_only (c : Src) (s : State) : OnlyChanges laneParts s (joinFail c s) := by
  unfold joinFail
  refine .trans (.trans ?_ (joinEnd_only _ _)) ((raise_only _ _ _).mono (by decide))
  split
  · exact .ite _ (.refl _ s) ((State.w_only _ _ _ _ _).mono (by decide))
  · exact .refl _ s

theorem joinFail_regsIn (c : Src) (s : State) : RegsIn [4] s.regs (joinFail c s).regs := by
  unfold joinFail
  refine .raise _ (.trans ?_ (joinEnd_regsIn _ _))
  split
  · rename_i j _
    split
    · exact .refl _ _
    · exact (RegsIn.refl _ _).rput (by generalize j.lane = l; fin_cases l <;> decide)
  · exact .refl _ _

theorem secondFault_only (cond : Nat) (s : State) : OnlyChanges laneParts s (secondFault cond s) := by
  have h : OnlyChanges laneParts s { s with lan := { s.lan with secondNow := putBit s.lan.secondNow cond true } } := by
    simp [onlyChanges_iff, laneParts]
  exact (h.trans (joinEnd_only _ _)).trans ((raiseIf_only _ _ _ _).mono (by decide))

theorem secondFault_regsIn (cond : Nat) (s : State) : RegsIn [4] s.regs (secondFault cond s).regs :=
  .raiseIf _ (joinEnd_regsIn _ _)

/-- A lane whose domain is lost, before its request and its place in the votes are looked at. -/
def laneGone (l : Fin 3) (s : State) : State :=
  let t := laneQuiet l (s.lane l fun x => { x with stopped := true, eccStop := false, frames := [], vars := [], outs := [] })
  { t with lan := { t.lan with cmpX := t.lan.cmpX && l != 0, cmpY := t.lan.cmpY && l != 1 } }

theorem laneGone_regs (l : Fin 3) (s : State) : (laneGone l s).regs = s.regs := rfl

theorem laneGone_only (l : Fin 3) (s : State) : OnlyChanges laneParts s (laneGone l s) := by
  simp [onlyChanges_iff, laneParts, laneGone, laneQuiet, State.lane, raiseParts]

/-- The request of a lane that is lost fails. -/
def laneJoinLost (l : Fin 3) (t : State) : State :=
  match t.lan.join with
  | some j => if j.lane = l then joinFail (if j.step ≤ 1 then S.LAN_STEST else S.LAN_READMIT) t else t
  | none => t

theorem loseLane_eq (l : Fin 3) (s : State) : loseLane l s =
    (let t := laneJoinLost l (laneGone l s)
     if t.lan.lanes[l].retired then t else if !t.lan.run then retire l 7 t else if t.lan.svcCount = 3 then t
      else secondFault (8 * l.val + 7) t) := rfl

theorem laneJoinLost_only (l : Fin 3) (t : State) : OnlyChanges laneParts t (laneJoinLost l t) := by
  unfold laneJoinLost
  split
  · exact .ite _ (joinFail_only _ _) (.refl _ _)
  · exact .refl _ _

theorem laneJoinLost_regsIn (l : Fin 3) (t : State) : RegsIn [4] t.regs (laneJoinLost l t).regs := by
  unfold laneJoinLost
  split
  · split
    · exact joinFail_regsIn _ _
    · exact .refl _ _
  · exact .refl _ _

theorem loseLane_only (l : Fin 3) (s : State) : OnlyChanges laneParts s (loseLane l s) := by
  rw [loseLane_eq]
  have h := (laneGone_only l s).trans (laneJoinLost_only l _)
  exact .ite _ h (.ite _ (h.trans ((retire_only _ _ _).mono (by decide))) (.ite _ h (h.trans (secondFault_only _ _))))

theorem loseLane_regsIn (l : Fin 3) (s : State) : RegsIn [4] s.regs (loseLane l s).regs := by
  have h := laneJoinLost_regsIn l (laneGone l s)
  rw [laneGone_regs] at h
  rw [loseLane_eq]
  generalize laneJoinLost l (laneGone l s) = t at h
  dsimp only
  split
  · exact h
  · split
    · exact h.trans (retire_regsIn _ _ _)
    · split
      · exact h
      · exact h.trans (secondFault_regsIn _ _)

theorem txnDomainLost_only (d : Nat) (s : State) : OnlyChanges [.cfg, .regs, .shadow] s (txnDomainLost d s) := by
  unfold txnDomainLost
  refine .ite _ ?_ (.refl _ s)
  simp [onlyChanges_iff, txnResult, txnTo]

theorem txnDomainLost_regsIn (d : Nat) (s : State) : RegsIn [0xB] s.regs (txnDomainLost d s).regs := by
  unfold txnDomainLost
  split
  · exact (((((RegsIn.refl _ _).rput (by decide)).rput (by decide)).rput (by decide)).rput (by decide)).rput (by decide)
  · exact .refl _ _

theorem loseCs0_only (s : State) : OnlyChanges (.cis :: .dsc :: raiseParts) s (loseCs0 s) := by
  refine .trans ?_ ((raiseAll_only _ _).mono (by decide))
  unfold countDark
  split <;> simp [onlyChanges_iff, raiseParts]

theorem loseCs0_regsIn (s : State) : RegsIn [2] s.regs (loseCs0 s).regs := by
  have h : RegsIn [2] s.regs (rput s.regs R.CIS_SLC_CSTAT_BUSY 0) := (RegsIn.refl _ _).rput (by decide)
  refine .raiseAll _ ?_
  unfold countDark
  split
  · exact .ite h (.refl _ _)
  · exact RegsIn.rput (.ite h (.refl _ _)) (by decide)

theorem loseCs1_regsIn (s : State) : RegsIn [9] s.regs (loseCs1 s).regs := by
  have hq : ∀ o, o / 0x10000 ∉ [9] → (!decide (0x90100 ≤ o ∧ o < 0x90300)) = true := fun o ho => by
    have : o / 0x10000 ≠ 9 := by simpa using ho
    simp only [Bool.not_eq_true', decide_eq_false_iff_not]
    omega
  simp only [loseCs1]
  exact RegsIn.filter s.regs (fun o => !decide (0x90100 ≤ o ∧ o < 0x90300)) hq

theorem endpointReset_regsIn (s : State) : RegsIn [1] s.regs (endpointReset s).regs := by
  have hq : ∀ o, o / 0x10000 ∉ [1] → (!(decide (0x10000 ≤ o ∧ o < 0x1F000)) || o == 0x10010) = true := fun o ho => by
    have : o / 0x10000 ≠ 1 := by simpa using ho
    simp only [Bool.or_eq_true, Bool.not_eq_true', decide_eq_false_iff_not, beq_iff_eq]
    omega
  simp only [endpointReset, hifRegs]
  exact RegsIn.filter s.regs (fun o => !(decide (0x10000 ≤ o ∧ o < 0x1F000)) || o == 0x10010) hq

/-- The parts that the loss of a domain may change: not the supplies and gates, the timebase, the nonvolatile contents, the JTAG port. -/
def lossParts : List Part :=
  [.cfg, .shadow, .cis, .dsc, .tkt, .tmr, .crc, .rings, .net, .osr, .adc, .lan, .vpt, .regs, .evs, .sys, .keep, .hif, .tx, .smp]

theorem loseDomain_only (d : Nat) (s : State) : OnlyChanges lossParts s (loseDomain d s) := by
  unfold loseDomain
  refine .trans ((txnDomainLost_only d s).mono (by decide)) ?_
  generalize txnDomainLost d s = u
  split
  · exact (loseLane_only _ _).mono (by decide)
  · exact (loseLane_only _ _).mono (by decide)
  · exact (loseLane_only _ _).mono (by decide)
  · exact (loseCs0_only _).mono (by decide)
  · simp [onlyChanges_iff, lossParts, loseCs1]
  · simp [onlyChanges_iff, lossParts, loseHs, endpointReset]
  · simp [onlyChanges_iff, lossParts]
  · simp [onlyChanges_iff, lossParts, loseVp]
  · simp [onlyChanges_iff, lossParts]

theorem loseDomain_regsIn (d : Nat) (s : State) : RegsIn [1, 2, 4, 9, 0xB] s.regs (loseDomain d s).regs := by
  unfold loseDomain
  refine .trans ((txnDomainLost_regsIn d s).mono (by decide)) ?_
  generalize txnDomainLost d s = u
  split
  · exact (loseLane_regsIn _ _).mono (by decide)
  · exact (loseLane_regsIn _ _).mono (by decide)
  · exact (loseLane_regsIn _ _).mono (by decide)
  · exact (loseCs0_regsIn _).mono (by decide)
  · exact (loseCs1_regsIn _).mono (by decide)
  · exact (endpointReset_regsIn _).mono (by decide)
  all_goals exact .refl _ _

end Sys2Proof.Machine
end

section
/-! The power-up sequence and the gates (R32-R38, R519). -/

namespace Sys2Proof.Machine

/-! ### Gates that open -/

@[simp] theorem openDomain_on (d : Nat) (s : State) : (openDomain d s).pwr.on = putBit s.pwr.on d true := by
  unfold openDomain; dsimp only; split <;> rfl

@[simp] theorem openDomain_waiting (d : Nat) (s : State) : (openDomain d s).pwr.waiting = putBit s.pwr.waiting d false := by
  unfold openDomain; dsimp only; split <;> rfl

theorem openDomain_only (d : Nat) (s : State) : OnlyChanges [.pwr, .adc] s (openDomain d s) := by
  unfold openDomain
  dsimp only
  split <;> simp [onlyChanges_iff]

/-- A gate of the power-up sequence opens, or waits for its supply (R37). -/
def openOrWait (lim : BitVec 12) (s : State) (d : Nat) : State :=
  if lim.getLsbD d then openDomain d s else { s with pwr := { s.pwr with waiting := putBit s.pwr.waiting d true } }

theorem openOrWait_only (lim : BitVec 12) (s : State) (d : Nat) : OnlyChanges [.pwr, .adc] s (openOrWait lim s d) := by
  unfold openOrWait
  split
  · exact openDomain_only d s
  · simp [onlyChanges_iff]

theorem openOrWait_on (lim : BitVec 12) (s : State) (d : Nat) {e : Nat} (he : e < 9) :
    (openOrWait lim s d).pwr.on.getLsbD e = if e = d ∧ lim.getLsbD e then true else s.pwr.on.getLsbD e := by
  unfold openOrWait
  by_cases h : lim.getLsbD d
  · rw [if_pos h, openDomain_on, putBit_getLsbD _ _ _ _ he]
    by_cases hd : e = d <;> simp [hd, h]
  · rw [if_neg h]
    by_cases hd : e = d <;> simp [hd, h]

theorem openOrWait_waiting (lim : BitVec 12) (s : State) (d : Nat) {e : Nat} (he : e < 9) :
    (openOrWait lim s d).pwr.waiting.getLsbD e = if e = d then !lim.getLsbD e else s.pwr.waiting.getLsbD e := by
  unfold openOrWait
  by_cases h : lim.getLsbD d
  · rw [if_pos h, openDomain_waiting, putBit_getLsbD _ _ _ _ he]
    by_cases hd : e = d <;> simp [hd, h]
  · rw [if_neg h]
    dsimp only
    rw [putBit_getLsbD _ _ _ _ he]
    by_cases hd : e = d <;> simp [hd, h]

theorem openOrWait_foldl_on (lim : BitVec 12) (l : List Nat) (s : State) {e : Nat} (he : e < 9) :
    (l.foldl (openOrWait lim) s).pwr.on.getLsbD e = if e ∈ l ∧ lim.getLsbD e then true else s.pwr.on.getLsbD e := by
  induction l generalizing s with
  | nil => simp
  | cons d l ih =>
    rw [List.foldl_cons, ih, openOrWait_on lim s d he]
    by_cases hd : e = d
    · subst hd
      by_cases h : lim.getLsbD e <;> simp [h]
    · simp [hd]

theorem openOrWait_foldl_waiting (lim : BitVec 12) (l : List Nat) (s : State) {e : Nat} (he : e < 9) :
    (l.foldl (openOrWait lim) s).pwr.waiting.getLsbD e = if e ∈ l then !lim.getLsbD e else s.pwr.waiting.getLsbD e := by
  induction l generalizing s with
  | nil => simp
  | cons d l ih =>
    rw [List.foldl_cons, ih, openOrWait_waiting lim s d he]
    by_cases hd : e = d <;> simp [hd]

/-- The table of the sequence: a step opens the gates of `gateStep` at the time of `stepTime`. -/
theorem mem_seqGates {n : Nat} (h3 : 3 ≤ n) (h8 : n < 9) {d : Nat} (hd : d < 9) : d ∈ (seqGates n).1 ↔ gateStep d = n := by
  exact (show ∀ n < 9, 3 ≤ n → ∀ d < 9, (d ∈ (seqGates n).1 ↔ gateStep d = n) by decide) n h8 h3 d hd

theorem seqGates_time {n : Nat} (h3 : 3 ≤ n) (h9 : n < 10) : ((seqGates n).2 - 20) * us = stepTime n := by
  exact (show ∀ n < 10, 3 ≤ n → ((seqGates n).2 - 20) * us = stepTime n by decide) n h9 h3

theorem seqEff_of_lt (lim : BitVec 12) {s : State} (h : s.pwr.seqStep < 8) : seqEff lim s =
    (let t := (seqGates (max 3 (s.pwr.seqStep + 1))).1.foldl (openOrWait lim) (s.at (s.pwr.acceptTb + stepTime (max 3 (s.pwr.seqStep + 1))))
     { t with pwr := { t.pwr with seqStep := max 3 (s.pwr.seqStep + 1) } }) := by
  rw [← seqGates_time (Nat.le_max_left 3 _) (by omega)]
  simp only [seqEff]
  rw [if_neg (by omega)]
  rfl

theorem seqEff_of_eq (lim : BitVec 12) {s : State} (h : s.pwr.seqStep = 8) :
    seqEff lim s = seqEnd (s.at (s.pwr.acceptTb + stepTime 9)) := by
  simp only [seqEff, h]
  rfl

/-- A step of the sequence before its last. -/
theorem seqEff_gates (lim : BitVec 12) {s : State} (hr : s.pwr.refOk = true) (h : s.pwr.seqStep < 8) :
    OnlyChanges [.pwr, .adc, .tb, .edge] s (seqEff lim s) ∧ (seqEff lim s).pwr.seqStep = max 3 (s.pwr.seqStep + 1)
      ∧ (seqEff lim s).tb = max s.tb (s.pwr.acceptTb + stepTime (max 3 (s.pwr.seqStep + 1)))
      ∧ ∀ d, d < 9 → ((seqEff lim s).pwr.on.getLsbD d
            = if gateStep d = max 3 (s.pwr.seqStep + 1) ∧ lim.getLsbD d then true else s.pwr.on.getLsbD d)
          ∧ ((seqEff lim s).pwr.waiting.getLsbD d
            = if gateStep d = max 3 (s.pwr.seqStep + 1) then !lim.getLsbD d else s.pwr.waiting.getLsbD d) := by
  rw [seqEff_of_lt lim h]
  generalize hn : max 3 (s.pwr.seqStep + 1) = n
  have hf := OnlyChanges.foldl (openOrWait lim) (openOrWait_only lim) (seqGates n).1 (s.at (s.pwr.acceptTb + stepTime n))
  refine ⟨?_, rfl, ?_, fun d hd => ⟨?_, ?_⟩⟩
  · refine (((State.at_only s _).mono (by decide)).trans (hf.mono (by decide))).trans ?_
    simp [onlyChanges_iff]
  · exact (hf .tb (by decide)).trans (State.at_tb_ok s _ hr)
  · dsimp only
    rw [openOrWait_foldl_on lim _ _ hd]
    simp only [mem_seqGates (show 3 ≤ n by omega) (by omega) hd, State.at_pwr]
  · dsimp only
    rw [openOrWait_foldl_waiting lim _ _ hd]
    simp only [mem_seqGates (show 3 ≤ n by omega) (by omega) hd, State.at_pwr]

/-- A bit that is cleared where a flag says so. -/
theorem ite_putBit_getLsbD (f : Bool) (v : BitVec 9) (i : Nat) {d : Nat} (hd : d < 9) :
    (if f then putBit v i false else v).getLsbD d = (v.getLsbD d && !(d == i && f)) := by
  cases f
  · simp
  · rw [if_pos rfl, putBit_getLsbD _ _ _ _ hd]
    by_cases h : d = i <;> simp [h]

theorem seqEnd_on (s : State) {d : Nat} (hd : d < 9) : (seqEnd s).pwr.on.getLsbD d = (s.pwr.on.getLsbD d
    && !(d == 6 && (step1Flags s.nv).getLsbD 0) && !(d == 8 && (step1Flags s.nv).getLsbD 1)) := by
  simp only [seqEnd]
  rw [ite_putBit_getLsbD _ _ _ hd, ite_putBit_getLsbD _ _ _ hd]

theorem execPowerupSeqStep_eq (lim : BitVec 12) {s : State} (ha : s.pwr.aoOk = true) (hr : s.pwr.refOk = true) (hl : s.pwr.rstLow = false)
    (ht : s.pwr.testHold = false) (h : s.pwr.seqStep < 9) : execPowerupSeqStep lim s = .next (seqEff lim s) := by
  simp [execPowerupSeqStep, ha, hr, hl, ht, h]

/-! ### Gates that open late or reopen -/

theorem bootLeave_of_none {s : State} (h : s.sys.leave = none) : bootLeave s = s := by simp [bootLeave, h]

theorem bootLeave_only (s : State) : OnlyChanges [.sys, .slot, .regs, .vpt] s (bootLeave s) := by
  unfold bootLeave
  split
  · refine .ite _ (.refl _ s) (.trans ?_ (setMode_only _ _))
    simp [onlyChanges_iff]
  · exact .refl _ s

@[simp] theorem bootLeave_pwr (s : State) : (bootLeave s).pwr = s.pwr := bootLeave_only s .pwr (by decide)
@[simp] theorem bootLeave_lan (s : State) : (bootLeave s).lan = s.lan := bootLeave_only s .lan (by decide)

theorem putBit_getLsbD_self {n : Nat} (v : BitVec n) (b : Bool) {i : Nat} (hi : i < n) : (putBit v i b).getLsbD i = b := by
  simp [putBit_getLsbD v i i b hi]

theorem putBit_getLsbD_ne {n : Nat} (v : BitVec n) (b : Bool) {i j : Nat} (h : j ≠ i) : (putBit v i b).getLsbD j = v.getLsbD j := by
  by_cases hj : j < n
  · rw [putBit_getLsbD v i j b hj, if_neg h]
  · rw [BitVec.getLsbD_of_ge _ _ (by omega), BitVec.getLsbD_of_ge _ _ (by omega)]

theorem execDomainLateOpen_eq (d : Fin 9) {s : State} (hw : s.pwr.waiting.getLsbD d = true) (hr : s.pwr.refOk = true) :
    execDomainLateOpen d s = .next (bootLeave (openDomain d s)) := by
  simp [execDomainLateOpen, hw, hr]

/-- The state of a lane's gate that reopens. -/
def reopened (l : Nat) (s : State) : State :=
  { s with pwr := { s.pwr with on := putBit s.pwr.on l true, lost := putBit s.pwr.lost l false } }

theorem execLaneGateReopen_eq (l : Fin 3) {s : State} (hl : s.pwr.lost.getLsbD l = true) (ha : s.pwr.aoOk = true)
    (hr : s.pwr.refOk = true) : execLaneGateReopen l s = .next (bootLeave (reopened l s)) := by
  simp [execLaneGateReopen, hl, ha, hr, reopened]

/-! ### Gates that close on a fault -/

/-- The gate of a domain is closed by a fault. -/
def gateLost (d : Nat) (s : State) : State :=
  { s with pwr := { s.pwr with on := putBit s.pwr.on d false, lost := putBit s.pwr.lost d true, waiting := putBit s.pwr.waiting d false } }

theorem tripDomain_eq (d : Nat) (s : State) : tripDomain d s = raise (pwrSource d) 0 (loseDomain d (gateLost d s)) := rfl

theorem tripDomain_pwr (d : Nat) (s : State) : (tripDomain d s).pwr = (gateLost d s).pwr := by
  rw [tripDomain_eq, raise_pwr]
  exact loseDomain_only d _ .pwr (by decide)

theorem tripDomain_regsIn (d : Nat) (s : State) : RegsIn [1, 2, 4, 9, 0xB] s.regs (tripDomain d s).regs :=
  .raise _ (loseDomain_regsIn d (gateLost d s))

theorem tripDomain_leaves (d : Nat) (s : State) : (tripDomain d s).nv = s.nv ∧ (tripDomain d s).tb = s.tb
    ∧ (tripDomain d s).jtag = s.jtag := by
  have h := loseDomain_only d (gateLost d s)
  rw [tripDomain_eq, raise_nv, raise_tb, raise_jtag]
  exact ⟨h .nv (by decide), h .tb (by decide), h .jtag (by decide)⟩

theorem tripDomain_raised (d : Nat) {s : State} (ha : s.pwr.aoOk = true) : (tripDomain d s).raised (pwrSource d) = true := by
  rw [tripDomain_eq]
  refine raised_raise _ _ ?_
  rw [State.blockUp_congr (loseDomain_only d _ .pwr (by decide))]
  exact ha

theorem execDomainOpenTimeout_eq (d : Fin 9) {s : State} (h : s.pwr.waiting.getLsbD d = true) :
    execDomainOpenTimeout d s = .next (tripDomain d s) := by
  simp [execDomainOpenTimeout, h]

theorem execDomainTrip_eq (d : Fin 10) (high : Bool) {s : State} (hd : d.val < 9) (ha : s.pwr.aoOk = true)
    (ho : s.pwr.on.getLsbD d = true) : execDomainTrip d high s = .next (tripDomain d ((s.order 1).w
      (if high then R.PWR_OV_FLAG_OV else R.PWR_UV_FLAG_UV)
      (s.r (if high then R.PWR_OV_FLAG_OV else R.PWR_UV_FLAG_UV) ||| 2 ^ d.val))) := by
  simp [execDomainTrip, Nat.ne_of_lt hd, ha, ho]

/-- A flag register of the supplies takes the bit of the supply. -/
theorem flag_testBit (s : State) (f : RegField) (v : Nat) {d : Nat} (hd : d < 12) (hf : f.hi = 11 ∧ f.lo = 0) :
    ((s.w f (v ||| 2 ^ d)).r f).testBit d = true := by
  rw [State.r_w_same (by omega), hf.1, hf.2, Nat.testBit_mod_two_pow, Nat.testBit_or]
  simp [hd]

theorem execDomainTrip_ao {s : State} (ha : s.pwr.aoOk = true) : execDomainTrip 9 true s = .next (aoOver (s.order 1)) := by
  simp [execDomainTrip, ha]

/-- Settles O10: the sequence from its table, a late gate and a lane's gate through `bootLeave`, a fault of a supply through
`tripDomain`. -/
theorem powerUpSequenceAndGates : Obligations.PowerUpSequenceAndGates := by
  refine ⟨fun lim s ha hr hl ht => ⟨fun h => ?_, fun h => ?_⟩, fun s => ⟨fun d hw hr => ?_, fun d hw ha => ?_, fun d high hd ha ho => ?_,
    fun ha => ?_, fun l hl ha hr => ?_⟩⟩
  · obtain ⟨honly, hstep, htb, hbits⟩ := seqEff_gates lim hr h
    refine ⟨_, execPowerupSeqStep_eq lim ha hr hl ht (by omega), honly, hstep, by rw [htb, hstep], fun d hd => ?_⟩
    obtain ⟨hon, hwait⟩ := hbits d hd
    rw [hstep]
    exact ⟨hon, fun hg => by rw [hwait, if_pos hg], fun hg => by rw [hwait, if_neg hg]⟩
  · refine ⟨_, (execPowerupSeqStep_eq lim ha hr hl ht (by omega)).trans (congrArg _ (seqEff_of_eq lim h)), rfl, rfl,
      State.at_tb_ok s _ hr, ((State.at_only s (s.pwr.acceptTb + stepTime 9)).mono (by decide)).trans ?_, fun d hd => seqEnd_on _ hd⟩
    simp [onlyChanges_iff, seqEnd]
  · refine ⟨_, execDomainLateOpen_eq d hw hr, fun hn => ?_, ?_, ?_, fun e he => ?_⟩
    · rw [bootLeave_of_none ((congrArg (·.leave) (openDomain_only d s .sys (by decide))).trans hn)]
      exact openDomain_only d s
    · rw [bootLeave_pwr, openDomain_on, putBit_getLsbD_self _ _ d.isLt]
    · rw [bootLeave_pwr, openDomain_waiting, putBit_getLsbD_self _ _ d.isLt]
    · rw [bootLeave_pwr, openDomain_on, putBit_getLsbD_ne _ _ he]
  · obtain ⟨hnv, htb, hj⟩ := tripDomain_leaves d s
    refine ⟨_, execDomainOpenTimeout_eq d hw, ?_, ?_, ?_, tripDomain_raised d ha, hnv, htb, hj⟩
    all_goals rw [tripDomain_pwr]; exact putBit_getLsbD_self _ _ d.isLt
  · obtain ⟨hnv, htb, hj⟩ := tripDomain_leaves d
      ((s.order 1).w (if high then R.PWR_OV_FLAG_OV else R.PWR_UV_FLAG_UV)
        (s.r (if high then R.PWR_OV_FLAG_OV else R.PWR_UV_FLAG_UV) ||| 2 ^ d.val))
    refine ⟨_, execDomainTrip_eq d high hd ha ho, ?_, ?_, fun e he => ?_, ?_, tripDomain_raised d ha, hnv, htb, hj⟩
    · rw [tripDomain_pwr]; exact putBit_getLsbD_self _ _ hd
    · rw [tripDomain_pwr]; exact putBit_getLsbD_self _ _ hd
    · rw [tripDomain_pwr]; exact putBit_getLsbD_ne _ _ he
    · rw [RegsIn.r (tripDomain_regsIn d _) (by cases high <;> rfl) (by cases high <;> decide)]
      exact flag_testBit _ _ _ (by omega) (by cases high <;> exact ⟨rfl, rfl⟩)
  · refine ⟨_, execDomainTrip_ao ha, raised_raise _ _ ha, OnlyChanges.trans ?_ ((raise_only _ _ _).mono (by decide)), ?_⟩
    · simp [onlyChanges_iff, raiseParts]
    · simp [aoOver]
  · refine ⟨_, execLaneGateReopen_eq l hl ha hr, fun hn => ?_, ?_, ?_, ?_, fun e he => ⟨?_, ?_⟩⟩
    · rw [bootLeave_of_none (s := reopened l s) hn]
      simp [onlyChanges_iff, reopened]
    · rw [bootLeave_pwr]; exact putBit_getLsbD_self _ _ (by omega)
    · rw [bootLeave_pwr]; exact putBit_getLsbD_self _ _ (by omega)
    · rw [bootLeave_lan]; rfl
    · rw [bootLeave_pwr]; exact putBit_getLsbD_ne _ _ he
    · rw [bootLeave_pwr]; exact putBit_getLsbD_ne _ _ he

end Sys2Proof.Machine
end

section
/-! The self-tests of Boot (R510, R519, R521): what each test leaves. -/

namespace Sys2Proof.Machine

/-! ### Folds -/

/-- What one step of a fold establishes and every step keeps holds at its end. -/
theorem foldl_establishes {α : Type} {g : State → α → State} {I P : State → Prop} (hI : ∀ s a, I s → I (g s a))
    (hP : ∀ s a, P s → P (g s a)) {a : α} (ha : ∀ s, I s → P (g s a)) {l : List α} (hl : a ∈ l) {s : State} (hs : I s) :
    P (l.foldl g s) := by
  have keep : ∀ (l : List α) (s : State), P s → P (l.foldl g s) := fun l => by
    induction l with
    | nil => exact fun _ h => h
    | cons b l ih => exact fun s h => ih _ (hP s b h)
  induction l generalizing s with
  | nil => exact absurd hl List.not_mem_nil
  | cons b l ih =>
    rcases List.mem_cons.1 hl with rfl | hl
    · exact keep l _ (ha s hs)
    · exact ih hl (hI s b hs)

theorem foldl_keeps {α : Type} {g : State → α → State} {P : State → Prop} (hP : ∀ s a, P s → P (g s a)) (l : List α) {s : State}
    (h : P s) : P (l.foldl g s) := by
  induction l generalizing s with
  | nil => exact h
  | cons a l ih => exact ih (hP s a h)

theorem RegsIn.foldl {α : Type} {bs : List Nat} {g : State → α → State} (h : ∀ s a, RegsIn bs s.regs (g s a).regs) (l : List α) (s : State) :
    RegsIn bs s.regs (l.foldl g s).regs :=
  foldl_keeps (P := fun t => RegsIn bs s.regs t.regs) (fun t a ht => ht.trans (h t a)) l (.refl _ _)

/-! ### Lanes -/

theorem State.lane_retired (s : State) (l m : Fin 3) (f : Lane → Lane) (hf : (f s.lan.lanes[l]).retired = s.lan.lanes[l].retired) :
    (s.lane l f).lan.lanes[m].retired = s.lan.lanes[m].retired := by
  by_cases h : l.val = m.val
  · obtain rfl := Fin.ext h
    simpa [State.lane, vmod] using hf
  · simp [State.lane, vmod, h]

theorem laneQuiet_retired (l m : Fin 3) (s : State) : (laneQuiet l s).lan.lanes[m].retired = s.lan.lanes[m].retired :=
  State.lane_retired s l m (fun x => { x with quietAt := some (x.quietAt.getD s.tb), mid := none, res := none }) rfl

/-- A retirement retires its lane, and leaves the others as they are. -/
theorem retire_retired (l m : Fin 3) (cause : Nat) (s : State) :
    (retire l cause s).lan.lanes[m].retired = if m = l then true else s.lan.lanes[m].retired := by
  refine (laneQuiet_retired l m _).trans ?_
  by_cases h : m = l
  · subst h; simp [State.lane, vmod]
  · have : l.val ≠ m.val := fun e => h (Fin.ext e.symm)
    simp [State.lane, vmod, this, h]

theorem retire_cmp (l : Fin 3) (cause : Nat) (s : State) : (retire l cause s).lan.cmpX = s.lan.cmpX
    ∧ (retire l cause s).lan.cmpY = s.lan.cmpY := ⟨rfl, rfl⟩

/-- A lane that fails its test. -/
def laneTestFailed (s : State) (l : Fin 3) : State := retire l 8 (raise S.LAN_STEST 0 s)

theorem laneTests_eq (fail : BitVec 3) (s : State) : laneTests fail s =
    ((List.finRange 3).filter fun l => fail.getLsbD l.val && !s.lan.lanes[l].retired).foldl laneTestFailed s := rfl

theorem laneTestFailed_retired (s : State) (l m : Fin 3) :
    (laneTestFailed s l).lan.lanes[m].retired = if m = l then true else s.lan.lanes[m].retired := by
  rw [laneTestFailed, retire_retired, raise_lan]

theorem laneTestFailed_only (s : State) (l : Fin 3) : OnlyChanges (.lan :: .vpt :: raiseParts) s (laneTestFailed s l) :=
  ((raise_only _ _ _).mono (by decide)).trans ((retire_only _ _ _).mono (by decide))

theorem laneTestFailed_regsIn (s : State) (l : Fin 3) : RegsIn [4] s.regs (laneTestFailed s l).regs :=
  (RegsIn.raise _ (.refl _ _)).trans (retire_regsIn _ _ _)

theorem laneTests_only (fail : BitVec 3) (s : State) : OnlyChanges (.lan :: .vpt :: raiseParts) s (laneTests fail s) :=
  .foldl _ laneTestFailed_only _ _

theorem laneTests_regsIn (fail : BitVec 3) (s : State) : RegsIn [4] s.regs (laneTests fail s).regs := .foldl laneTestFailed_regsIn _ _

theorem laneTests_retired {fail : BitVec 3} {l : Fin 3} (h : fail.getLsbD l.val = true) (s : State) :
    (laneTests fail s).lan.lanes[l].retired = true := by
  have hkeep : ∀ t m, t.lan.lanes[l].retired = true → (laneTestFailed t m).lan.lanes[l].retired = true := fun t m ht => by
    rw [laneTestFailed_retired, ht, ite_self]
  rw [laneTests_eq]
  by_cases hr : s.lan.lanes[l].retired = true
  · exact foldl_keeps hkeep _ hr
  · refine foldl_establishes (I := fun _ => True) (P := fun t => t.lan.lanes[l].retired = true) (a := l) (fun _ _ _ => trivial) hkeep
      (fun t _ => by rw [laneTestFailed_retired, if_pos rfl]) ?_ trivial
    rw [List.mem_filter]
    exact ⟨List.mem_finRange l, by rw [h, Bool.eq_false_iff.2 hr]; rfl⟩

theorem laneTests_cmp (fail : BitVec 3) (s : State) :
    (laneTests fail s).lan.cmpX = s.lan.cmpX ∧ (laneTests fail s).lan.cmpY = s.lan.cmpY :=
  foldl_keeps (P := fun t => t.lan.cmpX = s.lan.cmpX ∧ t.lan.cmpY = s.lan.cmpY)
    (fun t l h => by
      obtain ⟨hx, hy⟩ := retire_cmp l 8 (raise S.LAN_STEST 0 t)
      rw [raise_lan] at hx hy
      exact ⟨hx.trans h.1, hy.trans h.2⟩) _ ⟨rfl, rfl⟩

/-! ### Slices -/

theorem vmod_failed {n : Nat} (v : Vector Phys n) (i q : Fin n) (f : Phys → Phys) (hf : (f v[i]).failed = v[i].failed) :
    (vmod v i f)[q].failed = v[q].failed := by
  by_cases h : i.val = q.val
  · obtain rfl := Fin.ext h
    simpa [vmod] using hf
  · simp [vmod, h]

/-- A failure leaves the slices that have failed failed. -/
theorem failCis_keeps_failed {c : Cis} {q : Fin 17} (h : c.phys[q].failed = true) (p : Fin 17) : (failCis c p).phys[q].failed = true := by
  have hset : (c.phys.set p { c.phys[p] with failed := true, testPass := false, wq := [] })[q].failed = true := by
    by_cases hp : p.val = q.val
    · obtain rfl := Fin.ext hp
      simp
    · simpa [Vector.getElem_set, hp] using h
  unfold failCis
  dsimp only
  split
  · exact (vmod_failed _ 16 q (fun x => { x with wq := [] }) rfl).trans hset
  · split
    · split
      · exact (vmod_failed _ 16 q _ rfl).trans hset
      · exact hset
    · exact hset

theorem failSlice_keeps_failed {s : State} {q : Fin 17} (h : s.cis.phys[q].failed = true) (p : Fin 17) :
    (failSlice p s).cis.phys[q].failed = true := by
  unfold failSlice
  split
  · exact h
  · simp only [raiseAll_cis, countDark]
    split <;> exact failCis_keeps_failed h p

/-- A migration of the self-tests is over at once. -/
def migrateAtOnce (t : State) : State :=
  match t.cis.mig with
  | some m => raise S.CIS_MIGRATE m.logical.val (({ t with cis := { t.cis with mig := none } }).stat 1 3 1)
  | none => t

theorem migrateAtOnce_phys (t : State) : (migrateAtOnce t).cis.phys = t.cis.phys := by
  unfold migrateAtOnce
  split
  · rw [raise_cis]; rfl
  · rfl

theorem migrateAtOnce_failed (t : State) (q : Fin 17) : (migrateAtOnce t).cis.phys[q].failed = t.cis.phys[q].failed := by
  simp only [migrateAtOnce_phys]

theorem migrateAtOnce_only (t : State) : OnlyChanges (.cis :: raiseParts) t (migrateAtOnce t) := by
  unfold migrateAtOnce
  split
  · refine .trans ?_ ((raise_only _ _ _).mono (by decide))
    simp [onlyChanges_iff, raiseParts, State.stat]
  · exact .refl _ _

theorem migrateAtOnce_regsIn (t : State) : RegsIn [] t.regs (migrateAtOnce t).regs := by
  unfold migrateAtOnce
  split
  · exact .raise _ (.refl _ _)
  · exact .refl _ _

/-- A slice's test (R212). -/
def sliceTest (fail : BitVec 17) (s : State) (p : Fin 17) : State :=
  if !fail.getLsbD p.val || s.cis.phys[p].failed || !s.sliceOn p then s
  else migrateAtOnce (failSlice p (raise S.CIS_SLC_TEST p.val s))

theorem sliceTests_eq (fail : BitVec 17) (s : State) : sliceTests fail s =
    ((16 : Fin 17) :: ((List.finRange 17).filter (·.val < 16))).foldl (sliceTest fail)
      { s with cis := { s.cis with spareOk := s.sliceOn 16 } } := by
  have h : (if ({ s with cis := { s.cis with spareOk := true } } : State).sliceOn 16 then { s with cis := { s.cis with spareOk := true } }
      else { s with cis := { s.cis with spareOk := false } }) = { s with cis := { s.cis with spareOk := s.sliceOn 16 } } := by
    cases hs : s.sliceOn 16 <;> simp [State.sliceOn, State.dom] at hs ⊢ <;> simp_all
  rw [← h]
  rfl

theorem failSlice_regsIn (p : Fin 17) (s : State) : RegsIn [2] s.regs (failSlice p s).regs := by
  unfold failSlice
  split
  · exact .refl _ _
  · refine .raiseAll _ ?_
    unfold countDark
    split
    · exact .refl _ _
    · exact (RegsIn.refl _ _).rput (by decide)

/-- The parts that a report of a slice, or its failure, may change. -/
theorem sliceTest_only (fail : BitVec 17) (s : State) (p : Fin 17) : OnlyChanges reportParts s (sliceTest fail s p) :=
  .ite _ (.refl _ _) (.trans (.trans ((raise_only _ _ _).mono (by decide)) (failSlice_reported p _).1)
    ((migrateAtOnce_only _).mono (by decide)))

theorem sliceTest_regsIn (fail : BitVec 17) (s : State) (p : Fin 17) : RegsIn [2] s.regs (sliceTest fail s p).regs := by
  unfold sliceTest
  split
  · exact .refl _ _
  · exact ((RegsIn.raise _ (.refl _ _)).trans (failSlice_regsIn p _)).trans ((migrateAtOnce_regsIn _).mono (by decide))

theorem sliceTests_only (fail : BitVec 17) (s : State) : OnlyChanges reportParts s (sliceTests fail s) := by
  rw [sliceTests_eq]
  refine .trans ?_ (.foldl _ (sliceTest_only fail) _ _)
  simp [onlyChanges_iff, reportParts]

theorem sliceTests_regsIn (fail : BitVec 17) (s : State) : RegsIn [2] s.regs (sliceTests fail s).regs := by
  rw [sliceTests_eq]
  exact RegsIn.foldl (sliceTest_regsIn fail) _ { s with cis := { s.cis with spareOk := s.sliceOn 16 } }

theorem State.sliceOn_congr {s t : State} (h : t.pwr = s.pwr) (p : Fin 17) : t.sliceOn p = s.sliceOn p := by
  simp [State.sliceOn, State.dom, h]

theorem sliceTests_failed {fail : BitVec 17} {p : Fin 17} {s : State} (h : fail.getLsbD p.val = true) (hon : s.sliceOn p = true) :
    (sliceTests fail s).cis.phys[p].failed = true := by
  rw [sliceTests_eq]
  refine foldl_establishes (I := fun t => t.pwr = s.pwr) (P := fun t => t.cis.phys[p].failed = true) (a := p)
    (fun t q ht => (sliceTest_only fail t q .pwr (by decide)).trans ht) (fun t q ht => ?_) (fun t ht => ?_) ?_ rfl
  · unfold sliceTest
    split
    · exact ht
    · rw [migrateAtOnce_failed]
      exact failSlice_keeps_failed (by simpa using ht) q
  · unfold sliceTest
    rw [h, State.sliceOn_congr ht, hon]
    split
    · rename_i hf
      simpa using hf
    · rw [migrateAtOnce_failed]
      exact failSlice_failed p _
  · by_cases hp : p = 16
    · exact hp ▸ List.mem_cons_self
    · refine List.mem_cons_of_mem _ (List.mem_filter.2 ⟨List.mem_finRange p, ?_⟩)
      have : p.val ≠ 16 := fun e => hp (Fin.ext e)
      simp only [decide_eq_true_eq]
      omega

end Sys2Proof.Machine
end

section
/-! The outcome of the self-tests of Boot (R510, R519, R521). -/

namespace Sys2Proof.Machine

/-! ### Loopbacks and calibrations -/

theorem loopbacks_only (r : SelfTests) (s : State) : OnlyChanges (.vpt :: .osr :: .net :: raiseParts) s (loopbacks r s) := by
  refine .trans ?_ ((raiseAll_only _ _).mono (by decide))
  simp [onlyChanges_iff]

theorem loopbacks_regsIn (r : SelfTests) (s : State) : RegsIn [] s.regs (loopbacks r s).regs := .raiseAll _ (.refl _ _)

theorem adcHalt_only (c : Fin 2) (s : State) : OnlyChanges (.adc :: raiseParts) s (adcHalt c s) := by
  refine .trans ?_ ((raise_only _ _ _).mono (by decide))
  simp [onlyChanges_iff, adcRoll, State.withConv]

theorem adcHalt_regsIn (c : Fin 2) (s : State) : RegsIn [] s.regs (adcHalt c s).regs := .raise _ (.refl _ _)

theorem calResult_only (c : Fin 2) (offset gain : Int) (s : State) : OnlyChanges (.adc :: raiseParts) s (calResult c offset gain s) := by
  unfold calResult
  dsimp only
  refine .ite _ ?_ (.ite _ ?_ ?_)
  · simp [onlyChanges_iff, adcRoll, State.withConv, raiseParts]
  · refine .trans (.trans ?_ ((raise_only _ _ _).mono (by decide))) (adcHalt_only _ _)
    simp [onlyChanges_iff, adcRoll, State.withConv, raiseParts]
  · refine .trans ?_ ((raise_only _ _ _).mono (by decide))
    simp [onlyChanges_iff, adcRoll, State.withConv, raiseParts]

theorem calResult_regsIn (c : Fin 2) (offset gain : Int) (s : State) : RegsIn [8] s.regs (calResult c offset gain s).regs := by
  unfold calResult
  dsimp only
  split
  · exact (((RegsIn.refl _ s.regs).rput (by fin_cases c <;> decide)).rput (by fin_cases c <;> decide)).rput (by fin_cases c <;> decide)
  · have h : RegsIn [8] s.regs (radd s.regs (if c = 0 then R.ADC_CAL_CNT_P_FAIL else R.ADC_CAL_CNT_Q_FAIL) 1) :=
      (RegsIn.refl _ _).rput (by fin_cases c <;> decide)
    split
    · exact (RegsIn.raise _ h).trans ((adcHalt_regsIn c _).mono (by decide))
    · exact .raise _ h

theorem bootCal_only (c : Fin 2) (r : CalResult) (s : State) : OnlyChanges (.adc :: raiseParts) s (bootCal c r s) :=
  .ite _ (calResult_only _ _ _ _) (.refl _ _)

theorem bootCal_regsIn (c : Fin 2) (r : CalResult) (s : State) : RegsIn [8] s.regs (bootCal c r s).regs := by
  unfold bootCal
  split
  · exact calResult_regsIn _ _ _ _
  · exact .refl _ _

/-! ### All tests -/

/-- SYS_STEST and the comparators' service, from which the tests of lanes, slices, ports and converters go on. -/
def selftestBegun (q : SelfTests) (s : State) : State :=
  { s.w R.SYS_STEST_FAIL ((failedBlocks q).foldl (fun n e => n ||| 2 ^ e.1) 0) with
    lan := { s.lan with cmpX := s.dom 0 && !q.cmp.getLsbD 0, cmpY := s.dom 1 && !q.cmp.getLsbD 1 } }

theorem selftested_eq (r : SelfTests) (s : State) : selftested r s =
    raiseAll (((failedBlocks (testsRan r s)).filter (·.2)).map fun e => (S.SYS_STEST, 65536 * e.1))
      (bootCals (testsRan r s) (loopbacks (testsRan r s) (sliceTests (testsRan r s).slices (laneTests (testsRan r s).lanes
        (selftestBegun (testsRan r s) s))))) := rfl

/-- The parts that the tests of the slices, ports and converters may change. -/
def laterTestParts : List Part := .adc :: .vpt :: .osr :: .net :: reportParts

theorem laterTests_only (q : SelfTests) (l : List (Src × Nat)) (s : State) :
    OnlyChanges laterTestParts s (raiseAll l (bootCals q (loopbacks q (sliceTests q.slices s)))) :=
  .trans (.trans (.trans (.trans ((sliceTests_only _ _).mono (by decide)) ((loopbacks_only _ _).mono (by decide)))
    ((bootCal_only _ _ _).mono (by decide))) ((bootCal_only _ _ _).mono (by decide))) ((raiseAll_only _ _).mono (by decide))

theorem laterTests_cis (q : SelfTests) (l : List (Src × Nat)) (s : State) :
    (raiseAll l (bootCals q (loopbacks q (sliceTests q.slices s)))).cis = (sliceTests q.slices s).cis := by
  rw [raiseAll_cis]
  exact ((bootCal_only _ _ _ .cis (by decide)).trans (bootCal_only _ _ _ .cis (by decide))).trans (loopbacks_only _ _ .cis (by decide))

theorem selftested_regsIn (r : SelfTests) (s : State) : RegsIn [2, 4, 8] (selftestBegun (testsRan r s) s).regs (selftested r s).regs := by
  rw [selftested_eq]
  refine .raiseAll _ ?_
  exact (((((laneTests_regsIn _ _).mono (by decide)).trans ((sliceTests_regsIn _ _).mono (by decide))).trans
    ((loopbacks_regsIn _ _).mono (by decide))).trans ((bootCal_regsIn _ _ _).mono (by decide))).trans
    ((bootCal_regsIn _ _ _).mono (by decide))

/-- The parts that the self-tests may change. -/
def selftestParts : List Part := .lan :: laterTestParts

theorem selftested_only (r : SelfTests) (s : State) : OnlyChanges selftestParts s (selftested r s) := by
  rw [selftested_eq]
  refine .trans (.trans ?_ ((laneTests_only _ _).mono (by decide))) ((laterTests_only _ _ _).mono (by decide))
  simp [onlyChanges_iff, selftestBegun, selftestParts, laterTestParts, reportParts, raiseParts]

theorem selftested_lan (r : SelfTests) (s : State) :
    (selftested r s).lan = (laneTests (testsRan r s).lanes (selftestBegun (testsRan r s) s)).lan :=
  laterTests_only _ _ _ .lan (by decide)

/-! ### The blocks that fail -/

theorem foldl_or_testBit (l : List (Nat × Bool)) (n b : Nat) :
    (l.foldl (fun n e => n ||| 2 ^ e.1) n).testBit b = (n.testBit b || l.any fun e => e.1 == b) := by
  induction l generalizing n with
  | nil => simp
  | cons e l ih => simp [ih, Nat.testBit_two_pow, Bool.or_assoc, beq_eq_decide]

theorem popcount_zero {n : Nat} : popcount 0#n = 0 := by simp [popcount, ones]

theorem mem_failedBlocks (q : SelfTests) {b : Nat} (hb : b < 14) : ((failedBlocks q).any fun e => e.1 == b) = blockFails q b := by
  have h : ∀ (l : List (Nat × Bool)), (l.filter (·.2)).any (fun e => e.1 == b) = l.any fun e => e.2 && e.1 == b := fun l => by
    simp [List.any_filter]
  simp only [failedBlocks, List.any_append, List.any_map, h, Function.comp_def, List.any_cons, List.any_nil]
  match b, hb with
  | 4, _ =>
    by_cases h0 : q.lanes = 0#3
    · simp [blockFails, h0, popcount_zero]
    · simp [blockFails, bne_iff_ne.2 h0]
  | 2, _ => simp [blockFails]
  | 3, _ => simp [blockFails]
  | 5, _ => simp [blockFails]
  | 6, _ => simp [blockFails]
  | 7, _ => simp [blockFails]
  | 8, _ => simp [blockFails]
  | 0, _ | 1, _ | 9, _ | 10, _ | 11, _ | 12, _ | 13, _ => simp [blockFails]
  | n + 14, h => exact absurd h (by omega)

theorem selftested_fail (r : SelfTests) (s : State) {b : Nat} (hb : b < 14) :
    ((selftested r s).r R.SYS_STEST_FAIL).testBit b = blockFails (testsRan r s) b := by
  rw [RegsIn.r (s := selftestBegun (testsRan r s) s) (selftested_regsIn r s) rfl (by decide)]
  have h := State.r_w_same (s := s) (f := R.SYS_STEST_FAIL) (v := (failedBlocks (testsRan r s)).foldl (fun n e => n ||| 2 ^ e.1) 0)
    (i := 0) (j := 0) (by decide)
  refine (congrArg (Nat.testBit · b) h).trans ?_
  rw [Nat.testBit_mod_two_pow, foldl_or_testBit, mem_failedBlocks _ hb]
  have : b < R.SYS_STEST_FAIL.hi + 1 - R.SYS_STEST_FAIL.lo := by
    have : R.SYS_STEST_FAIL.hi + 1 - R.SYS_STEST_FAIL.lo = 16 := rfl
    omega
  simp [this]

/-- A failed block of R521. -/
theorem exists_failedBlock {q : SelfTests}
    (h : q.workSram = true ∨ q.field = true ∨ q.units = true ∨ q.cmp ≠ 0 ∨ 2 ≤ popcount q.lanes) : ∃ b, (b, true) ∈ failedBlocks q := by
  rcases h with h | h | h | h | h
  · exact ⟨2, by simp [failedBlocks, h]⟩
  · exact ⟨5, by simp [failedBlocks, h]⟩
  · exact ⟨4, by simp [failedBlocks, h]⟩
  · exact ⟨4, by simp [failedBlocks, show q.cmp ≠ 0#2 from h]⟩
  · exact ⟨4, by simp [failedBlocks, h]⟩

theorem selftested_raised {r : SelfTests} {s : State} (ha : s.pwr.aoOk = true) {b : Nat} (hb : (b, true) ∈ failedBlocks (testsRan r s)) :
    (selftested r s).raised S.SYS_STEST = true := by
  have hpwr := selftested_only r s .pwr (by decide)
  rw [selftested_eq] at hpwr ⊢
  rw [Part.same, raiseAll_pwr] at hpwr
  exact raised_raiseAll ⟨65536 * b, List.mem_map.2 ⟨(b, true), List.mem_filter.2 ⟨hb, rfl⟩, rfl⟩⟩ ((congrArg Pwr.aoOk hpwr).trans ha)

/-- The bits of a number from a test of each index, as `testsRan` forms them. -/
theorem ofNat_bits_getLsbD (n : Nat) (f : Nat → Bool) {i : Nat} (hi : i < n) :
    (BitVec.ofNat n (((List.range n).map fun i => if f i then 2 ^ i else 0).foldl (· + ·) 0)).getLsbD i = f i := by
  have h : ((List.range n).map fun i => if f i then 2 ^ i else 0) = (List.range n).map fun j => b2n (f j) * 2 ^ j :=
    List.map_congr_left fun j _ => by cases f j <;> simp [b2n]
  rw [BitVec.getLsbD_ofNat, h, ← List.sum_eq_foldl, testBit_sum_b2n f hi]
  simp [hi]

/-- A slice of which a test ran is powered. -/
theorem testsRan_sliceOn {r : SelfTests} {s : State} {p : Fin 17} (h : (testsRan r s).slices.getLsbD p = true) : s.sliceOn p = true := by
  have hon := (Bool.and_eq_true _ _ ▸ (BitVec.getLsbD_and (x := r.slices)).symm.trans h).2
  rw [ofNat_bits_getLsbD 17 (fun i => s.dom (if i < 8 ∨ i = 16 then 3 else 4)) p.isLt] at hon
  rw [State.sliceOn]
  split
  · rwa [if_neg (by omega)] at hon
  · rwa [if_pos (by omega)] at hon

/-! ### How Boot goes on -/

theorem selftestEff_of_no_latch {r : SelfTests} {s : State} (h : (selftested r s).keep.lockdown = false) :
    selftestEff r s = { selftested r s with sys := { (selftested r s).sys with step := 4 } } := by
  rw [selftestEff_eq, h]
  rfl

/-- The end of the self-tests moves the mode control alone, and the slot clock where Boot ends. -/
theorem selftestEff_only (r : SelfTests) (s : State) :
    OnlyChanges [.sys, .slot, .regs, .vpt] (selftested r s) (selftestEff r s) := by
  rw [selftestEff_eq]
  refine .ite _ (.trans ?_ (setMode_only _ _)) ?_ <;> simp [onlyChanges_iff]

theorem setMode_regsBut (m : Mode) (s : State) : RegsBut [0x20000] s.regs (setMode m s).regs := by
  unfold setMode bootExit slotStart
  repeat' (first | split | dsimp only)
  all_goals first
    | exact .refl _ _
    | exact (RegsBut.refl _ _).rput (by decide)

theorem selftestEff_regsBut (r : SelfTests) (s : State) : RegsBut [0x20000] (selftested r s).regs (selftestEff r s).regs := by
  rw [selftestEff_eq]
  split
  · exact setMode_regsBut .lockdown { selftested r s with sys := { (selftested r s).sys with step := 3 } }
  · exact .refl _ _

/-- Settles O12: each test leaves its finding, the later ones keep it (`laterTests_only`, `selftested_regsIn`), and what holds a Boot
stays as it was. -/
theorem bootSelfTests : Obligations.BootSelfTests := by
  rintro r q s hboot hstep hwait rfl
  have hlan : (selftestEff r s).lan = (laneTests (testsRan r s).lanes (selftestBegun (testsRan r s) s)).lan :=
    (selftestEff_only r s .lan (by decide)).trans (selftested_lan r s)
  have hcmp := laneTests_cmp (testsRan r s).lanes (selftestBegun (testsRan r s) s)
  have hcis : (selftestEff r s).cis = (sliceTests (testsRan r s).slices (laneTests (testsRan r s).lanes
      (selftestBegun (testsRan r s) s))).cis := (selftestEff_only r s .cis (by decide)).trans (laterTests_cis _ _ _)
  have hkeep : (selftestEff r s).keep = (selftested r s).keep := selftestEff_only r s .keep (by decide)
  have hfix : ∀ p ∉ Part.slot :: selftestParts, Part.same p s (selftestEff r s) :=
    ((selftested_only r s).mono (by decide)).trans ((selftestEff_only r s).mono (by decide))
  have hview := selftested_bootView r s
  have hmode : (selftested r s).sys.mode = .boot := (mode_of_bootView hview).trans hboot
  refine ⟨_, exec_bootSelftestDone hboot hstep hwait r, fun b hb => ?_, fun l hl => ?_, fun hx => ?_, fun hy => ?_, fun p hp => ?_,
    fun ha hf => ?_, fun h => selftestEff_latch r h, fun h => ?_, fun h => ?_, hfix .nv (by decide), hfix .tb (by decide),
    hfix .jtag (by decide), hfix .shadow (by decide)⟩
  · rw [State.r_congr (selftestEff_regsBut r s _ (by decide)), selftested_fail r s hb]
  · simpa only [hlan] using laneTests_retired hl _
  · rw [hlan, hcmp.1, selftestBegun, hx]; exact Bool.and_false _
  · rw [hlan, hcmp.2, selftestBegun, hy]; exact Bool.and_false _
  · have hon : (laneTests (testsRan r s).lanes (selftestBegun (testsRan r s) s)).sliceOn p = true :=
      (State.sliceOn_congr (laneTests_only _ _ .pwr (by decide)) p).trans (testsRan_sliceOn hp)
    simpa only [hcis] using sliceTests_failed hp hon
  · obtain ⟨b, hb⟩ := exists_failedBlock hf
    rw [State.raised_congr (selftestEff_regsBut r s _ (by decide)), selftested_raised ha hb]
  · rw [hkeep] at h
    rw [selftestEff_of_no_latch h]
    exact ⟨hmode, rfl⟩
  · rw [hkeep] at h
    have hend := setMode_lockdown_of_boot (s := { selftested r s with sys := { (selftested r s).sys with step := 3 } }) hmode
    have hheld : bootHeld { selftested r s with sys := { (selftested r s).sys with step := 3 } } = bootHeld s :=
      bootHeld_of_bootView hview
    rw [selftestEff_eq, if_pos h]
    rw [hheld] at hend
    cases hb : bootHeld s
    · exact hend.1 hb
    · exact (hend.2 hb).1

end Sys2Proof.Machine
end

section
/-! The configuration read of Boot (R523, R540, R541) and the seal comparison (R522, R543). -/

namespace Sys2Proof.Machine

/-! ### Status bits that later operations keep -/

/-- Status bits through a write of registers that are none of the fault registers. -/
theorem raised_congr_of_regsBut {s t : State} {l : List Nat} (h : RegsBut l s.regs t.regs) (hl : l.all (fun o => decide (o % 0x10000 < 0xF000)) = true)
    (c : Src) : t.raised c = s.raised c := by
  refine State.raised_congr (h _ fun hm => ?_)
  have := of_decide_eq_true (List.all_eq_true.1 hl _ hm)
  unfold fltOff at this
  omega

theorem setMode_raised (m : Mode) (s : State) (c : Src) : (setMode m s).raised c = s.raised c :=
  raised_congr_of_regsBut (setMode_regsBut m s) rfl c

/-! ### Mode changes from Boot -/

theorem bootExit_sys_mode (s : State) : (bootExit s).sys.mode = s.sys.mode := by rw [bootExit, slotStart_sys]

/-- Out of Boot the mode changes where nothing holds it. -/
theorem setMode_mode_of_boot {s : State} (hboot : s.sys.mode = .boot) {m : Mode} (hm : m ≠ .boot) :
    (setMode m s).sys.mode = if bootHeld s then .boot else m := by
  have hne : (s.sys.mode == m) = false := by simpa [hboot] using hm.symm
  unfold setMode
  rw [hne, if_neg Bool.false_ne_true]
  split
  · exact hboot
  · dsimp only
    rw [hboot, if_pos (by decide), bootExit_sys_mode]

/-- The flags of PWR_DOM_GATE. -/
def gateFlags (nt an : Nat) (s : State) : State :=
  { s with regs := rput (rput s.regs R.PWR_DOM_GATE_NT_OFF nt) R.PWR_DOM_GATE_AN_OFF an }

theorem gateFlags_regsBut (nt an : Nat) (s : State) : RegsBut [0xD0004] s.regs (gateFlags nt an s).regs :=
  ((RegsBut.refl _ _).rput (by decide)).rput (by decide)

theorem bootRefuse_eq (l : List (Src × Nat)) (s : State) : bootRefuse l s = setMode .configure (raiseAll l (gateFlags 0 0 s)) := rfl

@[simp] theorem gateFlags_bootView (nt an : Nat) (s : State) : bootView (gateFlags nt an s) = bootView s := by
  rw [bootView, gateFlags_regsBut nt an s 0x70000 (by decide)]
  rfl

theorem gateFlags_raised (nt an : Nat) (s : State) (c : Src) : (gateFlags nt an s).raised c = s.raised c :=
  raised_congr_of_regsBut (gateFlags_regsBut nt an s) rfl c

/-- No configuration is loaded: Configure, unless something holds Boot. -/
theorem bootRefuse_mode {s : State} (hboot : s.sys.mode = .boot) (l : List (Src × Nat)) :
    (bootRefuse l s).sys.mode = if bootHeld s then .boot else .configure := by
  have hview : bootView (raiseAll l (gateFlags 0 0 s)) = bootView s := by simp
  rw [bootRefuse_eq, setMode_mode_of_boot ((mode_of_bootView hview).trans hboot) (by decide), bootHeld_of_bootView hview]

/-- The parts that a refused configuration may change. -/
def refuseParts : List Part := .slot :: .vpt :: raiseParts

theorem bootRefuse_only (l : List (Src × Nat)) (s : State) : OnlyChanges refuseParts s (bootRefuse l s) := by
  rw [bootRefuse_eq]
  refine .trans (.trans ?_ ((raiseAll_only _ _).mono (by decide))) ((setMode_only _ _).mono (by decide))
  simp [onlyChanges_iff, gateFlags, refuseParts, raiseParts]

theorem bootRefuse_keeps_raised {s : State} {c : Src} (h : s.raised c = true) (l : List (Src × Nat)) : (bootRefuse l s).raised c = true := by
  rw [bootRefuse_eq, setMode_raised]
  exact raised_of_raiseAll ((gateFlags_raised 0 0 s c).trans h)

theorem bootRefuse_raised {s : State} {c : Src} {l : List (Src × Nat)} (h : ∃ d, (c, d) ∈ l) (hup : s.blockUp c.blk.toNat = true) :
    (bootRefuse l s).raised c = true := by
  rw [bootRefuse_eq, setMode_raised]
  exact raised_raiseAll h hup

/-! ### The reading of the banks -/

/-- One codeword that the reading meets. -/
def bankHit (s : State) (h : Fin 2 × BitVec 6 × Option (BitVec 6)) : State :=
  match h.2.2 with
  | some sym => raise S.CFG_ECC_C (h.1.val + 256 * h.2.1.toNat + 65536 * sym.toNat) (s.add R.CFG_ECC_CORR 1)
  | none => raise S.CFG_ECC_U (h.1.val + 256 * h.2.1.toNat + 65536 * 63) (s.add R.CFG_ECC_UNCORR 1)

theorem bankEcc_eq (hits : List (Fin 2 × BitVec 6 × Option (BitVec 6))) (s : State) : bankEcc hits s = hits.foldl bankHit s := rfl

theorem bankHit_only (s : State) (h : Fin 2 × BitVec 6 × Option (BitVec 6)) : OnlyChanges raiseParts s (bankHit s h) := by
  unfold bankHit
  split <;> exact ((State.add_only _ _ _ _ _).mono (by decide)).trans (raise_only _ _ _)

theorem bankHit_bootView (s : State) (h : Fin 2 × BitVec 6 × Option (BitVec 6)) : bootView (bankHit s h) = bootView s := by
  unfold bankHit
  split <;> rw [raise_bootView, bootView_add (by decide)]

theorem bankHit_keeps_raised {s : State} {c : Src} (hc : s.raised c = true) (h : Fin 2 × BitVec 6 × Option (BitVec 6)) :
    (bankHit s h).raised c = true := by
  unfold bankHit
  split <;> exact raised_of_raise ((State.raised_add (by decide)).trans hc)

theorem bankHit_raised {s : State} (ha : s.pwr.aoOk = true) (h : Fin 2 × BitVec 6 × Option (BitVec 6)) :
    (bankHit s h).raised (if h.2.2.isSome then S.CFG_ECC_C else S.CFG_ECC_U) = true := by
  unfold bankHit
  split <;> rename_i e <;> rw [e] <;> exact raised_raise _ _ ha

theorem bankEcc_only (hits : List (Fin 2 × BitVec 6 × Option (BitVec 6))) (s : State) : OnlyChanges raiseParts s (bankEcc hits s) :=
  .foldl _ bankHit_only _ _

theorem bankEcc_bootView (hits : List (Fin 2 × BitVec 6 × Option (BitVec 6))) (s : State) : bootView (bankEcc hits s) = bootView s :=
  foldl_bootView bankHit_bootView _ _

theorem bankEcc_raised {hits : List (Fin 2 × BitVec 6 × Option (BitVec 6))} {h : Fin 2 × BitVec 6 × Option (BitVec 6)} (hm : h ∈ hits)
    {s : State} (ha : s.pwr.aoOk = true) : (bankEcc hits s).raised (if h.2.2.isSome then S.CFG_ECC_C else S.CFG_ECC_U) = true :=
  foldl_establishes (I := fun t => t.pwr.aoOk = true) (P := fun t => t.raised _ = true)
    (fun t a ht => (congrArg Pwr.aoOk (bankHit_only t a .pwr (by decide))).trans ht) (fun _ a ht => bankHit_keeps_raised ht a)
    (fun _ ht => bankHit_raised ht h) hm ha

/-! ### The seal comparison -/

/-- The three reads agree and equal the bank's SEAL. -/
def sealHit (b : Fin 2) (r0 r1 r2 : BitVec 8) (s : State) : Bool :=
  r0 == r1 && r1 == r2 && r2.toNat == bitsOf (bankWord (s.nv.bank b) 0x0C) 7 0

/-- What a comparison shows, before it raises. -/
def sealShown (b : Fin 2) (r0 r1 r2 : BitVec 8) (s : State) : State :=
  { s with cfg := { s.cfg with seal0 := sealHit b r0 r1 r2 s, seal1 := s.cfg.seal0, sealAt := some s.tb },
           regs := rput (rput s.regs R.CFG_SEAL_MATCH (b2n (sealHit b r0 r1 r2 s))) R.CFG_SEAL_PINS r2.toNat }

theorem sealEff_eq (b : Fin 2) (r0 r1 r2 : BitVec 8) (s : State) :
    sealEff b r0 r1 r2 s = raiseIf (!sealHit b r0 r1 r2 s) S.CFG_SEAL (256 * r2.toNat) (sealShown b r0 r1 r2 s) := rfl

theorem sealShown_regsBut (b : Fin 2) (r0 r1 r2 : BitVec 8) (s : State) :
    RegsBut [0xB0014] s.regs (sealShown b r0 r1 r2 s).regs :=
  ((RegsBut.refl _ _).rput (by decide)).rput (by decide)

theorem sealShown_only (b : Fin 2) (r0 r1 r2 : BitVec 8) (s : State) : OnlyChanges [.cfg, .regs] s (sealShown b r0 r1 r2 s) := by
  simp [onlyChanges_iff, sealShown]

theorem sealEff_only (b : Fin 2) (r0 r1 r2 : BitVec 8) (s : State) : OnlyChanges (.cfg :: raiseParts) s (sealEff b r0 r1 r2 s) :=
  ((sealShown_only b r0 r1 r2 s).mono (by decide)).trans ((raiseIf_only _ _ _ _).mono (by decide))

theorem sealEff_keeps_raised {s : State} {c : Src} (h : s.raised c = true) (b : Fin 2) (r0 r1 r2 : BitVec 8) :
    (sealEff b r0 r1 r2 s).raised c = true :=
  raised_of_raiseIf ((raised_congr_of_regsBut (sealShown_regsBut b r0 r1 r2 s) rfl c).trans h)

theorem sealEff_cfg (b : Fin 2) (r0 r1 r2 : BitVec 8) (s : State) :
    (sealEff b r0 r1 r2 s).cfg = { s.cfg with seal0 := sealHit b r0 r1 r2 s, seal1 := s.cfg.seal0, sealAt := some s.tb } := by
  rw [sealEff_eq, raiseIf_cfg]; rfl

/-! ### The bank that is selected -/

/-- The selected bank is current, with what its selection raises. -/
def bankTaken (b : Fin 2) (l : List (Src × Nat)) (s : State) : State :=
  raiseAll l (gateFlags (b2n ((offFlags (s.nv.bank b)).getLsbD 0)) (b2n ((offFlags (s.nv.bank b)).getLsbD 1))
    { s with cfg := { s.cfg with cur := some b, validated := bankValidated (s.nv.bank b) } })

theorem readBank_eq (b : Fin 2) (l : List (Src × Nat)) (r0 r1 r2 : BitVec 8) (s : State) : readBank b l r0 r1 r2 s =
    if bitsOf (bankWord (s.nv.bank b) 4) 11 0 ≠ 0x0A1 then bootRefuse [(S.CFG_IMAGE, b.val + 2 * 256)] (bankTaken b l s)
    else if domainsBad (s.nv.bank b) then bootRefuse [(S.CFG_IMAGE, b.val + 3 * 256)] (bankTaken b l s)
    else sealEff b r0 r1 r2 { bankTaken b l s with sys := { (bankTaken b l s).sys with step := 5 } } := rfl

theorem bankTaken_only (b : Fin 2) (l : List (Src × Nat)) (s : State) : OnlyChanges (.cfg :: raiseParts) s (bankTaken b l s) := by
  refine .trans ?_ ((raiseAll_only _ _).mono (by decide))
  simp [onlyChanges_iff, gateFlags, raiseParts]

theorem bankTaken_cfg (b : Fin 2) (l : List (Src × Nat)) (s : State) :
    (bankTaken b l s).cfg = { s.cfg with cur := some b, validated := bankValidated (s.nv.bank b) } := by
  rw [bankTaken, raiseAll_cfg]; rfl

theorem bankTaken_bootView (b : Fin 2) (l : List (Src × Nat)) (s : State) : bootView (bankTaken b l s) = bootView s := by
  rw [bankTaken, raiseAll_bootView, gateFlags_bootView]
  rfl

theorem bankTaken_keeps_raised {s : State} {c : Src} (h : s.raised c = true) (b : Fin 2) (l : List (Src × Nat)) :
    (bankTaken b l s).raised c = true :=
  raised_of_raiseAll ((gateFlags_raised _ _ _ c).trans h)

theorem bankTaken_aoOk {s : State} (b : Fin 2) (l : List (Src × Nat)) (h : s.pwr.aoOk = true) : (bankTaken b l s).pwr.aoOk = true :=
  (congrArg Pwr.aoOk (bankTaken_only b l s .pwr (by decide))).trans h

/-- The bank passes the stepping and the domain check (R541). -/
def bankPasses (m : Map Byte) : Bool := bitsOf (bankWord m 4) 11 0 == 0x0A1 && !domainsBad m

theorem readBank_of_passes {b : Fin 2} {s : State} (h : bankPasses (s.nv.bank b) = true) (l : List (Src × Nat)) (r0 r1 r2 : BitVec 8) :
    readBank b l r0 r1 r2 s = sealEff b r0 r1 r2 { bankTaken b l s with sys := { (bankTaken b l s).sys with step := 5 } } := by
  simp only [bankPasses, Bool.and_eq_true, beq_iff_eq, Bool.not_eq_true'] at h
  simp [readBank_eq, h.1, h.2]

theorem readBank_of_fails {b : Fin 2} {s : State} (h : bankPasses (s.nv.bank b) = false) (l : List (Src × Nat)) (r0 r1 r2 : BitVec 8) :
    ∃ d, readBank b l r0 r1 r2 s = bootRefuse [(S.CFG_IMAGE, d)] (bankTaken b l s) := by
  rw [readBank_eq]
  split
  · exact ⟨_, rfl⟩
  · rename_i h4
    have hd : domainsBad (s.nv.bank b) = true := by simpa [bankPasses, not_not.1 h4] using h
    exact ⟨_, if_pos hd⟩

/-- The parts that the reading of a bank may change. -/
def readParts : List Part := .cfg :: refuseParts

theorem readBank_only (b : Fin 2) (l : List (Src × Nat)) (r0 r1 r2 : BitVec 8) (s : State) :
    OnlyChanges readParts s (readBank b l r0 r1 r2 s) := by
  have ht : OnlyChanges readParts s (bankTaken b l s) := (bankTaken_only b l s).mono (by decide)
  cases h : bankPasses (s.nv.bank b)
  · obtain ⟨d, hd⟩ := readBank_of_fails h l r0 r1 r2
    rw [hd]
    exact ht.trans ((bootRefuse_only _ _).mono (by decide))
  · rw [readBank_of_passes h]
    refine (ht.trans ?_).trans ((sealEff_only _ _ _ _ _).mono (by decide))
    simp [onlyChanges_iff, readParts, refuseParts, raiseParts]

theorem readBank_keeps_raised {s : State} {c : Src} (hc : s.raised c = true) (b : Fin 2) (l : List (Src × Nat)) (r0 r1 r2 : BitVec 8) :
    (readBank b l r0 r1 r2 s).raised c = true := by
  cases h : bankPasses (s.nv.bank b)
  · obtain ⟨d, hd⟩ := readBank_of_fails h l r0 r1 r2
    rw [hd]
    exact bootRefuse_keeps_raised (bankTaken_keeps_raised hc b l) _
  · rw [readBank_of_passes h]
    exact sealEff_keeps_raised (s := { bankTaken b l s with sys := { (bankTaken b l s).sys with step := 5 } })
      (bankTaken_keeps_raised hc b l) _ _ _ _

theorem readBank_cfg (b : Fin 2) (l : List (Src × Nat)) (r0 r1 r2 : BitVec 8) (s : State) :
    (readBank b l r0 r1 r2 s).cfg.valid = s.cfg.valid ∧ (readBank b l r0 r1 r2 s).cfg.cur = some b
      ∧ (readBank b l r0 r1 r2 s).cfg.validated = bankValidated (s.nv.bank b) := by
  cases h : bankPasses (s.nv.bank b)
  · obtain ⟨d, hd⟩ := readBank_of_fails h l r0 r1 r2
    rw [hd, show (bootRefuse _ _).cfg = _ from bootRefuse_only _ _ .cfg (by decide), bankTaken_cfg]
    exact ⟨rfl, rfl, rfl⟩
  · rw [readBank_of_passes h, sealEff_cfg]
    simp only [bankTaken_cfg]
    exact ⟨trivial, trivial, trivial⟩

/-! ### The selection -/

theorem selectBank_none (n : Nv) {e0 e1 : Bool} (h0 : bankValid n.bank0 e0 = false) (h1 : bankValid n.bank1 e1 = false) (f : BitVec 2) :
    (selectBank n e0 e1 f).1 = none ∧ ∃ d, (S.CFG_IMAGE, d) ∈ (selectBank n e0 e1 f).2 := by
  simp only [selectBank, h0, h1]
  exact ⟨rfl, 256, List.mem_cons_self⟩

/-- The state at the selection: codewords reported, the banks judged. -/
def banksJudged (hits : List (Fin 2 × BitVec 6 × Option (BitVec 6))) (e : Fin 2 → Bool) (s : State) : State :=
  let t := bankEcc hits s
  { t with cfg := { t.cfg with valid := putBit (putBit 0 0 (bankValid t.nv.bank0 (e 0))) 1 (bankValid t.nv.bank1 (e 1)) } }

theorem banksJudged_only (hits : List (Fin 2 × BitVec 6 × Option (BitVec 6))) (e : Fin 2 → Bool) (s : State) :
    OnlyChanges (.cfg :: raiseParts) s (banksJudged hits e s) := by
  refine ((bankEcc_only hits s).mono (by decide)).trans ?_
  simp [onlyChanges_iff, banksJudged]

theorem banksJudged_cfg (hits : List (Fin 2 × BitVec 6 × Option (BitVec 6))) (e : Fin 2 → Bool) (s : State) :
    (banksJudged hits e s).cfg = { s.cfg with
      valid := putBit (putBit 0 0 (bankValid s.nv.bank0 (e 0))) 1 (bankValid s.nv.bank1 (e 1)) } := by
  simp only [banksJudged, show (bankEcc hits s).nv = s.nv from bankEcc_only hits s .nv (by decide),
    show (bankEcc hits s).cfg = s.cfg from bankEcc_only hits s .cfg (by decide)]

theorem banksJudged_valid (hits : List (Fin 2 × BitVec 6 × Option (BitVec 6))) (e : Fin 2 → Bool) (s : State) (b : Fin 2) :
    (banksJudged hits e s).cfg.valid.getLsbD b = bankValid (s.nv.bank b) (e b) := by
  rw [banksJudged_cfg]
  fin_cases b
  · exact (putBit_getLsbD_ne _ _ (by decide)).trans (putBit_getLsbD_self _ _ (by decide))
  · exact putBit_getLsbD_self _ _ (by decide)

/-- What follows a selection: the bank is read, or refused. -/
def takeSelection (sel : Option (Fin 2) × List (Src × Nat)) (r0 r1 r2 : BitVec 8) (s : State) : State :=
  match sel.1 with
  | some b => readBank b sel.2 r0 r1 r2 s
  | none => bootRefuse sel.2 s

theorem takeSelection_some (b : Fin 2) (l : List (Src × Nat)) (r0 r1 r2 : BitVec 8) (s : State) :
    takeSelection (some b, l) r0 r1 r2 s = readBank b l r0 r1 r2 s := rfl

theorem takeSelection_none (l : List (Src × Nat)) (r0 r1 r2 : BitVec 8) (s : State) :
    takeSelection (none, l) r0 r1 r2 s = bootRefuse l s := rfl

theorem configReadEff_eq {hits : List (Fin 2 × BitVec 6 × Option (BitVec 6))} {e : Fin 2 → Bool}
    (he : ∀ b, hits.any (fun h => h.1 == b && h.2.2.isNone) = e b) (r0 r1 r2 : BitVec 8) (s : State) :
    configReadEff hits r0 r1 r2 s = takeSelection (selectBank s.nv (e 0) (e 1) s.cfg.step1) r0 r1 r2 (banksJudged hits e s) := by
  have hnv : (bankEcc hits s).nv = s.nv := bankEcc_only hits s .nv (by decide)
  have hcfg : (bankEcc hits s).cfg = s.cfg := bankEcc_only hits s .cfg (by decide)
  rw [← hnv, ← hcfg]
  simp only [configReadEff, he]
  rcases selectBank (bankEcc hits s).nv (e 0) (e 1) (bankEcc hits s).cfg.step1 with ⟨_ | b, l⟩ <;> rfl

theorem hits_any (hits0 hits1 : List (BitVec 6 × Option (BitVec 6))) (b : Fin 2) :
    (hits0.map (Prod.mk (0 : Fin 2)) ++ hits1.map (Prod.mk 1)).any (fun h => h.1 == b && h.2.2.isNone)
      = if b = 0 then hits0.any (·.2.isNone) else hits1.any (·.2.isNone) := by
  fin_cases b <;> simp [List.any_append, List.any_map, Function.comp_def]

theorem execBootConfigReadDone_eq {hits0 hits1 : List (BitVec 6 × Option (BitVec 6))} {r0 r1 r2 : BitVec 8} {s : State}
    (hboot : s.sys.mode = .boot) (hstep : s.sys.step = 4) (hleave : s.sys.leave = none) :
    execBootConfigReadDone hits0 hits1 r0 r1 r2 s
      = .next (configReadEff (hits0.map (Prod.mk 0) ++ hits1.map (Prod.mk 1)) r0 r1 r2 s) := by
  simp [execBootConfigReadDone, hboot, hstep, hleave]

/-- Settles O13: the codewords are reported first (`bankEcc`), the banks judged on what was read, and the selection either refuses
(`bootRefuse`) or takes a bank (`readBank`). -/
theorem bootConfigurationRead : Obligations.BootConfigurationRead := by
  intro hits0 hits1 e r0 r1 r2 s hboot hstep hleave he0 he1
  have he : ∀ b, (hits0.map (Prod.mk (0 : Fin 2)) ++ hits1.map (Prod.mk 1)).any (fun h => h.1 == b && h.2.2.isNone) = e b := fun b => by
    rw [hits_any]
    fin_cases b
    · exact he0.symm
    · exact he1.symm
  generalize hh : hits0.map (Prod.mk (0 : Fin 2)) ++ hits1.map (Prod.mk 1) = hits at he
  have hex := execBootConfigReadDone_eq (hits0 := hits0) (hits1 := hits1) (r0 := r0) (r1 := r1) (r2 := r2) hboot hstep hleave
  rw [hh, configReadEff_eq he] at hex
  have hmem : ∀ h ∈ hits0 ++ hits1, ∃ b : Fin 2, (b, h) ∈ hits := fun h hm => by
    rw [← hh]
    rcases List.mem_append.1 hm with hm | hm
    · exact ⟨0, List.mem_append_left _ (List.mem_map.2 ⟨h, hm, rfl⟩)⟩
    · exact ⟨1, List.mem_append_right _ (List.mem_map.2 ⟨h, hm, rfl⟩)⟩
  have hecc : s.pwr.aoOk = true → ∀ h ∈ hits0 ++ hits1,
      (banksJudged hits e s).raised (if h.2.isSome then S.CFG_ECC_C else S.CFG_ECC_U) = true := fun ha h hm => by
    obtain ⟨b, hb⟩ := hmem h hm
    exact bankEcc_raised hb ha
  have hjo := banksJudged_only hits e s
  have hview : bootView (banksJudged hits e s) = bootView s := bankEcc_bootView hits s
  have hmode : (banksJudged hits e s).sys.mode = .boot := (mode_of_bootView hview).trans hboot
  have hup : s.pwr.aoOk = true → (banksJudged hits e s).pwr.aoOk = true := fun ha =>
    (congrArg Pwr.aoOk (hjo .pwr (by decide))).trans ha
  have hnv : (banksJudged hits e s).nv = s.nv := hjo .nv (by decide)
  have hnone := fun h0 h1 => selectBank_none s.nv (e0 := e 0) (e1 := e 1) h0 h1 s.cfg.step1
  rcases hsel : selectBank s.nv (e 0) (e 1) s.cfg.step1 with ⟨ob, l⟩
  rw [hsel] at hex hnone
  rcases ob with _ | b
  · rw [takeSelection_none] at hex
    have hfix : ∀ p ∉ readParts, Part.same p s (bootRefuse l (banksJudged hits e s)) :=
      (hjo.mono (by decide)).trans ((bootRefuse_only _ _).mono (by decide))
    have hcfg : (bootRefuse l (banksJudged hits e s)).cfg = (banksJudged hits e s).cfg := bootRefuse_only _ _ .cfg (by decide)
    refine ⟨_, hex, fun ha h hm => bootRefuse_keeps_raised (hecc ha h hm) l, fun b => ?_, fun _ => ⟨?_, ?_⟩, fun h0 h1 => ⟨rfl, fun ha => ?_⟩,
      fun b hb => absurd hb nofun, hfix .nv (by decide), hfix .tb (by decide), hfix .lan (by decide)⟩
    · rw [hcfg, banksJudged_valid]
    · rw [bootRefuse_mode hmode, bootHeld_of_bootView hview]
    · rw [hcfg, banksJudged_cfg]
    · exact bootRefuse_raised (hnone h0 h1).2 (hup ha)
  · rw [takeSelection_some] at hex
    have hfix : ∀ p ∉ readParts, Part.same p s (readBank b l r0 r1 r2 (banksJudged hits e s)) :=
      (hjo.mono (by decide)).trans (readBank_only _ _ _ _ _ _)
    obtain ⟨hvalid, hcur, hvd⟩ := readBank_cfg b l r0 r1 r2 (banksJudged hits e s)
    refine ⟨_, hex, fun ha h hm => readBank_keeps_raised (hecc ha h hm) b l _ _ _, fun b' => ?_, fun hb => absurd hb nofun,
      fun h0 h1 => absurd (hnone h0 h1).1 nofun, ?_, hfix .nv (by decide), hfix .tb (by decide), hfix .lan (by decide)⟩
    · rw [hvalid, banksJudged_valid]
    · rintro _ ⟨⟩
      rw [hnv] at hvd
      refine ⟨hcur, hvd, ?_⟩
      have hview' := (bankTaken_bootView b l (banksJudged hits e s)).trans hview
      cases hp : bankPasses (s.nv.bank b)
      · have hc : ¬(bitsOf (bankWord (s.nv.bank b) 4) 11 0 = 0x0A1 ∧ domainsBad (s.nv.bank b) = false) := by
          simpa [bankPasses] using hp
        obtain ⟨d, hd⟩ := readBank_of_fails (s := banksJudged hits e s) (by rw [hnv]; exact hp) l r0 r1 r2
        rw [if_neg hc, hd, bootRefuse_mode ((mode_of_bootView hview').trans hboot), bootHeld_of_bootView hview']
        exact ⟨rfl, fun ha => bootRefuse_raised ⟨d, List.mem_singleton.2 rfl⟩ (bankTaken_aoOk b l (hup ha))⟩
      · have hc : bitsOf (bankWord (s.nv.bank b) 4) 11 0 = 0x0A1 ∧ domainsBad (s.nv.bank b) = false := by
          simpa [bankPasses] using hp
        rw [if_pos hc, readBank_of_passes (s := banksJudged hits e s) (by rw [hnv]; exact hp)]
        rw [sealEff_eq, raiseIf_mode, raiseIf_step]
        exact ⟨(mode_of_bootView hview').trans hboot, rfl⟩

end Sys2Proof.Machine
end

section
/-! The keyswitch and the seal comparison (R522, R542, R543), and what a first error records (R494). -/

namespace Sys2Proof.Machine

/-! ### The record of a first error -/

/-- A raising writes its own block's fault registers and those of the HIF block. -/
theorem Raising.regs_other_block (r : Raising) (s : State) {o : Nat} (hb : o / 0x10000 ≠ r.src.blk.toNat) (h1 : o / 0x10000 ≠ 1) :
    mget (r.regs s) o = mget s.regs o := by
  have f : ∀ (m : Map Word) k v, k < 0x10000 → mget (mput 0 m (fltOff r.src.blk.toNat k) v) o = mget m o := fun m k v hk =>
    mget_mput_ne _ _ _ (by unfold fltOff; omega)
  have p : ∀ (m : Map Word) (g : RegField) v i j, g.off i j / 0x10000 = 1 → mget (rput m g v i j) o = mget m o := fun m g v i j hg =>
    mget_rput_ne _ _ _ _ _ _ fun e => h1 (e ▸ hg)
  have i1 : ∀ (c : Bool) (m m' : Map Word), mget m o = mget m' o → mget (if c then m else m') o = mget m' o := by
    intro c m m' e; cases c <;> simp [e]
  have hc : r.src.code.toNat < 32 := r.src.code.isLt
  unfold Raising.regs
  dsimp only [List.foldl_cons, List.foldl_nil]
  refine (i1 _ _ _ ((p _ _ _ _ _ rfl).trans (p _ _ _ _ _ rfl))).trans ?_
  refine (i1 _ _ _ (p _ _ _ _ _ rfl)).trans ?_
  refine (i1 _ _ _ ((p _ _ _ _ _ rfl).trans ((p _ _ _ _ _ rfl).trans (p _ _ _ _ _ rfl)))).trans ?_
  refine (i1 _ _ _ ?_).trans ?_
  · simp only [f _ _ _ (show 0xF010 < 0x10000 by decide), f _ _ _ (show 0xF014 < 0x10000 by decide),
      f _ _ _ (show 0xF018 < 0x10000 by decide), f _ _ _ (show 0xF020 < 0x10000 by decide), f _ _ _ (show 0xF024 < 0x10000 by decide),
      f _ _ _ (show 0xF028 < 0x10000 by decide), f _ _ _ (show 0xF02C < 0x10000 by decide)]
  · rw [f _ _ _ (by omega), f _ _ _ (by omega)]

/-- A first error records its DETAIL (R494). -/
theorem Raising.regs_detail (r : Raising) (s : State) (hb : r.src.blk.toNat ≠ 1)
    (hfirst : (mread 0 s.regs (fltOff r.src.blk.toNat 0xF010)).getLsbD 31 = false) :
    mread 0 (r.regs s) (fltOff r.src.blk.toNat 0xF018) = r.detail := by
  have n : ∀ (m : Map Word) k v, k < 0x10000 → k ≠ 0xF018 →
      mread 0 (mput 0 m (fltOff r.src.blk.toNat k) v) (fltOff r.src.blk.toNat 0xF018) = mread 0 m (fltOff r.src.blk.toNat 0xF018) :=
    fun m k v hk hne => mread_mput_ne _ _ _ _ (by unfold fltOff; omega)
  have p : ∀ (m : Map Word) (g : RegField) v i j, g.off i j / 0x10000 = 1 →
      mread 0 (rput m g v i j) (fltOff r.src.blk.toNat 0xF018) = mread 0 m (fltOff r.src.blk.toNat 0xF018) := fun m g v i j hg =>
    mread_mput_ne _ _ _ _ (by unfold fltOff; omega)
  have i1 : ∀ (c : Bool) (m m' : Map Word) o, mread (0 : Word) m o = mread 0 m' o → mread 0 (if c then m else m') o = mread 0 m' o := by
    intro c m m' o e; cases c
    · rfl
    · exact e
  have hc : r.src.code.toNat < 32 := r.src.code.isLt
  have hinfo : ∀ (m : Map Word) k v, k < 0x10000 → k ≠ 0xF010 →
      mread 0 (mput 0 m (fltOff r.src.blk.toNat k) v) (fltOff r.src.blk.toNat 0xF010) = mread (0 : Word) m (fltOff r.src.blk.toNat 0xF010) :=
    fun m k v hk hne => mread_mput_ne _ _ _ _ (by unfold fltOff; omega)
  unfold Raising.regs
  dsimp only [List.foldl_cons, List.foldl_nil]
  refine (i1 _ _ _ _ ((p _ _ _ _ _ rfl).trans (p _ _ _ _ _ rfl))).trans ?_
  refine (i1 _ _ _ _ (p _ _ _ _ _ rfl)).trans ?_
  refine (i1 _ _ _ _ ((p _ _ _ _ _ rfl).trans ((p _ _ _ _ _ rfl).trans (p _ _ _ _ _ rfl)))).trans ?_
  rw [hinfo _ _ _ (by omega) (by omega), hinfo _ _ _ (by omega) (by omega), hfirst]
  rw [Bool.not_false, if_pos rfl, n _ _ _ (by decide) (by decide), n _ _ _ (by decide) (by decide), n _ _ _ (by decide) (by decide),
    n _ _ _ (by decide) (by decide), mread_mput_same]

theorem raiseOne_regs_other_block (r : Raising) (s : State) {o : Nat} (hb : o / 0x10000 ≠ r.src.blk.toNat) (h1 : o / 0x10000 ≠ 1) :
    mget (raiseOne r s).regs o = mget s.regs o := by
  rw [raiseOne, raiseRec]
  dsimp only
  split
  · exact Raising.regs_other_block _ _ (by rw [Raising.settle_src]; exact hb) h1
  · rfl

/-- A first error of a block other than the HIF block records the DETAIL that its chapter defines. -/
theorem raise_detail {c : Src} {s : State} (d : Nat) (hup : s.blockUp c.blk.toNat = true) (hb : c.blk.toNat ≠ 1)
    (hdet : detailNone c = false) (hfirst : (mread 0 s.regs (fltOff c.blk.toNat 0xF010)).getLsbD 31 = false) :
    mread 0 (raise c d s).regs (fltOff c.blk.toNat 0xF018) = BitVec.ofNat 32 d := by
  have hset : Raising.settle { src := c, detail := BitVec.ofNat 32 d } = { src := c, detail := BitVec.ofNat 32 d } := by
    simp [Raising.settle, hdet]
  have hone : mread 0 (raiseOne { src := c, detail := BitVec.ofNat 32 d } s).regs (fltOff c.blk.toNat 0xF018) = BitVec.ofNat 32 d := by
    simp only [raiseOne, hset, raiseRec, hup, if_true]
    exact Raising.regs_detail { src := c, detail := BitVec.ofNat 32 d } s hb hfirst
  have hblk : fltOff c.blk.toNat 0xF018 / 0x10000 ≠ 1 := by unfold fltOff; omega
  unfold raise raiseWith
  dsimp only
  split
  · rw [mread, raiseOne_regs_other_block { src := S.HIF_EVT_LOST } _ hblk hblk]
    exact hone
  · exact hone

/-! ### The keyswitch and the seal -/

/-- The next multiple of 100 ms counted from an instant, from a later instant on. -/
theorem nextMultiple_after (a t : Nat) (h : a < t) :
    a < nextMultiple (100 * ms) a t ∧ (nextMultiple (100 * ms) a t - a) % 10000000 = 0 := by
  have hms : 100 * ms = 10000000 := rfl
  rw [hms, nextMultiple]
  omega

theorem sealDue_after {s : State} {a : Nat} (h : s.cfg.sealAt = some a) : a < sealDue s ∧ (sealDue s - a) % 10000000 = 0 := by
  rw [sealDue, h]
  exact nextMultiple_after a _ (by omega)

theorem execSealCompare_eq {r0 r1 r2 : BitVec 8} {b : Fin 2} {s : State} (hcur : s.cfg.cur = some b) (hm : s.sys.mode ≠ .configure)
    (ha : s.pwr.aoOk = true) (hcomes : s.comes (sealDue s) = true) :
    execSealCompare r0 r1 r2 s = .next (sealEff b r0 r1 r2 (s.at (sealDue s))) := by
  simp [execSealCompare, hcur, hm, ha, hcomes]

theorem sealHit_iff (b : Fin 2) (r0 r1 r2 : BitVec 8) (s : State) :
    sealHit b r0 r1 r2 s = true ↔ r0 = r1 ∧ r1 = r2 ∧ r2.toNat = bitsOf (bankWord (s.nv.bank b) 0x0C) 7 0 := by
  simp [sealHit, and_assoc]

theorem sealShown_pins (b : Fin 2) (r0 r1 r2 : BitVec 8) (s : State) : (sealShown b r0 r1 r2 s).r R.CFG_SEAL_PINS = r2.toNat :=
  (rget_rput_same _ _ _ _ _ (by decide)).trans (Nat.mod_eq_of_lt r2.isLt)

theorem sealShown_match (b : Fin 2) (r0 r1 r2 : BitVec 8) (s : State) :
    (sealShown b r0 r1 r2 s).r R.CFG_SEAL_MATCH = b2n (sealHit b r0 r1 r2 s) := by
  refine (rget_rput_apart _ _ rfl).trans ((rget_rput_same _ _ _ _ _ (by decide)).trans ?_)
  cases sealHit b r0 r1 r2 s <;> rfl

/-- Settles O15: the key is the sampled level; a comparison is `sealShown`, and a raising of CFG.SEAL where it does not match. -/
theorem keySwitchAndSeal : Obligations.KeySwitchAndSeal := by
  refine ⟨fun s => ⟨fun ha => ?_, rfl⟩, ?_⟩
  · simp [exec, execKeyAssert, ha]
  rintro r0 r1 r2 b due s hcur hm ha rfl hcomes
  have htb : ∀ u : State, OnlyChanges (.cfg :: raiseParts) (s.at (sealDue s)) u → u.tb = (s.at (sealDue s)).tb := fun u h => h .tb (by decide)
  have honly := sealEff_only b r0 r1 r2 (s.at (sealDue s))
  have hcfg := sealEff_cfg b r0 r1 r2 (s.at (sealDue s))
  have hregs : RegsIn [] (sealShown b r0 r1 r2 (s.at (sealDue s))).regs (sealEff b r0 r1 r2 (s.at (sealDue s))).regs :=
    RegsIn.raiseIf _ (.refl _ _)
  refine ⟨_, execSealCompare_eq hcur hm ha hcomes, ?_, by rw [hcfg]; rfl, htb _ honly, by rw [htb _ honly, hcfg], honly .nv (by decide),
    fun a h => sealDue_after h, ?_⟩
  · rw [RegsIn.r hregs rfl (by decide), sealShown_pins]
  · rw [← State.at_nv s (sealDue s)]
    simp only [← sealHit_iff b r0 r1 r2 (s.at (sealDue s))]
    have hmatch : (sealEff b r0 r1 r2 (s.at (sealDue s))).r R.CFG_SEAL_MATCH = b2n (sealHit b r0 r1 r2 (s.at (sealDue s))) := by
      rw [RegsIn.r hregs rfl (by decide), sealShown_match]
    cases hhit : sealHit b r0 r1 r2 (s.at (sealDue s))
    · rw [if_neg Bool.false_ne_true, hcfg, hmatch, hhit]
      have he : sealEff b r0 r1 r2 (s.at (sealDue s)) = raise S.CFG_SEAL (256 * r2.toNat) (sealShown b r0 r1 r2 (s.at (sealDue s))) := by
        rw [sealEff_eq, hhit]; rfl
      refine ⟨rfl, rfl, ?_, ((State.at_only s _).mono (by decide)).trans (honly.mono (by decide)), fun hfirst => ?_⟩
      · rw [he]
        exact raised_raise _ _ ha
      · rw [he]
        refine raise_detail (c := S.CFG_SEAL) (256 * r2.toNat) ha (by decide) (by decide) ?_
        rw [mread, sealShown_regsBut b r0 r1 r2 (s.at (sealDue s)) _ (by decide)]
        exact hfirst
    · rw [if_pos rfl, hcfg, hmatch, hhit]
      refine ⟨rfl, rfl, ((State.at_only s (sealDue s)).mono (by decide)).trans ?_⟩
      rw [sealEff_eq, hhit]
      exact (sealShown_only b r0 r1 r2 _).mono (by decide)

end Sys2Proof.Machine
end

section
/-! The load of Boot (R236, R292, R536, R541). -/

namespace Sys2Proof.Machine

/-! ### Loaded registers and raisings -/

/-- The offsets in a block at which a raising writes. -/
def raiseOffsets : List Nat :=
  [0xF000, 0xF010, 0xF014, 0xF018, 0xF020, 0xF024, 0xF028, 0xF02C] ++ (List.range 32).map fun c => 0xF300 + 4 * c

theorem loadedMask_raiseOffsets : ∀ b < 16, ∀ k ∈ raiseOffsets, loadedMask (fltOff b k) = 0 := by decide +kernel

theorem loadedMask_hif : ∀ o ∈ [0x10030, 0x10034, 0x11094, 0x11204], loadedMask o = 0 := by decide +kernel

/-- No raising writes a register with loaded fields. -/
theorem Raising.regs_loaded (r : Raising) (s : State) {o : Nat} (h : loadedMask o ≠ 0) : mget (r.regs s) o = mget s.regs o := by
  have hb : r.src.blk.toNat < 16 := r.src.blk.isLt
  have hc : r.src.code.toNat < 32 := r.src.code.isLt
  have f : ∀ (m : Map Word) k v, k ∈ raiseOffsets → mget (mput 0 m (fltOff r.src.blk.toNat k) v) o = mget m o := fun m k v hk =>
    mget_mput_ne _ _ _ fun e => h (e ▸ loadedMask_raiseOffsets _ hb k hk)
  have p : ∀ (m : Map Word) (g : RegField) v i j, g.off i j ∈ [0x10030, 0x10034, 0x11094, 0x11204] → mget (rput m g v i j) o = mget m o :=
    fun m g v i j hg => mget_rput_ne _ _ _ _ _ _ fun e => h (e ▸ loadedMask_hif _ hg)
  have i1 : ∀ (c : Bool) (m m' : Map Word), mget m o = mget m' o → mget (if c then m else m') o = mget m' o := by
    intro c m m' e; cases c <;> simp [e]
  have hcnt : 0xF300 + 4 * r.src.code.toNat ∈ raiseOffsets :=
    List.mem_append_right _ (List.mem_map.2 ⟨_, List.mem_range.2 hc, rfl⟩)
  unfold Raising.regs
  dsimp only [List.foldl_cons, List.foldl_nil]
  refine (i1 _ _ _ ((p _ _ _ _ _ (by decide)).trans (p _ _ _ _ _ (by decide)))).trans ?_
  refine (i1 _ _ _ (p _ _ _ _ _ (by decide))).trans ?_
  refine (i1 _ _ _ ((p _ _ _ _ _ (by decide)).trans ((p _ _ _ _ _ (by decide)).trans (p _ _ _ _ _ (by decide))))).trans ?_
  refine (i1 _ _ _ ?_).trans ?_
  · rw [f _ _ _ (by decide), f _ _ _ (by decide), f _ _ _ (by decide), f _ _ _ (by decide), f _ _ _ (by decide), f _ _ _ (by decide),
      f _ _ _ (by decide)]
  · rw [f _ _ _ hcnt, f _ _ _ (by decide)]

theorem raiseOne_regs_loaded (r : Raising) (s : State) {o : Nat} (h : loadedMask o ≠ 0) : mget (raiseOne r s).regs o = mget s.regs o := by
  unfold raiseOne raiseRec
  dsimp only
  split
  · exact Raising.regs_loaded _ _ h
  · rfl

theorem raise_regs_loaded (c : Src) (d : Nat) (s : State) {o : Nat} (h : loadedMask o ≠ 0) :
    mget (raise c d s).regs o = mget s.regs o := by
  unfold raise raiseWith
  dsimp only
  split
  · rw [raiseOne_regs_loaded _ _ h, raiseOne_regs_loaded _ _ h]
  · exact raiseOne_regs_loaded _ _ h

/-! ### Entries of the register section -/

theorem storedWord_congr {a b : Map Word} {o : Nat} (h : mget b o = mget a o) : storedWord b o = storedWord a o := by
  simp [storedWord, mread, h]

theorem loadEntries_ne {o : Nat} (l : List (Nat × Word)) (m : Map Word) (h : ∀ e ∈ l, e.1 ≠ o) : mget (loadEntries m l) o = mget m o := by
  induction l generalizing m with
  | nil => rfl
  | cons e l ih =>
    refine (ih _ fun x hx => h x (List.mem_cons_of_mem _ hx)).trans ?_
    exact mget_mput_ne _ _ _ fun he => h e List.mem_cons_self he.symm

/-- With offsets that ascend, each entry is the only one for its register. -/
theorem loadEntries_mem {l : List (Nat × Word)} (hl : l.Pairwise fun a b => a.1 < b.1) (m : Map Word) {e : Nat × Word} (he : e ∈ l) :
    storedWord (loadEntries m l) e.1 = blend (loadedMask e.1) e.2 (storedWord m e.1) := by
  induction l generalizing m with
  | nil => exact absurd he List.not_mem_nil
  | cons a l ih =>
    rw [List.pairwise_cons] at hl
    rcases List.mem_cons.1 he with rfl | he
    · rw [show loadEntries m (e :: l) = loadEntries (loadEntry m e) l from rfl,
        storedWord_congr (loadEntries_ne l _ fun x hx => (hl.1 x hx).ne')]
      exact mread_mput_same _ _ _ _
    · refine (ih hl.2 _ he).trans (congrArg _ (storedWord_congr ?_))
      exact mget_mput_ne _ _ _ (hl.1 e he).ne'

/-- Neighbours that ascend make a list that ascends. -/
theorem pairwise_of_zip_tail : ∀ {l : List (Nat × Word)}, (l.zip l.tail).all (fun p => decide (p.1.1 < p.2.1)) = true →
    l.Pairwise fun a b => a.1 < b.1
  | [], _ => .nil
  | [_], _ => List.pairwise_singleton _ _
  | a :: b :: l, h => by
    simp only [List.tail_cons, List.zip_cons_cons, List.all_cons, Bool.and_eq_true, decide_eq_true_eq] at h
    have hl : (b :: l).Pairwise fun a b => a.1 < b.1 := pairwise_of_zip_tail (by simpa using h.2)
    refine List.pairwise_cons.2 ⟨fun x hx => ?_, hl⟩
    rcases List.mem_cons.1 hx with rfl | hx
    · exact h.1
    · exact h.1.trans ((List.pairwise_cons.1 hl).1 x hx)

theorem sectionOk_pairwise {base : Map Word} {m : Map Byte} (h : sectionOk base m = true) :
    (regSection m).Pairwise fun a b => a.1 < b.1 := by
  simp only [sectionOk, Bool.and_eq_true] at h
  exact pairwise_of_zip_tail h.1

theorem sectionOk_loaded {base : Map Word} {m : Map Byte} (h : sectionOk base m = true) {e : Nat × Word} (he : e ∈ regSection m) :
    loadedMask e.1 ≠ 0 := by
  simp only [sectionOk, Bool.and_eq_true, List.all_eq_true, bne_iff_ne] at h
  exact (h.2 e he).1.1.2

/-! ### What the image fills -/

/-- Registers outside the blocks of a list are as they were. -/
def BlocksOnly (bs : List Nat) (a b : Map Word) : Prop := ∀ o, o / 0x10000 ∉ bs → mget b o = mget a o

theorem BlocksOnly.refl (bs : List Nat) (a : Map Word) : BlocksOnly bs a a := fun _ _ => rfl

theorem BlocksOnly.trans {bs : List Nat} {a b c : Map Word} (h : BlocksOnly bs a b) (h' : BlocksOnly bs b c) : BlocksOnly bs a c :=
  fun o ho => (h' o ho).trans (h o ho)

theorem BlocksOnly.rput {bs : List Nat} {a b : Map Word} (h : BlocksOnly bs a b) {f : RegField} {v i j : Nat}
    (hf : f.off i j / 0x10000 ∈ bs) : BlocksOnly bs a (rput b f v i j) :=
  h.trans fun _ ho => mget_rput_ne b f v i j _ fun e => ho (e ▸ hf)

theorem BlocksOnly.foldl {α : Type} {bs : List Nat} {g : Map Word → α → Map Word} {l : List α}
    (h : ∀ m, ∀ x ∈ l, BlocksOnly bs m (g m x)) (m : Map Word) : BlocksOnly bs m (l.foldl g m) := by
  induction l generalizing m with
  | nil => exact .refl _ _
  | cons x l ih => exact (h m x List.mem_cons_self).trans (ih (fun m y hy => h m y (List.mem_cons_of_mem _ hy)) _)

theorem BlocksOnly.regsIn {bs : List Nat} {a b : Map Word} (h : BlocksOnly bs a b) : RegsIn bs a b := fun o _ ho => h o ho

/-- The registers of the scan, the evaluation window and the image's identity. -/
def imageScanRegs (im : Image) (m : Map Word) : Map Word :=
  let m := rput (rput m R.LAN_SCAN_PERIOD im.period) R.LAN_EVAL_WIN im.win
  let m := rput (rput m R.LAN_IMG_LIVE im.live) R.LAN_IMG_NBLK im.blocks.length
  let m := rput (rput m R.LAN_IMG_SIG_SIG im.sig.toNat) R.LAN_IMG_VER_TOOL im.tool.toNat
  rput (rput m R.LAN_IMG_VER_FORMAT im.format.toNat) R.LAN_IMG_VER_NLIVE im.liveTab.length

/-- RST_STN of a connection that is declared. -/
def imageConn (rst : Nat → Nat) (m : Map Word) (n : Nat) : Map Word :=
  if rbit m R.NET_CONN_CFG_EN n then rput m R.NET_CONN_CFG_RST_STN (rst n) n else m

/-- The settings of an output. -/
def imageOut (m : Map Word) (b : Block) : Map Word :=
  let t := outTarget b
  let p0 := b.par0.toNat
  let p1 := b.par1.toNat
  rput (rput (rput (rput m R.FLD_SO_CFG_PERIOD (bitsOf p1 15 8) t) R.FLD_SO_CFG_WIDTH (bitsOf p1 7 0) t)
    R.FLD_SO_CFG_SAFE_ON (bitsOf p0 9 9) t) R.FLD_SO_CFG_STD (bitsOf p0 8 8) t

theorem imageRegs_eq (im : Image) (rst : Nat → Nat) (m : Map Word) : imageRegs im rst m =
    ((im.blocks.filter fun b => b.typ == 0x70) |>.filter fun b => decide (outTarget b < 20)).foldl imageOut
      ((List.range 32).foldl (imageConn rst) (imageScanRegs im m)) := rfl

theorem imageScanRegs_blocks (im : Image) (m : Map Word) : BlocksOnly [4] m (imageScanRegs im m) :=
  ((((((((BlocksOnly.refl _ m).rput (by decide)).rput (by decide)).rput (by decide)).rput (by decide)).rput (by decide)).rput
    (by decide)).rput (by decide)).rput (by decide)

theorem imageConn_blocks (rst : Nat → Nat) (m : Map Word) {n : Nat} (h : n < 32) : BlocksOnly [6] m (imageConn rst m n) := by
  unfold imageConn
  split
  · refine (BlocksOnly.refl _ _).rput ?_
    have : R.NET_CONN_CFG_RST_STN.off n 0 / 0x10000 = 6 := by simp only [RegField.off, R.NET_CONN_CFG_RST_STN]; omega
    rw [this]; decide
  · exact .refl _ _

/-- The output registers lie in the FLD block. -/
theorem outReg_block {t : Nat} (h : t < 20) {f : RegField} (h1 : f.base = 0x50300) (h2 : f.s1 = 4) (h3 : f.s2 = 0) :
    f.off t 0 / 0x10000 ∈ [5] := by
  have : f.off t 0 / 0x10000 = 5 := by rw [RegField.off, h1, h2, h3]; omega
  rw [this]; decide

theorem imageOut_blocks (m : Map Word) {b : Block} (h : outTarget b < 20) : BlocksOnly [5] m (imageOut m b) := by
  simp only [imageOut]
  exact .rput (.rput (.rput (.rput (.refl _ _) (outReg_block h rfl rfl rfl)) (outReg_block h rfl rfl rfl)) (outReg_block h rfl rfl rfl))
    (outReg_block h rfl rfl rfl)

theorem BlocksOnly.mono {bs bs' : List Nat} {a b : Map Word} (h : BlocksOnly bs a b) (hb : bs ⊆ bs') : BlocksOnly bs' a b :=
  fun o ho => h o fun hm => ho (hb hm)

theorem imageRegs_blocks (im : Image) (rst : Nat → Nat) (m : Map Word) : BlocksOnly [4, 5, 6] m (imageRegs im rst m) := by
  rw [imageRegs_eq]
  refine (((imageScanRegs_blocks im m).mono (by decide)).trans (.foldl (fun m n hn => ?_) _)).trans (.foldl (fun m b hb => ?_) _)
  · exact (imageConn_blocks rst m (List.mem_range.1 hn)).mono (by decide)
  · exact (imageOut_blocks m (by simpa using (List.mem_filter.1 hb).2)).mono (by decide)

end Sys2Proof.Machine
end

section
/-! The load, the restore of the sump and the partner wait (R236, R292, R525, R536, R541, R560, R563). -/

namespace Sys2Proof.Machine

/-! ### A load that succeeds -/

theorem adcSync_only (s : State) : OnlyChanges [.adc] s (adcSync s) :=
  .ite _ ((adcRoll_only _ _).trans (adcRoll_only _ _)) (.refl _ _)

theorem trainLink_only (s : State) (p : Fin 2) : OnlyChanges [.osr] s (trainLink s p) := .ite _ (State.link_only _ _ _) (.refl _ _)

/-- What a load leaves before the Osrin links train. -/
def loadedState (m : Map Byte) (im : Image) (u : State) : State :=
  let regs := imageRegs im (fun n => (u.fv n).toNat % 2) (loadEntries u.regs (regSection m))
  { u.took 32 with
    regs := regs
    slot := { u.slot with len := 10 * rget regs R.CIS_SLOT_PERIOD }
    lan := { u.lan.sendsField (fieldConfig regs im.period) with
      image := some im, lanes := u.lan.lanes.map fun x => { x with vars := [], outs := [] } }
    dsc := { u.dsc with creditAt := u.tb }
    sys := { u.sys with loaded := true, step := 6 } }

/-- RING_ID is tried against the loaded NDEV (R414). -/
def wiringTried (t : State) : State :=
  raiseIf (decide (t.ndev ≤ t.ringId)) S.OSR_WIRING 15 { t with osr := { t.osr with wiringBad := decide (t.ndev ≤ t.ringId) } }

theorem loadDone_eq (m : Map Byte) (im : Image) (s : State) :
    loadDone m im s = trainLink (trainLink (wiringTried (loadedState m im (adcSync s))) 0) 1 := rfl

theorem wiringTried_only (t : State) : OnlyChanges (.osr :: raiseParts) t (wiringTried t) := by
  refine .trans ?_ ((raiseIf_only _ _ _ _).mono (by decide))
  simp [onlyChanges_iff, raiseParts]

/-- What follows the load of registers and image: the wiring is tried, the links train, and lanes that refuse are retired. -/
def loadTail (mine : List (Fin 3)) (t : State) : State :=
  mine.foldl laneTestFailed (trainLink (trainLink (wiringTried t) 0) 1)

/-- The parts that the tail of a load may change. -/
def loadTailParts : List Part := .osr :: .lan :: .vpt :: raiseParts

theorem loadTail_only (mine : List (Fin 3)) (t : State) : OnlyChanges loadTailParts t (loadTail mine t) :=
  ((((wiringTried_only t).mono (by decide)).trans ((trainLink_only _ _).mono (by decide))).trans
    ((trainLink_only _ _).mono (by decide))).trans ((OnlyChanges.foldl _ laneTestFailed_only _ _).mono (by decide))

theorem trainLink_regs (s : State) (p : Fin 2) : (trainLink s p).regs = s.regs := trainLink_only s p .regs (by decide)
theorem trainLink_lan (s : State) (p : Fin 2) : (trainLink s p).lan = s.lan := trainLink_only s p .lan (by decide)
theorem trainLink_sys (s : State) (p : Fin 2) : (trainLink s p).sys = s.sys := trainLink_only s p .sys (by decide)

theorem wiringTried_lan (t : State) : (wiringTried t).lan = t.lan := wiringTried_only t .lan (by decide)

theorem wiringTried_sys (t : State) : Sys.still t.sys (wiringTried t).sys :=
  raiseIf_sys _ _ _ { t with osr := { t.osr with wiringBad := decide (t.ndev ≤ t.ringId) } }

theorem laneTestFailed_sys (s : State) (l : Fin 3) : Sys.still s.sys (laneTestFailed s l).sys := by
  rw [show (laneTestFailed s l).sys = (raise S.LAN_STEST 0 s).sys from retire_only l 8 _ .sys (by decide)]
  exact raise_sys _ _ _

theorem laneTestFailed_image (s : State) (l : Fin 3) : (laneTestFailed s l).lan.image = s.lan.image := by
  simp [laneTestFailed, retire, laneQuiet, State.lane]

theorem loadTail_sys (mine : List (Fin 3)) (t : State) : Sys.still t.sys (loadTail mine t).sys := by
  refine foldl_keeps (P := fun u => Sys.still t.sys u.sys) (fun u l h => h.trans (laneTestFailed_sys u l)) mine ?_
  rw [trainLink_sys, trainLink_sys]
  exact wiringTried_sys t

theorem loadTail_image (mine : List (Fin 3)) (t : State) : (loadTail mine t).lan.image = t.lan.image :=
  foldl_keeps (P := fun u => u.lan.image = t.lan.image) (fun u l h => (laneTestFailed_image u l).trans h) mine
    (by rw [trainLink_lan, trainLink_lan, wiringTried_lan])

theorem loadTail_keeps_retired {mine : List (Fin 3)} {t : State} {l : Fin 3} (h : t.lan.lanes[l].retired = true) :
    (loadTail mine t).lan.lanes[l].retired = true :=
  foldl_keeps (P := fun u => u.lan.lanes[l].retired = true) (fun u m hu => by rw [laneTestFailed_retired, hu, ite_self]) mine
    (by simpa [trainLink_lan, wiringTried_lan] using h)

theorem loadTail_retired {mine : List (Fin 3)} {l : Fin 3} (hm : l ∈ mine) (t : State) :
    (loadTail mine t).lan.lanes[l].retired = true :=
  foldl_establishes (I := fun _ => True) (P := fun u => u.lan.lanes[l].retired = true) (fun _ _ _ => trivial)
    (fun u m hu => by rw [laneTestFailed_retired, hu, ite_self]) (fun u _ => by rw [laneTestFailed_retired, if_pos rfl]) hm trivial

theorem loadTail_regsIn (mine : List (Fin 3)) (t : State) : RegsIn [4] t.regs (loadTail mine t).regs := by
  refine RegsIn.trans ?_ (RegsIn.foldl laneTestFailed_regsIn mine _)
  rw [trainLink_regs, trainLink_regs]
  exact RegsIn.raiseIf _ (.refl _ _)

/-- A register with loaded fields outside the lanes' block. -/
theorem loadTail_loaded (mine : List (Fin 3)) (t : State) {o : Nat} (h : loadedMask o ≠ 0) (h4 : o / 0x10000 ≠ 4) :
    mget (loadTail mine t).regs o = mget t.regs o := by
  refine foldl_keeps (P := fun u => mget u.regs o = mget t.regs o) (fun u l hu => ?_) mine ?_
  · have hne : o ≠ R.LAN_RETIRE_CAUSE.off l 0 := by
      have : R.LAN_RETIRE_CAUSE.off l 0 / 0x10000 = 4 := by fin_cases l <;> rfl
      exact fun e => h4 (e ▸ this)
    rw [laneTestFailed, retire_regs, mget_rput_ne _ _ _ _ _ _ hne, raise_regs_loaded _ _ u h, hu]
  · rw [trainLink_regs, trainLink_regs, wiringTried, raiseIf]
    split
    · exact raise_regs_loaded _ _ _ h
    · rfl

/-! ### The load -/

/-- The lanes in service that refuse the image. -/
def refusing (refuse : BitVec 3) (s : State) : List (Fin 3) :=
  (List.finRange 3).filter fun l => refuse.getLsbD l.val && !s.lan.lanes[l].retired

theorem loadEff_of_ok {b : Fin 2} {refuse : BitVec 3} {s : State} (h : loadFails s (s.nv.bank b) refuse = false) :
    loadEff b refuse s = loadTail (refusing refuse s) (loadedState (s.nv.bank b) (readImage (imageBytes (s.nv.bank b))) (adcSync s)) := by
  simp only [loadFails, Bool.or_eq_false_iff, Bool.not_eq_false'] at h
  obtain ⟨⟨⟨hsec, himg⟩, hring⟩, hlanes⟩ := h
  simp only [loadEff, hsec, himg, hring, hlanes]
  rfl

theorem loadEff_of_fails {b : Fin 2} {refuse : BitVec 3} {s : State} (h : loadFails s (s.nv.bank b) refuse = true) :
    ∃ d v, loadEff b refuse s = bootRefuse [(S.CFG_IMAGE, d)] { s with cfg := { s.cfg with valid := v } } := by
  simp only [loadEff]
  by_cases hsec : sectionOk s.regs (s.nv.bank b) = true
  · rw [hsec, if_neg (by decide), if_pos (by simpa [loadFails, hsec, Bool.or_assoc] using h)]
    exact ⟨_, _, rfl⟩
  · rw [Bool.eq_false_iff.2 hsec, if_pos (by decide)]
    exact ⟨_, s.cfg.valid, rfl⟩

theorem execBootLoadDone_eq {refuse : BitVec 3} {b : Fin 2} {s : State} (hcur : s.cfg.cur = some b) (hboot : s.sys.mode = .boot)
    (hstep : s.sys.step = 5) (hleave : s.sys.leave = none) : execBootLoadDone refuse s = .next (loadEff b refuse s) := by
  simp [execBootLoadDone, hcur, hboot, hstep, hleave]

theorem setMode_loaded (m : Mode) (s : State) : (setMode m s).sys.loaded = s.sys.loaded := by
  unfold setMode
  split
  · rfl
  · split
    · rfl
    · dsimp only
      split
      · rw [bootExit, slotStart_sys]
      · rfl

theorem bootRefuse_loaded (l : List (Src × Nat)) (s : State) : (bootRefuse l s).sys.loaded = s.sys.loaded := by
  rw [bootRefuse_eq, setMode_loaded]
  have h := raiseAll_sys l (gateFlags 0 0 s)
  unfold Sys.still at h
  rw [h]
  rfl

/-! ### The restore of the sump -/

/-- One codeword of a record that does not read clean. -/
def recordHit (s : State) (h : BitVec 5 × Option (BitVec 6)) : State :=
  match h.2 with
  | some sym => raise S.SMP_ECC_C (h.1.toNat + 65536 * sym.toNat) { s with smp := { s.smp with eccSym := some sym } }
  | none => raise S.SMP_ECC_U (h.1.toNat + 63 * 65536) s

theorem restoreEcc_eq (hits : List (BitVec 5 × Option (BitVec 6))) (s : State) : restoreEcc hits s =
    (hits.filter fun h => (s.nv.slots.toArray.getD (h.1.toNat / 5) none).isSome).foldl recordHit s := rfl

theorem recordHit_only (s : State) (h : BitVec 5 × Option (BitVec 6)) : OnlyChanges raiseParts s (recordHit s h) := by
  unfold recordHit
  split
  · refine .trans ?_ (raise_only _ _ _)
    simp [onlyChanges_iff, raiseParts]
  · exact raise_only _ _ _

/-- A raising over a state whose mode control is that of another. -/
theorem raise_still {s u : State} (h : u.sys = s.sys) (c : Src) (d : Nat) : Sys.still s.sys (raise c d u).sys := h ▸ raise_sys c d u

theorem recordHit_sys (s : State) (h : BitVec 5 × Option (BitVec 6)) : Sys.still s.sys (recordHit s h).sys := by
  unfold recordHit
  split
  · refine raise_still ?_ _ _
    rfl
  · exact raise_sys _ _ _

theorem recordHit_keeps_raised {s : State} {c : Src} (hc : s.raised c = true) (h : BitVec 5 × Option (BitVec 6)) :
    (recordHit s h).raised c = true := by
  unfold recordHit
  split
  · refine raised_of_raise ?_
    exact hc
  · exact raised_of_raise hc

theorem recordHit_raised {s : State} (ha : s.pwr.aoOk = true) (h : BitVec 5 × Option (BitVec 6)) :
    (recordHit s h).raised (if h.2.isSome then S.SMP_ECC_C else S.SMP_ECC_U) = true := by
  unfold recordHit
  split <;> rename_i e <;> rw [e] <;> exact raised_raise _ _ ha

theorem restoreEcc_only (hits : List (BitVec 5 × Option (BitVec 6))) (s : State) : OnlyChanges raiseParts s (restoreEcc hits s) := by
  rw [restoreEcc_eq]
  exact .foldl _ recordHit_only _ _

theorem restoreEcc_sys (hits : List (BitVec 5 × Option (BitVec 6))) (s : State) : Sys.still s.sys (restoreEcc hits s).sys := by
  rw [restoreEcc_eq]
  exact foldl_keeps (P := fun u => Sys.still s.sys u.sys) (fun u h hu => hu.trans (recordHit_sys u h)) _ rfl

theorem slots_getD {s : State} {n : Nat} {k : Fin 6} (h : n = k.val) : s.nv.slots.toArray.getD n none = s.nv.slots[k] := by
  subst h
  simp [Array.getD]

theorem restoreEcc_raised {hits : List (BitVec 5 × Option (BitVec 6))} {h : BitVec 5 × Option (BitVec 6)} (hm : h ∈ hits) {s : State}
    (ha : s.pwr.aoOk = true) {k : Fin 6} (hk : h.1.toNat / 5 = k.val) (hs : s.nv.slots[k].isSome = true) :
    (restoreEcc hits s).raised (if h.2.isSome then S.SMP_ECC_C else S.SMP_ECC_U) = true := by
  rw [restoreEcc_eq]
  refine foldl_establishes (I := fun t => t.pwr = s.pwr) (P := fun t => t.raised _ = true)
    (fun t a ht => (recordHit_only t a .pwr (by decide)).trans ht) (fun _ a ht => recordHit_keeps_raised ht a)
    (fun t ht => recordHit_raised (by rw [ht]; exact ha) h) (List.mem_filter.2 ⟨hm, ?_⟩) rfl
  rw [slots_getD hk, hs]

/-- The slots with an uncorrectable codeword, as `restoreEff` gathers them. -/
def lostSlots (hits : List (BitVec 5 × Option (BitVec 6))) : BitVec 6 :=
  hits.foldl (fun (m : BitVec 6) h => if h.2.isNone then putBit m (h.1.toNat / 5) true else m) 0

theorem lostSlots_foldl (hits : List (BitVec 5 × Option (BitVec 6))) (m : BitVec 6) {k : Nat} (hk : k < 6) :
    (hits.foldl (fun (m : BitVec 6) h => if h.2.isNone then putBit m (h.1.toNat / 5) true else m) m).getLsbD k
      = (m.getLsbD k || slotLost hits k) := by
  induction hits generalizing m with
  | nil => simp [slotLost]
  | cons h l ih =>
    rw [List.foldl_cons, ih, slotLost, slotLost, List.any_cons]
    cases hn : h.2.isNone
    · simp
    · rw [if_pos rfl, putBit_getLsbD _ _ _ _ hk]
      by_cases he : k = h.1.toNat / 5
      · simp [← he]
      · simp [he, beq_false_of_ne (Ne.symm he)]

theorem lostSlots_eq {hits : List (BitVec 5 × Option (BitVec 6))} {u : BitVec 6} (h : ∀ k : Fin 6, u.getLsbD k = slotLost hits k) :
    lostSlots hits = u := by
  refine BitVec.eq_of_getLsbD_eq fun i hi => ?_
  rw [lostSlots, lostSlots_foldl hits 0 hi, h ⟨i, hi⟩]
  simp

/-- The sump after a restore from the newest valid record, or from none. -/
def restoredSmp (best : Option (Fin 6 × SumpRec)) (now : Nat) (p : Smp) : Smp :=
  { p with
    inc := [], restored := true, at' := some now, fresh := best.isNone, slot := best.map (·.1),
    seq := (match best with | some (_, r) => r.seq | none => 0),
    tot := (match best with | some (_, r) => r.tot | none => []) }

theorem restoreEff_smp (hits : List (BitVec 5 × Option (BitVec 6))) (s : State) :
    (restoreEff hits s).smp = restoredSmp (newestRecord s.nv (lostSlots hits)) s.tb (restoreEcc hits s).smp := by
  have hnv : (restoreEcc hits s).nv = s.nv := restoreEcc_only hits s .nv (by decide)
  have htb : (restoreEcc hits s).tb = s.tb := restoreEcc_only hits s .tb (by decide)
  rw [← hnv, ← htb]
  rfl

theorem restoreEff_only (hits : List (BitVec 5 × Option (BitVec 6))) (s : State) : OnlyChanges raiseParts s (restoreEff hits s) := by
  refine (restoreEcc_only hits s).trans ?_
  simp [onlyChanges_iff, restoreEff, raiseParts]

theorem bootInternal_only (s : State) : OnlyChanges [.sys, .regs] s (bootInternal s) := by
  unfold bootInternal
  refine .ite _ ?_ (.refl _ _)
  simp [onlyChanges_iff]

theorem bootInternal_sys {s : State} (hboot : s.sys.mode = .boot) :
    (bootInternal s).sys.internal = true ∧ (s.sys.internal = false → (bootInternal s).sys.pwaitAt = some s.tb) := by
  cases h : s.sys.internal <;> simp [bootInternal, hboot, h]

theorem bootInternal_raised {s : State} {c : Src} (h : s.raised c = true) : (bootInternal s).raised c = true := by
  unfold bootInternal
  split
  · exact (raised_congr_of_regsBut (t := s.w R.SYS_BOOT_MS _) (l := [0x24]) ((RegsBut.refl _ _).rput (by decide)) rfl c).trans h
  · exact h

theorem execSumpRestore_on {hits : List (BitVec 5 × Option (BitVec 6))} {s : State} (hr : s.smp.restored = false)
    (ha : s.pwr.aoOk = true) (hl : s.sys.loaded = true) (hd : s.dom 4 = true) :
    execSumpRestore hits s = .next (bootInternal (restoreEff hits s)) := by
  simp [execSumpRestore, hr, ha, hl, hd]

theorem execSumpRestore_off {hits : List (BitVec 5 × Option (BitVec 6))} {s : State} (hr : s.smp.restored = false)
    (ha : s.pwr.aoOk = true) (hl : s.sys.loaded = true) (hd : s.dom 4 = false) :
    execSumpRestore hits s = .next (bootInternal s) := by
  simp [execSumpRestore, hr, ha, hl, hd]

/-! ### The partner wait -/

/-- The partner wait ends at its instant. -/
def waitEnded (due : Nat) (s : State) : State := { s.at due with sys := { (s.at due).sys with pwaitAt := none } }

theorem execPartnerWaitExpire_eq {s : State} {t0 due : Nat} (hw : s.sys.pwaitAt = some t0) (hboot : s.sys.mode = .boot)
    (hdue : due = t0 + s.r R.SYS_PARTNER_PWAIT * 100 * ms) (hcomes : s.comes due = true) :
    execPartnerWaitExpire s = .next (if s.sys.partners then waitEnded due s
      else raise S.SYS_PARTNER (partnerDetail (waitEnded due s)) ((waitEnded due s).w R.SYS_BOOT_PWAIT_EXP 1)) := by
  subst hdue
  simp only [execPartnerWaitExpire, hw]
  rw [if_pos (by simp [hboot, hcomes])]
  rfl

theorem waitEnded_only (due : Nat) (s : State) : OnlyChanges [.tb, .edge, .sys] s (waitEnded due s) := by
  refine ((State.at_only s due).mono (by decide)).trans ?_
  simp [onlyChanges_iff, waitEnded]

/-- Settles O14: the load is `loadTail` of `loadedState` or `bootRefuse`, the restore is `restoreEff` and `bootInternal`, and the
partner wait ends in `waitEnded`. -/
theorem bootLoadAndLastSteps : Obligations.BootLoadAndLastSteps := by
  refine ⟨fun refuse b s hcur hboot hstep hleave hloaded himage => ?_, fun s hboot => ⟨fun hits u hr ha hl hu => ?_,
    fun t0 due hw ha hdue hcomes => ?_⟩⟩
  · have hex := execBootLoadDone_eq (refuse := refuse) hcur hboot hstep hleave
    cases hf : loadFails s (s.nv.bank b) refuse
    · rw [loadEff_of_ok hf] at hex
      generalize hm : readImage (imageBytes (s.nv.bank b)) = im at hex
      have hall := loadTail_only (refusing refuse s) (loadedState (s.nv.bank b) im (adcSync s))
      have hsys := loadTail_sys (refusing refuse s) (loadedState (s.nv.bank b) im (adcSync s))
      have hync := adcSync_only s
      have hregs : (adcSync s).regs = s.regs := hync .regs (by decide)
      have hlan : (adcSync s).lan = s.lan := hync .lan (by decide)
      unfold Sys.still at hsys
      refine ⟨_, hex, (hall .nv (by decide)).trans (hync .nv (by decide)), (hall .tb (by decide)).trans (hync .tb (by decide)),
        fun h => absurd h (by decide), fun _ => ⟨?_, ?_, ?_, ?_, ?_, fun l hl => ?_, fun e he hblk => ?_⟩⟩
      · rw [hsys]
        exact (congrArg Sys.mode (hync .sys (by decide))).trans hboot
      · rw [hsys]; rfl
      · rw [hsys]; rfl
      · rw [loadTail_image]; rfl
      · rw [RegsIn.r (loadTail_regsIn _ _) rfl (by decide), show (loadTail _ _).slot = _ from hall .slot (by decide)]
        rfl
      · cases hret : s.lan.lanes[l].retired
        · exact loadTail_retired (List.mem_filter.2 ⟨List.mem_finRange l, by rw [hl, hret]; rfl⟩) _
        · refine loadTail_keeps_retired ?_
          simpa [loadedState, hlan] using hret
      · have hsec : sectionOk s.regs (s.nv.bank b) = true := by
          simp only [loadFails, Bool.or_eq_false_iff, Bool.not_eq_false'] at hf
          exact hf.1.1.1
        have h4 : e.1 / 0x10000 ≠ 4 := fun h => hblk (by rw [h]; decide)
        rw [storedWord_congr (loadTail_loaded _ _ (sectionOk_loaded hsec he) h4)]
        refine (storedWord_congr (imageRegs_blocks _ _ _ _ hblk)).trans ?_
        rw [hregs]
        exact loadEntries_mem (sectionOk_pairwise hsec) _ he
    · obtain ⟨d, v, hd⟩ := loadEff_of_fails hf
      rw [hd] at hex
      have hall := bootRefuse_only [(S.CFG_IMAGE, d)] { s with cfg := { s.cfg with valid := v } }
      refine ⟨_, hex, hall .nv (by decide), hall .tb (by decide), fun _ => ⟨?_, ?_, ?_, fun ha => ?_⟩, fun h => absurd h (by decide)⟩
      · exact bootRefuse_mode (s := { s with cfg := { s.cfg with valid := v } }) hboot _
      · rw [bootRefuse_loaded]
        exact hloaded
      · exact (congrArg Lan.image (hall .lan (by decide))).trans himage
      · exact bootRefuse_raised (s := { s with cfg := { s.cfg with valid := v } }) ⟨d, List.mem_singleton.2 rfl⟩ ha
  · have hlost := lostSlots_eq hu
    have hecc := restoreEcc_sys hits s
    have hfx := fun u => bootInternal_only u
    have hsys : (restoreEff hits s).sys = (restoreEcc hits s).sys := rfl
    unfold Sys.still at hecc
    cases hd : s.dom 4
    · obtain ⟨hint, hwait⟩ := bootInternal_sys hboot
      exact ⟨_, execSumpRestore_off hr ha hl hd, hfx s .nv (by decide), hfx s .tb (by decide), hint, hwait,
        fun _ => hfx s .smp (by decide), fun h => absurd h (by decide)⟩
    · have hboot' : (restoreEff hits s).sys.mode = .boot := by rw [hsys, hecc]; exact hboot
      have hint' : (restoreEff hits s).sys.internal = s.sys.internal := by rw [hsys, hecc]
      have htb : (restoreEff hits s).tb = s.tb := restoreEff_only hits s .tb (by decide)
      obtain ⟨hint, hwait⟩ := bootInternal_sys hboot'
      have hsmp : (bootInternal (restoreEff hits s)).smp = restoredSmp (newestRecord s.nv u) s.tb (restoreEcc hits s).smp := by
        rw [show (bootInternal (restoreEff hits s)).smp = _ from hfx _ .smp (by decide), restoreEff_smp, hlost]
      refine ⟨_, execSumpRestore_on hr ha hl hd, (hfx _ .nv (by decide)).trans (restoreEff_only hits s .nv (by decide)),
        (hfx _ .tb (by decide)).trans htb, hint, fun h => ?_, fun h => absurd h (by decide), fun _ => ?_⟩
      · rw [hwait (hint'.trans h), htb]
      · rw [hsmp]
        refine ⟨rfl, rfl, rfl, fun hn => ?_, fun k r hn => ?_, fun h hm k hk hs => ?_⟩
        · rw [hn]; exact ⟨rfl, rfl⟩
        · rw [hn]; exact ⟨rfl, rfl, rfl⟩
        · exact bootInternal_raised (s := restoreEff hits s) (restoreEcc_raised hm ha hk hs)
  · refine ⟨_, execPartnerWaitExpire_eq hw hboot hdue hcomes, ?_⟩
    cases hp : s.sys.partners
    · rw [if_neg Bool.false_ne_true]
      have hsys := raise_sys S.SYS_PARTNER (partnerDetail (waitEnded due s)) ((waitEnded due s).w R.SYS_BOOT_PWAIT_EXP 1)
      unfold Sys.still at hsys
      refine ⟨by rw [hsys]; rfl, by rw [hsys]; exact hboot, by rw [raise_tb]; rfl, fun h => absurd h (by decide),
        fun _ => ⟨raised_raise _ _ ha, ?_, ?_⟩⟩
      · rw [raise_r _ _ _ _ _ _ (raiseLeaves_of rfl)]
        exact State.r_w_same (by decide)
      · exact (((waitEnded_only due s).mono (by decide)).trans ((State.w_only _ _ _ _ _).mono (by decide))).trans
          ((raise_only _ _ _).mono (by decide))
    · rw [if_pos rfl]
      exact ⟨rfl, hboot, rfl, fun _ => waitEnded_only due s, fun h => absurd h (by decide)⟩

end Sys2Proof.Machine
end

section
/-! Transactions (R550-R553). -/

namespace Sys2Proof.Machine

/-! ### What a request of CFG_TXN sees -/

theorem State.order_links (s : State) (n : Nat) : (s.order n).osr.links = s.osr.links := by
  unfold State.order idleTick
  dsimp only
  split <;> rfl

theorem State.order_ringId (s : State) (n : Nat) : (s.order n).osr.ringId = s.osr.ringId := by
  unfold State.order idleTick
  dsimp only
  split <;> rfl

theorem txnWhy_order (s : State) (n off : Nat) : txnWhy (s.order n) off = txnWhy s off := by
  simp only [txnWhy, State.readyMask, State.ringId, State.order_links, State.order_ringId]
  rfl

theorem txnChanged_order (s : State) (n : Nat) : txnChanged (s.order n) = txnChanged s := rfl

theorem txnWhy_lt (s : State) (off : Nat) : txnWhy s off < 16 := by
  unfold txnWhy
  dsimp only
  repeat' split
  all_goals decide

/-! ### CFG_TXN_STAT -/

theorem txnTo_regsBut (x : TxnState) (s : State) : RegsBut [0xB0024] s.regs (txnTo x s).regs := (RegsBut.refl _ _).rput (by decide)

theorem txnResult_regsBut (res why off : Nat) (s : State) : RegsBut [0xB0024] s.regs (txnResult res why off s).regs :=
  ((((RegsBut.refl _ _).rput (by decide)).rput (by decide)).rput (by decide)).rput (by decide)

theorem txnRefuse_regsBut (s : State) : RegsBut [0xB0024] s.regs (txnRefuse s).regs := (RegsBut.refl _ _).rput (by decide)

theorem txnTo_state (x : TxnState) (s : State) :
    (txnTo x s).r R.CFG_TXN_STAT_STATE = match x with | .idle => 0 | .open => 1 | .pend => 2 := by
  refine (rget_rput_same _ _ _ _ _ (by decide)).trans ?_
  cases x <;> rfl

theorem txnTo_shadow (x : TxnState) (s : State) : (txnTo x s).shadow = s.shadow := rfl

theorem txnResult_state (res why off : Nat) (s : State) :
    (txnResult res why off s).r R.CFG_TXN_STAT_STATE = s.r R.CFG_TXN_STAT_STATE := by
  rw [State.r, txnResult, rget_rput_apart _ _ rfl, rget_rput_apart _ _ rfl, rget_rput_apart _ _ rfl, rget_rput_apart _ _ rfl]
  rfl

theorem txnResult_result (res why off : Nat) (s : State) : (txnResult res why off s).r R.CFG_TXN_STAT_RESULT = res % 8 := by
  rw [State.r, txnResult, rget_rput_apart _ _ rfl, rget_rput_apart _ _ rfl, rget_rput_apart _ _ rfl, rget_rput_same _ _ _ _ _ (by decide)]
  rfl

theorem txnResult_why (res why off : Nat) (s : State) : (txnResult res why off s).r R.CFG_TXN_STAT_WHY = why % 16 := by
  rw [State.r, txnResult, rget_rput_apart _ _ rfl, rget_rput_apart _ _ rfl, rget_rput_same _ _ _ _ _ (by decide)]
  rfl

theorem txnResult_ofs (res why off : Nat) (s : State) : (txnResult res why off s).r R.CFG_TXN_STAT_OFS = off % 2 ^ 20 := by
  rw [State.r, txnResult, rget_rput_apart _ _ rfl, rget_rput_same _ _ _ _ _ (by decide)]
  rfl

theorem txnRefuse_why (s : State) : (txnRefuse s).r R.CFG_TXN_STAT_WHY = 7 := State.r_w_same (by decide)

/-! ### BEGIN, COMMIT, ROLLBACK -/

theorem execTxnBegin_eq {s : State} (h : s.lands 11 = true) : execTxnBegin s = .next (txnBeginEff (s.order 6)) :=
  congrArg _ (hostWr_lands _ h)

theorem execTxnCommit_eq {s : State} (h : s.lands 11 = true) : execTxnCommit s = .next (txnCommitEff (s.order 6)) :=
  congrArg _ (hostWr_lands _ h)

theorem execTxnRollback_eq {s : State} (h : s.lands 11 = true) : execTxnRollback s = .next (txnRollbackEff (s.order 6)) :=
  congrArg _ (hostWr_lands _ h)

theorem txnBeginEff_accepted {s : State} (hi : s.cfg.txn = .idle) (hb : s.sys.mode ≠ .boot) (hl : s.sys.mode ≠ .lockdown)
    (h1 : s.sys.pdnBusy = false) (h2 : s.sys.pdnReady = false) :
    txnBeginEff s = txnTo .open { s with shadow := beginShadow s } := by
  simp [txnBeginEff, hi, State.inMode, hb, hl, h1, h2]

theorem txnBeginEff_refused {s : State}
    (h : s.cfg.txn ≠ .idle ∨ s.sys.mode = .boot ∨ s.sys.pdnBusy = true ∨ s.sys.pdnReady = true) : txnBeginEff s = txnRefuse s := by
  refine if_neg fun hc => ?_
  simp only [Bool.and_eq_true, beq_iff_eq, Bool.not_eq_true'] at hc
  obtain ⟨⟨⟨hi, hm⟩, h1⟩, h2⟩ := hc
  rcases h with h | h | h | h
  · exact h hi
  · simp [State.inMode, h] at hm
  · exact absurd h1 (by simp [h])
  · exact absurd h2 (by simp [h])

/-- Where no entry of the tables is lost, every shadow takes the value in force. -/
theorem beginShadow_of_kept {s : State} (hd : s.cis.dlyLost = 0) (hc : s.cis.clsGone = false) : beginShadow s = s.regs := by
  have hl : ∀ k, (lostAt s.cis k || (s.cis.clsGone && decide (k < 0x26000))) = false := fun k => by simp [lostAt, hd, hc]
  simp only [beginShadow, hl]
  rw [List.filter_eq_nil_iff.2 fun _ _ => Bool.false_ne_true]
  rfl

theorem txnCommitEff_refused {s : State} (h : s.cfg.txn ≠ .open) : txnCommitEff s = txnRefuse s := if_pos (by simpa using h)

theorem txnCommitEff_failing {s : State} {k : Nat} (h : s.cfg.txn = .open)
    (hk : (txnChanged s).find? (fun k => txnWhy s k != 0) = some k) : txnCommitEff s = txnResult 2 (txnWhy s k) k s := by
  simp [txnCommitEff, h, hk]

/-- The slot clock is told of a new slot length, at once or for a slot of the ring. -/
def slotLengthTold (len : Nat) (s t : State) : State :=
  { t with regs := rput t.regs R.CIS_STAT_PEND 1,
           slot := if decide (2 ≤ s.ndev) && s.slot.run then { t.slot with kc := some (t.slot.k + 64, len) } else { t.slot with pend := some len } }

theorem txnCommitEff_accepted {s : State} (h : s.cfg.txn = .open) (hk : ∀ k ∈ txnChanged s, txnWhy s k = 0) : txnCommitEff s =
    if (txnChanged s).contains 0x20000 && s.slot.run then slotLengthTold (10 * rget s.shadow R.CIS_SLOT_PERIOD) s (txnTo .pend s)
    else txnTo .pend s := by
  have hn : (txnChanged s).find? (fun k => txnWhy s k != 0) = none := List.find?_eq_none.2 fun k hm => by simp [hk k hm]
  simp only [txnCommitEff, h, hn]
  rfl

theorem txnCommitEff_pends {s : State} (h : s.cfg.txn = .open) (hk : ∀ k ∈ txnChanged s, txnWhy s k = 0) :
    (txnCommitEff s).cfg = { s.cfg with txn := .pend } ∧ OnlyChanges [.cfg, .regs, .slot] s (txnCommitEff s)
      ∧ (txnCommitEff s).r R.CFG_TXN_STAT_STATE = 2 ∧ (0x20000 ∉ txnChanged s → (txnCommitEff s).slot = s.slot) := by
  rw [txnCommitEff_accepted h hk]
  split
  · rename_i hc
    refine ⟨rfl, ?_, (rget_rput_apart _ _ rfl).trans (txnTo_state .pend s), fun hn => absurd hc (by simp [hn])⟩
    simp [onlyChanges_iff, slotLengthTold, txnTo]
  · refine ⟨rfl, ?_, txnTo_state .pend s, fun _ => rfl⟩
    simp [onlyChanges_iff, txnTo]

theorem txnRollbackEff_accepted {s : State} (h : s.cfg.txn = .open) :
    txnRollbackEff s = txnResult 3 0 0 (txnTo .idle { s with shadow := [] }) := if_pos (by simp [h])

theorem txnRollbackEff_refused {s : State} (h : s.cfg.txn ≠ .open) : txnRollbackEff s = txnRefuse s := if_neg (by simpa using h)

/-- The transaction is open with the shadows given. -/
def begunWith (m : Map Word) (s : State) : State := txnTo .open { s with shadow := m }

theorem begunWith_shadow (m : Map Word) (s : State) : (begunWith m s).shadow = m := rfl

theorem begunWith_regsBut (m : Map Word) (s : State) : RegsBut [0xB0024] s.regs (begunWith m s).regs :=
  txnTo_regsBut .open { s with shadow := m }

theorem begunWith_only (m : Map Word) (s : State) : OnlyChanges [.cfg, .regs, .shadow] s (begunWith m s) := by
  simp [onlyChanges_iff, begunWith, txnTo]

theorem begunWith_cfg (m : Map Word) (s : State) : (begunWith m s).cfg = { s.cfg with txn := .open } := rfl

theorem begunWith_state (m : Map Word) (s : State) : (begunWith m s).r R.CFG_TXN_STAT_STATE = 1 := txnTo_state .open _

/-! ### A commit takes force -/

/-- The registers in force and the changed ones merged. -/
theorem mergedRegs_storedWord (l : List Nat) (m sh : Map Word) (k : Nat) : storedWord (mergedRegs l m sh) k =
    if k ∈ l then blend (shadowedMask k) (storedWord sh k) (storedWord m k) else storedWord m k := by
  have gen : ∀ (l : List Nat) (a : Map Word), storedWord (l.foldl (fun acc k =>
      mput (resetWord k) acc k (blend (shadowedMask k) (storedWord sh k) (storedWord m k))) a) k =
      if k ∈ l then blend (shadowedMask k) (storedWord sh k) (storedWord m k) else storedWord a k := fun l => by
    induction l with
    | nil => simp
    | cons x l ih =>
      intro a
      rw [List.foldl_cons, ih]
      by_cases hl : k ∈ l
      · simp [hl]
      · by_cases hx : k = x
        · subst hx
          simp [hl, storedWord, mread_mput_same]
        · simp [hl, hx, storedWord, mread_mput_ne _ _ _ _ hx]
  exact gen l m

theorem loseConn_only (n : Fin 32) (s : State) : OnlyChanges (.net :: raiseParts) s (loseConn n s) :=
  .trans (.trans ((State.conn_only _ _ _).mono (by decide)) ((State.add_only _ _ _ _ _).mono (by decide))) ((raise_only _ _ _).mono (by decide))

theorem loseConn_regsIn (n : Fin 32) (s : State) : RegsIn [6] s.regs (loseConn n s).regs := by
  refine .raise _ ((RegsIn.refl _ _).rput ?_)
  have : R.NET_CONN_CNT_LOSSES.off n 0 / 0x10000 = 6 := by
    have := n.isLt
    simp only [RegField.off, R.NET_CONN_CNT_LOSSES]
    omega
  rw [this]; decide

/-- A commit closes connections: it raises, and changes the network alone. -/
theorem netCommit_only (before : Map Word) (changed : List Nat) (s : State) :
    OnlyChanges (.net :: raiseParts) s (netCommit before changed s) := by
  refine .foldl _ (fun t n => ?_) _ _
  dsimp only
  have hc : ∀ f, OnlyChanges (.net :: raiseParts) t (t.conn n f) := fun f => (State.conn_only t n f).mono (by decide)
  exact .ite _ (.ite _ ((hc _).trans (loseConn_only _ _)) ((hc _).trans ((State.conn_only _ _ _).mono (by decide)))) (.refl _ _)

theorem netCommit_regsIn (before : Map Word) (changed : List Nat) (s : State) : RegsIn [6] s.regs (netCommit before changed s).regs := by
  refine .foldl (fun t n => ?_) _ _
  dsimp only
  split
  · split
    · exact loseConn_regsIn n (t.conn n _)
    · exact .refl _ _
  · exact .refl _ _

/-- A commit in force: the merged registers with no shadows, its result, and the network that hears of it. -/
theorem applyCommit_eq (s : State) : ∃ u, applyCommit s = netCommit s.regs (txnChanged s) (txnResult 1 0 0 (txnTo .idle u))
    ∧ u.cfg = s.cfg ∧ u.shadow = [] ∧ u.regs = mergedRegs (txnChanged s) s.regs s.shadow ∧ u.tb = s.tb ∧ u.nv = s.nv := by
  have hync : OnlyChanges [.adc, .tmr] s (settleFrames (adcSync s)) :=
    ((adcSync_only s).mono (by decide)).trans (by simp [onlyChanges_iff, settleFrames])
  have hregs : (settleFrames (adcSync s)).regs = s.regs := hync .regs (by decide)
  have hsh : (settleFrames (adcSync s)).shadow = s.shadow := hync .shadow (by decide)
  have hcis : (settleFrames (adcSync s)).cis = s.cis := hync .cis (by decide)
  have hpwr : (settleFrames (adcSync s)).pwr = s.pwr := hync .pwr (by decide)
  have hch : txnChanged (settleFrames (adcSync s)) = txnChanged s := by
    simp only [txnChanged, State.dom, hregs, hsh, hcis, hpwr]
    rfl
  have hcfg : (settleFrames (adcSync s)).cfg = s.cfg := hync .cfg (by decide)
  have htb : (settleFrames (adcSync s)).tb = s.tb := hync .tb (by decide)
  have hnv : (settleFrames (adcSync s)).nv = s.nv := hync .nv (by decide)
  rw [← hch, ← hregs, ← hsh, ← hcfg, ← htb, ← hnv, applyCommit]
  generalize settleFrames (adcSync s) = v
  exact ⟨_, rfl, rfl, rfl, rfl, rfl, rfl⟩

theorem execTxnApply_eq {s : State} (h : s.cfg.txn = .pend) (hw : waitsForTick s = false) : execTxnApply s = .next (applyCommit s) := by
  simp [execTxnApply, h, hw]

/-- Settles O17: the three requests by the state of the transaction, and a commit in force through `mergedRegs`. -/
theorem transactions : Obligations.Transactions := by
  refine ⟨fun s h => ⟨fun hi hb h1 h2 => ?_, fun ho => ?_, fun ho hk => ?_, fun k ho hk => ?_, fun c hc => ?_⟩, fun s hp hw => ?_⟩
  · have hex : execTxnBegin s = .next (begunWith (beginShadow (s.order 6)) (s.order 6)) :=
      (execTxnBegin_eq h).trans (congrArg _ (txnBeginEff_accepted hi hb (State.lands_mode (s := s) h) h1 h2))
    refine ⟨_, hex, begunWith_cfg _ _, begunWith_only _ _, begunWith_regsBut (beginShadow (s.order 6)) _, fun hd hc => ?_,
      begunWith_state (beginShadow (s.order 6)) _⟩
    rw [begunWith_shadow, beginShadow_of_kept (s := s.order 6) hd hc, State.order_regs]
  · refine ⟨_, (execTxnRollback_eq h).trans (congrArg _ (txnRollbackEff_accepted ho)), rfl, rfl, txnResult_result _ _ _ _,
      (txnResult_state _ _ _ _).trans (txnTo_state .idle _), ?_, (txnTo_regsBut .idle { s.order 6 with shadow := [] }).trans (txnResult_regsBut _ _ _ _)⟩
    simp [onlyChanges_iff, txnTo, txnResult]
  · have hk' : ∀ k ∈ txnChanged (s.order 6), txnWhy (s.order 6) k = 0 := fun k hm => (txnWhy_order s 6 k).trans (hk k hm)
    obtain ⟨hcfg, honly, hst, hslot⟩ := txnCommitEff_pends (s := s.order 6) ho hk'
    exact ⟨_, execTxnCommit_eq h, hcfg, honly, hst, hslot⟩
  · have hk' : (txnChanged (s.order 6)).find? (fun k => txnWhy (s.order 6) k != 0) = some k := by
      simp only [txnWhy_order]; exact hk
    refine ⟨_, (execTxnCommit_eq h).trans (congrArg _ (txnCommitEff_failing ho hk')), ?_, txnResult_regsBut _ _ _ _, txnResult_result _ _ _ _,
      ?_, txnResult_ofs _ _ _ _⟩
    · simp [onlyChanges_iff, txnResult]
    · rw [txnResult_why, txnWhy_order, Nat.mod_eq_of_lt (txnWhy_lt s k)]
  · have hex : exec c s = .next (txnRefuse (s.order 6)) := by
      rcases hc with ⟨rfl, hc⟩ | ⟨hn, rfl | rfl⟩
      · exact (execTxnBegin_eq h).trans (congrArg _ (txnBeginEff_refused hc))
      · exact (execTxnCommit_eq h).trans (congrArg _ (txnCommitEff_refused hn))
      · exact (execTxnRollback_eq h).trans (congrArg _ (txnRollbackEff_refused hn))
    exact ⟨_, hex, State.w_only _ _ _ _ _, txnRefuse_regsBut _, txnRefuse_why _⟩
  · obtain ⟨u, hu, hcfg, hsh, hregs, htb, hnv⟩ := applyCommit_eq s
    have hall := netCommit_only s.regs (txnChanged s) (txnResult 1 0 0 (txnTo .idle u))
    have hrin := netCommit_regsIn s.regs (txnChanged s) (txnResult 1 0 0 (txnTo .idle u))
    rw [← hu] at hall hrin
    refine ⟨_, execTxnApply_eq hp hw, ?_, ?_, (hall .tb (by decide)).trans htb, (hall .nv (by decide)).trans hnv, ?_, ?_,
      fun k hk h1 hf => ?_⟩
    · rw [show (applyCommit s).cfg = _ from hall .cfg (by decide), ← hcfg]
      rfl
    · rw [show (applyCommit s).shadow = _ from hall .shadow (by decide), ← hsh]
      rfl
    · rw [RegsIn.r hrin rfl (by decide), txnResult_result]
    · rw [RegsIn.r hrin rfl (by decide), txnResult_state, txnTo_state]
    · have hl : raiseLeaves k := ⟨hf, by omega, by omega, by omega, by omega⟩
      have h6 : k / 0x10000 ∉ [6] := by simp only [List.mem_singleton]; omega
      have hb : k ∉ [0xB0024] := by simp only [List.mem_singleton]; omega
      rw [storedWord_congr (hrin k hl h6), storedWord_congr (((txnTo_regsBut .idle u).trans (txnResult_regsBut 1 0 0 _)) k hb), hregs,
        mergedRegs_storedWord]

end Sys2Proof.Machine
end

section
/-! The sump: each second's counts and the stores (R531, R557, R561, R563). -/

namespace Sys2Proof.Machine

/-! ### Counting -/

theorem Smp.count_of_idle {p : Smp} (h : p.restored = false) (k i n : Nat) : p.count k i n = p := by simp [Smp.count, h]

/-- A count below its limit goes up by what is counted. -/
theorem Smp.count_same {p : Smp} (h : p.restored = true) (k i n : Nat)
    (hr : mread 0 p.inc (statKey k i) + n + mread 0 p.tot (statKey k i) ≤ 2 ^ kindWidth k - 1) :
    mread 0 (p.count k i n).inc (statKey k i) = mread 0 p.inc (statKey k i) + n := by
  simp only [Smp.count, h, if_true, mread_mput_same]
  omega

theorem Smp.count_other (p : Smp) (k i n : Nat) {o : Nat} (h : o ≠ statKey k i) :
    mread 0 (p.count k i n).inc o = mread 0 p.inc o := by
  unfold Smp.count
  split
  · exact mread_mput_ne _ _ _ _ h
  · rfl

/-- What the counts of a second leave of the sump apart from the mode's count: nothing before counting has started, and of the
increments those of the kinds from 4 on. -/
def SecondCount (p q : Smp) : Prop := (p.restored = false → q = p) ∧ ∀ o, o < 4096 → mread 0 q.inc o = mread 0 p.inc o

theorem SecondCount.refl (p : Smp) : SecondCount p p := ⟨fun _ => rfl, fun _ _ => rfl⟩

theorem SecondCount.trans {p q r : Smp} (h : SecondCount p q) (h' : SecondCount q r) : SecondCount p r :=
  ⟨fun hr => by rw [h'.1 (by rw [h.1 hr]; exact hr), h.1 hr], fun o ho => (h'.2 o ho).trans (h.2 o ho)⟩

theorem SecondCount.stat (s : State) {k : Nat} (hk : 1 ≤ k) (i n : Nat) : SecondCount s.smp (s.stat k i n).smp :=
  ⟨fun h => Smp.count_of_idle h k i n, fun o ho => Smp.count_other _ _ _ _ (by unfold statKey; omega)⟩

theorem countTemp_second (src base : Nat) (s : State) : SecondCount s.smp (countTemp src base s).smp := by
  unfold countTemp
  split
  · split
    · exact .stat s (by decide) _ _
    · exact .refl _
  · exact .refl _

theorem countTemp_only (src base : Nat) (s : State) : OnlyChanges [.smp] s (countTemp src base s) := by
  unfold countTemp
  split
  · exact .ite _ (State.stat_only _ _ _ _) (.refl _ _)
  · exact .refl _ _

/-- The supplies are taken. -/
def suppliesTaken (mv : Vector (BitVec 16) 14) (s : State) : State := { s with pwr := { s.pwr with mv := mv, mvAt := some s.tb } }

/-- The counts of the kinds 4, 5 and 6. -/
def secondCounts (mv : Vector (BitVec 16) 14) (s : State) : State :=
  let s := countTemp 17 64 (countTemp 16 0 s)
  let s := (s.stat 5 (statBin (10 * s.fld.fs[0].toNat) 12000 500) 1).stat 5 (64 + statBin (10 * s.fld.fs[1].toNat) 12000 500) 1
  (List.finRange 5).foldl (fun s d => s.stat 6 (64 * d.val + statBin (mv[d.val]).toNat 640 5) 1) s

theorem secondEff_eq (mv : Vector (BitVec 16) 14) (s : State) :
    secondEff mv s = secondCounts mv ((suppliesTaken mv s).stat 0 s.sys.mode.num 1) := rfl

theorem secondCounts_only (mv : Vector (BitVec 16) 14) (s : State) : OnlyChanges [.smp] s (secondCounts mv s) :=
  (((countTemp_only _ _ s).trans (countTemp_only _ _ _)).trans ((State.stat_only _ _ _ _).trans (State.stat_only _ _ _ _))).trans
    (.foldl _ (fun t _ => State.stat_only t _ _ _) _ _)

theorem secondCounts_second (mv : Vector (BitVec 16) 14) (s : State) : SecondCount s.smp (secondCounts mv s).smp := by
  unfold secondCounts
  dsimp only
  have htemp := (countTemp_second 16 0 s).trans (countTemp_second 17 64 (countTemp 16 0 s))
  generalize countTemp 17 64 (countTemp 16 0 s) = t at htemp
  have h5 : ∀ (u : State) i, SecondCount u.smp (u.stat 5 i 1).smp := fun u i => .stat u (by decide) i 1
  have h6 : ∀ (u : State) i, SecondCount u.smp (u.stat 6 i 1).smp := fun u i => .stat u (by decide) i 1
  exact foldl_keeps (P := fun u => SecondCount s.smp u.smp) (fun u d h => h.trans (h6 u _)) _ ((htemp.trans (h5 t _)).trans (h5 _ _))

theorem mode_num_lt (m : Mode) : m.num < 8 := by cases m <;> decide

theorem nextMultiple_zero {p : Nat} (hp : 0 < p) (t : Nat) : t ≤ nextMultiple p 0 t ∧ nextMultiple p 0 t % p = 0 := by
  refine ⟨Nat.le_add_right _ _, ?_⟩
  rw [nextMultiple, Nat.zero_mod, Nat.sub_zero, Nat.add_mod_right, Nat.add_mod, Nat.mod_mod]
  have hlt := Nat.mod_lt t hp
  rcases Nat.eq_zero_or_pos (t % p) with h | h
  · simp [h]
  · rw [Nat.mod_eq_of_lt (show p - t % p < p by omega), show t % p + (p - t % p) = p by omega, Nat.mod_self]

theorem execStatsSecond_eq (mv : Vector (BitVec 16) 14) {s : State} (ha : s.pwr.aoOk = true) (hr : s.pwr.refOk = true) :
    execStatsSecond mv s = .next (secondEff mv (s.at (nextMultiple 100000000 0 (nextEdge s.tb s.pwr.mvAt)))) := by
  simp [execStatsSecond, ha, hr]

/-! ### Stores -/

/-- A store begins in slot k. -/
def storeBegun (final : Bool) (k : Fin 6) (s : State) : State :=
  { s with smp := { s.smp with tot := mergeTotals s.smp.tot s.smp.inc, inc := [], store := some k, final := final },
           nv := { s.nv with slots := s.nv.slots.set k none } }

theorem storeBegin_some {s : State} {k : Fin 6} (h : s.smp.target = some k) (final : Bool) :
    storeBegin final s = storeBegun final k s := by simp [storeBegin, h, storeBegun]

theorem storeBegin_none {s : State} (h : s.smp.target = none) (final : Bool) :
    storeBegin final s = storeEnd (raise S.SMP_STORE (512 + 7) { s with smp := { s.smp with final := final } }) := by
  simp [storeBegin, h]

theorem storeBegun_only (final : Bool) (k : Fin 6) (s : State) : OnlyChanges [.nv, .smp] s (storeBegun final k s) := by
  simp [onlyChanges_iff, storeBegun]

theorem pdnDone_only (s : State) : OnlyChanges [.sys, .regs] s (pdnDone s) := by simp [onlyChanges_iff, pdnDone]

theorem pdnDone_ready (s : State) : (pdnDone s).r R.SYS_REQ_STAT_PDN_READY = 1 := rget_rput_same _ _ _ _ _ (by decide)

theorem pdnDone_raised {s : State} {c : Src} (h : s.raised c = true) : (pdnDone s).raised c = true :=
  (raised_congr_of_regsBut (t := pdnDone s) (l := [0x1C]) (((RegsBut.refl _ _).rput (by decide)).rput (by decide)) rfl c).trans h

theorem storeEnd_only (s : State) : OnlyChanges [.smp, .sys, .regs] s (storeEnd s) := by
  have h : OnlyChanges [.smp, .sys, .regs] s { s with smp := { s.smp with store := none, final := false, at' := some s.tb } } := by
    simp [onlyChanges_iff]
  exact .ite _ (h.trans ((pdnDone_only _).mono (by decide))) h

theorem storeEnd_smp (s : State) : (storeEnd s).smp = { s.smp with store := none, final := false, at' := some s.tb } := by
  unfold storeEnd
  dsimp only
  split <;> rfl

theorem storeEnd_sys (s : State) : (storeEnd s).sys = if s.smp.final then { s.sys with pdnBusy := false, pdnReady := true } else s.sys := by
  unfold storeEnd
  dsimp only
  split <;> rfl

theorem storeEnd_raised {s : State} {c : Src} (h : s.raised c = true) : (storeEnd s).raised c = true := by
  unfold storeEnd
  dsimp only
  split
  · refine pdnDone_raised ?_
    exact h
  · exact h

theorem storeEnd_of_not_final {s : State} (h : s.smp.final = false) : OnlyChanges [.smp] s (storeEnd s) := by
  simp [onlyChanges_iff, storeEnd, h]

/-- A raising changes of the sump the increments alone. -/
theorem raiseRec_smp (r : Raising) (s : State) : ∃ i, (raiseRec r s).smp = { s.smp with inc := i } := by
  unfold raiseRec
  dsimp only
  split
  · unfold Smp.count
    split
    · exact ⟨_, rfl⟩
    · exact ⟨s.smp.inc, rfl⟩
  · exact ⟨s.smp.inc, rfl⟩

theorem raise_smp (c : Src) (d : Nat) (s : State) : ∃ i, (raise c d s).smp = { s.smp with inc := i } := by
  unfold raise raiseWith raiseOne
  dsimp only
  obtain ⟨i, hi⟩ := raiseRec_smp (Raising.settle { src := c, detail := BitVec.ofNat 32 d }) s
  split
  · obtain ⟨j, hj⟩ := raiseRec_smp (Raising.settle { src := S.HIF_EVT_LOST }) (raiseRec (Raising.settle { src := c, detail := BitVec.ofNat 32 d }) s)
    exact ⟨j, by rw [hj, hi]⟩
  · exact ⟨i, hi⟩

theorem raise_bad (c : Src) (d : Nat) (s : State) : (raise c d s).smp.bad = s.smp.bad := by
  obtain ⟨i, hi⟩ := raise_smp c d s
  rw [hi]

/-- A store that finds every slot bad is abandoned. -/
theorem storeBegin_abandoned {s : State} (h : s.smp.target = none) (ha : s.pwr.aoOk = true) (final : Bool) :
    (storeBegin final s).raised S.SMP_STORE = true ∧ (storeBegin final s).smp.store = none
      ∧ (storeBegin final s).smp.at' = some s.tb
      ∧ (storeBegin final s).sys.pdnReady = (if final then true else s.sys.pdnReady)
      ∧ OnlyChanges raiseParts s (storeBegin final s) := by
  obtain ⟨i, hi⟩ := raise_smp S.SMP_STORE (512 + 7) { s with smp := { s.smp with final := final } }
  have hsys := raise_sys S.SMP_STORE (512 + 7) { s with smp := { s.smp with final := final } }
  unfold Sys.still at hsys
  rw [storeBegin_none h, storeEnd_smp, storeEnd_sys, hi]
  refine ⟨storeEnd_raised (raised_raise _ _ ha), rfl, by rw [raise_tb], ?_, ?_⟩
  · cases final
    · rw [if_neg Bool.false_ne_true, hsys]; rfl
    · rfl
  · refine .trans (.trans ?_ (raise_only _ _ _)) ((storeEnd_only _).mono (by decide))
    simp [onlyChanges_iff, raiseParts]

theorem execSumpStoreStart_pdn {s : State} (hst : s.smp.store = none) (hr : s.sys.pdnReady = false) (hb : s.sys.pdnBusy = true)
    (hh : s.sys.pdnHold = false) (hc : s.cfg.cmd = none) (hd : s.dom 4 = true) (hres : s.smp.restored = true) :
    execSumpStoreStart s = .next (storeBegin true s) := by
  simp [execSumpStoreStart, hst, hr, hb, hh, hc, hd, hres]

theorem execSumpStoreStart_hour {s : State} {a : Nat} (hst : s.smp.store = none) (hr : s.sys.pdnReady = false) (hb : s.sys.pdnBusy = false)
    (hd : s.dom 4 = true) (hres : s.smp.restored = true) (hat : s.smp.at' = some a) (hcomes : s.comes (a + 360000000000) = true) :
    execSumpStoreStart s = .next (storeBegin false (s.at (a + 360000000000))) := by
  simp [execSumpStoreStart, hst, hr, hb, hd, hres, hat, hcomes]

theorem execSumpStoreStart_without {s : State} (hst : s.smp.store = none) (hr : s.sys.pdnReady = false) (hb : s.sys.pdnBusy = true)
    (hh : s.sys.pdnHold = false) (hc : s.cfg.cmd = none) (hd : s.dom 4 = false ∨ s.smp.restored = false) :
    execSumpStoreStart s = .next (pdnDone s) := by
  have hn : (s.dom 4 && s.smp.restored) = false := by rcases hd with h | h <;> simp [h]
  simp [execSumpStoreStart, hst, hr, hb, hh, hc, hn]

/-- The record of a store is in place. -/
def recordPlaced (k : Fin 6) (s : State) : State :=
  { s with nv := { s.nv with slots := s.nv.slots.set k (some ⟨s.smp.nextSeq, s.smp.tot⟩) },
           smp := { s.smp with slot := some k, seq := s.smp.nextSeq } }

theorem execSumpStoreDone_ok {s : State} {k : Fin 6} (h : s.smp.store = some k) :
    execSumpStoreDone true s = .next (storeEnd (recordPlaced k s)) := by
  simp [execSumpStoreDone, h, recordPlaced]

theorem recordPlaced_only (k : Fin 6) (s : State) : OnlyChanges [.nv, .smp] s (recordPlaced k s) := by
  simp [onlyChanges_iff, recordPlaced]

/-- A slot whose store failed is bad. -/
def slotFailed (k : Fin 6) (s : State) : State :=
  raise S.SMP_STORE (k.val + 256) { s with smp := { s.smp with bad := putBit s.smp.bad k.val true } }

/-- The store goes on with the next slot that is not bad, or is abandoned. -/
def nextStore (j : Option (Fin 6)) (k : Fin 6) (t : State) : State :=
  match j with
  | some j => { t with smp := { t.smp with store := some j }, nv := { t.nv with slots := t.nv.slots.set j none } }
  | none => storeEnd (raise S.SMP_STORE (k.val + 512) t)

theorem execSumpStoreDone_failed {s : State} {k : Fin 6} (h : s.smp.store = some k) : execSumpStoreDone false s
    = .next (nextStore (nextSlot (putBit s.smp.bad k.val true) (k.val + 1) 6) k (slotFailed k s)) := by
  rw [execSumpStoreDone, h]
  dsimp only
  rw [if_neg Bool.false_ne_true, ← slotFailed]
  generalize slotFailed k s = t
  cases nextSlot (putBit s.smp.bad k.val true) (k.val + 1) 6 <;> rfl

theorem slotFailed_smp (k : Fin 6) (s : State) : (slotFailed k s).smp.bad = putBit s.smp.bad k.val true :=
  raise_bad S.SMP_STORE (k.val + 256) { s with smp := { s.smp with bad := putBit s.smp.bad k.val true } }

theorem nextStore_leaves (j : Option (Fin 6)) (k : Fin 6) (t : State) : (nextStore j k t).smp.bad = t.smp.bad
    ∧ (nextStore j k t).smp.store = j ∧ (nextStore j k t).tb = t.tb ∧ (nextStore j k t).nv.bank0 = t.nv.bank0
    ∧ (nextStore j k t).nv.bank1 = t.nv.bank1 ∧ (t.raised S.SMP_STORE = true → (nextStore j k t).raised S.SMP_STORE = true) := by
  rcases j with _ | j
  · have hall := (raise_only S.SMP_STORE (k.val + 512) t).trans ((storeEnd_only _).mono (by decide))
    refine ⟨?_, ?_, hall .tb (by decide), congrArg Nv.bank0 (hall .nv (by decide)), congrArg Nv.bank1 (hall .nv (by decide)),
      fun h => storeEnd_raised (raised_of_raise h)⟩
    · rw [nextStore, storeEnd_smp]
      exact raise_bad _ _ t
    · rw [nextStore, storeEnd_smp]
  · exact ⟨rfl, rfl, rfl, rfl, rfl, fun h => h⟩

/-- Settles O18: a second is `secondEff`, a store begins by its target and ends with its record, or with the next slot. -/
theorem sumpCommands : Obligations.SumpCommands := by
  intro s ha
  refine ⟨?_, fun pdn a hst hr hd hres hb hpdn hhour => ?_, fun hst hr hb hh hc hd => ?_, fun k hk => ?_, fun k hk => ?_⟩
  · intro mv due hr hdue
    have hex := execStatsSecond_eq mv ha hr
    rw [← hdue, secondEff_eq, State.at_sys] at hex
    have hall := secondCounts_only mv ((suppliesTaken mv (s.at due)).stat 0 s.sys.mode.num 1)
    have hcnt := secondCounts_second mv ((suppliesTaken mv (s.at due)).stat 0 s.sys.mode.num 1)
    have htb : ((suppliesTaken mv (s.at due)).stat 0 s.sys.mode.num 1).tb = max s.tb due := State.at_tb_ok s due hr
    refine ⟨_, hex, (hall .tb (by decide)).trans htb, by rw [hdue]; exact (nextMultiple_zero (by decide) _).2, ?_, ?_, fun hn => ?_, fun hres hroom => ?_⟩
    · rw [show (secondCounts _ _).tb = _ from hall .tb (by decide)]
      exact hall .pwr (by decide)
    · refine .trans (((State.at_only s due).mono (by decide)).trans ?_) (hall.mono (by decide))
      simp [onlyChanges_iff, suppliesTaken, State.stat]
    · have h0 : ((suppliesTaken mv (s.at due)).stat 0 s.sys.mode.num 1).smp = s.smp := Smp.count_of_idle hn _ _ _
      rw [hcnt.1 (by rw [h0]; exact hn), h0]
    · have hm := mode_num_lt s.sys.mode
      refine (hcnt.2 _ (by unfold statKey; omega)).trans ?_
      have hw : kindWidth 0 = 32 := rfl
      exact Smp.count_same (p := s.smp) hres 0 s.sys.mode.num 1 (by rw [hw]; omega)
  · have hex : ∃ u, execSumpStoreStart s = .next (storeBegin pdn u) ∧ u = (if pdn then s else s.at (a + 360000000000)) := by
      cases pdn
      · obtain ⟨hat, hcomes⟩ := hhour rfl
        exact ⟨_, execSumpStoreStart_hour hst hr hb hd hres hat hcomes, rfl⟩
      · obtain ⟨hh, hc⟩ := hpdn rfl
        exact ⟨_, execSumpStoreStart_pdn hst hr hb hh hc hd hres, rfl⟩
    obtain ⟨u, hex, hu⟩ := hex
    have hat : OnlyChanges [.tb, .edge] s u := by
      rw [hu]
      exact .ite _ (.refl _ _) (State.at_only _ _)
    have htb : u.tb = if pdn then s.tb else (s.at (a + 360000000000)).tb := by rw [hu]; split <;> rfl
    have hsmp : u.smp = s.smp := hat .smp (by decide)
    have hnv : u.nv = s.nv := hat .nv (by decide)
    have hsys : u.sys = s.sys := hat .sys (by decide)
    have hao : u.pwr.aoOk = true := (congrArg Pwr.aoOk (hat .pwr (by decide))).trans ha
    rcases htar : s.smp.target with _ | k
    · obtain ⟨hra, hstore, hat', hready, honly⟩ := storeBegin_abandoned (s := u) (by rw [hsmp]; exact htar) hao pdn
      have htb' : (storeBegin pdn u).tb = u.tb := honly .tb (by decide)
      refine ⟨_, hex, htb'.trans htb, fun k hk => absurd hk nofun, fun _ => ⟨hra, hstore, by rw [hat', htb'], ?_, ?_⟩⟩
      · rw [hready, hsys, hr]; cases pdn <;> rfl
      · exact (hat.mono (by decide)).trans (honly.mono (by decide))
    · rw [storeBegin_some (s := u) (by rw [hsmp]; exact htar)] at hex
      refine ⟨_, hex, htb, ?_, fun hn => absurd hn nofun⟩
      rintro _ ⟨⟩
      rw [storeBegun, hsmp, hnv]
      refine ⟨rfl, rfl, rfl, rfl, ?_⟩
      have honly : OnlyChanges [.tb, .edge, .nv, .smp] s (storeBegun pdn k u) :=
        (hat.mono (by decide)).trans ((storeBegun_only pdn k u).mono (by decide))
      rwa [storeBegun, hsmp, hnv] at honly
  · exact ⟨_, execSumpStoreStart_without hst hr hb hh hc hd, rfl, rfl, pdnDone_ready s, pdnDone_only s⟩
  · have hall := recordPlaced_only k s
    refine ⟨_, execSumpStoreDone_ok hk, ?_, ?_, ?_, ?_, fun hf => ?_, fun hf => ⟨?_, ?_⟩⟩
    · rw [storeEnd_smp]
    · rw [storeEnd_smp]; rfl
    · exact storeEnd_only _ .nv (by decide)
    · rw [storeEnd_smp]; rfl
    · exact hall.trans ((storeEnd_of_not_final (s := recordPlaced k s) hf).mono (by decide))
    · rw [storeEnd_sys, if_pos (show (recordPlaced k s).smp.final = true from hf)]
    · exact (hall.mono (by decide)).trans ((storeEnd_only _).mono (by decide))
  · obtain ⟨hbad, hstore, htb, h0, h1, hra⟩ := nextStore_leaves (nextSlot (putBit s.smp.bad k.val true) (k.val + 1) 6) k (slotFailed k s)
    have hnv : (slotFailed k s).nv = s.nv := raise_nv _ _ _
    refine ⟨_, execSumpStoreDone_failed hk, ?_, hra (raised_raise _ _ ha), htb.trans (raise_tb _ _ _), h0.trans (congrArg Nv.bank0 hnv),
      h1.trans (congrArg Nv.bank1 hnv), hstore⟩
    rw [hbad, slotFailed_smp]
    exact putBit_getLsbD_self _ _ k.isLt

end Sys2Proof.Machine
end

section
/-! Reports as the host hears them, and the launch of a slot (R42, R43, R72, R187). -/

namespace Sys2Proof.Machine

/-! ### What a report leaves said -/

/-- What reports do to the state: of the cistern they reach the slices alone, what was sent stays sent, what was raised stays raised. -/
structure Tells (s t : State) : Prop where
  reported : Reported s t
  sent : s.tx ⊆ t.tx
  raised : ∀ c, s.raised c = true → t.raised c = true

namespace Tells

variable {s t u : State}

theorem refl (s : State) : Tells s s := ⟨.refl s, List.Subset.refl _, fun _ h => h⟩

theorem trans (h : Tells s t) (h' : Tells t u) : Tells s u :=
  ⟨h.reported.trans h'.reported, fun _ hx => h'.sent (h.sent hx), fun c hc => h'.raised c (h.raised c hc)⟩

theorem ite {p : Prop} [Decidable p] (h : Tells s t) (h' : Tells s u) : Tells s (if p then t else u) := by split <;> assumption

theorem pwr (h : Tells s t) : t.pwr = s.pwr := h.reported.1 .pwr (by decide)

/-- Changes of the slices, of the descriptors and of registers that hold no fault. -/
theorem of_slices {c : Cis} (h : s.cis.onlySlices c) (d : Dsc) {m : Map Word}
    (hm : ∀ e : Src, mget m (fltOff e.blk.toNat 0xF000) = mget s.regs (fltOff e.blk.toNat 0xF000)) :
    Tells s { s with cis := c, dsc := d, regs := m } :=
  ⟨.of_onlySlices h d m, List.Subset.refl _, fun e he => by rw [← he]; exact State.raised_congr (hm e)⟩

theorem of_add {f : RegField} {n i j : Nat} (h : f.off i j % 0x10000 < 0xF000) : Tells s (s.add f n i j) :=
  ⟨.of_raise ((State.add_only _ _ _ _ _).mono (by decide)), List.Subset.refl _, fun _ he => by rw [← he]; exact State.raised_add h⟩

end Tells

theorem raiseOne_tx (r : Raising) (s : State) : s.tx ⊆ (raiseOne r s).tx := by
  unfold raiseOne raiseRec
  dsimp only
  split
  · exact List.subset_append_right _ _
  · exact List.Subset.refl _

theorem raise_tx (c : Src) (d : Nat) (s : State) : s.tx ⊆ (raise c d s).tx := by
  unfold raise raiseWith
  dsimp only
  split
  · exact fun _ hx => raiseOne_tx _ _ (raiseOne_tx _ _ hx)
  · exact raiseOne_tx _ _

theorem raise_tells (c : Src) (d : Nat) (s : State) : Tells s (raise c d s) :=
  ⟨.of_raise (raise_only _ _ _), raise_tx c d s, fun _ => raised_of_raise⟩

theorem raiseIf_tells (b : Bool) (c : Src) (d : Nat) (s : State) : Tells s (raiseIf b c d s) := .ite (raise_tells c d s) (.refl s)

theorem raiseAll_tells (l : List (Src × Nat)) (s : State) : Tells s (raiseAll l s) := by
  induction l generalizing s with
  | nil => exact .refl s
  | cons e l ih => exact (raise_tells e.1 e.2 s).trans (ih _)

theorem failSlice_tells (p : Fin 17) (s : State) : Tells s (failSlice p s) :=
  .ite (.refl s) (.trans (.trans (.of_slices (failCis_onlySlices s.cis p) _ (m := s.regs) fun _ => rfl)
    (.ite (.refl _) (.of_add (by decide)))) (raiseAll_tells _ _))

theorem spareUnfit_tells (s : State) : Tells s (spareUnfit s) :=
  .ite (.trans (.of_slices (c := { s.cis with spareOk := false }) rfl s.dsc (m := s.regs) fun _ => rfl) (raise_tells _ _ _)) (.refl s)

theorem uncorrectable_tells (p : Fin 17) (row cw : Nat) (s : State) : Tells s (uncorrectable p row cw s) :=
  (raise_tells S.CIS_ECC_U _ s).trans (.ite (spareUnfit_tells _) (failSlice_tells p _))

/-! ### Overruns of the drain (R72, R211) -/

/-- A slice notes whether it overran. -/
def noteHung (late : Bool) (q : Option (Fin 17)) (s : State) : State :=
  match q with
  | some p => { s with cis := { s.cis with phys := vmod s.cis.phys p fun x => { x with hung := late } } }
  | none => s

/-- A slice that overran at the tick before too fails. -/
def hangs (b : Fin 17 → Bool) (q : Option (Fin 17)) (s : State) : State :=
  match q with
  | some p => if b p then failSlice p (raise S.CIS_SLC_HANG 0 s) else s
  | none => s

/-- What the overrun of one slice does. -/
def overrun (late : BitVec 16) (s : State) (n : Fin 16) : State :=
  hangs (fun p => late.getLsbD n && s.cis.phys[p].hung) (s.cis.physOf n)
    (raiseIf (late.getLsbD n) S.CIS_DRAIN_OVR n (noteHung (late.getLsbD n) (s.cis.physOf n) s))

theorem overruns_eq (late : BitVec 16) (s : State) : overruns late s = (List.finRange 16).foldl (overrun late) s := by
  unfold overruns
  congr 1
  funext s n
  cases h : s.cis.physOf n <;> simp [overrun, noteHung, hangs, h]

theorem noteHung_tells (late : Bool) (q : Option (Fin 17)) (s : State) : Tells s (noteHung late q s) := by
  unfold noteHung
  split
  next p => exact .of_slices (c := { s.cis with phys := vmod s.cis.phys p fun x => { x with hung := late } }) rfl s.dsc (m := s.regs) fun _ => rfl
  next => exact .refl s

theorem hangs_tells (b : Fin 17 → Bool) (q : Option (Fin 17)) (s : State) : Tells s (hangs b q s) := by
  unfold hangs
  split
  · exact .ite ((raise_tells _ _ _).trans (failSlice_tells _ _)) (.refl s)
  · exact .refl s

theorem overrun_tells (late : BitVec 16) (s : State) (n : Fin 16) : Tells s (overrun late s n) :=
  (noteHung_tells _ _ s).trans ((raiseIf_tells _ _ _ _).trans (hangs_tells _ _ _))

theorem overruns_tells (late : BitVec 16) (s : State) : Tells s (overruns late s) := by
  rw [overruns_eq]
  exact foldl_keeps (P := Tells s) (fun t n h => h.trans (overrun_tells late t n)) _ (.refl s)

theorem overrun_raised {late : BitVec 16} {n : Fin 16} (h : late.getLsbD n = true) {s : State} (hd : s.blockUp 2 = true) :
    (overrun late s n).raised S.CIS_DRAIN_OVR = true := by
  refine (hangs_tells _ _ _).raised _ (raised_raiseIf h _ _ ?_)
  rw [State.blockUp_congr (noteHung_tells _ _ s).pwr]
  exact hd

theorem overruns_raised {late : BitVec 16} {n : Fin 16} (h : late.getLsbD n = true) {s : State} (hd : s.blockUp 2 = true) :
    (overruns late s).raised S.CIS_DRAIN_OVR = true := by
  rw [overruns_eq]
  refine foldl_establishes (I := fun t => t.blockUp 2 = true) (P := fun t => t.raised S.CIS_DRAIN_OVR = true) (a := n)
    (fun t m ht => ?_) (fun t m => (overrun_tells late t m).raised _) (fun t ht => overrun_raised h ht) (List.mem_finRange n) hd
  rw [State.blockUp_congr (overrun_tells late t m).pwr]
  exact ht

/-! ### The launch (R187) -/

/-- The launch of the present slot before its overruns are judged. -/
def launched (late : BitVec 16) (u : State) : State :=
  State.send { u with vpt := launchPorts u, smp := countOpenings late u u.smp,
                      cis := { u.cis with sentFire := Vector.ofFn fun n => sentBits u late n } }
    (((List.finRange 16).filter (launches u)).map fun n => Tx.port n (fireOf u late n))

theorem fireLaunchEff_eq (late : BitVec 16) (s : State) :
    fireLaunchEff late s = overruns late (launched late ((s.at (s.slot.tick s.slot.k + 162)).order 3)) := rfl

theorem execFireLaunch_of {late : BitVec 16} {s : State} (h : s.slot.run = true) (ht : s.slot.ticked = true) (hr : s.pwr.refOk = true)
    (ha : s.pwr.aoOk = true) (hl : s.vpt.launched ≠ some s.slot.k) : execFireLaunch late s = .next (fireLaunchEff late s) := by
  simp [execFireLaunch, h, ht, hr, ha, hl]

theorem execFireLaunch_of_launched {late : BitVec 16} {s : State} (hl : s.vpt.launched = some s.slot.k) :
    execFireLaunch late s = .next s := by
  simp [execFireLaunch, hl]

theorem launchPorts_of_launches {u : State} {n : Fin 16} (h : launches u n = true) : (launchPorts u).ports[n] =
    { u.vpt.ports[n] with armed1 := u.vpt.ports[n].armed0, armed0 := u.vpt.sluiceOpen, seq := BitVec.ofNat 8 u.slot.k, await := true } := by
  simp [launchPorts, vimap, h]

theorem launched_sends {u : State} {n : Fin 16} (h : launches u n = true) (late : BitVec 16) :
    Tx.port n (fireOf u late n) ∈ (launched late u).tx := by
  refine List.mem_append_left _ (List.mem_reverse.2 (List.mem_map.2 ⟨n, ?_, rfl⟩))
  exact List.mem_filter.2 ⟨List.mem_finRange n, h⟩

theorem launched_sentFire (u : State) (late : BitVec 16) (n : Fin 16) : (launched late u).cis.sentFire[n] =
    if launches u n = true ∧ u.vpt.sluiceOpen = true ∧ late.getLsbD n = false then u.cis.fire[n] else 0 := by
  simp [launched, State.send, sentBits, and_assoc]

theorem Cis.onlySlices.sentFire {a b : Cis} (h : a.onlySlices b) : b.sentFire = a.sentFire := by unfold Cis.onlySlices at h; rw [h]

/-- Settles O22: the launch sends the frames and notes the slot; the overruns that follow leave both, and a second launch finds the slot
launched. -/
theorem fireLaunch : Obligations.FireLaunch := by
  intro s late hrun htick hr ha hl
  have heq := (execFireLaunch_of hrun htick hr ha hl).trans (congrArg _ (fireLaunchEff_eq late s))
  set u := (s.at (s.slot.tick s.slot.k + 162)).order 3 with hu
  have htells := overruns_tells late (launched late u)
  obtain ⟨⟨hkeep, hcis⟩, hsent, -⟩ := htells
  have hvpt : (overruns late (launched late u)).vpt = launchPorts u := hkeep .vpt (by decide)
  have hslot : (overruns late (launched late u)).slot = s.slot := hkeep .slot (by decide)
  refine ⟨_, heq, ?_, hkeep .tb (by decide), fun n hn => ⟨hsent (launched_sends hn late), ?_⟩, fun n => ?_,
    fun n hd hn => overruns_raised hn hd, hcis.cells, hkeep .nv (by decide), hkeep .lan (by decide), execFireLaunch_of_launched ?_⟩
  · rw [hvpt]; rfl
  · rw [hvpt, launchPorts_of_launches (u := u) hn]
    exact ⟨rfl, rfl, rfl⟩
  · rw [hcis.sentFire]
    exact launched_sentFire u late n
  · rw [hvpt, hslot]; rfl

end Sys2Proof.Machine
end

section
/-! Codeword writes: the cells that a read-modify-write steps, and what the read of its codeword meets (R41-R43, R140, R155). -/

namespace Sys2Proof.Machine

/-! ### The cells of a codeword (R155) -/

theorem mem_ones {n : Nat} (b : BitVec n) (i : Nat) : i ∈ ones b ↔ i < n ∧ b.getLsbD i = true := by simp [ones]

theorem ones_nodup {n : Nat} (b : BitVec n) : (ones b).Nodup := List.nodup_range.filter _

theorem cellKey_inj {p row a b : Nat} (h : cellKey p row a = cellKey p row b) : a = b := by unfold cellKey at h; omega

/-- The steps of the columns listed, from any start. -/
def stepList (op : CellOp) (p row cw : Nat) (l : List Nat) (acc : Map (BitVec 4) × List Nat × List Nat) :
    Map (BitVec 4) × List Nat × List Nat :=
  l.foldl (fun acc j =>
    let col := 64 * cw + j
    let r := stepCell op (mread 0 acc.1 (cellKey p row col))
    (mput 0 acc.1 (cellKey p row col) r.1, if r.2.1 then acc.2.1 ++ [col] else acc.2.1,
      if r.2.2 then acc.2.2 ++ [col] else acc.2.2)) acc

theorem mread_stepList_other {op : CellOp} {p row cw key : Nat} {l : List Nat} (h : ∀ j ∈ l, key ≠ cellKey p row (64 * cw + j))
    (acc : Map (BitVec 4) × List Nat × List Nat) : mread 0 (stepList op p row cw l acc).1 key = mread 0 acc.1 key := by
  induction l generalizing acc with
  | nil => rfl
  | cons i l ih =>
    refine (ih (fun j hj => h j (List.mem_cons_of_mem _ hj)) _).trans ?_
    exact mread_mput_ne _ _ _ _ (h i List.mem_cons_self)

theorem mread_stepList_mem {op : CellOp} {p row cw j : Nat} {l : List Nat} (hl : l.Nodup) (hj : j ∈ l)
    (acc : Map (BitVec 4) × List Nat × List Nat) : mread 0 (stepList op p row cw l acc).1 (cellKey p row (64 * cw + j)) =
      (stepCell op (mread 0 acc.1 (cellKey p row (64 * cw + j)))).1 := by
  have hne : ∀ a b, a ≠ b → cellKey p row (64 * cw + a) ≠ cellKey p row (64 * cw + b) := fun a b h e => by
    have := cellKey_inj e
    omega
  induction l generalizing acc with
  | nil => exact absurd hj List.not_mem_nil
  | cons i l ih =>
    obtain ⟨hi, hl'⟩ := List.nodup_cons.1 hl
    rcases List.mem_cons.1 hj with rfl | hj'
    · have hother : ∀ k ∈ l, cellKey p row (64 * cw + j) ≠ cellKey p row (64 * cw + k) := fun k hk => hne j k fun e => hi (e ▸ hk)
      exact (mread_stepList_other hother _).trans (mread_mput_same _ _ _ _)
    · refine (ih hl' hj' _).trans ?_
      rw [mread_mput_ne _ _ _ _ (hne j i fun e => hi (e ▸ hj'))]

theorem stepCells_eq (op : CellOp) (p row cw : Nat) (cols : BitVec 64) (m : Map (BitVec 4)) :
    stepCells op p row cw cols m = stepList op p row cw (ones cols) (m, [], []) := rfl

/-- A write steps the cells that it names. -/
theorem mread_stepCells (op : CellOp) (p row cw : Nat) (cols : BitVec 64) (m : Map (BitVec 4)) {j : Nat} (hj : j < 64) :
    mread 0 (stepCells op p row cw cols m).1 (cellKey p row (64 * cw + j)) =
      if cols.getLsbD j then (stepCell op (mread 0 m (cellKey p row (64 * cw + j)))).1 else mread 0 m (cellKey p row (64 * cw + j)) := by
  rw [stepCells_eq]
  split
  · next h => exact mread_stepList_mem (ones_nodup cols) ((mem_ones cols j).2 ⟨hj, h⟩) _
  · next h =>
    refine mread_stepList_other (fun i hi e => h ?_) _
    have : j = i := by have := cellKey_inj e; omega
    exact this ▸ ((mem_ones cols i).1 hi).2

theorem mread_stepCells_other {op : CellOp} {p row cw key : Nat} (h : ∀ j, j < 64 → key ≠ cellKey p row (64 * cw + j))
    (cols : BitVec 64) (m : Map (BitVec 4)) : mread 0 (stepCells op p row cw cols m).1 key = mread 0 m key := by
  rw [stepCells_eq]
  exact mread_stepList_other (fun j hj => h j ((mem_ones cols j).1 hj).1) _

/-! ### A write performed (R140, R230) -/

theorem writeCells_cells (p : Fin 17) (w : CwWrite) (s : State) : (writeCells p w s).cis =
    { s.cis with cells := (stepCells w.op p (w.slot % 2560) w.cw (w.cols &&& openBits s.cis w.logical w.cw) s.cis.cells).1 } := by
  unfold writeCells
  rw [raiseAll_cis]

theorem writeCells_only (p : Fin 17) (w : CwWrite) (s : State) : OnlyChanges (.cis :: .slot :: .dsc :: raiseParts) s (writeCells p w s) := by
  unfold writeCells
  refine .trans ?_ ((raiseAll_only _ _).mono (by decide))
  simp [onlyChanges_iff, raiseParts]

theorem mread_writeCells (p : Fin 17) (w : CwWrite) (s : State) {j : Nat} (hj : j < 64) :
    mread 0 (writeCells p w s).cis.cells (cellKey p (w.slot % 2560) (64 * w.cw + j)) =
      if w.cols.getLsbD j && !s.cis.suppressed (128 * w.logical + 64 * w.cw + j) then
        (stepCell w.op (mread 0 s.cis.cells (cellKey p (w.slot % 2560) (64 * w.cw + j)))).1
      else mread 0 s.cis.cells (cellKey p (w.slot % 2560) (64 * w.cw + j)) := by
  rw [writeCells_cells, mread_stepCells _ _ _ _ _ _ hj, BitVec.getLsbD_and, openBits_getLsbD _ _ _ hj]

theorem mread_writeCells_other {p : Fin 17} {w : CwWrite} {key : Nat} (h : ∀ j, j < 64 → key ≠ cellKey p (w.slot % 2560) (64 * w.cw + j))
    (s : State) : mread 0 (writeCells p w s).cis.cells key = mread 0 s.cis.cells key := by
  rw [writeCells_cells]
  exact mread_stepCells_other h _ _

/-! ### A codeword whose error goes undetected (R41) -/

/-- One cell takes a free value. -/
def scrambleCell (p row cw : Nat) (t : State) (j : Nat) : State :=
  { t with cis := { t.cis with cells := mput 0 t.cis.cells (cellKey p row (64 * cw + j)) ((t.fv).setWidth 4) }, free := t.free + 1 }

theorem scrambleCells_eq (s : State) (p row cw : Nat) : scrambleCells s p row cw = (List.range 64).foldl (scrambleCell p row cw) s := rfl

theorem scrambleCells_only (s : State) (p row cw : Nat) : OnlyChanges [.cis, .free] s (scrambleCells s p row cw) :=
  .foldl _ (fun t j => by simp [onlyChanges_iff]) _ _

theorem scrambleCells_phys (s : State) (p row cw : Nat) : (scrambleCells s p row cw).cis.phys = s.cis.phys :=
  foldl_keeps (P := fun t => t.cis.phys = s.cis.phys) (fun _ _ h => h) (List.range 64) rfl

theorem scrambleCells_free (s : State) (p row cw : Nat) : (scrambleCells s p row cw).free = s.free + 64 := by
  have hfold : ∀ (l : List Nat) (t : State), (l.foldl (scrambleCell p row cw) t).free = t.free + l.length := fun l => by
    induction l with
    | nil => exact fun _ => rfl
    | cons i l ih =>
      intro t
      have hstep : (scrambleCell p row cw t i).free = t.free + 1 := rfl
      rw [List.foldl_cons, ih, hstep, List.length_cons]
      omega
  rw [scrambleCells_eq, hfold, List.length_range]

theorem mread_scrambleCells_other {p row cw key : Nat} (h : ∀ j, j < 64 → key ≠ cellKey p row (64 * cw + j)) (s : State) :
    mread 0 (scrambleCells s p row cw).cis.cells key = mread 0 s.cis.cells key := by
  have hfold : ∀ (l : List Nat) (t : State), (∀ j ∈ l, j < 64) →
      mread 0 (l.foldl (scrambleCell p row cw) t).cis.cells key = mread 0 t.cis.cells key := fun l => by
    induction l with
    | nil => exact fun _ _ => rfl
    | cons i l ih =>
      intro t hl
      rw [List.foldl_cons, ih _ fun j hj => hl j (List.mem_cons_of_mem _ hj)]
      exact mread_mput_ne _ _ _ _ (h i (hl i List.mem_cons_self))
  rw [scrambleCells_eq]
  exact hfold _ s fun j hj => List.mem_range.1 hj

/-! ### What the read of a codeword meets (R42, R43) -/

theorem corrected_raised (p : Fin 17) (row cw : Nat) (sym : Fin 38) (second : Option (Fin 38)) {s : State} (h : s.blockUp 2 = true) :
    (corrected p row cw sym second s).raised S.CIS_ECC_C = true := by
  unfold corrected
  extract_lets n cis counted first raised lim fails limited
  have hr : raised.raised S.CIS_ECC_C = true := raised_raise _ _ (by exact h)
  have hce : limited.raised S.CIS_ECC_C = true := raised_of_raise hr
  split
  · exact hr
  · split
    · split
      · exact (failSlice_tells p _).raised _ hce
      · exact hce
    · split
      · exact (spareUnfit_tells _).raised _ hr
      · exact hr

theorem uncorrectable_raised (p : Fin 17) (row cw : Nat) {s : State} (h : s.blockUp 2 = true) :
    (uncorrectable p row cw s).raised S.CIS_ECC_U = true := by
  have hr : (raise S.CIS_ECC_U (sliceDetail p row cw 63 0) s).raised S.CIS_ECC_U = true := raised_raise _ _ h
  exact (Tells.ite (spareUnfit_tells _) (failSlice_tells p _)).raised _ hr

theorem spareUnfit_spareOk (s : State) : (spareUnfit s).cis.spareOk = false := by
  unfold spareUnfit
  split
  · rw [raise_cis]
  · next h => exact Bool.eq_false_iff.2 h

theorem uncorrectable_spare {s : State} (h : s.cis.served = none) (row cw : Nat) :
    (uncorrectable 16 row cw s).cis.spareOk = false := by
  simp only [uncorrectable, raise_cis, h]
  exact spareUnfit_spareOk _

/-! ### The command (R140) -/

/-- The oldest write of a slice's queue is taken. -/
def popWrite (p : Fin 17) (ws : List CwWrite) (s : State) : State :=
  { s with cis := { s.cis with phys := vmod s.cis.phys p fun x => { x with wq := ws } } }

theorem popWrite_wq (p : Fin 17) (ws : List CwWrite) (s : State) : (popWrite p ws s).cis.phys[p].wq = ws := by simp [popWrite, vmod]

theorem execSliceRmw_eq {s : State} {p : Fin 17} {w : CwWrite} {ws : List CwWrite} (hq : s.cis.phys[p].wq = w :: ws)
    (hon : s.sliceOn p = true) (hf : s.cis.phys[p].failed = false) (e : Ecc) :
    execSliceRmw p e s = .next (performWrite p w e (popWrite p ws s)) := by
  simp only [execSliceRmw, hq, hon, hf, Bool.not_false, Bool.and_self, if_true]
  rfl

/-- A write whose codeword reads right, with a correction or without, steps its cells, and its reports follow. -/
theorem performWrite_reported {e : Ecc} (he : e = .clean ∨ ∃ a b, e = .corrected a b) (p : Fin 17) (w : CwWrite) (s : State) :
    Reported (writeCells p w s) (performWrite p w e s) := by
  rcases he with rfl | ⟨a, b, rfl⟩
  · exact .refl _
  · exact corrected_reported _ _ _ _ _ _

/-- Settles O23: the write steps the cells (`mread_writeCells`), and reports leave them. -/
theorem codewordWrite : Obligations.CodewordWrite := by
  intro s p w ws hq hon hf
  have hexec := execSliceRmw_eq hq hon hf
  have hwq := popWrite_wq p ws s
  have hpwr : (popWrite p ws s).pwr = s.pwr := rfl
  have hserved : (popWrite p ws s).cis.served = s.cis.served := rfl
  have hcells : (popWrite p ws s).cis.cells = s.cis.cells := rfl
  have hsup : (popWrite p ws s).cis.suppressed = s.cis.suppressed := rfl
  have hfree : (popWrite p ws s).free = s.free := rfl
  have hpop : OnlyChanges (.cis :: .slot :: .dsc :: raiseParts) s (popWrite p ws s) := by simp [onlyChanges_iff, popWrite, raiseParts]
  rw [← hcells, ← hserved, ← hsup, ← hfree]
  generalize popWrite p ws s = u at *
  have hup : s.dom 4 = true → u.blockUp 2 = true := fun hd => (State.blockUp_congr hpwr 2).trans hd
  refine ⟨fun e he => ⟨_, hexec e, ?_, ?_, fun j hj => ?_, fun key hkey => ?_, ?_⟩, ⟨_, hexec _, ?_, fun h => ?_, ?_, fun hd => ?_⟩,
    _, hexec _, ?_, ?_, fun key hkey => ?_⟩
  · rintro rfl
    rw [performWrite, writeCells_cells]
    exact hwq
  · intro hne hd
    obtain ⟨a, b, rfl⟩ := he.resolve_left hne
    rw [performWrite]
    refine corrected_raised _ _ _ _ _ ?_
    rw [State.blockUp_congr (writeCells_only p w u .pwr (by decide))]
    exact hup hd
  · rw [(performWrite_reported he p w u).2.cells]
    exact mread_writeCells p w u hj
  · rw [(performWrite_reported he p w u).2.cells]
    exact mread_writeCells_other hkey u
  · exact hpop.trans ((writeCells_only p w u).trans ((performWrite_reported he p w u).1.mono (by decide)))
  · rw [performWrite, (uncorrectable_reported _ _ _ _).2.cells]
  · rw [performWrite]
    refine uncorrectable_failed ?_ _ _
    exact h.imp (fun h e => by subst e; exact absurd h (by decide)) id
  · rintro rfl hs
    rw [performWrite]
    refine uncorrectable_spare ?_ _ _
    exact hs
  · rw [performWrite]
    refine uncorrectable_raised _ _ _ ?_
    exact hup hd
  · rw [performWrite, writeCells_cells]
    simpa only [scrambleCells_phys] using hwq
  · rw [performWrite, writeCells_only p w _ .free (by decide), scrambleCells_free]
  · rw [performWrite, mread_writeCells_other hkey]
    exact mread_scrambleCells_other hkey u

end Sys2Proof.Machine
end

section
/-! The scrubbers and the counts of corrections (R41-R44, R226, R228, R259). -/

namespace Sys2Proof.Machine

/-! ### Counting fields (R14) -/

/-- A counting field after it counts. -/
theorem rget_radd (m : Map Word) (f : RegField) (n i j : Nat) (h : f.hi < 32) :
    rget (radd m f n i j) f i j = min (rget m f i j + n) (2 ^ (f.hi + 1 - f.lo) - 1) := by
  have hpos := Nat.two_pow_pos (f.hi + 1 - f.lo)
  rw [radd, rget_rput_same _ _ _ _ _ h, satAdd, Nat.mod_eq_of_lt (by omega)]

/-- Writes of one field at several indices, each with its value. -/
theorem rget_foldl_rput {n : Nat} (f : RegField) (v : Fin n → Nat) (h : f.hi < 32) (hi : ∀ a b : Fin n, f.off a 0 = f.off b 0 → a = b)
    {l : List (Fin n)} {p : Fin n} (hp : p ∈ l) (m : Map Word) :
    rget (l.foldl (fun m p => rput m f (v p) p) m) f p = v p % 2 ^ (f.hi + 1 - f.lo) := by
  induction l using List.reverseRecOn with
  | nil => exact absurd hp List.not_mem_nil
  | append_singleton l a ih =>
    rw [List.foldl_append, List.foldl_cons, List.foldl_nil]
    by_cases ha : p = a
    · rw [ha]; exact rget_rput_same _ _ _ _ _ h
    · rw [rget_rput_off _ _ _ _ _ _ _ _ fun e => ha (hi _ _ e)]
      exact ih ((List.mem_append.1 hp).resolve_right fun e => ha (List.mem_singleton.1 e))

/-! ### Work SRAM (R228, R235) -/

/-- What the loss of a work SRAM codeword leaves: the cells, what was raised, the count, and all but the parts listed. -/
structure WsLeaves (s t : State) : Prop where
  only : OnlyChanges (.cis :: .dsc :: .tkt :: .free :: raiseParts) s t
  cells : t.cis.cells = s.cis.cells
  raised : ∀ c, s.raised c = true → t.raised c = true
  count : t.r R.CIS_WS_CNT_UNCORR = s.r R.CIS_WS_CNT_UNCORR

/-- Only words of the delay and class tables differ. -/
def TablesOnly (a b : Map Word) : Prop := ∀ o, o / 0x4000 ≠ 9 → mget b o = mget a o

theorem TablesOnly.ite {a b c : Map Word} (p : Prop) [Decidable p] (h : TablesOnly a b) (h' : TablesOnly a c) :
    TablesOnly a (if p then b else c) := by split <;> assumption

namespace WsLeaves

variable {s t u : State}

theorem refl (s : State) : WsLeaves s s := ⟨.refl _ _, rfl, fun _ h => h, rfl⟩

theorem trans (h : WsLeaves s t) (h' : WsLeaves t u) : WsLeaves s u :=
  ⟨h.only.trans h'.only, h'.cells.trans h.cells, fun c hc => h'.raised c (h.raised c hc), h'.count.trans h.count⟩

theorem of_tables (h : OnlyChanges (.cis :: .dsc :: .tkt :: .free :: raiseParts) s t) (hc : t.cis.cells = s.cis.cells)
    (hm : TablesOnly s.regs t.regs) : WsLeaves s t := by
  refine ⟨h, hc, fun c hs => ?_, State.r_congr (hm _ (by decide))⟩
  rw [← hs]
  refine State.raised_congr (hm _ ?_)
  unfold fltOff
  omega

theorem of_raise (c : Src) (d : Nat) (s : State) : WsLeaves s (raise c d s) :=
  ⟨(raise_only _ _ _).mono (by decide), by rw [raise_cis], fun _ => raised_of_raise, raise_r _ _ _ _ _ _ (raiseLeaves_of rfl)⟩

end WsLeaves

theorem resolve_only (t : Nat) (r : Ticket) (fire lost : Bool) (s : State) : OnlyChanges [.tkt, .free] s (resolve t r fire lost s) := by
  simp [onlyChanges_iff, resolve]

theorem loseRecord_only (half : Fin 2) (s : State) (t : Nat) : OnlyChanges [.tkt, .free] s (loseRecord half s t) := by
  have hupd : ∀ r, OnlyChanges [.tkt, .free] s { s with tkt := s.tkt.upd t r } := fun r => by simp [onlyChanges_iff]
  unfold loseRecord
  split
  · exact .refl _ _
  · extract_lets r both
    split
    · exact resolve_only _ _ _ _ _
    · exact .ite _ (resolve_only _ _ _ _ _) (hupd r)
    · exact hupd r

theorem loseDelay_only (gen : Bool) (cw : Nat) (s : State) : OnlyChanges [.tkt, .free] s (loseDelay gen cw s) :=
  .foldl _ (fun _ _ => resolve_only _ _ _ _ _) _ _

theorem scrambleWords_regsBut (offs : List Nat) (m : Map Word) (s : State) : RegsBut offs m (scrambleWords offs m s) := by
  intro o ho
  have hfold : ∀ (l : List (Nat × Nat)) (m : Map Word), (∀ e ∈ l, o ≠ e.1) →
      mget (l.foldl (fun m e => mput 0 m e.1 (s.fv e.2 &&& maskOf (fun f => f.acc == .rw) ((fieldsAt e.1).getD []))) m) o = mget m o := fun l => by
    induction l with
    | nil => exact fun _ _ => rfl
    | cons e l ih =>
      intro m h
      rw [List.foldl_cons, ih _ fun x hx => h x (List.mem_cons_of_mem _ hx)]
      exact mget_mput_ne _ _ _ (h e List.mem_cons_self)
  exact hfold _ m fun e he hoe => ho (hoe ▸ List.fst_mem_of_mem_zipIdx he)

theorem tables_of_scrambled {base cw : Nat} (hb : base = 0x24000 ∨ base = 0x26000) (hc : cw < 256) (m : Map Word) (s : State) :
    TablesOnly m (scrambleWords (cwWords base cw) m s) := by
  intro o h
  refine scrambleWords_regsBut _ m s o fun ho => ?_
  obtain ⟨i, hi, rfl⟩ := List.mem_map.1 ho
  have := List.mem_range.1 hi
  omega

theorem loseStats_only (totals : Bool) (cw : Nat) (s : State) : OnlyChanges [.smp] s (loseStats totals cw s) := by
  simp [onlyChanges_iff, loseStats]

/-- A lost codeword of the delay table in force, before the tickets that it reaches are resolved. -/
def delayGone (cw : Fin 256) (s : State) : State :=
  { s.took 8 with cis := { s.cis with dlyLost := putBit s.cis.dlyLost cw.val true }
                  regs := scrambleWords (cwWords 0x24000 cw.val) s.regs s }

theorem wsLost_delay (cw : Fin 256) (s : State) : wsLost (.delay cw) s = loseDelay s.cis.gen cw (delayGone cw s) := rfl

theorem wsLost_dlyLost (cw : Fin 256) (s : State) : (wsLost (.delay cw) s).cis.dlyLost = putBit s.cis.dlyLost cw.val true := by
  rw [wsLost_delay, loseDelay_only _ _ _ .cis (by decide)]
  rfl

/-- Descriptors, tickets and statistics hold nothing of the cistern and of the registers. -/
theorem WsLeaves.of_quiet {s t : State} {l : List Part} (h : OnlyChanges l s t) (hl : l ⊆ [.dsc, .tkt, .free, .smp]) : WsLeaves s t := by
  have hq := h.mono hl
  exact .of_tables (hq.mono (by decide)) (by rw [hq .cis (by decide)]) fun o _ => by rw [hq .regs (by decide)]

theorem wsLost_leaves (loc : WsLoc) (s : State) : WsLeaves s (wsLost loc s) := by
  cases loc with
  | ticket half cw => exact .of_quiet (.foldl _ (fun _ _ => loseRecord_only _ _ _) _ _) (by decide)
  | delay cw =>
    rw [wsLost_delay]
    refine .trans ?_ (.of_quiet (loseDelay_only _ _ _) (by decide))
    exact .of_tables (by simp [onlyChanges_iff, raiseParts, delayGone]) rfl (tables_of_scrambled (.inl rfl) cw.isLt _ s)
  | delayRetained cw =>
    refine .trans ?_ (.of_quiet (loseDelay_only _ _ _) (by decide))
    exact .of_tables (by simp [onlyChanges_iff, raiseParts]) rfl fun _ _ => rfl
  | cls copy cw =>
    refine .of_tables (by simp [wsLost, onlyChanges_iff, raiseParts]) rfl ?_
    exact .ite _ (tables_of_scrambled (cw := cw.val) (.inr rfl) (by omega) _ s) fun _ _ => rfl
  | descStaging i =>
    dsimp only [wsLost]
    split
    · exact .refl s
    · exact .trans (.of_quiet (l := [.dsc]) (t := { s with dsc := _ }) (by simp [onlyChanges_iff]) (by decide)) (.of_raise _ _ _)
  | evtStaging i => exact .refl s
  | stats totals cw => exact .of_quiet (loseStats_only totals cw s) (by decide)
  | reserved cw => exact .refl s

theorem wsDrop_only (loc : WsLoc) (s : State) : OnlyChanges [.evs, .regs] s (wsDrop loc s) := by
  unfold wsDrop
  split
  · exact .ite _ (.refl _ _) (.ite _ (by simp [onlyChanges_iff]) (by simp [onlyChanges_iff]))
  · exact .refl _ _

theorem wsDrop_count (loc : WsLoc) (s : State) : (wsDrop loc s).r R.CIS_WS_CNT_UNCORR = s.r R.CIS_WS_CNT_UNCORR := by
  unfold wsDrop
  split
  · split
    · rfl
    · dsimp only
      split
      · exact rget_rput_apart _ _ rfl
      · rfl
  · rfl

theorem wsReport_only (c : Src) (loc : WsLoc) (sym nsym : Nat) (s : State) : OnlyChanges raiseParts s (wsReport c loc sym nsym s) :=
  raiseWith_only _ _

theorem wsReport_r (c : Src) (loc : WsLoc) (sym nsym : Nat) (s : State) {f : RegField} {i j : Nat} (h : raiseLeaves (f.off i j)) :
    (wsReport c loc sym nsym s).r f i j = s.r f i j :=
  State.r_congr (raiseWith_regs_leaves _ _ h)

theorem wsReport_raised {c : Src} (loc : WsLoc) (sym nsym : Nat) {s : State} (h : s.blockUp c.blk.toNat = true) :
    (wsReport c loc sym nsym s).raised c = true := raiseWith_raised_self _ h

theorem wsSource_blk (loc : WsLoc) : (wsSource loc).blk.toNat = 2 := by cases loc <;> rfl

/-- The report of an uncorrectable work SRAM codeword, before its consequence. -/
def wsReported (loc : WsLoc) (s : State) : State := wsReport (wsSource loc) loc 63 0 (wsDrop loc (s.add R.CIS_WS_CNT_UNCORR 1))

theorem wsReported_only (loc : WsLoc) (s : State) : OnlyChanges raiseParts s (wsReported loc s) :=
  ((State.add_only _ _ _ _ _).mono (by decide)).trans (((wsDrop_only loc _).mono (by decide)).trans (wsReport_only _ _ _ _ _))

theorem wsReported_raised {s : State} (h : s.dom 4 = true) (loc : WsLoc) : (wsReported loc s).raised (wsSource loc) = true := by
  refine wsReport_raised loc 63 0 ?_
  rw [State.blockUp_congr (wsDrop_only loc _ .pwr (by decide)), wsSource_blk]
  exact h

theorem wsReported_count (loc : WsLoc) (s : State) :
    (wsReported loc s).r R.CIS_WS_CNT_UNCORR = min (s.r R.CIS_WS_CNT_UNCORR + 1) 65535 := by
  rw [wsReported, wsReport_r _ _ _ _ _ (raiseLeaves_of rfl), wsDrop_count]
  exact rget_radd _ _ _ _ _ (by decide)

theorem scrambleLoc_only (loc : WsLoc) (s : State) :
    OnlyChanges [.regs, .cis, .dsc, .tkt, .evs, .smp, .free] s (scrambleLoc loc s) := by
  cases loc with
  | stats totals cw => cases totals <;> simp [onlyChanges_iff, scrambleLoc]
  | _ => simp [onlyChanges_iff, scrambleLoc]

theorem scrambleLoc_free (loc : WsLoc) (s : State) : (scrambleLoc loc s).free = s.free + 16 := by
  cases loc with
  | stats totals cw => cases totals <;> rfl
  | _ => rfl

/-! ### Lane SRAM (R43, R259) -/

theorem State.lane_self (s : State) (l : Fin 3) (f : Lane → Lane) : (s.lane l f).lan.lanes[l] = f s.lan.lanes[l] := by
  simp [State.lane, vmod]

theorem State.lane_other (s : State) {l m : Fin 3} (h : m ≠ l) (f : Lane → Lane) : (s.lane l f).lan.lanes[m] = s.lan.lanes[m] := by
  have : l.val ≠ m.val := fun e => h (Fin.ext e.symm)
  simp [State.lane, vmod, this]

/-- A retirement leaves the lane stopped that was. -/
theorem retire_stopped {l : Fin 3} (cause : Nat) {s : State} (h : s.lan.lanes[l].stopped = true) :
    (retire l cause s).lan.lanes[l].stopped = true := by
  simpa [retire, laneQuiet, State.lane, vmod] using h

/-- A lane that meets an uncorrectable codeword stops where it has not stopped. -/
def eccStopped (l : Fin 3) (s : State) : State :=
  if s.lan.lanes[l].stopped then s else s.lane l fun x => { x with stopped := true, eccStop := true, mid := none, res := none }

theorem laneEccU_eq (l : Fin 3) (s : State) : laneEccU l s =
    if s.lan.lanes[l].stopped || s.lan.run || s.lan.lanes[l].retired then raise S.LAN_ECC_U 0 (eccStopped l s)
    else retire l 6 (raise S.LAN_ECC_U 0 (eccStopped l s)) := rfl

theorem eccStopped_only (l : Fin 3) (s : State) : OnlyChanges [.lan] s (eccStopped l s) := .ite _ (.refl _ _) (State.lane_only _ _ _)

theorem eccStopped_stopped (l : Fin 3) (s : State) : (eccStopped l s).lan.lanes[l].stopped = true := by
  unfold eccStopped
  split
  · assumption
  · rw [State.lane_self]

theorem laneEccU_only (l : Fin 3) (s : State) : OnlyChanges laneParts s (laneEccU l s) := by
  have h : OnlyChanges laneParts s (raise S.LAN_ECC_U 0 (eccStopped l s)) :=
    ((eccStopped_only l s).mono (by decide)).trans ((raise_only _ _ _).mono (by decide))
  rw [laneEccU_eq]
  exact .ite _ h (h.trans ((retire_only _ _ _).mono (by decide)))

theorem retire_raised (l : Fin 3) (cause : Nat) {s : State} {c : Src} (h : s.raised c = true) : (retire l cause s).raised c = true := by
  rw [← h]
  refine State.raised_congr ?_
  rw [retire_regs]
  refine mget_rput_ne _ _ _ _ _ _ ?_
  have : l.val < 3 := l.isLt
  simp only [fltOff, RegField.off, R.LAN_RETIRE_CAUSE]
  omega

theorem laneEccU_raised {l : Fin 3} {s : State} (h : s.blockUp 4 = true) : (laneEccU l s).raised S.LAN_ECC_U = true := by
  have hr : (raise S.LAN_ECC_U 0 (eccStopped l s)).raised S.LAN_ECC_U = true := by
    refine raised_raise _ _ ?_
    rw [State.blockUp_congr (eccStopped_only l s .pwr (by decide))]
    exact h
  rw [laneEccU_eq]
  split
  · exact hr
  · exact retire_raised _ _ hr

theorem laneEccU_stopped (l : Fin 3) (s : State) : (laneEccU l s).lan.lanes[l].stopped = true := by
  have h : (raise S.LAN_ECC_U 0 (eccStopped l s)).lan.lanes[l].stopped = true := by
    rw [raise_lan]; exact eccStopped_stopped l s
  rw [laneEccU_eq]
  split
  · exact h
  · exact retire_stopped _ h

/-! ### The interval (R226) -/

theorem execCeInterval_eq {s : State} (hd : s.dom 4 = true) (hr : s.pwr.refOk = true) {due : Nat}
    (hdue : due = (nextEdge s.tb s.cis.ceAt + 99999999) / 100000000 * 100000000) : execCeInterval s = .next { s.at due with
      regs := (List.finRange 17).foldl (fun (m : Map Word) (p : Fin 17) => rput m R.CIS_CE_CNT_LAST (min s.cis.phys[p].ceNow 65535) p) s.regs
      cis := { s.cis with ceAt := some (s.at due).tb, phys := vimap (fun _ x => { x with ceNow := 0 }) s.cis.phys } } := by
  simp [execCeInterval, hd, hr, hdue]

theorem le_nextEdge (now : Nat) (last : Option Nat) : now ≤ nextEdge now last := by
  unfold nextEdge
  split
  · exact Nat.le_max_left _ _
  · exact Nat.le_refl _

theorem wsCorrected_eq (loc : WsLoc) (sym : Fin 38) (sec : Option (Fin 38)) (s : State) :
    ∃ first n, wsCorrected loc sym sec s = wsReport S.CIS_ECC_C loc first n (s.add R.CIS_WS_CNT_CORR 1) := ⟨_, _, rfl⟩

/-- A scrubbed codeword of a lane: what its read meets. -/
theorem execLaneSramScrub_eq {l : Fin 3} {s : State} (h : s.dom l = true) :
    execLaneSramScrub l .clean s = .next s
    ∧ (∀ a b, execLaneSramScrub l (.corrected a b) s = .next (raise S.LAN_ECC_C 0 (s.lane l fun x => { x with eccSym := a :: b.toList })))
    ∧ execLaneSramScrub l .uncorrectable s = .next (laneEccU l s) ∧ execLaneSramScrub l .undetected s = .next (laneScramble l s) := by
  simp [execLaneSramScrub, h]

/-- Settles O24: the interval latches each count, a report is a raising with its count, and each loss leaves the rest. -/
theorem scrubbers : Obligations.Scrubbers := by
  intro s hd
  have hlost : ∀ loc, execWorkSramScrub loc .uncorrectable s = .next (wsLost loc (wsReported loc s)) := fun _ => by
    simp [execWorkSramScrub, hd, wsReported]
  have hfree : ∀ loc, execWorkSramScrub loc .undetected s = .next (scrambleLoc loc s) := fun _ => by simp [execWorkSramScrub, hd]
  have hcorr : ∀ loc sym sec, execWorkSramScrub loc (.corrected sym sec) s = .next (wsCorrected loc sym sec s) := fun _ _ _ => by
    simp [execWorkSramScrub, hd]
  have hat : ∀ due, s.pwr.refOk = true → due = (nextEdge s.tb s.cis.ceAt + 99999999) / 100000000 * 100000000 → (s.at due).tb = due := by
    intro due hr hdue
    have hle := le_nextEdge s.tb s.cis.ceAt
    rw [State.at_tb_ok s due hr]
    omega
  refine ⟨fun due hr hdue => ⟨_, execCeInterval_eq hd hr hdue, by simp [onlyChanges_iff], ?_, ?_, fun p => ⟨?_, ?_⟩⟩,
    fun loc => by simp [exec, execWorkSramScrub], fun loc sym sec => ?_, fun loc => ⟨_, hlost loc, ?_, ?_, ?_, ?_, ?_, ?_, fun cw i hloc hi => ?_⟩,
    fun loc => ⟨_, hfree loc, scrambleLoc_free loc s, scrambleLoc_only loc s⟩, fun l hl => ?_⟩
  · exact hat due hr hdue
  · exact congrArg some (hat due hr hdue)
  · simp [vimap]
  · rw [State.r, rget_foldl_rput R.CIS_CE_CNT_LAST (fun p : Fin 17 => min s.cis.phys[p].ceNow 65535) (by decide) ?_ (List.mem_finRange p)]
    · exact Nat.mod_eq_of_lt (by simp only [R.CIS_CE_CNT_LAST]; omega)
    · intro a b h
      simp only [RegField.off, R.CIS_CE_CNT_LAST] at h
      omega
  · obtain ⟨first, n, heq⟩ := wsCorrected_eq loc sym sec s
    refine ⟨_, (hcorr loc sym sec).trans (congrArg _ heq), ?_, wsReport_raised _ _ _ hd, ?_⟩
    · exact ((State.add_only _ _ _ _ _).mono (by decide)).trans (wsReport_only _ _ _ _ _)
    · rw [wsReport_r _ _ _ _ _ (raiseLeaves_of rfl)]
      exact rget_radd _ _ _ _ _ (by decide)
  · exact (wsLost_leaves loc _).raised _ (wsReported_raised hd loc)
  · rw [(wsLost_leaves loc _).cells, wsReported_only loc s .cis (by decide)]
  · rw [(wsLost_leaves loc _).count, wsReported_count]
  · rw [(wsLost_leaves loc _).only .tb (by decide), wsReported_only loc s .tb (by decide)]
  · rw [(wsLost_leaves loc _).only .nv (by decide), wsReported_only loc s .nv (by decide)]
  · rw [(wsLost_leaves loc _).only .lan (by decide), wsReported_only loc s .lan (by decide)]
  · subst hloc
    have hcol : (8 * cw.val + i) / 8 = cw.val := by omega
    rw [Cis.suppressed, wsLost_dlyLost, hcol, putBit_getLsbD_self _ _ cw.isLt, Bool.or_true]
  · obtain ⟨hclean, hcorr, hunc, hund⟩ := execLaneSramScrub_eq hl
    have hao : s.blockUp 4 = true := (Bool.and_eq_true _ _ ▸ hl : _ ∧ _).1
    refine ⟨hclean, fun a b => ⟨_, hcorr a b, ?_, raised_raise _ _ hao, ?_, fun m hm => ?_⟩,
      ⟨_, hunc, laneEccU_raised hao, laneEccU_stopped l s, laneEccU_only l s .cis (by decide), laneEccU_only l s .nv (by decide)⟩,
      _, hund, ?_, fun m hm => ?_⟩
    · exact ((State.lane_only _ _ _).mono (by decide)).trans ((raise_only _ _ _).mono (by decide))
    · rw [raise_lan, State.lane_self]
    · rw [raise_lan, State.lane_other _ hm]
    · simp [onlyChanges_iff, laneScramble, State.lane]
    · exact State.lane_other s hm _

end Sys2Proof.Machine
end

section
/-! TEST, MIGRATE and RESTORE of a slice (R232, R233). -/

namespace Sys2Proof.Machine

/-! ### A write of CIS_SLC_CTRL -/

/-- OP and SLICE take the value. -/
def slcTaken (op p : Nat) (s : State) : State := { s with regs := rput (rput s.regs R.CIS_SLC_CTRL_OP op) R.CIS_SLC_CTRL_SLICE p }

/-- An operation starts. -/
def slcStarted (op : Nat) (kind : SliceOp) (p : Fin 17) (s : State) : State :=
  { slcTaken op p s with regs := rput (slcTaken op p s).regs R.CIS_SLC_CSTAT_BUSY 1,
                         cis := { s.cis with op := some (kind, p), spareOk := s.cis.spareOk && !(op == 1 && p == 16) } }

theorem slcTaken_busy (op p : Nat) (s : State) : (slcTaken op p s).rb R.CIS_SLC_CSTAT_BUSY = s.rb R.CIS_SLC_CSTAT_BUSY := by
  have h : rget (slcTaken op p s).regs R.CIS_SLC_CSTAT_BUSY 0 0 = rget s.regs R.CIS_SLC_CSTAT_BUSY 0 0 :=
    (rget_rput_apart _ _ rfl).trans (rget_rput_apart _ _ rfl)
  rw [State.rb, State.rb, rbit, rbit, h]

theorem slcTaken_opAllowed (op p : Nat) (s : State) (op' p' : Nat) : opAllowed (slcTaken op p s) op' p' = opAllowed s op' p' := rfl

theorem opAllowed_test (s : State) (p : Fin 17) :
    opAllowed s 1 p = (s.sliceOn p && (s.cis.phys[p].failed || (p == 16 && s.cis.served.isNone))) := by
  rw [opAllowed, dif_pos p.isLt, beq_eq_beq.2 (Fin.ext_iff (b := 16))]
  rfl

theorem opAllowed_migrate (s : State) (p : Fin 17) :
    opAllowed s 2 p = (decide (p.val < 16) && (s.cis.serving p).isSome && s.cis.spareOk) := dif_pos p.isLt

theorem opAllowed_restore (s : State) (p : Fin 17) :
    opAllowed s 3 p = (decide (p.val < 16) && s.cis.phys[p].failed && s.cis.phys[p].testPass && s.sliceOn p) := dif_pos p.isLt

/-- The operation of OP. -/
def slcKind (op : Nat) : SliceOp := if op = 1 then .test else if op = 2 then .migrate else .restore

theorem sliceCtrlEff_go {val : Word} (hgo : val.getLsbD 31 = true) (s : State) : sliceCtrlEff val s =
    let op := bitsOf val.toNat 9 8
    let p := bitsOf val.toNat 4 0
    if !s.inMode [.maintain] || s.rb R.CIS_SLC_CSTAT_BUSY || !opAllowed s op p then (slcTaken op p s).w R.CIS_SLC_CSTAT_REFUSED 1
    else
      let q : Fin 17 := ⟨p % 17, Nat.mod_lt _ (by decide)⟩
      let t := { slcTaken op p s with
        regs := rput (slcTaken op p s).regs R.CIS_SLC_CSTAT_BUSY 1
        cis := { s.cis with op := some (slcKind op, q), spareOk := s.cis.spareOk && !(op == 1 && p == 16) } }
      if op = 2 then failSlice q t else t := by
  have hgo' : (!val.getLsbD 31) = false := by rw [hgo]; rfl
  have hbusy := slcTaken_busy (bitsOf val.toNat 9 8) (bitsOf val.toNat 4 0) s
  simp only [sliceCtrlEff, hgo', Bool.false_eq_true, if_false]
  rw [← hbusy]
  rfl

/-- GO with an operation that is not allowed. -/
theorem sliceCtrlEff_refused {val : Word} (hgo : val.getLsbD 31 = true) {s : State}
    (h : s.sys.mode ≠ .maintain ∨ s.rb R.CIS_SLC_CSTAT_BUSY = true
      ∨ opAllowed s (bitsOf val.toNat 9 8) (bitsOf val.toNat 4 0) = false) :
    sliceCtrlEff val s = (slcTaken (bitsOf val.toNat 9 8) (bitsOf val.toNat 4 0) s).w R.CIS_SLC_CSTAT_REFUSED 1 := by
  have hno : (!s.inMode [.maintain] || s.rb R.CIS_SLC_CSTAT_BUSY || !opAllowed s (bitsOf val.toNat 9 8) (bitsOf val.toNat 4 0)) = true := by
    rcases h with h | h | h
    · simp [State.inMode, h]
    · simp [h]
    · simp [h]
  rw [sliceCtrlEff_go hgo]
  exact if_pos hno

/-- GO with an operation that is allowed. -/
theorem sliceCtrlEff_started {val : Word} {op : Nat} {p : Fin 17} (hw : slcWord val op p) {s : State} (hm : s.sys.mode = .maintain)
    (hb : s.rb R.CIS_SLC_CSTAT_BUSY = false) (ha : opAllowed s op p = true) :
    sliceCtrlEff val s = if op = 2 then failSlice p (slcStarted op (slcKind op) p s) else slcStarted op (slcKind op) p s := by
  obtain ⟨hgo, rfl, hp⟩ := hw
  have hq : (⟨p.val % 17, Nat.mod_lt _ (by decide)⟩ : Fin 17) = p := Fin.ext (Nat.mod_eq_of_lt p.isLt)
  have hyes : (!s.inMode [.maintain] || s.rb R.CIS_SLC_CSTAT_BUSY || !opAllowed s (bitsOf val.toNat 9 8) p) = false := by
    simp [State.inMode, hm, hb, ha]
  have h16 : ((p : Nat) == 16) = (p == 16) := by
    rw [Bool.eq_iff_iff, beq_iff_eq, beq_iff_eq]
    exact ⟨fun h => Fin.ext h, fun h => h ▸ rfl⟩
  rw [sliceCtrlEff_go hgo]
  simp only [hp, hyes, Bool.false_eq_true, if_false, hq, h16]
  rfl

theorem slcStarted_only (op : Nat) (kind : SliceOp) (p : Fin 17) (s : State) :
    OnlyChanges [.regs, .cis] s (slcStarted op kind p s) := by
  simp [onlyChanges_iff, slcStarted, slcTaken]

theorem slcStarted_busy (op : Nat) (kind : SliceOp) (p : Fin 17) (s : State) : (slcStarted op kind p s).r R.CIS_SLC_CSTAT_BUSY = 1 :=
  rget_rput_same _ _ _ _ _ (by decide)

/-! ### MIGRATE (R215, R232) -/

theorem serving_castSucc {c : Cis} {n : Fin 16} : c.serving n.castSucc = some n ↔
    c.phys[n.castSucc].failed = false ∧ c.dark.getLsbD n = false ∧ c.served ≠ some n := by
  simp [Cis.serving, and_assoc]

/-- S takes over from a slice that serves. -/
theorem failCis_takeover {c : Cis} {n : Fin 16} (hs : c.serving n.castSucc = some n) (hok : c.spareOk = true) (hm : c.mig = none) :
    (failCis c n.castSucc).mig = some ⟨n, false⟩ ∧ (failCis c n.castSucc).served = some n ∧ (failCis c n.castSucc).spareOk = false
      ∧ (failCis c n.castSucc).dark = c.dark ∧ (failCis c n.castSucc).op = c.op := by
  simp [failCis, hm, hs, hok]

theorem darkBy_takeover {c : Cis} {n : Fin 16} (hs : c.serving n.castSucc = some n) (hok : c.spareOk = true) (hm : c.mig = none) :
    darkBy c n.castSucc = [] ∧ lostWrites c n.castSucc = [] := by
  simp [darkBy, lostWrites, hm, hs, hok]

/-- A takeover changes the slices and the flights alone. -/
theorem failSlice_takeover {s : State} {n : Fin 16} (hs : s.cis.serving n.castSucc = some n) (hok : s.cis.spareOk = true)
    (hm : s.cis.mig = none) : (failSlice n.castSucc s).cis = failCis s.cis n.castSucc ∧ OnlyChanges [.cis, .dsc] s (failSlice n.castSucc s) := by
  have hf : s.cis.phys[n.val].failed = false := (serving_castSucc.1 hs).1
  obtain ⟨hdark, hlost⟩ := darkBy_takeover hs hok hm
  have hne : n.castSucc ≠ 16 := fun e => absurd (congrArg Fin.val e) (Nat.ne_of_lt n.isLt)
  simp [failSlice, hf, hdark, hlost, hne, countDark, raiseAll, onlyChanges_iff]

theorem physOf_takeover {c : Cis} {n : Fin 16} (hs : c.serving n.castSucc = some n) (hok : c.spareOk = true) (hm : c.mig = none) :
    (failCis c n.castSucc).physOf n = some 16 := by
  obtain ⟨-, hserved, -, hdark, -⟩ := failCis_takeover hs hok hm
  have hlit : (failCis c n.castSucc).dark.getLsbD n = false := by rw [hdark]; exact (serving_castSucc.1 hs).2.1
  rw [Cis.physOf, hlit, hserved]
  simp

/-! ### The end of an operation (R233) -/

theorem mread_clearSlice {p : Nat} {key : Nat} (m : Map (BitVec 4)) (h : key / 327680 = p) : mread 0 (clearSlice p m) key = 0 := by
  simp [mread, clearSlice, mget_filter_key (fun a => a / 327680 != p), h]

theorem cellKey_slice (p : Nat) {row col : Nat} (hr : row < 2560) (hc : col < 128) : cellKey p row col / 327680 = p := by
  unfold cellKey
  omega

theorem opDone_done (s : State) : rget (rput (rput s.regs R.CIS_SLC_CSTAT_BUSY 0) R.CIS_SLC_CSTAT_DONE 1) R.CIS_SLC_CSTAT_DONE = 1 :=
  rget_rput_same _ _ _ _ _ (by decide)

theorem opDone_busy (s : State) : rget (rput (rput s.regs R.CIS_SLC_CSTAT_BUSY 0) R.CIS_SLC_CSTAT_DONE 1) R.CIS_SLC_CSTAT_BUSY = 0 :=
  (rget_rput_apart _ _ rfl).trans (rget_rput_same _ _ _ _ _ (by decide))

section
variable {s : State} {p : Fin 17} (pass : Bool)

theorem execSliceOpDone_test (h : s.cis.op = some (.test, p)) : execSliceOpDone pass s = .next { s with
    regs := rput (rput (rput s.regs R.CIS_SLC_CSTAT_BUSY 0) R.CIS_SLC_CSTAT_DONE 1) R.CIS_SLC_CSTAT_PASS (b2n pass)
    cis := testDone p pass s.cis } := by
  simp [execSliceOpDone, h]

theorem execSliceOpDone_migrate (h : s.cis.op = some (.migrate, p)) : execSliceOpDone pass s = .next { s with
    regs := rput (rput s.regs R.CIS_SLC_CSTAT_BUSY 0) R.CIS_SLC_CSTAT_DONE 1, cis := { s.cis with op := none } } := by
  simp [execSliceOpDone, h]

theorem execSliceOpDone_restore (h : s.cis.op = some (.restore, p)) : execSliceOpDone pass s = .next { s with
    regs := rput (rput s.regs R.CIS_SLC_CSTAT_BUSY 0) R.CIS_SLC_CSTAT_DONE 1, cis := restoreDone p s.cis } := by
  simp [execSliceOpDone, h]

end

theorem castSucc_mod (n : Fin 16) : (⟨n.castSucc.val % 16, Nat.mod_lt _ (by decide)⟩ : Fin 16) = n := Fin.ext (Nat.mod_eq_of_lt n.isLt)

theorem restoreDone_dark (c : Cis) (n : Fin 16) : (restoreDone n.castSucc c).dark.getLsbD n = false := by
  rw [restoreDone, castSucc_mod]
  exact putBit_getLsbD_self _ _ n.isLt

theorem restoreDone_served {c : Cis} {n : Fin 16} (h : c.served = some n) : (restoreDone n.castSucc c).served = none := by
  rw [restoreDone, castSucc_mod]
  simp [h]

theorem restoreDone_spareOk {c : Cis} {n : Fin 16} (h : c.served = some n) (hf : c.phys[16].failed = false) :
    (restoreDone n.castSucc c).spareOk = true := by
  rw [restoreDone, castSucc_mod]
  simp [h, hf]

/-- After a RESTORE the slice serves its logical slice. -/
theorem restoreDone_serving (c : Cis) (n : Fin 16) : (restoreDone n.castSucc c).serving n.castSucc = some n := by
  refine serving_castSucc.2 ⟨?_, ?_, ?_⟩
  · have hfail : (restoreDone n.castSucc c).phys[n.castSucc] = { c.phys[n.castSucc] with failed := false, wq := [] } :=
      (Vector.getElem_ofFn _).trans (if_pos rfl)
    rw [hfail]
  · exact restoreDone_dark c n
  · simp only [restoreDone, castSucc_mod]
    split
    · exact Option.some_ne_none _ |>.symm
    · next h => exact fun e => h (by rw [e]; exact beq_self_eq_true _)

/-- Settles O25: a write of CIS_SLC_CTRL starts its operation or is refused, and the end of the operation leaves what it gives. -/
theorem sliceOperations : Obligations.SliceOperations := by
  intro s val p hl
  have hcmd : ∀ c, c = Instr.sliceTest val ∨ c = .sliceMigrate val ∨ c = .sliceRestore val →
      exec c s = .next (sliceCtrlEff val (s.order 6)) := by
    rintro c (rfl | rfl | rfl) <;> exact congrArg Host.Outcome.next (hostWr_lands (sliceCtrlEff val) hl)
  have hstart : ∀ {op}, slcWord val op p → s.sys.mode = .maintain → s.rb R.CIS_SLC_CSTAT_BUSY = false → opAllowed s op p = true →
      sliceCtrlEff val (s.order 6) = if op = 2 then failSlice p (slcStarted op (slcKind op) p (s.order 6))
        else slcStarted op (slcKind op) p (s.order 6) := fun hw hm hb ha => sliceCtrlEff_started hw hm hb ha
  refine ⟨fun hw hm hb hon hf => ?_, fun n hp hw hm hb hs hok hmig => ?_, fun hp hw hm hb hf hpass hon => ?_, fun c op hc hval hop h => ?_,
    fun pass hop => ?_, fun pass hop => ?_, fun n pass hp hop => ?_⟩
  · have ha : opAllowed s 1 p = true := by
      rw [opAllowed_test, hon]
      rcases hf with hf | ⟨rfl, hf⟩
      · rw [hf]; rfl
      · rw [hf]; exact Bool.or_true _
    refine ⟨_, (hcmd _ (.inl rfl)).trans (congrArg _ (hstart hw hm hb ha)), slcStarted_only _ _ _ _, rfl, slcStarted_busy _ _ _ _⟩
  · subst hp
    have ha : opAllowed s 2 n.castSucc = true := by
      rw [opAllowed_migrate, hs, hok, decide_eq_true (by exact n.isLt)]
      rfl
    have hs' : (slcStarted 2 .migrate n.castSucc (s.order 6)).cis.serving n.castSucc = some n := hs
    have hok' : (slcStarted 2 .migrate n.castSucc (s.order 6)).cis.spareOk = true := (Bool.and_true _).trans hok
    obtain ⟨hcis, honly⟩ := failSlice_takeover hs' hok' hmig
    obtain ⟨htmig, hserved, hspare, -, htop⟩ := failCis_takeover hs' hok' hmig
    refine ⟨_, (hcmd _ (.inr (.inl rfl))).trans (congrArg _ (hstart hw hm hb ha)), ?_⟩
    rw [if_pos rfl]
    refine ⟨by rw [slcKind]; exact (congrArg Cis.op hcis).trans htop, failSlice_failed _ _, ?_, ?_, ?_, ?_, ?_⟩
    · exact (congrArg Cis.mig hcis).trans htmig
    · exact (congrArg Cis.served hcis).trans hserved
    · exact (congrArg Cis.spareOk hcis).trans hspare
    · exact (congrArg (Cis.physOf · n) hcis).trans (physOf_takeover hs' hok' hmig)
    · exact ((slcStarted_only _ _ _ _).mono (by decide)).trans (honly.mono (by decide))
  · have ha : opAllowed s 3 p = true := by
      rw [opAllowed_restore, hf, hpass, hon, decide_eq_true hp]
      rfl
    refine ⟨_, (hcmd _ (.inr (.inr rfl))).trans (congrArg _ (hstart hw hm hb ha)), slcStarted_only _ _ _ _, ?_, slcStarted_busy _ _ _ _⟩
    simp [slcStarted, slcKind]
  · have hc' : c = .sliceTest val ∨ c = .sliceMigrate val ∨ c = .sliceRestore val := by
      simp only [List.mem_cons, Prod.mk.injEq, List.not_mem_nil, or_false] at hc
      exact hc.imp (·.1) (·.imp (·.1) (·.1))
    subst hop
    refine ⟨_, (hcmd c hc').trans (congrArg _ (sliceCtrlEff_refused hval h)), ?_, ?_, State.r_w_same (by decide)⟩
    · simp [onlyChanges_iff, slcTaken]
    · exact (((RegsBut.refl _ _).rput (by decide)).rput (by decide)).rput (by decide)
  · refine ⟨_, execSliceOpDone_test pass hop, by simp [onlyChanges_iff], rfl, ?_, ?_, fun row j hr hj => ?_, ?_⟩
    · cases pass <;> exact rget_rput_same _ _ _ _ _ (by decide)
    · exact (rget_rput_apart _ _ rfl).trans (opDone_done s)
    · exact mread_clearSlice _ (cellKey_slice p hr hj)
    · rintro rfl rfl
      exact Bool.or_true _
  · exact ⟨_, execSliceOpDone_migrate pass hop, by simp [onlyChanges_iff], rfl, opDone_done s, opDone_busy s⟩
  · subst hp
    exact ⟨_, execSliceOpDone_restore pass hop, by simp [onlyChanges_iff], restoreDone_serving _ n, restoreDone_dark _ n, opDone_done s,
      fun hs => ⟨restoreDone_served hs, restoreDone_spareOk hs⟩⟩

end Sys2Proof.Machine
end

section
/-! Mode requests, the deliberate reset and the power-down (R516, R527, R531). -/

namespace Sys2Proof.Machine

/-! ### Requests for a mode (R516) -/

/-- TARGET takes the value. -/
def reqTarget (target : Nat) (s : State) : State := s.w R.SYS_MODE_REQ_TARGET target

theorem reqTarget_regsBut (target : Nat) (s : State) : RegsBut [0x14, 0x1C] s.regs (reqTarget target s).regs :=
  (RegsBut.refl _ _).rput (by decide)

/-- What a request for a target does. -/
theorem modeReqEff_cases {target : Nat} (h : target < 8) (s : State) : modeReqEff (modeReqWord target) s =
    if pdnActive s then reqResult 3 6 (reqTarget target s)
    else if s.sys.req.isSome || s.sys.reqAgreed.isSome then reqResult 3 4 (reqTarget target s)
    else reqResult 1 0 { reqTarget target s with sys := { s.sys with req := some ⟨BitVec.ofNat 3 target, s.tb⟩ } } := by
  have ht : bitsOf (modeReqWord target).toNat 2 0 = target := by
    rw [modeReqWord, BitVec.toNat_ofNat, bitsOf]
    omega
  have hgo : (!(modeReqWord target).getLsbD 31) = false := by
    have hword : (modeReqWord target).getLsbD 31 = Nat.testBit (0x80000000 + target) 31 := by
      rw [modeReqWord, BitVec.getLsbD_ofNat, decide_eq_true (by decide), Bool.true_and]
    rw [hword, Nat.testBit_eq_decide_div_mod_eq]
    simp only [Bool.not_eq_false', decide_eq_true_eq]
    omega
  simp only [modeReqEff, ht, hgo, Bool.false_eq_true, if_false]
  rfl

/-- The outcome of a request, whatever else changed. -/
theorem reqResult_of_target (res why target : Nat) (ht : target < 8) {s t : State} (hr : t.regs = (reqTarget target s).regs) :
    (reqResult res why t).r R.SYS_REQ_STAT_NEW = 1 ∧ (reqResult res why t).r R.SYS_MODE_REQ_TARGET = target
      ∧ RegsBut [0x14, 0x1C] s.regs (reqResult res why t).regs := by
  refine ⟨reqResult_new _ _ _, ?_, ?_⟩
  · rw [State.r, reqResult, rget_rput_apart _ _ rfl, rget_rput_apart _ _ rfl, rget_rput_apart _ _ rfl, hr]
    exact (rget_rput_same _ _ _ _ _ (by decide)).trans (Nat.mod_eq_of_lt ht)
  · refine RegsBut.rput (RegsBut.rput (RegsBut.rput ?_ (by decide)) (by decide)) (by decide)
    rw [hr]
    exact reqTarget_regsBut target s

/-! ### Power-down (R531) -/

/-- A power-down begins. -/
def pdnBegun (s : State) : State :=
  { s with sys := { s.sys with pdnBusy := true, pdnHold := s.lan.run }, regs := rput s.regs R.SYS_REQ_STAT_PDN_BUSY 1 }

theorem pdnEff_begun {s : State} (h : pdnActive s = false) (hm : s.inMode [.configure, .commission, .maintain, .safeHold] = true) :
    pdnEff s = if s.lan.run then pdnBegun s else enterHold (pdnBegun s) := by
  simp only [pdnEff, h, hm, Bool.false_eq_true, if_false, Bool.not_true]
  rfl

theorem pdnEff_refused {s : State} (h : pdnActive s = true ∨ s.inMode [.configure, .commission, .maintain, .safeHold] = false) :
    pdnEff s = reqResult 3 (if pdnActive s = true then 6 else 1) s := by
  by_cases hp : pdnActive s = true
  · simp [pdnEff, hp]
  · simp [pdnEff, hp, h.resolve_left hp]

/-- Safe-hold is entered at once out of the modes that allow a power-down. -/
theorem enterHold_of_service {s : State} (hm : s.inMode [.configure, .commission, .maintain, .safeHold] = true) :
    enterHold s = if s.sys.mode = .safeHold then s
      else { s with sys := { s.sys with holdFrom := s.sys.mode, prev := s.sys.mode, mode := .safeHold } } := by
  have hcases : s.sys.mode = .configure ∨ s.sys.mode = .commission ∨ s.sys.mode = .maintain ∨ s.sys.mode = .safeHold := by
    simpa [State.inMode] using hm
  rcases hcases with h | h | h | h <;> simp [enterHold, State.inMode, setMode, bootHeld, h]

theorem still_drst {a b : Sys} (h : Sys.still a b) : b.drst = a.drst := by unfold Sys.still at h; rw [h]
theorem still_pdnBusy {a b : Sys} (h : Sys.still a b) : b.pdnBusy = a.pdnBusy := by unfold Sys.still at h; rw [h]

theorem sysCtrl_accepted {act : Nat} {s : State} (h : s.lands 0 = true) :
    sysCtrlWr act 0xD5 s = .next (sysCtrlEff (BitVec.ofNat 32 (act + 256 * (0xD5 : BitVec 8).toNat)) (s.order 6)) := by
  rw [sysCtrlWr, hostWr_lands _ h]

theorem execDeliberateReset_eq {s : State} (h : s.lands 0 = true) : execDeliberateReset 0xD5 s = .next (drstEff (s.order 6)) :=
  sysCtrl_accepted h

theorem execPowerDown_eq {s : State} (h : s.lands 0 = true) : execPowerDown 0xD5 s = .next (pdnEff (s.order 6)) :=
  sysCtrl_accepted h

theorem execModeReq {c : Instr} {target : Nat}
    (hc : c = .modeReqConfigure ∧ target = 1 ∨ c = .modeReqRun ∧ target = 3 ∨ c = .modeReqMaintain ∧ target = 4) {s : State}
    (h : s.lands 0 = true) : exec c s = .next (modeReqEff (modeReqWord target) (s.order 6)) ∧ target < 8 := by
  rcases hc with ⟨rfl, rfl⟩ | ⟨rfl, rfl⟩ | ⟨rfl, rfl⟩ <;> exact ⟨congrArg Host.Outcome.next (hostWr_lands _ h), by decide⟩

/-- Settles O53: each write of SYS_MODE_REQ and SYS_CTRL is followed through the branches of its effect. -/
theorem modeRequests : Obligations.ModeRequests := by
  rintro s u hl rfl
  refine ⟨fun c target hc => ?_, ⟨_, execDeliberateReset_eq hl, ?_, rfl, ?_, ?_, ?_⟩, fun hp hm => ⟨_, execPowerDown_eq hl, ?_⟩,
    fun h => ⟨_, execPowerDown_eq hl, ?_⟩, fun key hk c hc => ?_⟩
  · obtain ⟨hexec, ht⟩ := execModeReq hc hl
    have hpdn : pdnActive (s.order 6) = pdnActive s := rfl
    have hreq : ((s.order 6).sys.req.isSome || (s.order 6).sys.reqAgreed.isSome) = (s.sys.req.isSome || s.sys.reqAgreed.isSome) := rfl
    have hrefused : ∀ why, OnlyChanges [.sys, .regs] (s.order 6) (reqResult 3 why (reqTarget target (s.order 6))) := fun why =>
      ((State.w_only _ _ _ _ _).mono (by decide)).trans ((reqResult_only _ _ _).mono (by decide))
    refine ⟨_, hexec, ?_⟩
    rw [modeReqEff_cases ht, hpdn, hreq]
    by_cases hp : pdnActive s = true
    · obtain ⟨hnew, htarget, hbut⟩ := reqResult_of_target 3 6 target ht (s := s.order 6) rfl
      rw [if_pos hp]
      exact ⟨hrefused 6, hnew, htarget, hbut, fun _ => ⟨rfl, reqResult_mode _ _ _, reqResult_why _ _ _⟩,
        fun h => absurd hp (by rw [h]; decide), fun h => absurd hp (by rw [h]; decide)⟩
    · rw [if_neg hp]
      by_cases hq : (s.sys.req.isSome || s.sys.reqAgreed.isSome) = true
      · obtain ⟨hnew, htarget, hbut⟩ := reqResult_of_target 3 4 target ht (s := s.order 6) rfl
        rw [if_pos hq]
        refine ⟨hrefused 4, hnew, htarget, hbut, fun h => absurd h hp, fun _ _ => ⟨rfl, reqResult_mode _ _ _, reqResult_why _ _ _⟩,
          fun _ h h' => ?_⟩
        rw [h, h'] at hq
        exact absurd hq (by decide)
      · obtain ⟨hnew, htarget, hbut⟩ := reqResult_of_target 1 0 target ht (s := s.order 6)
          (t := { reqTarget target (s.order 6) with sys := { s.sys with req := some ⟨BitVec.ofNat 3 target, (s.order 6).tb⟩ } }) rfl
        rw [if_neg hq]
        refine ⟨?_, hnew, htarget, hbut, fun h => absurd h hp, fun _ h => absurd (Bool.or_eq_true _ _ ▸ h) hq,
          fun _ _ _ => ⟨rfl, reqResult_mode _ _ _, reqResult_why _ _ _⟩⟩
        simp [onlyChanges_iff, reqResult, reqTarget]
  · simp [onlyChanges_iff, drstEff, drstResult]
  · exact ((rget_rput_apart _ _ rfl).trans (rget_rput_apart _ _ rfl)).trans (rget_rput_same _ _ _ _ _ (by decide))
  · exact rget_rput_same _ _ _ _ _ (by decide)
  · exact (((RegsBut.refl _ _).rput (by decide)).rput (by decide)).rput (by decide)
  · have hbusy : (pdnBegun (s.order 6)).r R.SYS_REQ_STAT_PDN_BUSY = 1 := rget_rput_same _ _ _ _ _ (by decide)
    have hbut : RegsBut [0x1C] s.regs (pdnBegun (s.order 6)).regs := (RegsBut.refl _ _).rput (by decide)
    have honly : OnlyChanges [.sys, .regs] (s.order 6) (pdnBegun (s.order 6)) := by simp [onlyChanges_iff, pdnBegun]
    rw [pdnEff_begun (by exact hp) (by exact hm)]
    by_cases hrun : s.lan.run = true
    · rw [if_pos (by exact hrun)]
      refine ⟨honly, rfl, hbusy, hbut, fun _ => ?_, fun h => absurd hrun (by rw [h]; decide)⟩
      show { s.sys with pdnBusy := true, pdnHold := s.lan.run } = _
      rw [hrun]
    · rw [if_neg (by exact hrun), enterHold_of_service (s := pdnBegun (s.order 6)) hm]
      by_cases hh : s.sys.mode = .safeHold
      · rw [if_pos (by exact hh)]
        exact ⟨honly, rfl, hbusy, hbut, fun h => absurd h hrun, fun _ => ⟨hh, fun h => absurd hh h⟩⟩
      · rw [if_neg (by exact hh)]
        refine ⟨honly.trans ?_, rfl, hbusy, hbut, fun h => absurd h hrun, fun _ => ⟨rfl, fun _ => ⟨rfl, rfl⟩⟩⟩
        simp [onlyChanges_iff]
  · rw [pdnEff_refused (by exact h)]
    refine ⟨(reqResult_only _ _ _).mono (by decide), ?_, ?_, ?_⟩
    · exact reqResult_mode _ _ _
    · refine (reqResult_why _ _ _).trans ?_
      show (if pdnActive s = true then 6 else 1) % 16 = _
      split <;> rfl
    · exact reqResult_regsBut _ _ _
  · have hacc : ∀ act, act < 256 → sysCtrlWr act key s = .next (raiseAccess 0 true 0x18 (s.order 6)) := fun act ha => sysCtrlWr_wrongKey ha hk hl
    refine ⟨raiseAccess 0 true 0x18 (s.order 6), ?_, raiseAccess_only _ _ _ _, raised_raiseAccess (State.lands_blockUp hl), ?_, ?_, ?_⟩
    · rcases hc with rfl | rfl | rfl <;> exact hacc _ (by decide)
    · exact still_drst (raiseAccess_sys 0 true 0x18 (s.order 6))
    · exact still_pdnBusy (raiseAccess_sys 0 true 0x18 (s.order 6))
    · exact raiseAccess_mode _ _ _ _

end Sys2Proof.Machine
end

section
/-! The JTAG port (R585, R586; log entry 18). -/

namespace Sys2Proof.Machine

variable {s : State} {io : TapIn}

theorem execJtagTapClock_of_off (h : s.pwr.aoOk = false) : execJtagTapClock io s = .next s := by simp [execJtagTapClock, h]

theorem execJtagTapClock_reset (h : s.pwr.aoOk = true) (ht : io.trstN = false) :
    execJtagTapClock io s = .next { s with jtag := State.reset.jtag } := by
  simp only [execJtagTapClock, h, ht, Bool.not_true, Bool.not_false, Bool.false_eq_true, if_false, if_true]
  rfl

theorem execJtagTapClock_rise (h : s.pwr.aoOk = true) (ht : io.trstN = true) (hr : io.rising = true) :
    execJtagTapClock io s = .next (tapRise io s) := by simp [execJtagTapClock, h, ht, hr]

theorem execJtagTapClock_fall (h : s.pwr.aoOk = true) (ht : io.trstN = true) (hr : io.rising = false) :
    execJtagTapClock io s = .next (tapFall s) := by simp [execJtagTapClock, h, ht, hr]

/-! ### A rising edge -/

theorem tapCapture_idcode (h : s.jtag.instr = .idcode) :
    tapCapture s = (List.range 32).map fun i => (0xA204878D : Word).getLsbD i := by
  simp [tapCapture, State.tapEffect, h]

theorem tapCapture_bypass (h : s.jtag.instr = .bypass ∨ s.jtag.instr = .extest ∧ s.pwr.testMode = false) : tapCapture s = [false] := by
  rcases h with h | ⟨h, ht⟩
  · simp [tapCapture, State.tapEffect, h]
  · simp [tapCapture, State.tapEffect, h, ht]

theorem tapRise_only (io : TapIn) (s : State) : OnlyChanges [.jtag, .free] s (tapRise io s) := by simp [onlyChanges_iff, tapRise]

theorem tapRise_instr (io : TapIn) (s : State) :
    ((tapRise io s).jtag.st = .testLogicReset → (tapRise io s).jtag.instr = .idcode)
      ∧ ((tapRise io s).jtag.st ≠ .testLogicReset → (tapRise io s).jtag.instr = s.jtag.instr) :=
  ⟨fun h => if_pos (beq_iff_eq.2 h), fun h => if_neg fun e => h (beq_iff_eq.1 e)⟩

theorem tapRise_dr_capture (h : s.jtag.st = .captureDr) : (tapRise io s).jtag.dr = tapCapture s := by simp [tapRise, h]

theorem tapRise_dr_shift (h : s.jtag.st = .shiftDr) : (tapRise io s).jtag.dr = s.jtag.dr.tail ++ [io.tdi] := by simp [tapRise, h]

theorem tapRise_dr_other (hc : s.jtag.st ≠ .captureDr) (hs : s.jtag.st ≠ .shiftDr) : (tapRise io s).jtag.dr = s.jtag.dr := by
  unfold tapRise
  cases h : s.jtag.st with
  | captureDr => exact absurd h hc
  | shiftDr => exact absurd h hs
  | _ => simp [h]

theorem tapRise_free (h : s.jtag.st ≠ .captureDr) : (tapRise io s).free = s.free := by simp [tapRise, h]

/-! ### A falling edge -/

theorem tapFall_only (s : State) : OnlyChanges [.jtag] s (tapFall s) := by simp [onlyChanges_iff, tapFall]

theorem tapFall_keeps (s : State) :
    (tapFall s).jtag.st = s.jtag.st ∧ (tapFall s).jtag.dr = s.jtag.dr ∧ (tapFall s).jtag.ir = s.jtag.ir := by
  unfold tapFall
  cases h : s.jtag.st with
  | updateDr => cases s.tapEffect <;> simp [h]
  | _ => simp [h]

theorem tapFall_shiftDr (h : s.jtag.st = .shiftDr) : (tapFall s).jtag = { s.jtag with tdo := s.jtag.dr.headD false } := by
  simp [tapFall, h]

theorem tapFall_updateIr (h : s.jtag.st = .updateIr) : (tapFall s).jtag = { s.jtag with instr := tapInstr s.jtag.ir } := by
  simp [tapFall, h]

theorem tapFall_extest (h : s.jtag.st = .updateDr) (hi : s.jtag.instr = .extest) (ht : s.pwr.testMode = true) :
    (tapFall s).jtag = { s.jtag with bnd := s.jtag.dr } := by
  have he : s.tapEffect = .extest := by simp [State.tapEffect, hi, ht]
  simp [tapFall, h, he]

theorem tapFall_extest_low (h : s.jtag.st = .updateDr) (hi : s.jtag.instr = .extest) (ht : s.pwr.testMode = false) :
    (tapFall s).jtag = s.jtag := by
  have he : s.tapEffect = .bypass := by simp [State.tapEffect, hi, ht]
  simp [tapFall, h, he]

/-- Settles O55: the levels of TRST_N and of the edge choose the branch, and the state of the controller what it does. -/
theorem jtagPort : Obligations.JtagPort := by
  refine fun s io => ⟨execJtagTapClock_of_off, fun ha => ⟨execJtagTapClock_reset ha, fun ht hr => ⟨_, execJtagTapClock_rise ha ht hr, ?_⟩,
    fun ht hr => ⟨_, execJtagTapClock_fall ha ht hr, ?_⟩⟩⟩
  · obtain ⟨hreset, hkept⟩ := tapRise_instr io s
    exact ⟨tapRise_only io s, rfl, hreset, hkept, rfl, rfl, fun h hi => (tapRise_dr_capture h).trans (tapCapture_idcode hi),
      fun h hi => (tapRise_dr_capture h).trans (tapCapture_bypass hi), tapRise_dr_shift, tapRise_dr_other, tapRise_free⟩
  · obtain ⟨hst, hdr, hir⟩ := tapFall_keeps s
    exact ⟨tapFall_only s, hst, hdr, hir, tapFall_shiftDr, tapFall_updateIr, tapFall_extest, tapFall_extest_low⟩

end Sys2Proof.Machine
end

section
/-! Block resets whose own raisings await a BLK reaction (R502). -/

namespace Sys2Proof.Machine

/-- A device in which a BLK reaction awaits the network, port 0 is in use, and NET.PATH itself has the reaction BLK, which R512 allows it:
NET_FLT_CFG of NET.PATH is VEC 1, REACT 4, SEV 1. -/
def blkOnPath : State :=
  { State.reset with
    pwr := { State.reset.pwr with on := 0x1ff }
    net := { State.reset.net with ports := vmod State.reset.net.ports 0 fun p => { p with st := .up } }
    sys := { State.reset.sys with blkDue := 0x40 }
    regs := [(0x6F204, 0x10401)] }

/-- A BLK reaction awaits block 6 after a command. -/
def netBlkAwaits (o : Host.Outcome State Fault Refusal) : Bool :=
  match o with
  | .next t => t.sys.blkDue.getLsbD 6
  | _ => false

theorem netBlkAwaits_blkOnPath : netBlkAwaits (exec (.blkReset 6) blkOnPath) = true := by decide +kernel

/-- Refutes O54: a reset of the network takes down a path in use, so NET.PATH is raised; where its reaction is BLK, a BLK reaction awaits the
block again, and the bit that the statement has cleared is set. (R502 merges a BLK that arrives during the reset with it; the model raises
anew.) -/
theorem not_forcedRaisingsBlockResetsAndErrorPin : ¬ Obligations.ForcedRaisingsBlockResetsAndErrorPin := by
  unfold Obligations.ForcedRaisingsBlockResetsAndErrorPin
  rintro ⟨⟨-, hblk⟩, -⟩
  obtain ⟨t, hexec, hclear, -⟩ := (hblk blkOnPath 6).2 (by decide)
  have hawaits := netBlkAwaits_blkOnPath
  rw [hexec] at hawaits
  rw [netBlkAwaits] at hawaits
  exact absurd (hclear.symm.trans hawaits) (by decide)

end Sys2Proof.Machine
end

section
/-! Enabling and disabling a host ring (R117-R119). -/

namespace Sys2Proof.Machine

/-! ### A ring through its entries -/

theorem ringCount_en (s : State) (n : Fin 4) (now : Bool) : (ringCount s n now).rings[n].en = s.rings[n].en := by
  simp only [ringCount, Fin.getElem_fin, Vector.getElem_set_self]
  split <;> rfl

theorem ringEntry_en (s : State) (n : Fin 4) (b : Nat) (ws : List Word) (now : Bool) : (ringEntry s n b ws now).rings[n].en = s.rings[n].en := by
  unfold ringEntry
  rw [ringCount_en]
  simp

theorem writeCpl_en (s : State) (e : CplEntry) : (writeCpl s e).rings[(1 : Fin 4)].en = s.rings[(1 : Fin 4)].en := by
  unfold writeCpl
  split
  · exact ringEntry_en _ 1 _ _ _
  · rfl

theorem flushCpl_en (s : State) : (flushCpl s).rings[(1 : Fin 4)].en = s.rings[(1 : Fin 4)].en := by
  rw [flushCpl_eq_foldl]
  exact foldl_keeps (P := fun t => t.rings[(1 : Fin 4)].en = s.rings[(1 : Fin 4)].en) (fun t e h => (writeCpl_en t e).trans h) _ rfl

/-! ### Writes of HIF_RING_CFG -/

theorem ringCfg_lands {s : State} (h : s.lands 1 = true) (n : Fin 4) (eff : State → State) : hostWr (ringCfgOff n) eff s = eff (s.order 6) := by
  refine hostWr_lands eff ?_
  have : ringCfgOff n / 0x10000 = 1 := by unfold ringCfgOff; omega
  rw [this]
  exact h

/-- HIF.ACCESS leaves a register that no raising writes and that is not its count. -/
theorem raiseAccess_r (w : Bool) (a : Nat) (s : State) {f : RegField} {i j : Nat} (h : raiseLeaves (f.off i j))
    (hc : R.HIF_VIOL_CNT_TLP.apart 0 0 f i j = true) : (raiseAccess 1 w a s).r f i j = s.r f i j :=
  (State.r_congr (raiseWith_regs_leaves _ _ h)).trans (rget_rput_apart _ _ hc)

theorem log2size_leaves (n : Fin 4) : raiseLeaves (R.HIF_RING_CFG_LOG2SIZE.off n 0) := by
  refine raiseLeaves_of ?_
  revert n
  decide

theorem log2size_apart (n : Fin 4) : R.HIF_VIOL_CNT_TLP.apart 0 0 R.HIF_RING_CFG_LOG2SIZE n 0 = true := by
  revert n
  decide

/-- LOG2SIZE takes the value. -/
def ringSized (n : Fin 4) (m : Nat) (s : State) : State := s.w R.HIF_RING_CFG_LOG2SIZE m n

theorem ringSized_r {m : Nat} (hm : m < 32) (n : Fin 4) (s : State) : (ringSized n m s).r R.HIF_RING_CFG_LOG2SIZE n = m :=
  (State.r_w_same (by decide)).trans (Nat.mod_eq_of_lt hm)

theorem log2size_lt (val : BitVec 32) : bitsOf val.toNat 4 0 < 32 := Nat.mod_lt _ (by decide)

/-- A ring after ENABLE is set. -/
def ringEnabled (n : Fin 4) (m : Nat) (s : State) : State :=
  { ringSized n m s with rings := vmod s.rings n (ringFresh n), evs := if n = 3 then { s.evs with telAt := s.tb } else s.evs }

theorem ringEnabled_self (n : Fin 4) (m : Nat) (s : State) : (ringEnabled n m s).rings[n] = ringFresh n s.rings[n] := by
  simp [ringEnabled, vmod]

theorem ringEnabled_other {n k : Fin 4} (h : k ≠ n) (m : Nat) (s : State) : (ringEnabled n m s).rings[k] = s.rings[k] :=
  set_getElem_other _ _ h

theorem ringEnabled_only (n : Fin 4) (m : Nat) (s : State) : OnlyChanges [.rings, .regs, .evs] s (ringEnabled n m s) := by
  simp [onlyChanges_iff, ringEnabled, ringSized]

section
variable {n : Fin 4} {val : BitVec 32} {s : State}

theorem ringCfgEff_idle (hen : s.rings[n].en = false) : ringCfgEff n val s =
    let m := bitsOf val.toNat 4 0
    if !val.getLsbD 31 then ringSized n m s
    else if m < 6 || 16 < m || (n = 0 && !s.rings[(1 : Fin 4)].en) then raiseAccess 1 true (ringCfgOff n) (ringSized n m s)
    else if n = 1 then flushCpl (ringEnabled n m s) else ringEnabled n m s := by
  have hen' : ¬ s.rings[n].en = true := by rw [hen]; decide
  unfold ringCfgEff
  rw [if_neg hen']
  rfl

/-- ENABLE is set on a ring that is not enabled, with a size that R118 allows. -/
theorem ringCfgEff_enable (hen : s.rings[n].en = false) (hw : val.getLsbD 31 = true) (h6 : 6 ≤ bitsOf val.toNat 4 0)
    (h16 : bitsOf val.toNat 4 0 ≤ 16) (h0 : n = 0 → s.rings[(1 : Fin 4)].en = true) :
    ringCfgEff n val s = if n = 1 then flushCpl (ringEnabled n (bitsOf val.toNat 4 0) s) else ringEnabled n (bitsOf val.toNat 4 0) s := by
  have hgo : ¬ (!val.getLsbD 31) = true := by rw [hw]; decide
  have hok : ¬ (decide (bitsOf val.toNat 4 0 < 6) || decide (16 < bitsOf val.toNat 4 0) || (decide (n = 0) && !s.rings[(1 : Fin 4)].en)) = true := by
    simp only [Bool.or_eq_true, decide_eq_true_eq, Bool.and_eq_true, Bool.not_eq_true']
    rintro ((h | h) | ⟨h, h'⟩)
    · omega
    · omega
    · rw [h0 h] at h'
      exact absurd h' (by decide)
  rw [ringCfgEff_idle hen]
  dsimp only
  rw [if_neg hgo, if_neg hok]

theorem ringCfgEff_enable_refused (hen : s.rings[n].en = false) (hw : val.getLsbD 31 = true)
    (h : bitsOf val.toNat 4 0 < 6 ∨ 16 < bitsOf val.toNat 4 0 ∨ n = 0 ∧ s.rings[(1 : Fin 4)].en = false) :
    ringCfgEff n val s = raiseAccess 1 true (ringCfgOff n) (ringSized n (bitsOf val.toNat 4 0) s) := by
  have hgo : ¬ (!val.getLsbD 31) = true := by rw [hw]; decide
  have hbad : (decide (bitsOf val.toNat 4 0 < 6) || decide (16 < bitsOf val.toNat 4 0) || (decide (n = 0) && !s.rings[(1 : Fin 4)].en)) = true := by
    simp only [Bool.or_eq_true, decide_eq_true_eq, Bool.and_eq_true, Bool.not_eq_true', or_assoc]
    exact h
  rw [ringCfgEff_idle hen]
  dsimp only
  rw [if_neg hgo, if_pos hbad]

theorem ringCfgEff_size (hen : s.rings[n].en = false) (hw : val.getLsbD 31 = false) :
    ringCfgEff n val s = ringSized n (bitsOf val.toNat 4 0) s := by
  rw [ringCfgEff_idle hen]
  exact if_pos (by rw [hw]; rfl)

/-- HIF.ACCESS where LOG2SIZE of an enabled ring would change. -/
def sizeRefused (n : Fin 4) (m : Nat) (s : State) : State :=
  if m != s.r R.HIF_RING_CFG_LOG2SIZE n then raiseAccess 1 true (ringCfgOff n) s else s

theorem sizeRefused_rings (n : Fin 4) (m : Nat) (s : State) : (sizeRefused n m s).rings = s.rings := by
  unfold sizeRefused
  split
  · rw [raiseAccess_only _ _ _ _ .rings (by decide)]
  · rfl

theorem sizeRefused_only (n : Fin 4) (m : Nat) (s : State) : OnlyChanges raiseParts s (sizeRefused n m s) :=
  .ite _ (raiseAccess_only _ _ _ _) (.refl _ _)

theorem sizeRefused_of_same {m : Nat} (h : m = s.r R.HIF_RING_CFG_LOG2SIZE n) : sizeRefused n m s = s :=
  if_neg (by rw [h]; simp)

theorem sizeRefused_of_other {m : Nat} (h : m ≠ s.r R.HIF_RING_CFG_LOG2SIZE n) :
    sizeRefused n m s = raiseAccess 1 true (ringCfgOff n) s := if_pos (bne_iff_ne.2 h)

theorem ringCfgEff_enabled (hen : s.rings[n].en = true) : ringCfgEff n val s =
    let t := sizeRefused n (bitsOf val.toNat 4 0) s
    if val.getLsbD 31 then t
    else if n = 1 && (t.rings[(0 : Fin 4)].en || t.rings[(0 : Fin 4)].busy) then raiseAccess 1 true (ringCfgOff n) t
    else { t with rings := vmod t.rings n fun r => { r with en := false, busy := true } } := by
  unfold ringCfgEff
  rw [if_pos hen]
  rfl

/-- ENABLE is cleared. -/
theorem ringCfgEff_disable (hen : s.rings[n].en = true) (hw : val.getLsbD 31 = false)
    (h : n = 1 → s.rings[(0 : Fin 4)].en = false ∧ s.rings[(0 : Fin 4)].busy = false) : ringCfgEff n val s =
    { sizeRefused n (bitsOf val.toNat 4 0) s with rings := s.rings.set n { s.rings[n] with en := false, busy := true } } := by
  have hgo : ¬ (decide (n = 1) && (s.rings[(0 : Fin 4)].en || s.rings[(0 : Fin 4)].busy)) = true := by
    simp only [Bool.and_eq_true, decide_eq_true_eq, Bool.or_eq_true, not_and]
    intro hn
    obtain ⟨he, hb⟩ := h hn
    rw [he, hb]
    decide
  rw [ringCfgEff_enabled hen]
  simp only [sizeRefused_rings]
  rw [if_neg (by rw [hw]; decide), if_neg hgo]
  rfl

/-- The completion ring is not disabled before the submission ring. -/
theorem ringCfgEff_disable_refused (hn : n = 1) (hen : s.rings[n].en = true) (hw : val.getLsbD 31 = false)
    (h : s.rings[(0 : Fin 4)].en = true ∨ s.rings[(0 : Fin 4)].busy = true) :
    ringCfgEff n val s = raiseAccess 1 true (ringCfgOff n) (sizeRefused n (bitsOf val.toNat 4 0) s) := by
  have hno : (decide (n = 1) && (s.rings[(0 : Fin 4)].en || s.rings[(0 : Fin 4)].busy)) = true := by
    simp only [Bool.and_eq_true, decide_eq_true_eq, Bool.or_eq_true]
    exact ⟨hn, h⟩
  rw [ringCfgEff_enabled hen]
  simp only [sizeRefused_rings]
  rw [if_neg (by rw [hw]; decide), if_pos hno]

theorem execRingDisableDone_eq (hb : s.rings[n].busy = true) (h : n = 0 → s.dsc.fetchOut = [] ∧ ∀ f ∈ s.dsc.flights, f.peer.isSome = true) :
    execRingDisableDone n s = .next { s with rings := s.rings.set n { s.rings[n] with busy := false } } := by
  have hgo : (s.rings[n].busy && (n != 0 || (s.dsc.fetchOut.isEmpty && !s.dsc.flights.any (·.peer.isNone)))) = true := by
    rw [hb, Bool.true_and]
    by_cases hn : n = 0
    · obtain ⟨hout, hpeer⟩ := h hn
      rw [hout]
      simpa [hn] using fun f hf => Option.isSome_iff_ne_none.1 (hpeer f hf)
    · simp [hn]
  rw [execRingDisableDone, if_pos hgo]
  rfl

end

/-- What ENABLE leaves, where completions that wait may follow. -/
theorem ringEnabled_flushed (n : Fin 4) {m : Nat} (hm : m < 32) (u : State) :
    let t := if n = 1 then flushCpl (ringEnabled n m u) else ringEnabled n m u
    t.rings[n].en = true ∧ t.ringSize n = 2 ^ m
      ∧ (n ≠ 1 ∨ u.dsc.cplq = [] → t.rings[n].idx = 0 ∧ t.rings[n].db = 0 ∧ t.rings[n].phase = (n != 0) ∧ OnlyChanges [.rings, .regs, .evs] u t)
      ∧ (∀ k, k ≠ n → t.rings[k] = u.rings[k]) ∧ OnlyChanges [.rings, .regs, .evs, .dsc, .hif, .tx] u t := by
  have hself := ringEnabled_self n m u
  have honly := ringEnabled_only n m u
  have hsize : (ringEnabled n m u).ringSize n = 2 ^ m := by
    rw [State.ringSize, show (ringEnabled n m u).r R.HIF_RING_CFG_LOG2SIZE n = m from ringSized_r hm n u]
  have hquiet : (ringEnabled n m u).rings[n].idx = 0 ∧ (ringEnabled n m u).rings[n].db = 0 ∧ (ringEnabled n m u).rings[n].phase = (n != 0)
      ∧ OnlyChanges [.rings, .regs, .evs] u (ringEnabled n m u) := by
    rw [hself]
    exact ⟨rfl, rfl, rfl, honly⟩
  dsimp only
  split
  case isTrue hn =>
    subst hn
    have hw := flushCpl_written (ringEnabled 1 m u)
    refine ⟨?_, ?_, fun hq => ?_, fun k hk => (hw.others k hk).trans (ringEnabled_other hk m u), (honly.mono (by decide)).trans (hw.only.mono (by decide))⟩
    · rw [flushCpl_en, hself]
      rfl
    · rw [← hsize]
      exact congrArg (2 ^ ·) (State.r_congr (by rw [hw.only .regs (by decide)]))
    · rw [flushCpl_of_empty (by exact hq.resolve_left (by decide))]
      exact hquiet
  case isFalse => exact ⟨by rw [hself]; rfl, hsize, fun _ => hquiet, fun k hk => ringEnabled_other hk m u, honly.mono (by decide)⟩

/-- Settles O34: each write of HIF_RING_CFG is followed through the branches of its effect. -/
theorem ringEnableAndDisable : Obligations.RingEnableAndDisable := by
  rintro s u n val m hl rfl rfl
  have henable : exec (.ringEnable n val) s = .next (ringCfgEff n val (s.order 6)) := congrArg _ (ringCfg_lands hl n _)
  have hdisable : exec (.ringDisable n val) s = .next (ringCfgEff n val (s.order 6)) := congrArg _ (ringCfg_lands hl n _)
  have hup : ∀ m, (ringSized n m (s.order 6)).blockUp 1 = true := fun _ => State.lands_blockUp hl
  have hsized : ∀ m, OnlyChanges raiseParts (s.order 6) (ringSized n m (s.order 6)) := fun _ => (State.w_only _ _ _ _ _).mono (by decide)
  have hsize := sizeRefused_only n (bitsOf val.toNat 4 0) (s.order 6)
  refine ⟨fun hw hen => ⟨fun h6 h16 h0 => ⟨_, henable.trans (congrArg _ (ringCfgEff_enable (by exact hen) hw h6 h16 h0)), ?_⟩,
      fun h => ⟨_, henable.trans (congrArg _ (ringCfgEff_enable_refused (by exact hen) hw h)), ?_, ?_, ?_⟩⟩,
    fun hw hen => ⟨fun h => ⟨_, hdisable.trans (congrArg _ (ringCfgEff_disable (by exact hen) hw h)), rfl, fun hm => ?_, ?_⟩,
      fun hn h => ⟨_, hdisable.trans (congrArg _ (ringCfgEff_disable_refused hn (by exact hen) hw h)), ?_, ?_, ?_⟩⟩,
    fun hw hen => ⟨_, hdisable.trans (congrArg _ (ringCfgEff_size (by exact hen) hw)), ringSized_r (log2size_lt val) n _, State.w_only _ _ _ _ _⟩,
    fun hb h => ⟨_, execRingDisableDone_eq hb h, rfl, by simp [onlyChanges_iff]⟩,
    fun hen hne hw => ⟨_, henable.trans (congrArg _ ((ringCfgEff_enabled (by exact hen)).trans (if_pos hw))), ?_, ?_, ?_, ?_⟩⟩
  · exact ringEnabled_flushed n (log2size_lt val) (s.order 6)
  · exact raiseAccess_only _ _ _ _ .rings (by decide)
  · exact raised_raiseAccess (hup _)
  · exact (hsized _).trans (raiseAccess_only _ _ _ _)
  · rw [sizeRefused_of_same (by exact hm)]
    simp [onlyChanges_iff]
  · have hrings : OnlyChanges (.rings :: raiseParts) (sizeRefused n (bitsOf val.toNat 4 0) (s.order 6))
        { sizeRefused n (bitsOf val.toNat 4 0) (s.order 6) with rings := s.rings.set n { s.rings[n] with en := false, busy := true } } := by
      simp [onlyChanges_iff, raiseParts]
    exact (hsize.mono (by decide)).trans hrings
  · rw [raiseAccess_only _ _ _ _ .rings (by decide), sizeRefused_rings]
    rfl
  · refine raised_raiseAccess ?_
    rw [State.blockUp_congr (hsize .pwr (by decide))]
    exact hup 0
  · exact hsize.trans (raiseAccess_only _ _ _ _)
  · exact sizeRefused_rings _ _ _
  · rw [sizeRefused_of_other (by exact hne.symm)]
    exact raised_raiseAccess (hup 0)
  · exact hsize
  · rw [sizeRefused_of_other (by exact hne.symm)]
    exact raiseAccess_r true (ringCfgOff n) (s.order 6) (log2size_leaves n) (log2size_apart n)

end Sys2Proof.Machine
end

section
/-! Notices, events, telemetry records and the hold time of a ring (R100, R132, R143-R149). -/

namespace Sys2Proof.Machine

/-! ### Entries -/

theorem msi_canSend (h : Hif) (v : Nat) : (h.msi v).1.canSend = h.canSend := by
  have hs := Hif.still_msi h v
  unfold Hif.still at hs
  rw [hs]
  rfl

theorem ringCount_idx (s : State) (n : Fin 4) (now : Bool) : (ringCount s n now).rings[n].idx = s.rings[n].idx := by
  simp only [ringCount, Fin.getElem_fin, Vector.getElem_set_self]
  split <;> rfl

/-- The words that an entry writes: word 0 takes the PHASE bit. -/
def phased (s : State) (n : Fin 4) (b : Nat) (w : Word) : Word := if s.rings[n].phase then w ||| BitVec.ofNat 32 (2 ^ b) else w

/-- An entry stands at the index of its ring, and the index moves. -/
theorem ringEntry_writes (s : State) (n : Fin 4) (b : Nat) (w : Word) (l : List Word) (now : Bool) :
    Tx.ring n (s.ringAddr n s.rings[n].idx) s.rings[n].idx (phased s n b w :: l) ∈ (ringEntry s n b (w :: l) now).tx
      ∧ (ringEntry s n b (w :: l) now).rings[n].idx = (s.rings[n].idx + 1) % s.ringSize n := by
  refine ⟨List.mem_append_right _ List.mem_cons_self, ?_⟩
  unfold ringEntry
  rw [ringCount_idx]
  simp

theorem ringEntry_canSend (s : State) (n : Fin 4) (b : Nat) (ws : List Word) (now : Bool) :
    (ringEntry s n b ws now).hif.canSend = s.hif.canSend := msi_canSend _ _

theorem nmt_of_canSend {s : State} (h : s.hif.canSend = true) : s.nmt = { s with tx := Tx.msi 0 :: s.tx } := by
  simp [State.nmt, Hif.nmt, h]

/-- A word that leaves bit 31 clear takes the PHASE bit there. -/
theorem phased_toNat {w : Nat} (hw : w < 2 ^ 31) (s : State) (n : Fin 4) :
    (phased s n 31 (BitVec.ofNat 32 w)).toNat = 2 ^ 31 * b2n s.rings[n].phase + w := by
  unfold phased
  cases s.rings[n].phase with
  | true =>
    have hor := Nat.two_pow_add_eq_or_of_lt hw 1
    rw [if_pos rfl, BitVec.toNat_or, BitVec.toNat_ofNat, BitVec.toNat_ofNat, Nat.mod_eq_of_lt (by omega), Nat.mod_eq_of_lt (by decide),
      Nat.or_comm, b2n, ← Nat.mul_one (2 ^ 31), ← hor]
    rfl
  | false =>
    rw [if_neg Bool.false_ne_true, BitVec.toNat_ofNat, Nat.mod_eq_of_lt (by omega)]
    exact (Nat.zero_add w).symm

theorem phased_bit31 {w : Nat} (hw : w < 2 ^ 31) (s : State) (n : Fin 4) :
    (phased s n 31 (BitVec.ofNat 32 w)).getLsbD 31 = s.rings[n].phase := by
  rw [BitVec.getLsbD, phased_toNat hw, Nat.testBit_eq_decide_div_mod_eq]
  cases s.rings[n].phase with
  | true =>
    have hdiv : (2 ^ 31 * b2n true + w) / 2 ^ 31 % 2 = 1 := by
      show (2 ^ 31 * 1 + w) / 2 ^ 31 % 2 = 1
      omega
    rw [hdiv]
    rfl
  | false =>
    have hdiv : (2 ^ 31 * b2n false + w) / 2 ^ 31 % 2 = 0 := by
      show (2 ^ 31 * 0 + w) / 2 ^ 31 % 2 = 0
      omega
    rw [hdiv]
    rfl

/-- Word 0 of an event entry before its PHASE bit. -/
def evtWord0 (e : Evt) : Nat := e.src.code.toNat + 65536 * e.src.blk.toNat + 2 ^ 20 * e.sev.toNat + 2 ^ 24 * e.react.toNat

theorem evtWord0_spec (e : Evt) : evtWord0 e < 2 ^ 31 ∧ ∀ b, bitsOf (2 ^ 31 * b + evtWord0 e) 4 0 = e.src.code.toNat
    ∧ bitsOf (2 ^ 31 * b + evtWord0 e) 19 16 = e.src.blk.toNat := by
  have hc := e.src.code.isLt
  have hb := e.src.blk.isLt
  have hs := e.sev.isLt
  have hr := e.react.isLt
  unfold evtWord0 bitsOf
  refine ⟨by omega, fun b => ⟨by omega, by omega⟩⟩

/-! ### Vector 0 messages whose entries no ring takes (R100, R101) -/

theorem nmt_canSend (s : State) : s.nmt.hif.canSend = s.hif.canSend := by
  have hs := Hif.still_nmt s.hif
  unfold Hif.still at hs
  show (s.hif.nmt.1).canSend = _
  rw [hs]
  rfl

/-- Messages that leave one after another. -/
theorem foldl_nmt_sent (l : List Evt) {s : State} (h : s.hif.canSend = true) :
    (l.foldl (fun s _ => s.nmt) s).tx = List.replicate l.length (Tx.msi 0) ++ s.tx := by
  induction l generalizing s with
  | nil => rfl
  | cons e l ih =>
    rw [List.foldl_cons, ih ((nmt_canSend s).trans h), nmt_of_canSend h, List.length_cons, List.replicate_succ', List.append_assoc]
    rfl

/-- Messages that are held. -/
theorem foldl_nmt_held (l : List Evt) {s : State} (h : s.hif.canSend = false) :
    (l.foldl (fun s _ => s.nmt) s).hif.nmtHeld = s.hif.nmtHeld + l.length := by
  induction l generalizing s with
  | nil => rfl
  | cons e l ih =>
    have hone : s.nmt.hif.nmtHeld = s.hif.nmtHeld + 1 := by simp [State.nmt, Hif.nmt, h]
    rw [List.foldl_cons, ih ((nmt_canSend s).trans h), hone, List.length_cons]
    omega

theorem foldl_nmt_only (l : List Evt) (s : State) : OnlyChanges [.hif, .tx, .regs] s (l.foldl (fun s _ => s.nmt) s) :=
  .foldl _ (fun s _ => State.nmt_only s) _ _

/-- The entries once no ring takes them. -/
def unringed (s : State) (e : Evt) : Evt := { e with nmtDue := false, nmtHeld := e.nmtHeld || (e.nmtDue && !s.hif.canSend) }

theorem nmtFlush_eq (s : State) : nmtFlush s = (s.evs.staging.filter (·.nmtDue)).foldl (fun s _ => s.nmt)
    { s with evs := { s.evs with staging := s.evs.staging.map (unringed s) } } := rfl

theorem execNoticeWrite_eq {s : State} {e : CplEntry} {l : List CplEntry} (hq : s.dsc.noticeq = e :: l) (hr : s.ringReady 1 = true) :
    execNoticeWrite s = .next (ringEntry { s with dsc := { s.dsc with noticeq := l } } 1 15 (cplWords e) false) := by
  simp [execNoticeWrite, hq, hr]

theorem execEventWrite_unready {s : State} (hd : s.dom 4 = true) (hr : s.ringReady 2 = false) : execEventWrite s = .next (nmtFlush s) := by
  simp [execEventWrite, hd, hr]

theorem execEventWrite_ready {s : State} {e : Evt} {l : List Evt} (hl : s.evs.staging = e :: l) (hd : s.dom 4 = true)
    (hr : s.ringReady 2 = true) : execEventWrite s = .next
      (let t := ringEntry { s with evs := { s.evs with staging := l } } 2 31 (evtWords e) false
      if e.nmtDue then t.nmt else t) := by
  simp [execEventWrite, hd, hr, hl]

/-- An event entry is written, and its vector 0 message follows. -/
theorem eventWritten {s : State} {e : Evt} {l : List Evt} (hl : s.evs.staging = e :: l) (hd : s.dom 4 = true) (hr : s.ringReady 2 = true) :
    ∃ t w0 w1, execEventWrite s = .next t ∧ t.evs = { s.evs with staging := l }
      ∧ Tx.ring 2 (s.ringAddr 2 s.rings[(2 : Fin 4)].idx) s.rings[(2 : Fin 4)].idx
          [w0, w1, e.acc.addr, lo32 e.acc.tAcc, hi32 e.acc.tAcc, lo32 e.tRaise, hi32 e.tRaise, e.detail] ∈ t.tx
      ∧ bitsOf w0.toNat 4 0 = e.src.code.toNat ∧ bitsOf w0.toNat 19 16 = e.src.blk.toNat ∧ w0.getLsbD 31 = s.rings[(2 : Fin 4)].phase
      ∧ (e.nmtDue = true → s.hif.canSend = true → t.tx.head? = some (Tx.msi 0))
      ∧ (e.nmtDue = false → t.regs = s.regs) ∧ OnlyChanges [.evs, .rings, .hif, .tx, .regs] s t := by
  obtain ⟨hlt, hbits⟩ := evtWord0_spec e
  obtain ⟨hcode, hblk⟩ := hbits (b2n s.rings[(2 : Fin 4)].phase)
  have hw := phased_toNat hlt s 2
  have htx := (ringEntry_writes { s with evs := { s.evs with staging := l } } 2 31 (BitVec.ofNat 32 (evtWord0 e)) (evtWords e).tail false).1
  have honly := ringEntry_only { s with evs := { s.evs with staging := l } } 2 31 (evtWords e) false
  have hcs := ringEntry_canSend { s with evs := { s.evs with staging := l } } 2 31 (evtWords e) false
  have hstage : OnlyChanges [.evs, .rings, .hif, .tx, .regs] s { s with evs := { s.evs with staging := l } } := by simp [onlyChanges_iff]
  have hentry := hstage.trans (honly.mono (by decide))
  refine ⟨_, phased s 2 31 (BitVec.ofNat 32 (evtWord0 e)),
    BitVec.ofNat 32 (e.rep + 65536 * e.acc.master.toNat + 2 ^ 20 * e.acc.access.toNat), execEventWrite_ready hl hd hr, ?_, ?_, ?_, ?_, phased_bit31 hlt s 2, fun hn hc => ?_,
    fun hn => ?_, ?_⟩
  · dsimp only
    split
    · exact honly .evs (by decide)
    · exact honly .evs (by decide)
  · dsimp only
    split
    · exact List.mem_append_right _ htx
    · exact htx
  · rw [hw, hcode]
  · rw [hw, hblk]
  · dsimp only
    rw [if_pos hn, nmt_of_canSend (hcs.trans hc)]
    rfl
  · dsimp only
    rw [if_neg (by rw [hn]; decide)]
    exact honly .regs (by decide)
  · dsimp only
    split
    · exact hentry.trans ((State.nmt_only _).mono (by decide))
    · exact hentry

/-! ### Telemetry records (R145, R146) -/

theorem execTelemetryRecord_eq {s : State} (hd : s.dom 5 = true) (he : s.rings[(3 : Fin 4)].en = true) (hr : s.pwr.refOk = true)
    (hp : s.telPeriod ≠ 0) : execTelemetryRecord s = .next (telRecord (s.at (s.evs.telAt + s.telPeriod))) := by
  have hgo : (s.dom 5 && s.rings[(3 : Fin 4)].en && s.pwr.refOk && s.telPeriod != 0) = true := by
    rw [hd, he, hr, bne_iff_ne.2 hp]
    rfl
  exact congrArg _ (if_pos hgo)

/-- What a telemetry record leaves of the events' part. -/
def telReset (s : State) (e : Evs) : Evs :=
  { e with telSeq := e.telSeq + 1, telAt := s.tb, telAdmit := 0, telLatePast := 0,
           telStgMax := (s.dsc.flights.filter (·.phase == .staged)).length,
           telMargin := Vector.ofFn fun l => BitVec.ofNat 8 (s.r R.LAN_PACE_MARGIN l),
           telTj := BitVec.ofNat 8 s.junction, telDrainMax := 0 }

/-- The record written, or skipped and counted. -/
def telWritten (u : State) : State := if u.ringReady 3 then ringEntry u 3 31 (telWords u) false else u.add R.HIF_RING_LOST_CNT 1 3

theorem telWritten_only (u : State) : OnlyChanges [.rings, .hif, .tx, .regs] u (telWritten u) :=
  .ite _ ((ringEntry_only _ _ _ _ _).mono (by decide)) ((State.add_only _ _ _ _ _).mono (by decide))

theorem telRecord_leaves (u : State) : (telRecord u).tb = u.tb ∧ (telRecord u).evs = telReset u u.evs
    ∧ OnlyChanges [.evs, .rings, .hif, .tx, .regs] u (telRecord u)
    ∧ (u.ringReady 3 = true → ∃ ws, Tx.ring 3 (u.ringAddr 3 u.rings[(3 : Fin 4)].idx) u.rings[(3 : Fin 4)].idx ws ∈ (telRecord u).tx ∧ ws.length = 8)
    ∧ (u.ringReady 3 = false → (telRecord u).tx = u.tx ∧ (telRecord u).rings = u.rings
      ∧ (telRecord u).r R.HIF_RING_LOST_CNT 3 = min (u.r R.HIF_RING_LOST_CNT 3 + 1) (2 ^ 32 - 1)) := by
  have heq : telRecord u = { telWritten u with evs := telReset u (telWritten u).evs } := rfl
  have honly := telWritten_only u
  rw [heq]
  refine ⟨honly .tb (by decide), ?_, ?_, fun h => ?_, fun h => ?_⟩
  · rw [honly .evs (by decide)]
  · refine (honly.mono (by decide)).trans ?_
    simp [onlyChanges_iff]
  · have hw : telWritten u = ringEntry u 3 31 (telWords u) false := if_pos h
    exact ⟨_, by rw [hw]; exact (ringEntry_writes u 3 31 _ _ false).1, rfl⟩
  · have hw : telWritten u = u.add R.HIF_RING_LOST_CNT 1 3 := if_neg (by rw [h]; decide)
    rw [hw]
    exact ⟨rfl, rfl, rget_radd _ _ _ _ _ (by decide)⟩

theorem msi_of_sent {h : Hif} {v : Nat} (hc : h.canSend = true) (hm : h.vecMasked v = false) (hv : v ≠ 0) :
    h.msi v = (h, [Tx.msi (BitVec.ofNat 5 v)]) := by
  simp [Hif.msi, hc, hm, hv]

/-! ### The hold time (R148) -/

theorem execIrqHoldExpire_eq {s : State} {n : Fin 4} {t0 : Nat} (h0 : s.rings[n].since = some t0) (hh : s.r R.HIF_RING_IRQ_HOLD_US n ≠ 0)
    (hd : s.dom 5 = true) (hc : s.comes (t0 + s.r R.HIF_RING_IRQ_HOLD_US n * us) = true) : execIrqHoldExpire n s = .next
      (let u := s.at (t0 + s.r R.HIF_RING_IRQ_HOLD_US n * us)
      { u with rings := vmod u.rings n fun r => { r with cnt := 0, since := none }
               hif := (u.hif.msi (u.r R.HIF_RING_IRQ_VEC n)).1
               tx := (u.hif.msi (u.r R.HIF_RING_IRQ_VEC n)).2 ++ u.tx }) := by
  have hgo : ¬ (decide (s.r R.HIF_RING_IRQ_HOLD_US n = 0) || !s.dom 5 || !s.comes (t0 + s.r R.HIF_RING_IRQ_HOLD_US n * us)) = true := by
    rw [hd, hc, decide_eq_false hh]
    decide
  rw [execIrqHoldExpire, h0]
  exact congrArg _ (if_neg hgo)

/-- Settles O32: an entry is `ringEntry_writes`, a message `foldl_nmt_sent` or `foldl_nmt_held`. -/
theorem ringEntries : Obligations.RingEntries := by
  refine fun s => ⟨fun e l hq hr => ?_, fun e l hl hd hr => ?_, fun hd hr => ⟨_, execEventWrite_unready hd hr, ?_⟩,
    fun hd he href hp => ⟨_, execTelemetryRecord_eq hd he href hp, ?_⟩, fun n t0 due h0 hh hd hdue hc => ?_⟩
  · obtain ⟨htx, hidx⟩ := ringEntry_writes { s with dsc := { s.dsc with noticeq := l } } 1 15
      (BitVec.ofNat 32 (e.status.code + 256 * e.opcode.toNat + 16384 * b2n e.notice + 65536 * e.ticket.toNat)) [e.tag, lo32 e.drain, hi32 e.drain] false
    refine ⟨_, _, execNoticeWrite_eq hq hr, ?_, htx, hidx, ?_⟩
    · exact ringEntry_only _ _ _ _ _ .dsc (by decide)
    · refine OnlyChanges.trans ?_ ((ringEntry_only _ _ _ _ _).mono (by decide))
      simp [onlyChanges_iff]
  · exact eventWritten hl hd hr
  · have hstage : OnlyChanges [.evs, .hif, .tx, .regs] s { s with evs := { s.evs with staging := s.evs.staging.map (unringed s) } } := by
      simp [onlyChanges_iff]
    have hfold := foldl_nmt_only (s.evs.staging.filter (·.nmtDue)) { s with evs := { s.evs with staging := s.evs.staging.map (unringed s) } }
    rw [nmtFlush_eq]
    have hevs := hfold .evs (by decide)
    refine ⟨hstage.trans (hfold.mono (by decide)), ?_, fun e he => ?_, fun hc => ?_, fun hc => ?_⟩
    · rw [hevs]
      exact List.length_map _
    · rw [hevs] at he
      obtain ⟨e', -, rfl⟩ := List.mem_map.1 he
      rfl
    · rw [foldl_nmt_sent _ (by exact hc), List.map_const']
    · exact foldl_nmt_held _ (by exact hc)
  · have hat : (s.at (s.evs.telAt + s.telPeriod)).tb = max s.tb (s.evs.telAt + s.telPeriod) := State.at_tb_ok s _ href
    obtain ⟨htb, hevs, honly, hready, hfull⟩ := telRecord_leaves (s.at (s.evs.telAt + s.telPeriod))
    refine ⟨htb.trans hat, ?_, ?_, ?_, hready, hfull, ?_⟩
    · rw [hevs]; rfl
    · rw [hevs, htb]; rfl
    · rw [hevs]; rfl
    · exact ((State.at_only s _).mono (by decide)).trans (honly.mono (by decide))
  · subst hdue
    refine ⟨_, execIrqHoldExpire_eq h0 hh hd hc, ?_, ?_, rfl, ?_, fun hsend hmask hvec => ?_⟩
    · simp [vmod]
    · simp [vmod]
    · refine OnlyChanges.trans ((State.at_only s (t0 + s.r R.HIF_RING_IRQ_HOLD_US n * us)).mono (by decide)) ?_
      simp [onlyChanges_iff]
    · exact congrArg (·.2 ++ s.tx) (msi_of_sent hsend hmask hvec)

end Sys2Proof.Machine
end

section
/-! Resets of the endpoint, and D3hot (R93, R106, R107). -/

namespace Sys2Proof.Machine

/-! ### A reset of the endpoint (R106, R107) -/

theorem endpointReset_only (s : State) : OnlyChanges [.regs, .hif, .rings, .dsc, .evs] s (endpointReset s) := by
  simp [onlyChanges_iff, endpointReset]

theorem hifRegs_mget (m : Map Word) (o : Nat) :
    mget (hifRegs m) o = if (0x10000 ≤ o ∧ o < 0x1F000) ∧ o ≠ 0x10010 then none else mget m o := by
  rw [hifRegs, mget_filter_key fun o => !(decide (0x10000 ≤ o ∧ o < 0x1F000)) || o == 0x10010]
  by_cases h : (0x10000 ≤ o ∧ o < 0x1F000) ∧ o ≠ 0x10010
  · obtain ⟨hin, hne⟩ := h
    simp [hin, hne]
  · rw [if_neg h, if_pos]
    simp only [Bool.or_eq_true, Bool.not_eq_true', decide_eq_false_iff_not, beq_iff_eq]
    exact (not_and_or.1 h).imp id not_not.1

/-! ### The data link goes down (R93, R106) -/

/-- The endpoint after the data link went down, before HIF.LINK_DOWN. -/
def linkGone (s : State) : State := endpointReset { s with hif := { s.hif with dlUp := false, width := 0, speed := 0, d3 := false } }

theorem linkDown_eq (s : State) : linkDown s = raiseIf s.hif.dlUp S.HIF_LINK_DOWN 0 (linkGone s) := rfl

theorem raiseIf_hif (b : Bool) (c : Src) (d : Nat) (s : State) : s.hif.still (raiseIf b c d s).hif := by
  unfold raiseIf
  split
  · exact raiseWith_hif _ _
  · rfl

theorem linkGone_only (s : State) : OnlyChanges [.regs, .hif, .rings, .dsc, .evs] s (linkGone s) := by
  simp [onlyChanges_iff, linkGone, endpointReset]

theorem linkDown_still (s : State) : Hif.still { hifFresh s.hif with dlUp := false, width := 0, speed := 0 } (linkDown s).hif :=
  raiseIf_hif _ _ _ (linkGone s)

/-- What the loss of the data link leaves of the endpoint. -/
theorem linkDown_hif (s : State) : (linkDown s).hif.dlUp = false ∧ (linkDown s).hif.latch = true ∧ (linkDown s).hif.bme = false
    ∧ (linkDown s).hif.hbSeen = false ∧ (linkDown s).hif.d3 = false ∧ (linkDown s).hif.cfg = {} ∧ (linkDown s).hif.msixEn = false
    ∧ (linkDown s).hif.perstN = s.hif.perstN ∧ (linkDown s).hif.ready = s.hif.ready ∧ (linkDown s).hif.flr = s.hif.flr := by
  have h := linkDown_still s
  unfold Hif.still at h
  rw [h]
  exact ⟨rfl, rfl, rfl, rfl, rfl, rfl, rfl, rfl, rfl, rfl⟩

theorem linkDown_parts {s : State} (hd : s.dom 5 = true) : (s.hif.dlUp = true → (linkDown s).raised S.HIF_LINK_DOWN = true)
    ∧ (linkDown s).rings = State.reset.rings ∧ (linkDown s).dsc = { s.dsc with fetchOut := [], cplq := [], noticeq := [] }
    ∧ (linkDown s).r R.HIF_HB_TO_MS = s.r R.HIF_HB_TO_MS ∧ OnlyChanges (.rings :: .dsc :: raiseParts) s (linkDown s) := by
  have hraise := raiseIf_only s.hif.dlUp S.HIF_LINK_DOWN 0 (linkGone s)
  rw [linkDown_eq]
  refine ⟨fun h => raised_raiseIf h _ _ hd, hraise .rings (by decide), hraise .dsc (by decide), State.r_congr ?_, ?_⟩
  · rw [raiseIf_regs_leaves _ _ _ _ (raiseLeaves_of rfl)]
    exact (hifRegs_mget s.regs 0x10010).trans (if_neg fun h => h.2 rfl)
  · exact ((linkGone_only s).mono (by decide)).trans (hraise.mono (by decide))

theorem hostReach_of_dlDown {s : State} (h : s.hif.dlUp = false) : s.hostReach = false := by simp [State.hostReach, h]
theorem hostReach_of_flr {s : State} (h : s.hif.flr = true) : s.hostReach = false := by simp [State.hostReach, h]
theorem hostReach_of_d3 {s : State} (h : s.hif.d3 = true) : s.hostReach = false := by simp [State.hostReach, h]

/-- The endpoint with PERST_N low. -/
def perstLow (s : State) : State := { s with hif := { s.hif with perstN := false, ready := false, flr := false } }

theorem execPerstNAssert_on {s : State} (h : s.dom 5 = true) : execPerstNAssert s = .next (linkDown (perstLow (s.order 1))) :=
  congrArg _ (if_pos h)

theorem execPerstNAssert_off {s : State} (h : s.dom 5 = false) : execPerstNAssert s = .next (perstLow (s.order 1)) :=
  congrArg _ (if_neg (by rw [← Bool.not_eq_true] at h; exact h))

theorem execDataLinkDown_on {s : State} (hd : s.dom 5 = true) (h : s.hif.dlUp = true) : execDataLinkDown s = .next (linkDown s) := by
  simp [execDataLinkDown, hd, h]

/-! ### Configuration requests that reach the function (R81, R106) -/

theorem cfgReq_reached {s : State} (h : s.cfgReach = true) (eff : State → State) : cfgReq eff s = eff (s.order 6) := if_pos h

/-- What is partial or unwritten when the function leaves D0 is dropped. -/
def d3Entered (s : State) : State :=
  { s with
    hif := { s.hif with d3 := true, latch := true, hbRun := 0 }
    dsc := { s.dsc with fetchOut := [], cplq := [], noticeq := [] }
    evs := { s.evs with staging := [] } }

theorem d3Eff_of_d0 {s : State} (h : s.hif.d3 = false) : d3Eff s = d3Entered s := if_neg (by rw [h]; decide)

theorem d0Eff_of_d3 {s : State} (h : s.hif.d3 = true) : d0Eff s = releaseInts (flushCpl { s with hif := { s.hif with d3 := false } }) :=
  if_pos h

theorem releaseInts_only (s : State) : OnlyChanges [.hif, .tx] s (releaseInts s) := by simp [onlyChanges_iff, releaseInts]

theorem releasable_of_none {h : Hif} (hp : h.pba = 0) : releasable h = [] := by
  simp [releasable, hp, ones]

theorem releaseInts_of_none {s : State} (h : s.hif.pba = 0) : releaseInts s = s := by
  simp [releaseInts, releasable_of_none h]

theorem ringEntry_still (s : State) (n : Fin 4) (b : Nat) (ws : List Word) (now : Bool) : s.hif.still (ringEntry s n b ws now).hif :=
  Hif.still_msi _ _

theorem writeCpl_still (s : State) (e : CplEntry) : s.hif.still (writeCpl s e).hif := by
  unfold writeCpl
  split
  · exact ringEntry_still { s with dsc := { s.dsc with cplq := s.dsc.cplq.drop 1 } } 1 15 (cplWords e) e.irqNow
  · rfl

theorem flushCpl_still (s : State) : s.hif.still (flushCpl s).hif := by
  rw [flushCpl_eq_foldl]
  exact foldl_keeps (P := fun t => s.hif.still t.hif) (fun t e h => h.trans (writeCpl_still t e)) _ rfl

theorem releaseInts_still (s : State) : s.hif.still (releaseInts s).hif := rfl

theorem Hif.still.d3 {a b : Hif} (h : a.still b) : b.d3 = a.d3 := by unfold Hif.still at h; rw [h]

/-- Writing what waited, and the interrupts that follow, leave the descriptors fetched. -/
theorem released_flights (s : State) : (releaseInts (flushCpl s)).dsc.flights = s.dsc.flights := (flushCpl_written s).flights

theorem released_only (s : State) : OnlyChanges [.hif, .rings, .dsc, .tx] s (releaseInts (flushCpl s)) :=
  ((flushCpl_written s).only.mono (by decide)).trans ((releaseInts_only _).mono (by decide))

section
variable {s : State}

theorem execFlr_eq (h : s.cfgReach = true) : execFlr s = .next (flrEff (s.order 6)) := congrArg _ (cfgReq_reached h flrEff)

theorem execD3hotEntry_d0 (h : s.cfgReach = true) (hd : s.hif.d3 = false) : execD3hotEntry s = .next (d3Entered (s.order 6)) :=
  congrArg _ ((cfgReq_reached h d3Eff).trans (d3Eff_of_d0 (s := s.order 6) hd))

theorem execD3hotEntry_d3 (h : s.cfgReach = true) (hd : s.hif.d3 = true) : execD3hotEntry s = .next (s.order 6) :=
  congrArg _ ((cfgReq_reached h d3Eff).trans (if_pos hd))

/-- The function back in D0, before what waits is written. -/
def d3Left (s : State) : State := { s with hif := { s.hif with d3 := false } }

theorem execD3hotExit_eq (h : s.cfgReach = true) (hd : s.hif.d3 = true) :
    execD3hotExit s = .next (releaseInts (flushCpl (d3Left (s.order 6)))) :=
  congrArg _ ((cfgReq_reached h d0Eff).trans (d0Eff_of_d3 (s := s.order 6) hd))

end

/-- Settles O35: a loss of the link is `linkDown`, a function level reset `endpointReset`, and D3hot keeps the HIF state. -/
theorem endpointResets : Obligations.EndpointResets := by
  refine ⟨fun s u c hc => ⟨fun hd => ?_, fun hd hperst => ?_⟩, ?_⟩
  · obtain ⟨v, hexec, hsame, hv, hlow⟩ : ∃ v, exec c s = .next (linkDown v) ∧ OnlyChanges [.hif] u v
        ∧ (v.hif.dlUp = s.hif.dlUp) ∧ (c = .perstNAssert → v.hif.perstN = false ∧ v.hif.ready = false ∧ v.hif.flr = false) := by
      rcases hc with ⟨rfl, rfl⟩ | ⟨rfl, rfl, hdl⟩
      · exact ⟨perstLow (s.order 1), execPerstNAssert_on hd, by simp [onlyChanges_iff, perstLow], rfl, fun _ => ⟨rfl, rfl, rfl⟩⟩
      · exact ⟨u, execDataLinkDown_on hd hdl, .refl _ _, rfl, fun h => absurd h (by decide)⟩
    have hus : OnlyChanges [.tb, .edge, .osr] s u := by
      rcases hc with ⟨-, rfl⟩ | ⟨-, rfl, -⟩
      · exact (State.order_only s 1).mono (by decide)
      · exact .refl _ _
    have hdv : v.dom 5 = true := by
      rw [State.dom, hsame .pwr (by decide), hus .pwr (by decide)]
      exact hd
    have hdsc : v.dsc = s.dsc := (hsame .dsc (by decide)).trans (hus .dsc (by decide))
    have hregs : v.regs = s.regs := (hsame .regs (by decide)).trans (hus .regs (by decide))
    obtain ⟨hdl, hlatch, hbme, hhb, hd3, hcfg, hmsix, hperst, hready, hflr⟩ := linkDown_hif v
    obtain ⟨hraised, hrings, hdrop, hto, honly⟩ := linkDown_parts hdv
    refine ⟨_, hexec, hdl, hlatch, hbme, hhb, hd3, hcfg, hmsix, fun h => ?_, hostReach_of_dlDown hdl, fun h => hraised (hv.trans h), hrings, ?_, ?_,
      (hsame.mono (by decide)).trans honly⟩
    · obtain ⟨h1, h2, h3⟩ := hlow h
      exact ⟨hperst.trans h1, hready.trans h2, hflr.trans h3⟩
    · rw [hdrop, hdsc]
    · rw [hto]
      exact State.r_congr (by rw [hregs])
  · rcases hc with ⟨rfl, rfl⟩ | ⟨rfl, -, -⟩
    · exact execPerstNAssert_off hd
    · exact absurd hperst (by decide)
  · rintro s u hr rfl
    refine ⟨⟨_, execFlr_eq hr, rfl, fun o h h' hne => ?_, fun o h => ?_, rfl, rfl, rfl, hostReach_of_flr rfl, ?_⟩, fun v => rfl,
      fun hd3 => ⟨_, execD3hotEntry_d0 hr hd3, rfl, hostReach_of_d3 rfl⟩, execD3hotEntry_d3 hr, fun hd3 => ⟨_, execD3hotExit_eq hr hd3, ?_, ?_, ?_, fun hq hp => ?_⟩⟩
    · exact (hifRegs_mget _ _).trans (if_pos ⟨⟨h, h'⟩, hne⟩)
    · exact (hifRegs_mget _ _).trans (if_neg fun hin => h.elim (fun h => h hin.1) hin.2)
    · simp [onlyChanges_iff, flrEff, endpointReset]
    · exact ((flushCpl_still _).trans (releaseInts_still _)).d3
    · have hleft : OnlyChanges [.hif, .rings, .dsc, .tx] (s.order 6) (d3Left (s.order 6)) := by simp [onlyChanges_iff, d3Left]
      exact hleft.trans (released_only _)
    · exact released_flights _
    · rw [flushCpl_of_empty (by exact hq), releaseInts_of_none (by exact hp)]
      rfl

end Sys2Proof.Machine
end

section
/-! Link training, the pending vectors, and the held vector 0 message (R81, R82, R98-R101, R104). -/

namespace Sys2Proof.Machine

/-! ### Pending vectors (R98, R99) -/

theorem putBit_pending {n : Nat} {v : BitVec n} {i : Nat} (k : Nat) (h : v.getLsbD i = true) : (putBit v k true).getLsbD i = true := by
  by_cases hi : i < n
  · rw [putBit_getLsbD v k i true hi, h, ite_self]
  · exact absurd h (by rw [BitVec.getLsbD_of_ge _ _ (by omega)]; decide)

/-- A message held leaves the vectors pending that are. -/
theorem msi_pending {h : Hif} {i : Nat} (v : Nat) (hp : h.pba.getLsbD i = true) : (h.msi v).1.pba.getLsbD i = true := by
  unfold Hif.msi
  split
  · exact hp
  · split
    · exact hp
    · exact putBit_pending v hp

theorem writeCpl_pending {s : State} {i : Nat} (e : CplEntry) (hp : s.hif.pba.getLsbD i = true) :
    (writeCpl s e).hif.pba.getLsbD i = true := by
  unfold writeCpl
  split
  · exact msi_pending _ hp
  · exact hp

theorem flushCpl_pending {s : State} {i : Nat} (hp : s.hif.pba.getLsbD i = true) : (flushCpl s).hif.pba.getLsbD i = true := by
  rw [flushCpl_eq_foldl]
  exact foldl_keeps (P := fun t => t.hif.pba.getLsbD i = true) (fun t e h => writeCpl_pending e h) _ hp

theorem putBit_false_clear {n : Nat} {b : BitVec n} {i : Nat} (a : Nat) (h : b.getLsbD i = false) : (putBit b a false).getLsbD i = false := by
  by_cases hi : i < n
  · rw [putBit_getLsbD b a i false hi, h, ite_self]
  · exact BitVec.getLsbD_of_ge _ _ (by omega)

theorem foldl_putBit_clear {n : Nat} {i : Nat} (l : List Nat) {b : BitVec n} (h : b.getLsbD i = false) :
    (l.foldl (fun p v => putBit p v false) b).getLsbD i = false := by
  induction l generalizing b with
  | nil => exact h
  | cons a l ih => exact ih (putBit_false_clear a h)

theorem foldl_putBit_false {n : Nat} {l : List Nat} {i : Nat} (h : i ∈ l) (hi : i < n) (b : BitVec n) :
    (l.foldl (fun p v => putBit p v false) b).getLsbD i = false := by
  obtain ⟨l₁, l₂, rfl⟩ := List.append_of_mem h
  rw [List.foldl_append, List.foldl_cons]
  exact foldl_putBit_clear l₂ (putBit_getLsbD_self _ _ hi)

theorem Hif.still.canSend {a b : Hif} (h : a.still b) : b.canSend = a.canSend := by unfold Hif.still at h; rw [h]; rfl
theorem Hif.still.vecMasked {a b : Hif} (h : a.still b) (v : Nat) : b.vecMasked v = a.vecMasked v := by
  unfold Hif.still at h; rw [h]; rfl

/-- Every pending vector that is neither held nor masked is sent. -/
theorem releaseInts_sends {s : State} {v : Nat} (hv : v < 32) (h0 : v ≠ 0) (hp : s.hif.pba.getLsbD v = true)
    (hc : (releaseInts s).hif.canSend = true) (hm : (releaseInts s).hif.vecMasked v = false) :
    Tx.msi (BitVec.ofNat 5 v) ∈ (releaseInts s).tx ∧ (releaseInts s).hif.pba.getLsbD v = false := by
  have hc' : s.hif.canSend = true := (releaseInts_still s).canSend.symm.trans hc
  have hm' : s.hif.vecMasked v = false := ((releaseInts_still s).vecMasked v).symm.trans hm
  have hmem : v ∈ releasable s.hif := by
    refine List.mem_filter.2 ⟨(mem_ones _ _).2 ⟨hv, hp⟩, ?_⟩
    rw [hc', hm', bne_iff_ne.2 h0]
    rfl
  exact ⟨List.mem_append_left _ (List.mem_reverse.2 (List.mem_map.2 ⟨v, hmem, rfl⟩)), foldl_putBit_false hmem hv _⟩

theorem releaseInts_of_held {s : State} (h : s.hif.canSend = false) : releaseInts s = s := by
  have : releasable s.hif = [] := by simp [releasable, h]
  simp [releaseInts, this]

/-! ### Training (R82) -/

/-- The link with a width and a rate. -/
def linkAt (w : BitVec 3) (g : BitVec 4) (s : State) : State := { s with hif := { s.hif with dlUp := true, width := w, speed := g } }

theorem trained_eq (w : BitVec 3) (g : BitVec 4) (s : State) :
    trained w g s = raiseIf (linkLow s w g) S.HIF_LINK_DEG 0 (linkAt w g s) := rfl

theorem trained_hif (w : BitVec 3) (g : BitVec 4) (s : State) :
    (trained w g s).hif.dlUp = true ∧ (trained w g s).hif.width = w ∧ (trained w g s).hif.speed = g := by
  have h := raiseIf_hif (linkLow s w g) S.HIF_LINK_DEG 0 (linkAt w g s)
  unfold Hif.still at h
  rw [trained_eq, h]
  exact ⟨rfl, rfl, rfl⟩

/-- Before the function answers them, configuration requests are answered with Configuration Request Retry Status (R81). -/
theorem cfgReq_retry {s : State} (hd : s.dom 5 = true) (hp : s.hif.perstN = true) (hl : s.hif.dlUp = true) (hr : s.hif.ready = false)
    (eff : State → State) : cfgReq eff s = { s with tx := Tx.crs :: s.tx } := by
  have hno : s.cfgReach = false := by simp [State.cfgReach, hr]
  rw [cfgReq, hno, hd, hp, hl]
  rfl

section
variable {s : State}

/-- Bus Master Enable takes a value. -/
def withBme (on : Bool) (s : State) : State := { s with hif := { s.hif with bme := on } }

theorem execBusMasterDisable_eq (h : s.cfgReach = true) : execBusMasterDisable s = .next (withBme false (s.order 6)) :=
  congrArg _ (cfgReq_reached h (bmeEff false))

theorem execBusMasterEnable_eq (h : s.cfgReach = true) :
    execBusMasterEnable s = .next (releaseInts (flushCpl (withBme true (s.order 6)))) := congrArg _ (cfgReq_reached h (bmeEff true))

/-- MSI-X Enable and Function Mask take values. -/
def withMsix (en mask : Bool) (s : State) : State := { s with hif := { s.hif with msixEn := en, fmask := mask } }

theorem execMsixControlWrite_eq (h : s.cfgReach = true) (en mask : Bool) :
    execMsixControlWrite en mask s = .next (releaseInts (withMsix en mask (s.order 6))) := congrArg _ (cfgReq_reached h (msixEff en mask))

theorem execNmtRelease_eq (hd : s.dom 5 = true) (hc : s.hif.canSend = true) (hn : s.hif.nmtHeld ≠ 0)
    (hw : s.ringReady 2 = true → ∀ e ∈ s.evs.staging, e.nmtHeld = false) : execNmtRelease s = .next { s with
      hif := { s.hif with nmtHeld := 0, pba := putBit s.hif.pba 0 false }, tx := Tx.msi 0 :: s.tx } := by
  have hgo : (s.dom 5 && s.hif.canSend && s.hif.nmtHeld != 0 && !heldEntryWaits s) = true := by
    rw [hd, hc, bne_iff_ne.2 hn]
    cases hr : s.ringReady 2 with
    | true => simpa [heldEntryWaits, hr] using hw hr
    | false => simp [heldEntryWaits, hr]
  exact congrArg _ (if_pos hgo)

theorem execTraining {c : Instr} {w : BitVec 3} {g : BitVec 4} (hd : s.dom 5 = true)
    (hc : c = .linkRetrain w g ∧ s.hif.dlUp = true ∨ c = .dataLinkUp w g ∧ s.hif.perstN = true ∧ s.hif.dlUp = false) :
    exec c s = .next (trained w g s) := by
  rcases hc with ⟨rfl, hl⟩ | ⟨rfl, hp, hl⟩
  · simp [exec, execLinkRetrain, hd, hl]
  · simp [exec, execDataLinkUp, hd, hp, hl]

end

/-- Settles O36: a training is a raising where the link is low, and `releaseInts_sends` sends what is pending. -/
theorem linkTrainingAndMessages : Obligations.LinkTrainingAndMessages := by
  refine ⟨fun s => ⟨rfl, fun hd hp => ?_, fun hd hp hl hr c hc => ?_, fun w g c hd hc => ?_⟩, ?_⟩
  · simp [exec, execConfigResponseReady, hd, hp]
  · have hretry : ∀ eff, (Host.Outcome.next (cfgReq eff s) : Host.Outcome State Fault Refusal) = .next { s with tx := Tx.crs :: s.tx } := fun eff =>
      congrArg _ (cfgReq_retry hd hp hl hr eff)
    rcases hc with hc | ⟨en, mask, rfl⟩ | ⟨off, val, rfl⟩ | ⟨off, be, ev, rfl⟩
    · simp only [List.mem_cons, List.not_mem_nil, or_false] at hc
      rcases hc with rfl | rfl | rfl | rfl | rfl <;> exact hretry _
    · exact hretry _
    · exact hretry _
    · exact hretry _
  · obtain ⟨hdl, hw, hg⟩ := trained_hif w g s
    refine ⟨_, execTraining hd hc, hdl, hw, hg, ?_⟩
    rw [trained_eq]
    have hat : OnlyChanges raiseParts s (linkAt w g s) := by simp [onlyChanges_iff, raiseParts, linkAt]
    split
    · next h =>
      rw [linkLow, decide_eq_true h]
      exact ⟨raised_raiseIf rfl _ _ hd, hat.trans (raiseIf_only _ _ _ _)⟩
    · next h =>
      rw [linkLow, decide_eq_false h]
      rfl
  · rintro s u rfl
    refine ⟨fun hr => ⟨⟨_, execBusMasterDisable_eq hr, rfl, ?_, ?_⟩, ⟨_, execBusMasterEnable_eq hr, ?_, ?_, released_flights _, fun hq => ?_, fun v hv h0 hp hc hm => ?_⟩,
      fun en mask => ⟨_, execMsixControlWrite_eq hr en mask, ?_, rfl, fun v hv h0 hp hc hm => ?_, fun hc => ?_⟩⟩,
      fun hd hc hn hw => ⟨_, execNmtRelease_eq hd hc hn hw, rfl, rfl, ?_, fun v hv => ?_, ?_⟩⟩
    · simp [State.dmaOk, withBme]
    · simp [Hif.canSend, withBme]
    · have h := (flushCpl_still (withBme true (s.order 6))).trans (releaseInts_still _)
      unfold Hif.still at h
      rw [h]
      rfl
    · have hbme : OnlyChanges [.hif, .rings, .dsc, .tx] (s.order 6) (withBme true (s.order 6)) := by simp [onlyChanges_iff, withBme]
      exact hbme.trans (released_only _)
    · have hbme : OnlyChanges [.hif, .tx] (s.order 6) (withBme true (s.order 6)) := by simp [onlyChanges_iff, withBme]
      rw [flushCpl_of_empty (by exact hq)]
      exact hbme.trans (releaseInts_only _)
    · exact releaseInts_sends hv h0 (flushCpl_pending (by exact hp)) hc hm
    · have hmsix : OnlyChanges [.hif, .tx] (s.order 6) (withMsix en mask (s.order 6)) := by simp [onlyChanges_iff, withMsix]
      exact hmsix.trans (releaseInts_only _)
    · exact releaseInts_sends hv h0 (by exact hp) hc hm
    · rw [releaseInts_of_held (by exact hc)]
      exact ⟨rfl, rfl⟩
    · exact putBit_getLsbD_self _ _ (by decide)
    · exact putBit_getLsbD_ne _ _ hv
    · simp [onlyChanges_iff]

end Sys2Proof.Machine
end

section
/-! Host silence by age, requests that break R85 or R105, and the diagnostic window (R79, R84-R87, R93, R105). -/

namespace Sys2Proof.Machine

/-! ### Host silence (R93) -/

theorem putBit_false_getLsbD {n : Nat} (v : BitVec n) (k i : Nat) : (putBit v k false).getLsbD i = (v.getLsbD i && i != k) := by
  by_cases hi : i < n
  · rw [putBit_getLsbD v k i false hi]
    by_cases hk : i = k
    · simp [hk]
    · simp [hk]
  · rw [BitVec.getLsbD_of_ge _ _ (by omega), BitVec.getLsbD_of_ge _ _ (by omega)]
    rfl

/-- The lanes with HOST_OK at 0 in every map. -/
def lanHostGone (n : Lan) : Lan :=
  { n with map := { n.map with bits := putBit n.map.bits 106 false }, lanes := n.lanes.map hostGone }

theorem lanHostGone_mapOf (n : Lan) (l : Fin 3) (i : Nat) :
    ((lanHostGone n).mapOf l).bits.getLsbD i = ((n.mapOf l).bits.getLsbD i && i != 106)
      ∧ ((lanHostGone n).mapOf l).words = (n.mapOf l).words := by
  have hown : (lanHostGone n).lanes[l].own = n.lanes[l].own.map fun m => ({ m.1 with bits := putBit m.1.bits 106 false }, m.2) := by
    simp [lanHostGone, hostGone]
  cases ho : n.lanes[l].own with
  | none =>
    rw [ho] at hown
    rw [Lan.mapOf, Lan.mapOf, hown, ho]
    exact ⟨putBit_false_getLsbD _ _ _, rfl⟩
  | some m =>
    rw [ho] at hown
    rw [Lan.mapOf, Lan.mapOf, hown, ho]
    exact ⟨putBit_false_getLsbD _ _ _, rfl⟩

/-- The endpoint once the lanes have found the host silent by age. -/
def silentHif (s : State) : State := { s with hif := { s.hif with silent := true, latch := false, hbRun := 0 } }

theorem execHbTimeout_eq {s : State} {due : Nat} (hrun : s.lan.run = true) (hp : s.lan.phase = 1) (hs : s.hif.silent = false)
    (hb : s.hif.hbSeen = true) (hdue : due = s.hif.hbAt + s.r R.HIF_HB_TO_MS * ms + 1) (hle : due ≤ s.lan.boundary + 20 * us)
    (hc : s.comes due = true) :
    execHbTimeout s = .next (raise S.HIF_HB_LOST 0 (silentHif { s.at due with lan := lanHostGone s.lan })) := by
  have hgo : (s.lan.run && s.lan.phase == 1 && !s.hif.silent && s.hif.hbSeen
      && decide (s.hif.hbAt + s.r R.HIF_HB_TO_MS * ms + 1 ≤ s.lan.boundary + 20 * us)
      && s.comes (s.hif.hbAt + s.r R.HIF_HB_TO_MS * ms + 1)) = true := by
    rw [← hdue, hrun, hp, hs, hb, hc, decide_eq_true hle]
    rfl
  have htake : takeSilent true 0 { s.at due with lan := lanHostGone s.lan } =
      raise S.HIF_HB_LOST 0 (silentHif { s.at due with lan := lanHostGone s.lan }) :=
    if_pos (by show (true && !s.hif.silent) = true; rw [hs]; rfl)
  rw [← htake, hdue]
  exact congrArg _ (if_pos hgo)

theorem execHbTimeout_of_silent {s : State} (h : s.hif.silent = true) : execHbTimeout s = .next s := by
  simp [execHbTimeout, h]

/-! ### Violations (R85, R105) -/

theorem aerRecord_bit {bit : Nat} (h : bit < 32) (s : State) : (aerRecord bit s).hif.cfg.aerUnc.getLsbD bit = true := putBit_getLsbD_self _ _ h

theorem tlpRaise_only (c : Src) (access : BitVec 4) (addr : Word) (s : State) : OnlyChanges raiseParts s (tlpRaise c access addr s) :=
  ((State.add_only _ _ _ _ _).mono (by decide)).trans (raiseWith_only _ _)

theorem tlpRaise_raised {c : Src} (hc : c.blk = 1) (access : BitVec 4) (addr : Word) {s : State} (h : s.dom 5 = true) :
    (tlpRaise c access addr s).raised c = true := by
  refine raiseWith_raised_self _ ?_
  show s.blockUp c.blk.toNat = true
  rw [hc]
  exact h

theorem tlpRaise_count (c : Src) (access : BitVec 4) (addr : Word) (s : State) :
    (tlpRaise c access addr s).r R.HIF_VIOL_CNT_TLP = min (s.r R.HIF_VIOL_CNT_TLP + 1) 65535 :=
  (State.r_congr (raiseWith_regs_leaves _ _ (raiseLeaves_of rfl))).trans (rget_radd _ _ _ _ _ (by decide))

/-- What a violation that reaches the registers' side leaves. -/
structure Violation (c : Src) (s t : State) : Prop where
  only : OnlyChanges raiseParts s t
  raised : t.raised c = true
  count : t.r R.HIF_VIOL_CNT_TLP = min (s.r R.HIF_VIOL_CNT_TLP + 1) 65535

theorem tlpRaise_violation {c : Src} (hc : c.blk = 1) (access : BitVec 4) (addr : Word) {s : State} (h : s.dom 5 = true) :
    Violation c s (tlpRaise c access addr s) := ⟨tlpRaise_only _ _ _ _, tlpRaise_raised hc _ _ h, tlpRaise_count _ _ _ _⟩

theorem Violation.hif_tx {c : Src} {s t v : State} (h : Violation c s t) (ho : OnlyChanges [.hif, .tx] t v) : Violation c s v := by
  have hregs : v.regs = t.regs := ho .regs (by decide)
  exact ⟨h.only.trans (ho.mono (by decide)), (State.raised_congr (by rw [hregs])).trans h.raised, (State.r_congr (by rw [hregs])).trans h.count⟩

theorem linkReach_of_reach {s : State} (hp : s.hif.perstN = true) (h : s.hostReach = true ∨ s.d3Reach = true) :
    s.linkReach = true ∧ s.dom 5 = true := by
  simp only [State.hostReach, State.d3Reach, Bool.and_eq_true] at h
  have hdl : s.dom 5 = true ∧ s.hif.dlUp = true := by
    rcases h with h | h
    · exact ⟨h.1.1.1.1.1, h.1.1.1.2⟩
    · exact ⟨h.1.1.1.1.1, h.1.1.1.2⟩
  simp [State.linkReach, hp, hdl]

theorem badWrite_reached {s : State} (h : s.hostReach = true) (eff : State → State) : badWrite eff s = eff s := if_pos h

theorem badWrite_d3 {s : State} (h : s.d3Reach = true) (eff : State → State) : badWrite eff s = aerRecord 20 s := by
  have hno : s.hostReach = false := by
    simp only [State.d3Reach, Bool.and_eq_true] at h
    exact hostReach_of_d3 h.1.1.2
  rw [badWrite, hno, h]
  rfl

/-- A protocol error is raised, counted and recorded. -/
theorem recorded {bit : Nat} (hb : bit < 32) (access : BitVec 4) (addr : Word) {s : State} (hd : s.dom 5 = true) :
    Violation S.HIF_TLP s (aerRecord bit (tlpRaise S.HIF_TLP access addr s))
      ∧ (aerRecord bit (tlpRaise S.HIF_TLP access addr s)).hif.cfg.aerUnc.getLsbD bit = true :=
  ⟨(tlpRaise_violation rfl _ _ hd).hif_tx ((aerRecord_only _ _).mono (by decide)), aerRecord_bit hb _⟩

/-- The source that a violation raises. -/
def violationSrc (kind : TlpKind) : Src := if kind = .partialWrite ∨ kind = .bar4Write then S.HIF_ACCESS else S.HIF_TLP

/-- What a violation that reaches the endpoint does. -/
theorem violationEff_leaves {kind : TlpKind} {addr : Word} {s : State} (hp : s.hif.perstN = true) (hr : s.hostReach = true ∨ s.d3Reach = true)
    (hk : kind ≠ .atomicOp) (he : kind = .ecrc → s.hif.cfg.ecrcCheck = true)
    (hw : kind ∈ [TlpKind.longWrite, .partialWrite, .bar4Write] → s.hostReach = true) :
    Violation (violationSrc kind) s (violationEff kind addr s) ∧ (kind = .longRead → Tx.ur ∈ (violationEff kind addr s).tx)
      ∧ ∀ b, aerBitOf kind = some b → (violationEff kind addr s).hif.cfg.aerUnc.getLsbD b = true := by
  obtain ⟨hl, hd⟩ := linkReach_of_reach hp hr
  cases kind with
  | longRead =>
    have heq : violationEff .longRead addr s = answerUr (tlpRaise S.HIF_TLP 0 addr s) := if_pos (Bool.or_eq_true _ _ ▸ hr)
    rw [heq]
    refine ⟨(tlpRaise_violation rfl _ _ hd).hif_tx (answerUr_only _), fun _ => List.mem_cons_self, fun b hb => ?_⟩
    cases hb
    exact aerRecord_bit (by decide) _
  | longWrite =>
    rw [violationEff, badWrite_reached (hw (by decide))]
    exact ⟨tlpRaise_violation rfl _ _ hd, nofun, nofun⟩
  | partialWrite =>
    rw [violationEff, badWrite_reached (hw (by decide))]
    exact ⟨tlpRaise_violation rfl _ _ hd, nofun, nofun⟩
  | bar4Write =>
    rw [violationEff, badWrite_reached (hw (by decide))]
    exact ⟨tlpRaise_violation rfl _ _ hd, nofun, nofun⟩
  | poisoned =>
    obtain ⟨hv, hb⟩ := recorded (bit := 12) (by decide) 1 addr hd
    rw [show violationEff .poisoned addr s = _ from if_pos hl]
    exact ⟨hv, nofun, fun b h => by cases h; exact hb⟩
  | malformed =>
    obtain ⟨hv, hb⟩ := recorded (bit := 18) (by decide) 15 addr hd
    rw [show violationEff .malformed addr s = _ from if_pos hl]
    exact ⟨hv, nofun, fun b h => by cases h; exact hb⟩
  | unexpectedCpl =>
    obtain ⟨hv, hb⟩ := recorded (bit := 16) (by decide) 15 addr hd
    rw [show violationEff .unexpectedCpl addr s = _ from if_pos hl]
    exact ⟨hv, nofun, fun b h => by cases h; exact hb⟩
  | ecrc =>
    obtain ⟨hv, hb⟩ := recorded (bit := 19) (by decide) 15 addr hd
    rw [show violationEff .ecrc addr s = _ from (if_pos (he rfl)).trans (if_pos hl)]
    exact ⟨hv, nofun, fun b h => by cases h; exact hb⟩
  | atomicOp => exact absurd rfl hk

/-! ### The diagnostic window (R86, R87) -/

/-- Read data stand byte by byte. -/
def readBytes (bs : List Byte) (s : State) : State := { s with hif := { s.hif with rd := bs.map (·.setWidth 32) } }

/-- What an open window delivers. -/
def diagDelivered (a len : Nat) (hits : List (Nat × Ecc)) (s : State) : State :=
  let t := (diagHits a len hits).foldl diagHit s
  readBytes (diagBytes t a len hits) t

theorem execDiagRead_eq {s : State} (h : s.hostReach = true) (addr : BitVec 20) (len : Nat) (hits : List (Nat × Ecc)) :
    execDiagRead addr len hits s = .next (let u := s.order 6
      if len = 0 ∨ 128 < len ∨ 4096 < addr.toNat % 4096 + len then tlpRaise S.HIF_TLP 0 (BitVec.ofNat 32 addr.toNat) u
      else if !diagOpen u then readBytes (List.replicate len 0) (tlpRaise S.HIF_ACCESS 0 (BitVec.ofNat 32 addr.toNat) u)
      else if !u.dom 4 then readBytes ((List.range len).map fun i => (u.fv i).setWidth 8) (u.took len)
      else diagDelivered addr.toNat len hits u) := by
  have hno : ¬ (!s.hostReach) = true := by rw [h]; decide
  exact congrArg _ (if_neg hno)

/-- Hits that are uncorrectable or clean note the loss alone. -/
theorem diagHits_uncorrectable {l : List (Nat × Ecc)} (hl : ∀ h ∈ l, h.2 = .uncorrectable ∨ h.2 = .clean) (s : State) :
    OnlyChanges [.regs] s (l.foldl diagHit s) ∧ RegsBut [0x10040] s.regs (l.foldl diagHit s).regs
      ∧ ((s.r R.HIF_DIAG_STAT_UNCORR = 1 ∨ ∃ h ∈ l, h.2 = .uncorrectable) → (l.foldl diagHit s).r R.HIF_DIAG_STAT_UNCORR = 1) := by
  induction l generalizing s with
  | nil => exact ⟨.refl _ _, .refl _ _, fun h => h.resolve_right fun ⟨_, h, _⟩ => absurd h List.not_mem_nil⟩
  | cons a l ih =>
    obtain ⟨honly, hbut, hset⟩ := ih (fun h hh => hl h (List.mem_cons_of_mem _ hh)) (diagHit s a)
    rw [List.foldl_cons]
    rcases hl a List.mem_cons_self with ha | ha
    · have hhit : diagHit s a = s.w R.HIF_DIAG_STAT_UNCORR 1 := by rw [diagHit, ha]
      rw [hhit] at honly hbut hset ⊢
      refine ⟨(State.w_only _ _ _ _ _).trans honly, RegsBut.trans ((RegsBut.refl _ _).rput (by decide)) hbut, fun _ => hset (.inl ?_)⟩
      exact State.r_w_same (by decide)
    · have hhit : diagHit s a = s := by rw [diagHit, ha]
      rw [hhit] at honly hbut hset ⊢
      refine ⟨honly, hbut, fun h => hset (h.imp id ?_)⟩
      rintro ⟨x, hx, hu⟩
      rcases List.mem_cons.1 hx with rfl | hx
      · rw [ha] at hu
        exact absurd hu nofun
      · exact ⟨x, hx, hu⟩

/-- Work SRAM does not show HIF_DIAG_STAT. -/
theorem workByte_congr {s t : State} (h : OnlyChanges [.regs] s t) (hm : RegsBut [0x10040] s.regs t.regs) (a : Nat) :
    workByte t a = workByte s a := by
  have hdelay : ∀ a, storedWord t.regs (0x24000 + a) = storedWord s.regs (0x24000 + a) := fun a =>
    storedWord_congr (hm _ (by simp only [List.mem_singleton]; omega))
  have hcls : ∀ a, storedWord t.regs (0x26000 + a) = storedWord s.regs (0x26000 + a) := fun a =>
    storedWord_congr (hm _ (by simp only [List.mem_singleton]; omega))
  have hword : ∀ a, workWord t a = workWord s a := fun a => by
    unfold workWord
    rw [h .tkt (by decide), h .cis (by decide), h .dsc (by decide), h .evs (by decide), hdelay, hcls]
  unfold workByte
  rw [h .smp (by decide), hword]

theorem diagBytes_getElem (s : State) (a : Nat) {len i : Nat} (hi : i < len) (hits : List (Nat × Ecc)) :
    (diagBytes s a len hits)[i]? = some (if hits.any fun h => h.1 == (a + i) / 32 && h.2 == .uncorrectable then 0xFF else workByte s (a + i)) := by
  rw [diagBytes, List.getElem?_map, List.getElem?_range hi]
  rfl

/-- An open window: each byte from a lost codeword reads 0xFF, and each other byte as work SRAM holds it. -/
theorem diagDelivered_leaves (a len : Nat) (hits : List (Nat × Ecc)) (u : State) :
    (diagDelivered a len hits u).hif.rd.length = len
      ∧ (∀ i h, i < len → h ∈ hits → h.1 = (a + i) / 32 → h.2 = .uncorrectable → (diagDelivered a len hits u).hif.rd[i]? = some 0xFF)
      ∧ ((∀ h ∈ hits, h.2 = .uncorrectable ∨ h.2 = .clean) → OnlyChanges [.hif, .regs] u (diagDelivered a len hits u)
        ∧ RegsBut [0x10040] u.regs (diagDelivered a len hits u).regs
        ∧ (∀ i, i < len → (∀ h ∈ hits, h.1 = (a + i) / 32 → h.2 = .clean) →
            (diagDelivered a len hits u).hif.rd[i]? = some ((workByte u (a + i)).setWidth 32))
        ∧ ((∃ i h, i < len ∧ h ∈ hits ∧ h.1 = (a + i) / 32 ∧ h.2 = .uncorrectable) →
            (diagDelivered a len hits u).r R.HIF_DIAG_STAT_UNCORR = 1)) := by
  have hrd : (diagDelivered a len hits u).hif.rd = (diagBytes ((diagHits a len hits).foldl diagHit u) a len hits).map (·.setWidth 32) := rfl
  have hregs : (diagDelivered a len hits u).regs = ((diagHits a len hits).foldl diagHit u).regs := rfl
  refine ⟨by rw [hrd, List.length_map, diagBytes, List.length_map, List.length_range], fun i h hi hh hcw hu => ?_, fun hall => ?_⟩
  · have hany : (hits.any fun h => h.1 == (a + i) / 32 && h.2 == .uncorrectable) = true :=
      List.any_eq_true.2 ⟨h, hh, by rw [hcw, hu]; simp⟩
    rw [hrd, List.getElem?_map, diagBytes_getElem _ _ hi, if_pos hany]
    rfl
  · obtain ⟨honly, hbut, hset⟩ := diagHits_uncorrectable (fun h hh => hall h (List.mem_filter.1 hh).1) u (l := diagHits a len hits)
    refine ⟨?_, hbut, fun i hi hclean => ?_, ?_⟩
    · refine (honly.mono (by decide)).trans ?_
      simp [onlyChanges_iff, diagDelivered, readBytes]
    · have hany : ¬ (hits.any fun h => h.1 == (a + i) / 32 && h.2 == .uncorrectable) = true := fun hx => by
        obtain ⟨h, hh, hx⟩ := List.any_eq_true.1 hx
        rw [Bool.and_eq_true, beq_iff_eq, beq_iff_eq] at hx
        rw [hclean h hh hx.1] at hx
        exact absurd hx.2 nofun
      rw [hrd, List.getElem?_map, diagBytes_getElem _ _ hi, if_neg hany, workByte_congr honly hbut]
      rfl
    · rintro ⟨i, h, hi, hh, hcw, hu⟩
      refine (State.r_congr (by rw [hregs])).trans (hset (.inr ⟨h, List.mem_filter.2 ⟨hh, ?_⟩, hu⟩))
      simp only [decide_eq_true_eq]
      omega

theorem hostReach_dom5 {s : State} (h : s.hostReach = true) : s.dom 5 = true := by
  simp only [State.hostReach, Bool.and_eq_true] at h
  exact h.1.1.1.1.1

theorem diagOpen_order {s : State} (h : diagOpen s = true) : ¬ (!diagOpen (s.order 6)) = true := by
  show ¬ (!diagOpen s) = true
  rw [h]
  decide

theorem diagShut_order {s : State} (h : diagOpen s = false) : (!diagOpen (s.order 6)) = true := by
  show (!diagOpen s) = true
  rw [h]
  rfl

theorem dom_order {s : State} {d : Nat} (h : s.dom d = true) : ¬ (!(s.order 6).dom d) = true := by
  show ¬ (!s.dom d) = true
  rw [h]
  decide

/-- A closed window delivers zeros. -/
theorem diagShut_leaves (len : Nat) {c : Src} {s t : State} (h : Violation c s t) :
    OnlyChanges raiseParts s (readBytes (List.replicate len 0) t) ∧ (readBytes (List.replicate len 0) t).hif.rd = List.replicate len 0
      ∧ (readBytes (List.replicate len 0) t).raised c = true := by
  have ho : OnlyChanges [.hif, .tx] t (readBytes (List.replicate len 0) t) := by simp [onlyChanges_iff, readBytes]
  exact ⟨(h.hif_tx ho).only, List.map_replicate, (h.hif_tx ho).raised⟩

/-- Settles O38: silence by age is one raising over `silentHif`, a violation is `violationEff_leaves`, and a read of the window
`diagDelivered_leaves`. -/
theorem hostSilenceViolationsAndDiagnosticReads : Obligations.HostSilenceViolationsAndDiagnosticReads := by
  refine ⟨fun s due hrun hp hs hb hd hdue hle hc => ?_, ?_⟩
  · have hstill := raiseWith_hif { src := S.HIF_HB_LOST, detail := BitVec.ofNat 32 0 } (silentHif { s.at due with lan := lanHostGone s.lan })
    have honly := raise_only S.HIF_HB_LOST 0 (silentHif { s.at due with lan := lanHostGone s.lan })
    have hlan : (raise S.HIF_HB_LOST 0 (silentHif { s.at due with lan := lanHostGone s.lan })).lan = lanHostGone s.lan := honly .lan (by decide)
    have hhif : (raise S.HIF_HB_LOST 0 (silentHif { s.at due with lan := lanHostGone s.lan })).hif.silent = true
        ∧ (raise S.HIF_HB_LOST 0 (silentHif { s.at due with lan := lanHostGone s.lan })).hif.hbRun = 0
        ∧ (raise S.HIF_HB_LOST 0 (silentHif { s.at due with lan := lanHostGone s.lan })).hif.latch = false := by
      unfold Hif.still at hstill
      rw [raise, hstill]
      exact ⟨rfl, rfl, rfl⟩
    obtain ⟨hsil, hrun0, hlatch⟩ := hhif
    refine ⟨_, execHbTimeout_eq hrun hp hs hb hdue hle hc, hsil, hrun0, hlatch, raised_raise _ _ hd, honly .tb (by decide), ?_, ?_, fun l i => ?_,
      execHbTimeout_of_silent hsil⟩
    · have hpre : OnlyChanges (.tb :: .edge :: .lan :: raiseParts) (s.at due) (silentHif { s.at due with lan := lanHostGone s.lan }) := by
        simp [onlyChanges_iff, silentHif, raiseParts]
      exact ((State.at_only s due).mono (by decide)).trans (hpre.trans (honly.mono (by decide)))
    · rw [hlan]
      rfl
    · rw [hlan]
      exact lanHostGone_mapOf s.lan l i
  · rintro s u rfl
    refine ⟨fun kind addr hp hr => ⟨fun hk he hw => ?_, fun hk hd3 => ?_, fun he => ?_, ?_⟩, fun addr len hits hr => ⟨fun h0 h128 h4k hopen hd => ?_,
      fun h0 h128 h4k hshut => ?_, fun hbad => ?_⟩⟩
    · obtain ⟨hv, hur, haer⟩ := violationEff_leaves (addr := addr) (s := s.order 6) (kind := kind) hp hr hk he hw
      exact ⟨_, rfl, hv.only, hv.raised, hv.count, hur, haer⟩
    · have hbad : violationEff kind addr (s.order 6) = aerRecord 20 (s.order 6) := by
        simp only [List.mem_cons, List.not_mem_nil, or_false] at hk
        rcases hk with rfl | rfl | rfl <;> exact badWrite_d3 (s := s.order 6) hd3 _
      exact ⟨_, congrArg Host.Outcome.next hbad, aerRecord_only _ _, aerRecord_bit (by decide) _⟩
    · have hoff : ¬ (s.order 6).hif.cfg.ecrcCheck = true := by
        show ¬ s.hif.cfg.ecrcCheck = true
        rw [he]
        decide
      exact congrArg Host.Outcome.next (if_neg hoff)
    · have hreach : (s.order 6).linkReach = true := (linkReach_of_reach hp hr).1
      exact ⟨_, congrArg Host.Outcome.next (if_pos hreach), answerUr_only _, rfl, aerRecord_bit (by decide) _⟩
    · have hlen : ¬ (len = 0 ∨ 128 < len ∨ 4096 < addr.toNat % 4096 + len) := by omega
      refine ⟨_, (execDiagRead_eq hr addr len hits).trans (congrArg Host.Outcome.next ?_), diagDelivered_leaves addr.toNat len hits (s.order 6)⟩
      dsimp only
      rw [if_neg hlen, if_neg (diagOpen_order hopen), if_neg (dom_order hd)]
    · have hlen : ¬ (len = 0 ∨ 128 < len ∨ 4096 < addr.toNat % 4096 + len) := by omega
      have hviol := tlpRaise_violation (c := S.HIF_ACCESS) rfl 0 (BitVec.ofNat 32 addr.toNat) (hostReach_dom5 (s := s.order 6) hr)
      refine ⟨_, (execDiagRead_eq hr addr len hits).trans (congrArg Host.Outcome.next ?_), diagShut_leaves len hviol⟩
      dsimp only
      rw [if_neg hlen, if_pos (diagShut_order hshut)]
    · have hviol := tlpRaise_violation (c := S.HIF_TLP) rfl 0 (BitVec.ofNat 32 addr.toNat) (hostReach_dom5 (s := s.order 6) hr)
      refine ⟨_, (execDiagRead_eq hr addr len hits).trans (congrArg Host.Outcome.next ?_), hviol.only, hviol.raised⟩
      dsimp only
      rw [if_pos hbad]

end Sys2Proof.Machine
end

section
/-! The resolution of tickets: deadline, booked writes and notice (R132, R149, R157, R161-R165, R230). -/

namespace Sys2Proof.Machine

/-! ### The deadline (R161) -/

/-- The count of the resolutions under a policy. -/
def resCount (fire : Bool) : RegField := if fire then R.CIS_RES_CNT_FIRE else R.CIS_RES_CNT_DROP

theorem execTicketDeadline_eq {s : State} {n : BitVec 15} {r : Ticket} (hr : mget s.tkt.recs n.toNat = some r) {due : Nat}
    (hdue : due = (s.slot.tickZ r.due).toNat) (ho : r.state = .open) (hb : ticketBusy s n.toNat = false) (hrun : s.slot.run = true)
    (hd : s.dom 4 = true) (hc : s.comes due = true) :
    execTicketDeadline n s = .next (resolve n.toNat r (policyOf s r.cls) false ((s.at due).add (resCount (policyOf s r.cls)) 1)) := by
  subst hdue
  simp [execTicketDeadline, hr, ho, hb, hrun, hd, hc, resCount]

/-- The record of a ticket that goes into resolution. -/
theorem resolve_rec (t : Nat) (r : Ticket) (fire lost : Bool) (s : State) :
    mget (resolve t r fire lost s).tkt.recs t = some { r with state := .resolving fire lost } := by
  simp [resolve, Tkt.upd, mget_mins]

theorem resCount_counted (fire : Bool) (s : State) (due : Nat) :
    ((s.at due).add (resCount fire) 1).r (resCount fire) = min (s.r (resCount fire) + 1) 65535 := by
  cases fire <;> exact rget_radd _ _ _ _ _ (by decide)

/-! ### Booked writes (R165, R230) -/

/-- The cell write that a booking stands for. -/
def Booking.write (b : Booking) : CwWrite := { logical := b.logical, slot := b.k, cw := b.cw, cols := b.cols, op := .dec, owner := none }

/-- A slice has met the slot of a booked write. -/
def metSlot (p : Fin 17) (k : Nat) (s : State) : State :=
  { s with cis := { s.cis with phys := vmod s.cis.phys p fun x => { x with h := max x.h k } } }

theorem bookedEff_drained {s : State} {b : Booking} (h : s.slot.drained b.k = true) (e : Ecc) : bookedEff b e s = s := by
  simp [bookedEff, h]

theorem bookedEff_dark {s : State} {b : Booking} (h : s.slot.drained b.k = false) (hp : s.cis.physOf b.logical = none) (e : Ecc) :
    bookedEff b e s = s.add R.CIS_DARK_CNT_CNT 1 := by simp [bookedEff, h, hp]

theorem bookedEff_served {s : State} {b : Booking} {p : Fin 17} (h : s.slot.drained b.k = false) (hp : s.cis.physOf b.logical = some p)
    (e : Ecc) : bookedEff b e s = performWrite p b.write e (metSlot p b.k s) := by simp [bookedEff, h, hp, Booking.write, metSlot]

/-- A booked write leaves the timebase and the tickets. -/
theorem bookedEff_only {e : Ecc} (he : e = .clean ∨ ∃ a c, e = .corrected a c) (b : Booking) (s : State) :
    OnlyChanges (.slot :: reportParts) s (bookedEff b e s) := by
  cases hdr : s.slot.drained b.k with
  | true => rw [bookedEff_drained hdr]; exact .refl _ _
  | false =>
    cases hp : s.cis.physOf b.logical with
    | none => rw [bookedEff_dark hdr hp]; exact (State.add_only _ _ _ _ _).mono (by decide)
    | some p =>
      rw [bookedEff_served hdr hp]
      have hmet : OnlyChanges [.cis] s (metSlot p b.k s) := by simp [onlyChanges_iff, metSlot]
      exact (hmet.mono (by decide)).trans (((writeCells_only _ _ _).mono (by decide)).trans
        ((performWrite_reported he _ _ _).1.mono (by decide)))

theorem bookedEff_unwritten {s : State} {b : Booking} (h : s.slot.drained b.k = true ∨ s.cis.physOf b.logical = none) (e : Ecc) :
    (bookedEff b e s).cis = s.cis := by
  cases hdr : s.slot.drained b.k with
  | true => rw [bookedEff_drained hdr]
  | false => rw [bookedEff_dark hdr (h.resolve_left (by simp [hdr]))]; rfl

theorem mread_bookedEff {e : Ecc} (he : e = .clean ∨ ∃ a c, e = .corrected a c) {s : State} {b : Booking} {p : Fin 17}
    (h : s.slot.drained b.k = false) (hp : s.cis.physOf b.logical = some p) {j : Nat} (hj : j < 64) :
    mread 0 (bookedEff b e s).cis.cells (cellKey p (b.k % 2560) (64 * b.cw + j)) =
      if b.cols.getLsbD j && !s.cis.suppressed (128 * b.logical + 64 * b.cw + j) then
        (stepCell .dec (mread 0 s.cis.cells (cellKey p (b.k % 2560) (64 * b.cw + j)))).1
      else mread 0 s.cis.cells (cellKey p (b.k % 2560) (64 * b.cw + j)) := by
  rw [bookedEff_served h hp, (performWrite_reported he p b.write _).2.cells]
  exact mread_writeCells p b.write (metSlot p b.k s) hj

/-- The instant of a booked write, and its booking marked as done. -/
def bookingDone (b : Booking) (lost : Bool) (s : State) : State :=
  { (if lost then s else s.at (s.slot.tick b.at')) with tkt := s.tkt.perform [b] }

theorem bookingDone_only (b : Booking) (lost : Bool) (s : State) : OnlyChanges [.tb, .edge, .tkt] s (bookingDone b lost s) := by
  cases lost
  · exact (State.at_only s _ |>.mono (by decide)).trans (t := s.at (s.slot.tick b.at')) (by simp [onlyChanges_iff, bookingDone])
  · simp [onlyChanges_iff, bookingDone]

theorem execBookedWrite_eq {s : State} {n : BitVec 15} {r : Ticket} {b : Booking} {lost : Bool}
    (hr : mget s.tkt.recs n.toNat = some r) (hs : r.state = .resolving false lost)
    (hb : (s.tkt.books.find? fun b => b.ticket == n.toNat && !b.done) = some b)
    (hc : lost = true ∨ s.comes (s.slot.tick b.at') = true) (e : Ecc) :
    execBookedWrite n e s = .next (bookedEff b e (bookingDone b lost s)) := by
  have hcomes : (lost || s.comes (s.slot.tick b.at')) = true := by simpa using hc
  simp only [execBookedWrite, hr, hb, hs, hcomes, if_true]
  cases lost <;> rfl

/-! ### The notice (R132, R149) -/

theorem notice_room {s : State} (h : s.dsc.noticeq.length < 256) (st : Status) (op t : Nat) (tag : Word) (drain : Nat) :
    notice st op t tag drain s = { s with dsc := { s.dsc with noticeq := s.dsc.noticeq ++
      [⟨st, BitVec.ofNat 4 op, true, BitVec.ofNat 16 t, tag, drain, false⟩] } } := by simp [notice, h]

theorem notice_full {s : State} (h : 256 ≤ s.dsc.noticeq.length) (st : Status) (op t : Nat) (tag : Word) (drain : Nat) :
    notice st op t tag drain s = raise S.HIF_CPL_LOST 0 (if s.dom 5 then s.add R.HIF_RING_LOST_CNT 1 1 else s) := by
  simp [notice, Nat.not_lt.2 h]

theorem notice_full_only {s : State} (h : 256 ≤ s.dsc.noticeq.length) (st : Status) (op t : Nat) (tag : Word) (drain : Nat) :
    OnlyChanges raiseParts s (notice st op t tag drain s) := by
  rw [notice_full h]
  have hcount : OnlyChanges [.regs] s (if s.dom 5 then s.add R.HIF_RING_LOST_CNT 1 1 else s) := .ite _ (State.add_only _ _ _ _ _) (.refl _ _)
  exact (hcount.mono (by decide)).trans (raise_only _ _ _)

theorem notice_only (st : Status) (op t : Nat) (tag : Word) (drain : Nat) (s : State) :
    OnlyChanges (.dsc :: raiseParts) s (notice st op t tag drain s) := by
  rcases Nat.lt_or_ge s.dsc.noticeq.length 256 with h | h
  · rw [notice_room h]
    simp [onlyChanges_iff, raiseParts]
  · exact (notice_full_only h _ _ _ _ _).mono (by decide)

theorem notice_full_raised {s : State} (h : 256 ≤ s.dsc.noticeq.length) (hd : s.dom 5 = true) (st : Status) (op t : Nat) (tag : Word)
    (drain : Nat) : (notice st op t tag drain s).raised S.HIF_CPL_LOST = true := by
  rw [notice_full h, if_pos hd]
  refine raised_raise _ _ ?_
  exact hd

/-- The ticket is freed with its bookings. -/
def freed (t : Nat) (s : State) : State := { s with tkt := s.tkt.drop t }

theorem freed_only (t : Nat) (s : State) : OnlyChanges [.tkt] s (freed t s) := by simp [onlyChanges_iff, freed]

theorem freed_noticeq (t : Nat) (s : State) : (freed t s).dsc = s.dsc := rfl

theorem freed_dom (t : Nat) (s : State) (d : Nat) : (freed t s).dom d = s.dom d := rfl

theorem execResolutionDone_eq {s : State} {n : BitVec 15} {r : Ticket} {fire lost : Bool}
    (hr : mget s.tkt.recs n.toNat = some r) (hs : r.state = .resolving fire lost)
    (hb : fire = true ∨ ∀ b ∈ s.tkt.books, b.ticket = n.toNat → b.done = true) :
    execResolutionDone n s = .next (notice (if lost then .sliceLost else .ok) (if fire then 3 else 4) n.toNat r.tag r.drain
      (freed n.toNat s)) := by
  have hdone : ¬ (!fire && s.tkt.books.any fun b => b.ticket == n.toNat && !b.done) = true := by
    rintro h
    obtain ⟨hf, hany⟩ := (Bool.and_eq_true _ _ ▸ h : _ ∧ _)
    obtain ⟨b, hmem, hbt⟩ := List.any_eq_true.1 hany
    obtain ⟨ht, hd⟩ := (Bool.and_eq_true _ _ ▸ hbt : _ ∧ _)
    rcases hb with rfl | hb
    · exact Bool.noConfusion hf
    · rw [hb b hmem (eq_of_beq ht)] at hd
      exact Bool.noConfusion hd
  simp only [execResolutionDone, hr, hs, if_neg hdone]
  rfl

theorem notice_tkt (st : Status) (op t : Nat) (tag : Word) (drain : Nat) (s : State) : (notice st op t tag drain s).tkt = s.tkt :=
  notice_only _ _ _ _ _ _ .tkt (by decide)

/-- Settles O31: each command by its equation; the booked write steps its cells as a codeword write does. -/
theorem ticketResolution : Obligations.TicketResolution := by
  intro s n r hr
  refine ⟨fun due hdue ho hb hrun hd hc => ⟨_, policyOf s r.cls, execTicketDeadline_eq hr hdue ho hb hrun hd hc, ?_, rfl, fun hg => ?_,
      resolve_rec _ _ _ _ _, rfl, ?_⟩,
    fun b lost ecc hs hb hc he => ⟨_, execBookedWrite_eq hr hs hb hc ecc, ?_, ?_, fun h => ?_, fun p j hdr hp hj => ?_⟩,
    fun fire lost hs hb => ⟨_, execResolutionDone_eq hr hs hb, ?_, fun b hb => ?_, fun hroom => ⟨?_, ?_⟩, fun hfull => ⟨?_, fun hd => ?_⟩⟩⟩
  · exact (State.at_only s due |>.mono (by decide)).trans (((State.add_only _ _ _ _ _).mono (by decide)).trans
      ((resolve_only _ _ _ _ _).mono (by decide)))
  · have hcls : policyOf s r.cls = s.rb R.CIS_CLS_POLICY r.cls.toNat := by simp [policyOf, hg]
    exact ⟨hcls, by simp [resolve, State.add, b2n, hg]⟩
  · exact resCount_counted _ s due
  · rw [bookedEff_only he b _ .tb (by decide)]
    cases lost <;> rfl
  · rw [bookedEff_only he b _ .tkt (by decide)]
    rfl
  · rw [bookedEff_unwritten]
    · rw [bookingDone_only b lost s .cis (by decide)]
    · rwa [bookingDone_only b lost s .cis (by decide), bookingDone_only b lost s .slot (by decide)]
  · have hslot : (bookingDone b lost s).slot = s.slot := bookingDone_only b lost s .slot (by decide)
    have hcis : (bookingDone b lost s).cis = s.cis := bookingDone_only b lost s .cis (by decide)
    rw [mread_bookedEff he (by rw [hslot]; exact hdr) (by rw [hcis]; exact hp) hj, hcis]
  · rw [notice_tkt]
    simp [freed, Tkt.drop, mget_mdel]
  · rw [notice_tkt] at hb
    simpa [freed, Tkt.drop] using (List.mem_filter.1 hb).2
  · rw [← freed_noticeq n.toNat s] at hroom
    rw [notice_room hroom]
    simp [onlyChanges_iff, freed]
  · rw [← freed_noticeq n.toNat s] at hroom
    rw [notice_room hroom]
    cases fire <;> rfl
  · refine ((freed_only n.toNat s).mono (by decide)).trans ((notice_full_only ?_ _ _ _ _ _).mono (by decide))
    exact hfull
  · refine notice_full_raised ?_ ?_ _ _ _ _ _
    · exact hfull
    · exact hd

end Sys2Proof.Machine
end

section
/-! Fetching descriptors from the submission ring (R79, R103, R124, R142). -/

namespace Sys2Proof.Machine

theorem State.dom_congr {s t : State} (h : t.pwr = s.pwr) (d : Nat) : t.dom d = s.dom d := by simp only [State.dom, h]

/-- A one-bit field is set where it reads 1. -/
theorem State.rb_of_r {s : State} {f : RegField} {v : Nat} (h : s.r f = v) : s.rb f = (v == 1) := congrArg (· == 1) h

/-! ### Requests (R79, R142) -/

theorem fetchSize_le (s : State) : fetchSize s ≤ 16 ∧ fetchSize s ≤ s.hif.cfg.readEntries := by
  have h : fetchSize s ≤ min 16 s.hif.cfg.readEntries := Nat.min_le_left _ _
  omega

theorem execRingFetch_halted {s : State} (h : s.rb R.HIF_DMA_STAT_HALT = true) : execRingFetch s = .next s := by
  simp [execRingFetch, h]

/-! ### Entries enter the unit (R124) -/

/-- An entry takes its place in the unit, and the ring's index moves on. -/
def entered (d : RawDesc) (s : State) : State :=
  { s with dsc := { s.dsc with flights := s.dsc.flights ++ [fetched s.dsc.nextId d], nextId := s.dsc.nextId + 1 },
           rings := s.rings.set 0 { s.rings[(0 : Fin 4)] with idx := (s.rings[(0 : Fin 4)].idx + 1) % s.ringSize 0 } }

/-- The largest number of descriptors in staging is noted. -/
def stagingNoted (s : State) : State := { s with evs := { s.evs with telStgMax := max s.evs.telStgMax s.stagedCount } }

/-- An entry is counted on its ring. -/
def enteredCounted (d : RawDesc) (s : State) : State := ringCount (stagingNoted (entered d s)) 0 false

theorem stageOne_eq (s : State) (d : RawDesc) : stageOne s d = raiseIf (!descCrcOk d) S.HIF_DESC_CRC 0 (enteredCounted d s) := rfl

theorem enteredCounted_only (d : RawDesc) (s : State) : OnlyChanges [.dsc, .rings, .evs, .hif, .tx] s (enteredCounted d s) := by
  have hent : OnlyChanges [.dsc, .rings, .evs] s (stagingNoted (entered d s)) := by simp [onlyChanges_iff, stagingNoted, entered]
  exact (hent.mono (by decide)).trans ((ringCount_only _ _ _).mono (by decide))

theorem enteredCounted_dsc (d : RawDesc) (s : State) : (enteredCounted d s).dsc =
    { s.dsc with flights := s.dsc.flights ++ [fetched s.dsc.nextId d], nextId := s.dsc.nextId + 1 } := rfl

theorem enteredCounted_idx (d : RawDesc) (s : State) :
    (enteredCounted d s).rings[(0 : Fin 4)].idx = (s.rings[(0 : Fin 4)].idx + 1) % s.ringSize 0 := by
  rw [enteredCounted, ringCount_idx]
  simp [stagingNoted, entered]

theorem stageOne_only (s : State) (d : RawDesc) : OnlyChanges (.dsc :: .rings :: raiseParts) s (stageOne s d) := by
  rw [stageOne_eq]
  exact ((enteredCounted_only d s).mono (by decide)).trans ((raiseIf_only _ _ _ _).mono (by decide))

theorem stageOne_dsc (s : State) (d : RawDesc) : (stageOne s d).dsc =
    { s.dsc with flights := s.dsc.flights ++ [fetched s.dsc.nextId d], nextId := s.dsc.nextId + 1 } := by
  rw [stageOne_eq, raiseIf_dsc, enteredCounted_dsc]

theorem stageOne_idx (s : State) (d : RawDesc) :
    (stageOne s d).rings[(0 : Fin 4)].idx = (s.rings[(0 : Fin 4)].idx + 1) % s.ringSize 0 := by
  rw [stageOne_eq, raiseIf_rings, enteredCounted_idx]

theorem stageOne_ringSize (s : State) (d : RawDesc) : (stageOne s d).ringSize 0 = s.ringSize 0 := by
  have hr : (stageOne s d).r R.HIF_RING_CFG_LOG2SIZE = s.r R.HIF_RING_CFG_LOG2SIZE := by
    rw [stageOne_eq, raiseIf_r _ _ _ _ _ _ _ (raiseLeaves_of rfl)]
    rfl
  exact congrArg (2 ^ ·) hr

theorem stageOne_raised (s : State) (d : RawDesc) {c : Src} (h : s.raised c = true) : (stageOne s d).raised c = true := by
  rw [stageOne_eq]
  exact raised_of_raiseIf h

theorem stageOne_crc {s : State} (h5 : s.dom 5 = true) {d : RawDesc} (h : descCrcOk d = false) :
    (stageOne s d).raised S.HIF_DESC_CRC = true := by
  rw [stageOne_eq, h]
  exact raised_raise _ _ h5

theorem foldl_stageOne_only (ds : List RawDesc) (s : State) :
    OnlyChanges (.dsc :: .rings :: raiseParts) s (ds.foldl stageOne s) := .foldl _ (fun t d => stageOne_only t d) _ _

theorem foldl_stageOne_raised (ds : List RawDesc) {c : Src} : ∀ {s : State}, s.raised c = true → (ds.foldl stageOne s).raised c = true :=
  fun h => foldl_keeps (P := fun t => t.raised c = true) (fun t d ht => stageOne_raised t d ht) ds h

theorem foldl_stageOne_fetchOut (ds : List RawDesc) (s : State) : (ds.foldl stageOne s).dsc.fetchOut = s.dsc.fetchOut :=
  foldl_keeps (P := fun t => t.dsc.fetchOut = s.dsc.fetchOut) (fun t d ht => by rw [stageOne_dsc]; exact ht) ds rfl

/-- The entries of a request enter the unit in order. -/
theorem foldl_stageOne_flights (ds : List RawDesc) (s : State) : (ds.foldl stageOne s).dsc.flights =
    s.dsc.flights ++ ds.zipIdx.map fun e => fetched (s.dsc.nextId + e.2) e.1 := by
  induction ds generalizing s with
  | nil => simp
  | cons d ds ih =>
    rw [List.foldl_cons, ih, stageOne_dsc]
    simp [List.zipIdx_succ, Nat.add_assoc, Nat.add_comm 1]

theorem foldl_stageOne_idx {ds : List RawDesc} (h : ds ≠ []) (s : State) : (ds.foldl stageOne s).rings[(0 : Fin 4)].idx =
    (s.rings[(0 : Fin 4)].idx + ds.length) % s.ringSize 0 := by
  induction ds generalizing s with
  | nil => exact absurd rfl h
  | cons d ds ih =>
    rw [List.foldl_cons, List.length_cons]
    cases ds with
    | nil => exact stageOne_idx s d
    | cons e ds =>
      rw [ih (List.cons_ne_nil _ _), stageOne_idx, stageOne_ringSize, Nat.mod_add_mod]
      congr 1
      omega

theorem foldl_stageOne_crc {ds : List RawDesc} {s : State} (h5 : s.dom 5 = true) (h : ∃ d ∈ ds, descCrcOk d = false) :
    (ds.foldl stageOne s).raised S.HIF_DESC_CRC = true := by
  obtain ⟨d, hd, hbad⟩ := h
  obtain ⟨l, l', rfl⟩ := List.append_of_mem hd
  rw [List.foldl_append, List.foldl_cons]
  refine foldl_stageOne_raised l' (stageOne_crc ?_ hbad)
  rw [← h5]
  exact State.dom_congr (foldl_stageOne_only l s .pwr (by decide)) 5

theorem execFetchCompletion_eq {s : State} {ds : List RawDesc} {l : List Nat} (h : s.dsc.fetchOut = ds.length :: l)
    (h4 : s.dom 4 = true) (h5 : s.dom 5 = true) :
    execFetchCompletion ds s = .next (ds.foldl stageOne { s with dsc := { s.dsc with fetchOut := l } }) := by
  simp [execFetchCompletion, h, h4, h5]

/-! ### A failed request (R103) -/

/-- The failed request and those after it are discarded, and fetching halts. -/
def fetchHalted (k : Nat) (s : State) : State :=
  { s with dsc := { s.dsc with fetchOut := s.dsc.fetchOut.take k },
           regs := rput (rput s.regs R.HIF_DMA_STAT_HALT 1) R.HIF_DMA_STAT_RING (s.r R.HIF_DMA_STAT_RING ||| 1) }

theorem execFetchError_eq {s : State} {i : BitVec 6} (h : i.toNat < s.dsc.fetchOut.length) (h5 : s.dom 5 = true) :
    execFetchError s i = .next (raise S.HIF_DMA_ERR 0 (fetchHalted i.toNat s)) := by
  simp [execFetchError, Nat.not_le.2 h, h5, fetchHalted]

theorem fetchHalted_halt (k : Nat) (s : State) : (raise S.HIF_DMA_ERR 0 (fetchHalted k s)).rb R.HIF_DMA_STAT_HALT = true := by
  refine State.rb_of_r (v := 1) ?_
  rw [raise_r _ _ _ _ _ _ (raiseLeaves_of rfl)]
  have h : (fetchHalted k s).r R.HIF_DMA_STAT_HALT = rget (rput s.regs R.HIF_DMA_STAT_HALT 1) R.HIF_DMA_STAT_HALT :=
    rget_rput_apart _ _ rfl
  exact h.trans (rget_rput_same _ _ _ _ _ (by decide))

theorem dmaResume_eq {s : State} (h : s.lands 1 = true) : execDmaResume s = .next ((s.order 6).w R.HIF_DMA_STAT_HALT 0) :=
  congrArg Host.Outcome.next (hostWr_lands (dmaCtrlEff 1) h)

/-- Settles O26: a request is as long as `fetchSize` gives, its entries enter one by one, and a failed one halts fetching. -/
theorem descriptorFetch : Obligations.DescriptorFetch := by
  intro s
  refine ⟨fun n i hn hi h4 hdma hen hhalt hn0 hlen => ⟨?_, ?_, ?_⟩, fun ds l hne hout h4 h5 => ⟨_, execFetchCompletion_eq hout h4 h5, ?_, ?_, ?_, fun hbad => ?_, ?_⟩,
    fun i hi h5 => ⟨_, execFetchError_eq hi h5, ?_, ?_, ?_, ?_, ?_⟩, fun hl => ⟨_, dmaResume_eq hl, ?_, ?_, ?_⟩⟩
  · exact hn ▸ (fetchSize_le s).1
  · have hle := (fetchSize_le s).2
    rw [← hn, CfgSpace.readEntries] at hle
    omega
  · subst hn hi
    have hcond : (s.dom 4 && s.dmaOk && s.rings[(0 : Fin 4)].en && !s.rb R.HIF_DMA_STAT_HALT && fetchSize s != 0
        && decide (s.dsc.fetchOut.length < 64)) = true := by simp only [h4, hdma, hen, hhalt, hlen, bne_iff_ne.2 hn0]; rfl
    exact congrArg Host.Outcome.next (if_pos hcond)
  · rw [foldl_stageOne_fetchOut]
  · exact foldl_stageOne_flights ds _
  · exact foldl_stageOne_idx hne _
  · exact foldl_stageOne_crc h5 hbad
  · refine OnlyChanges.trans ?_ (foldl_stageOne_only ds _)
    simp [onlyChanges_iff, raiseParts]
  · refine OnlyChanges.trans ?_ ((raise_only _ _ _).mono (by decide))
    simp [onlyChanges_iff, raiseParts, fetchHalted]
  · rw [raise_dsc]
    rfl
  · exact fetchHalted_halt _ s
  · exact raised_raise _ _ h5
  · exact execRingFetch_halted (fetchHalted_halt _ s)
  · simp [onlyChanges_iff]
  · exact (RegsBut.refl _ _).rput (by decide)
  · exact State.rb_of_r (State.r_w_same (by decide))

end Sys2Proof.Machine
end

section
/-! Admission: the descriptor next in turn, and those that finish at once (R121, R125, R134, R135, R138, R139). -/

namespace Sys2Proof.Machine

theorem next_at_order {s u : State} {f : Flight} {op : Nat} (h : Next s u f op) : u = s.order 7 := h.2.2.2.2

theorem next_op {s u : State} {f : Flight} {op : Nat} (h : Next s u f op) : dOp f.raw = op := h.2.1

theorem withNext_eq {s u : State} {f : Flight} {op : Nat} (h : Next s u f op) (eff : Flight → State → State) :
    withNext op eff s = eff f u := by
  obtain ⟨hnext, hop, hfmt, hready, hu⟩ := h
  simp [withNext, hnext, hop, hfmt, hready, hu]

/-- A descriptor that finishes at its admission. -/
def finished (f : Flight) (st : Status) (s : State) : State := finish f st (admitNow f s)

theorem finished_with (f : Flight) (st : Status) (s : State) : FinishedWith s (finished f st s) f st := by
  refine ⟨?_, rfl, rfl⟩
  simp only [finished, finish, updFlight, admitNow, List.map_map]
  refine List.map_congr_left fun g _ => ?_
  by_cases hg : g.id = f.id <;> simp [hg]

theorem finished_only (f : Flight) (st : Status) (s : State) : OnlyChanges [.dsc, .evs] s (finished f st s) := by
  simp [onlyChanges_iff, finished, finish, updFlight, admitNow]

theorem order_dsc (s : State) (n : Nat) : (s.order n).dsc = s.dsc := s.order_only n .dsc (by decide)

theorem next_only {s u : State} {f : Flight} {op : Nat} (h : Next s u f op) : OnlyChanges [.tb, .osr, .edge] s u :=
  next_at_order h ▸ s.order_only 7

theorem next_dsc {s u : State} {f : Flight} {op : Nat} (h : Next s u f op) : u.dsc = s.dsc := next_only h .dsc (by decide)

/-- A FENCE is carried out where it is the first of the host's and no completion waits. -/
def fenceEff (first : Option Flight) (f : Flight) (s : State) : State :=
  if first.map (·.id) == some f.id && s.dsc.cplq.isEmpty then finished f .ok s else s

theorem execAdmitFence_eq {s u : State} {f : Flight} (h : Next s u f 5) :
    execAdmitFence s = .next (fenceEff (s.dsc.flights.find? fun g => g.peer.isNone) f u) :=
  congrArg Host.Outcome.next (withNext_eq h _)

/-- An invalid descriptor finishes with RANGE, and the host's is reported. -/
def invalidEff (f : Flight) (s : State) : State :=
  if f.peer.isNone then raise S.HIF_DESC_FMT 0 (finished f .range s) else finished f .range s

theorem execAdmitInvalidOpcode_eq {s u : State} {f : Flight} (hnext : nextStaged s.dsc.flights = some f) (hfmt : fmtBad f.raw = true)
    (hready : admitReady s f = true) (hu : u = s.order 7) : execAdmitInvalidOpcode s = .next (invalidEff f u) := by
  subst hu
  simp only [execAdmitInvalidOpcode, hnext, hfmt, hready, Bool.and_self, if_true]
  rfl

theorem invalidEff_dsc (f : Flight) (s : State) : (invalidEff f s).dsc = (finished f .range s).dsc := by
  unfold invalidEff
  split
  · exact raise_dsc _ _ _
  · rfl

/-- Settles O27: each command carries out the descriptor next in turn, which finishes at once. -/
theorem plainDescriptors : Obligations.PlainDescriptors := by
  intro s u f
  refine ⟨fun h => ⟨_, congrArg Host.Outcome.next (withNext_eq h _), finished_only f .ok u, finished_with f .ok u⟩,
    fun h hfirst hq => ⟨_, execAdmitFence_eq h, ?_⟩, fun h hwait => (execAdmitFence_eq h).trans (congrArg Host.Outcome.next ?_),
    fun hnext hfmt hready hu => ⟨_, execAdmitInvalidOpcode_eq hnext hfmt hready hu, ?_, fun hp h5 => ?_, fun hp => ?_, ?_⟩⟩
  · have hu : u.dsc = s.dsc := next_dsc h
    have heff : fenceEff (s.dsc.flights.find? fun g => g.peer.isNone) f u = finished f .ok u := by
      simp [fenceEff, hfirst, hu, hq]
    rw [heff]
    exact ⟨finished_only f .ok u, finished_with f .ok u⟩
  · have hu : u.dsc = s.dsc := next_dsc h
    refine if_neg ?_
    rcases hwait with hq | ⟨g, hg, hne⟩
    · simp [hu, hq]
    · simp [hg, hne]
  · have hu' : u.dsc = s.dsc := by rw [hu, order_dsc]
    rw [invalidEff_dsc, (finished_with f .range u).1, hu']
  · rw [invalidEff, if_pos (by simp [hp])]
    refine raised_raise _ _ ?_
    rw [State.blockUp_congr (finished_only f .range u .pwr (by decide)), hu, State.blockUp_congr (s.order_only 7 .pwr (by decide))]
    exact h5
  · rw [invalidEff, if_neg (by simpa [Option.isSome_iff_ne_none] using hp)]
    exact ⟨finished_only f .range u, finished_with f .range u⟩
  · have hfin : OnlyChanges (.dsc :: raiseParts) u (finished f .range u) := (finished_only f .range u).mono (by decide)
    exact .ite _ (hfin.trans ((raise_only _ _ _).mono (by decide))) hfin

end Sys2Proof.Machine
end

section
/-! Writes queued by an admission, forwarded parts, and CONFIRM and REVOKE (R134, R136, R140, R157, R159, R426, R429). -/

namespace Sys2Proof.Machine

/-! ### Write queues (R140) -/

theorem enqueue_only (s : State) (w : CwWrite) : OnlyChanges [.cis, .regs] s (enqueue s w) := by
  unfold enqueue
  split
  · simp [onlyChanges_iff]
  · exact (State.add_only _ _ _ _ _).mono (by decide)

theorem enqueue_cells (s : State) (w : CwWrite) : (enqueue s w).cis.cells = s.cis.cells := by
  unfold enqueue
  split <;> rfl

theorem enqueue_physOf (s : State) (w : CwWrite) (n : Fin 16) : (enqueue s w).cis.physOf n = s.cis.physOf n := by
  unfold enqueue
  split
  · next p hp =>
    have hfailed : (vmod s.cis.phys p fun x => { x with wq := x.wq ++ [w], h := max x.h w.slot })[n.castSucc].failed
        = s.cis.phys[n.castSucc].failed := vmod_failed _ _ _ _ rfl
    simp only [Cis.physOf, hfailed]
  · rfl

theorem enqueue_wq (s : State) (w : CwWrite) (p : Fin 17) : (enqueue s w).cis.phys[p].wq =
    s.cis.phys[p].wq ++ [w].filter fun w => s.cis.physOf w.logical == some p := by
  unfold enqueue
  split
  · next q hq =>
    by_cases h : q = p
    · subst h
      simp [vmod, hq]
    · have hv : q.val ≠ p.val := fun e => h (Fin.ext e)
      simp [vmod, hq, h, hv]
  · next hq => simp [hq, State.add]

theorem foldl_enqueue_only (ws : List CwWrite) (s : State) : OnlyChanges [.cis, .regs] s (ws.foldl enqueue s) :=
  .foldl _ (fun t w => enqueue_only t w) _ _

theorem foldl_enqueue_cells (ws : List CwWrite) (s : State) : (ws.foldl enqueue s).cis.cells = s.cis.cells :=
  foldl_keeps (P := fun t => t.cis.cells = s.cis.cells) (fun t w h => (enqueue_cells t w).trans h) ws rfl

theorem foldl_enqueue_wq (ws : List CwWrite) (s : State) (p : Fin 17) : (ws.foldl enqueue s).cis.phys[p].wq =
    s.cis.phys[p].wq ++ ws.filter fun w => s.cis.physOf w.logical == some p := by
  induction ws generalizing s with
  | nil => simp
  | cons w ws ih =>
    have hphys : ∀ w' : CwWrite, (enqueue s w).cis.physOf w'.logical = s.cis.physOf w'.logical := fun w' => enqueue_physOf s w w'.logical
    rw [List.foldl_cons, ih, enqueue_wq]
    simp only [hphys, List.append_assoc, ← List.filter_append]
    rfl

/-- A descriptor that is admitted, with its status and its ticket. -/
def admittedAs (st : Status) (drain : Nat) (ticket : Option Nat) (opens : Option Ticket) (dark : Bool) (g : Flight) : Flight :=
  { g with phase := .admitted, status := st, drain := drain, ticket := ticket, opens := opens, sliceLost := g.sliceLost || dark }

variable (f : Flight) (ws : List CwWrite) (st : Status) (drain : Nat) (ticket : Option Nat) (opens : Option Ticket) (dark : Bool) (s : State)

theorem beginWrites_eq : beginWrites f ws st drain ticket opens dark s =
    ws.foldl enqueue (updFlight s f.id (admittedAs st drain ticket opens dark)) := rfl

theorem beginWrites_only : OnlyChanges [.dsc, .cis, .regs] s (beginWrites f ws st drain ticket opens dark s) :=
  ((updFlight_only s f.id _).mono (by decide)).trans ((foldl_enqueue_only ws _).mono (by decide))

theorem beginWrites_dsc : (beginWrites f ws st drain ticket opens dark s).dsc =
    (updFlight s f.id (admittedAs st drain ticket opens dark)).dsc := foldl_enqueue_only ws _ .dsc (by decide)

theorem beginWrites_cells : (beginWrites f ws st drain ticket opens dark s).cis.cells = s.cis.cells := foldl_enqueue_cells ws _

theorem beginWrites_wq (p : Fin 17) : (beginWrites f ws st drain ticket opens dark s).cis.phys[p].wq =
    s.cis.phys[p].wq ++ ws.filter fun w => s.cis.physOf w.logical == some p := foldl_enqueue_wq ws _ p

/-! ### Forwarded parts (R426) -/

variable {s}

theorem State.osrUp_congr {t : State} (hp : t.pwr = s.pwr) (ho : t.osr = s.osr) (p : Fin 2) : t.osrUp p = s.osrUp p := by
  rw [State.osrUp, State.osrUp, State.dom_congr hp, ho]

theorem pathTo_congr {t : State} (hp : t.pwr = s.pwr) (ho : t.osr = s.osr) (side : Fin 2) : pathTo t side = pathTo s side := by
  simp only [pathTo, State.osrUp_congr hp ho]

theorem State.locked_congr {t : State} (ho : t.osr = s.osr) : t.locked = s.locked := by simp only [State.locked, State.ringId, ho]

variable (id : Nat) (side : Fin 2) (d : RawDesc) (t first n : Nat) (kdl : Int)

/-- A part that leaves on a path. -/
def partSent (p : Fin 2) (s : State) : State :=
  { updFlight s id fun f => { f with fwd := some ⟨p, s.dsc.fseq, none⟩ } with
    dsc := { (updFlight s id fun f => { f with fwd := some ⟨p, s.dsc.fseq, none⟩ }).dsc with fseq := s.dsc.fseq + 1 }
    regs := radd s.regs R.OSR_FWD_CNT_SENT 1, tx := Tx.osr p (fwdFrame s side d t first n kdl) :: s.tx }

/-- A part to which no path leads has failed. -/
def partFailed (s : State) : State :=
  (updFlight s id fun f => { f with fwd := some ⟨side, 0, some (.forwardFail, 0)⟩ }).add R.OSR_FWD_CNT_FAIL 1

theorem sendFwd_path {p : Fin 2} (hl : s.locked = true) (hp : pathTo s side = some p) :
    sendFwd id side d t first n kdl s = partSent id side d t first n kdl p s := by
  simp only [sendFwd, hl, if_true, hp]
  rfl

theorem sendFwd_noPath (h : s.locked = false ∨ pathTo s side = none) : sendFwd id side d t first n kdl s = partFailed id side s := by
  have hno : (if s.locked then pathTo s side else none) = none := by
    rcases h with h | h <;> simp [h]
  simp only [sendFwd, hno]
  rfl

theorem partSent_only (p : Fin 2) (s : State) : OnlyChanges [.dsc, .regs, .tx] s (partSent id side d t first n kdl p s) := by
  simp [onlyChanges_iff, partSent, updFlight]

theorem partFailed_only (s : State) : OnlyChanges [.dsc, .regs] s (partFailed id side s) := by
  simp [onlyChanges_iff, partFailed, updFlight, State.add]

theorem sendFwd_only (s : State) : OnlyChanges [.dsc, .regs, .tx] s (sendFwd id side d t first n kdl s) := by
  unfold sendFwd
  split
  · exact partSent_only id side d t first n kdl _ s
  · exact (partFailed_only id side s).mono (by decide)

end Sys2Proof.Machine
end
section
/-! CONFIRM and REVOKE (R134, R136, R157, R159, R429). -/

namespace Sys2Proof.Machine

/-- The ticket of a CONFIRM or REVOKE closes, and its bookings are released. -/
def closingTicket (t : Nat) (r : Ticket) (id : Nat) (s : State) : State :=
  { s with tkt := (s.tkt.upd t { r with state := .closing id }).release t }

/-- The status of a CONFIRM or REVOKE that is carried out. -/
def closeStatus (s : State) (r : Ticket) : Status :=
  if slotOpen s (ticketWritten s r) then .ok else if slotOpen s (ticketMax s r) then .late else .past

/-- A CONFIRM or REVOKE that is carried out, before its part for a neighbour. -/
def closed (op : CellOp) (f : Flight) (r : Ticket) (s : State) : State :=
  beginWrites f (ticketWrites s r (firstOpen s) op (some f.id)) (closeStatus s r) r.drain (some (dTicket f.raw)) none false
    (closingTicket (dTicket f.raw) r f.id (admitNow f s))

/-- The part of a CONFIRM or REVOKE for the neighbour that has the rest of the mark. -/
def closeForwarded (f : Flight) (r : Ticket) (s : State) : State :=
  if r.fwd && f.peer.isNone then sendFwd f.id (edgeSide r) f.raw (dTicket f.raw) 0 0 0 s else s

variable {f : Flight} {s : State} {op : CellOp}

theorem closeEff_inhibited (h : inhibited s f = true) : closeEff op f s = finished f .inhibited s := by
  simp [closeEff, h, finished]

theorem closeEff_unknown (h : inhibited s f = false)
    (hr : ∀ r, mget s.tkt.recs (dTicket f.raw) = some r → r.state ≠ .open ∨ s.slot.tickZ r.due ≤ s.tb) :
    closeEff op f s = finished f .ticketUnknown s := by
  unfold closeEff
  simp only [h, Bool.false_eq_true, if_false]
  split
  · next r hget =>
    have hno : ¬ (r.state == .open && decide ((s.tb : Int) < s.slot.tickZ r.due)) = true := by
      simpa [Int.not_lt, imp_iff_not_or] using hr r hget
    exact if_neg hno
  · rfl

theorem closeEff_open {r : Ticket} (h : inhibited s f = false) (hr : mget s.tkt.recs (dTicket f.raw) = some r) (ho : r.state = .open)
    (hdue : (s.tb : Int) < s.slot.tickZ r.due) (hq : queuesReady s (ticketWrites s r (firstOpen s) op (some f.id)) = true) :
    closeEff op f s = closeForwarded f r (closed op f r s) := by
  simp only [closeEff, h, hr, ho, hdue, hq, Bool.false_eq_true, if_false, beq_self_eq_true, decide_true, Bool.and_self, if_true,
    Bool.not_true]
  rfl

theorem closingTicket_admit_only (t : Nat) (r : Ticket) (s : State) :
    OnlyChanges [.dsc, .evs, .tkt] s (closingTicket t r f.id (admitNow f s)) := by
  simp [onlyChanges_iff, closingTicket, admitNow]

theorem closed_only (op : CellOp) (f : Flight) (r : Ticket) (s : State) :
    OnlyChanges [.dsc, .evs, .cis, .regs, .tkt] s (closed op f r s) :=
  ((closingTicket_admit_only _ r s).mono (by decide)).trans ((beginWrites_only _ _ _ _ _ _ _ _).mono (by decide))

theorem closed_tkt (op : CellOp) (f : Flight) (r : Ticket) (s : State) :
    (closed op f r s).tkt = (s.tkt.upd (dTicket f.raw) { r with state := .closing f.id }).release (dTicket f.raw) :=
  beginWrites_only _ _ _ _ _ _ _ _ .tkt (by decide)

theorem closeForwarded_only (f : Flight) (r : Ticket) (s : State) : OnlyChanges [.dsc, .regs, .tx] s (closeForwarded f r s) :=
  .ite _ (sendFwd_only _ _ _ _ _ _ _ _) (.refl _ _)

theorem closeForwarded_tx_kept {r : Ticket} (h : r.fwd = false ∨ f.peer ≠ none) (s : State) : (closeForwarded f r s).tx = s.tx := by
  refine congrArg State.tx (if_neg ?_)
  rcases h with h | h
  · simp [h]
  · simp [h]

theorem closeForwarded_sent {r : Ticket} {p : Fin 2} (hf : r.fwd = true) (hp : f.peer = none) (hl : s.locked = true)
    (hpath : pathTo s (edgeSide r) = some p) : ∃ fr, (closeForwarded f r s).tx = Tx.osr p fr :: s.tx := by
  have hcond : (r.fwd && f.peer.isNone) = true := by simp [hf, hp]
  rw [closeForwarded, if_pos hcond, sendFwd_path _ _ _ _ _ _ _ hl hpath]
  exact ⟨_, rfl⟩

/-- What a CONFIRM or REVOKE does, by the cases of R134 and R159. -/
theorem closeCommand {s u : State} {c : Instr} {op : Nat} {cell : CellOp} (hnext : Next s u f op)
    (hexec : exec c s = .next (closeEff cell f u)) :
    (inhibited u f = true → ∃ t, exec c s = .next t ∧ OnlyChanges [.dsc, .evs] u t ∧ FinishedWith u t f .inhibited)
    ∧ (inhibited u f = false → (∀ r, mget s.tkt.recs (dTicket f.raw) = some r → r.state ≠ .open ∨ u.slot.tickZ r.due ≤ u.tb) →
      ∃ t, exec c s = .next t ∧ OnlyChanges [.dsc, .evs] u t ∧ FinishedWith u t f .ticketUnknown)
    ∧ (∀ r, inhibited u f = false → mget s.tkt.recs (dTicket f.raw) = some r → r.state = .open → (u.tb : Int) < u.slot.tickZ r.due →
      queuesReady u (ticketWrites u r (firstOpen u) cell (some f.id)) = true →
      ∃ t, exec c s = .next t ∧ OnlyChanges [.dsc, .evs, .cis, .regs, .tkt, .tx] u t ∧ t.cis.cells = s.cis.cells
        ∧ mget t.tkt.recs (dTicket f.raw) = some { r with state := .closing f.id }
        ∧ (∀ b ∈ t.tkt.books, b.ticket ≠ dTicket f.raw)
        ∧ (r.fwd = false ∨ f.peer ≠ none → t.tx = s.tx)
        ∧ (∀ p, r.fwd = true → f.peer = none → u.locked = true → pathTo u (edgeSide r) = some p → ∃ fr, t.tx = Tx.osr p fr :: s.tx)
        ∧ (∀ p : Fin 17, t.cis.phys[p].wq = s.cis.phys[p].wq ++
            (ticketWrites u r (firstOpen u) cell (some f.id)).filter fun w => s.cis.physOf w.logical == some p)) := by
  have hcis : u.cis = s.cis := next_only hnext .cis (by decide)
  have htx : u.tx = s.tx := next_only hnext .tx (by decide)
  have htkt : u.tkt = s.tkt := next_only hnext .tkt (by decide)
  rw [← htkt, ← hcis, ← htx]
  refine ⟨fun hi => ⟨_, hexec, ?_, ?_⟩, fun hi hr => ⟨_, hexec, ?_, ?_⟩, fun r hi hr ho hdue hq => ⟨_, hexec, ?_⟩⟩
  · rw [closeEff_inhibited hi]; exact finished_only f _ u
  · rw [closeEff_inhibited hi]; exact finished_with f _ u
  · rw [closeEff_unknown hi hr]; exact finished_only f _ u
  · rw [closeEff_unknown hi hr]; exact finished_with f _ u
  · rw [closeEff_open hi hr ho hdue hq]
    have hfwd := closeForwarded_only f r (closed cell f r u)
    have hclosed := closed_only cell f r u
    have hclosedTx : (closed cell f r u).tx = u.tx := hclosed .tx (by decide)
    have hclosedOsr : (closed cell f r u).osr = u.osr := hclosed .osr (by decide)
    have hclosedPwr : (closed cell f r u).pwr = u.pwr := hclosed .pwr (by decide)
    rw [hfwd .cis (by decide), hfwd .tkt (by decide), closed_tkt]
    refine ⟨(hclosed.mono (by decide)).trans (hfwd.mono (by decide)), beginWrites_cells _ _ _ _ _ _ _ _, ?_, fun b hb => ?_,
      fun h => ?_, fun p hf hp hl hpath => ?_, fun p => beginWrites_wq _ _ _ _ _ _ _ _ p⟩
    · simp [Tkt.release, Tkt.upd, mget_mins]
    · simpa [Tkt.release] using (List.mem_filter.1 hb).2
    · rw [closeForwarded_tx_kept h, hclosedTx]
    · rw [← hclosedTx]
      refine closeForwarded_sent hf hp ?_ ?_
      · rw [State.locked_congr hclosedOsr]; exact hl
      · rw [pathTo_congr hclosedPwr hclosedOsr]; exact hpath

/-- Settles O29: both commands close a ticket alike and differ in the cell step. -/
theorem confirmAndRevoke : Obligations.ConfirmAndRevoke := by
  intro s u f c op cell hc hnext
  refine closeCommand hnext ?_
  rcases List.mem_pair.1 hc with h | h
  · obtain ⟨rfl, rfl, rfl⟩ := (by simpa using h : c = .admitConfirm ∧ op = 3 ∧ cell = .confirm)
    exact congrArg Host.Outcome.next (withNext_eq hnext _)
  · obtain ⟨rfl, rfl, rfl⟩ := (by simpa using h : c = .admitRevoke ∧ op = 4 ∧ cell = .dec)
    exact congrArg Host.Outcome.next (withNext_eq hnext _)

end Sys2Proof.Machine
end

section
/-! MARK and MARK_SPEC (R62, R125, R126, R134, R140, R141, R157, R163, R164). -/

namespace Sys2Proof.Machine

/-! ### The writes of a band (R140) -/

theorem bandWrites_spec {cols : List (Nat × Int)} {nr : Nat} {lo hi : Int} {op : CellOp} {owner : Option Nat} {w : CwWrite}
    (h : w ∈ bandWrites cols nr lo hi op owner) : w.op = op ∧ w.owner = owner := by
  obtain ⟨k, -, hk⟩ := List.mem_flatMap.1 h
  obtain ⟨g, -, hg⟩ := List.mem_filterMap.1 hk
  dsimp only at hg
  split at hg
  · exact absurd hg (by simp)
  · obtain rfl := Option.some.inj hg
    exact ⟨rfl, rfl⟩

/-! ### A mark that is carried out (R62, R125) -/

/-- A mark that is carried out, with its ticket and with the bookings that it leaves. -/
def marked (f : Flight) (b : Band) (n : Nat) (kdl : Int) (ticket : Option Nat) (opens : Option Ticket) (k : Tkt) (s : State) : State :=
  forwardMark f n kdl (beginWrites f (markWrites s f b) (if slotOpen s b.kmin then .ok else .late) (tick64 s b.kmin) ticket opens
    (bandDark s.cis b) { admitNow f s with tkt := k })

/-- A mark that is carried out, before its part for a neighbour. -/
def markBegun (f : Flight) (b : Band) (ticket : Option Nat) (opens : Option Ticket) (k : Tkt) (s : State) : State :=
  beginWrites f (markWrites s f b) (if slotOpen s b.kmin then .ok else .late) (tick64 s b.kmin) ticket opens
    (bandDark s.cis b) { admitNow f s with tkt := k }

theorem marked_eq (f : Flight) (b : Band) (n : Nat) (kdl : Int) (ticket : Option Nat) (opens : Option Ticket) (k : Tkt) (s : State) :
    marked f b n kdl ticket opens k s = forwardMark f n kdl (markBegun f b ticket opens k s) := rfl

variable (f : Flight) (b : Band) (n : Nat) (kdl : Int) (ticket : Option Nat) (opens : Option Ticket) (k : Tkt) (s : State)

theorem markBegun_only : OnlyChanges [.dsc, .evs, .cis, .regs, .tkt] s (markBegun f b ticket opens k s) := by
  have hadm : OnlyChanges [.dsc, .evs, .tkt] s { admitNow f s with tkt := k } := by simp [onlyChanges_iff, admitNow]
  exact (hadm.mono (by decide)).trans ((beginWrites_only _ _ _ _ _ _ _ _).mono (by decide))

theorem markBegun_tkt : (markBegun f b ticket opens k s).tkt = k := beginWrites_only _ _ _ _ _ _ _ _ .tkt (by decide)

theorem markBegun_fseq : (markBegun f b ticket opens k s).dsc.fseq = s.dsc.fseq := by
  rw [markBegun, beginWrites_dsc]
  rfl

/-- What a mark that is carried out says of its descriptor. -/
structure MarkFlight (u : State) (b : Band) (ticket : Option Nat) (opens : Option Ticket) (g : Flight) : Prop where
  phase : g.phase = .admitted
  tA : g.tA = u.tb
  status : g.status = if slotOpen u b.kmin then .ok else .late
  lost : bandDark u.cis b = true → g.sliceLost = true
  ticket : g.ticket = ticket
  opens : g.opens = opens

theorem markBegun_flight {g : Flight} (hg : g ∈ (markBegun f b ticket opens k s).dsc.flights) (hid : g.id = f.id) :
    MarkFlight s b ticket opens g := by
  rw [markBegun, beginWrites_dsc] at hg
  simp only [updFlight, admitNow, List.map_map] at hg
  obtain ⟨g0, -, rfl⟩ := List.mem_map.1 hg
  have h0 : g0.id = f.id := by
    by_contra hne
    simp [hne] at hid
  exact ⟨by simp [h0, admittedAs], by simp [h0, admittedAs], by simp [h0, admittedAs], fun hd => by simp [h0, admittedAs, hd],
    by simp [h0, admittedAs], by simp [h0, admittedAs]⟩

/-! ### The part for a neighbour (R426) -/

variable {s}

theorem foreignPart_congr {t : State} (ho : t.osr = s.osr) (d : RawDesc) : foreignPart t d = foreignPart s d := by
  have hbase : t.colBase = s.colBase := by rw [State.colBase, State.colBase, State.ringId, State.ringId, ho]
  rw [foreignPart, foreignPart, hbase]

variable {f}

theorem forwardMark_kept (h : f.peer ≠ none ∨ foreignPart s f.raw = none) : forwardMark f n kdl s = s := by
  unfold forwardMark
  split
  · rfl
  · next hp => rw [h.resolve_left fun hne => hp (by simpa [Option.isSome_iff_ne_none] using hne)]

theorem forwardMark_part {side : Fin 2} {first m : Nat} (hp : f.peer = none) (h : foreignPart s f.raw = some (side, first, m)) :
    forwardMark f n kdl s = sendFwd f.id side f.raw n first m kdl s := by
  simp [forwardMark, hp, h]

theorem forwardMark_only (s : State) : OnlyChanges [.dsc, .regs, .tx] s (forwardMark f n kdl s) := by
  unfold forwardMark
  split
  · exact .refl _ _
  · split
    · exact sendFwd_only _ _ _ _ _ _ _ _
    · exact .refl _ _

/-- A forwarded part marks its descriptor alone. -/
theorem sendFwd_flights {id : Nat} {side : Fin 2} {d : RawDesc} {t first m : Nat} {g : Flight}
    (hg : g ∈ (sendFwd id side d t first m kdl s).dsc.flights) : ∃ g0 ∈ s.dsc.flights, g0.id = g.id ∧
      ∀ u b ticket opens, MarkFlight u b ticket opens g0 → MarkFlight u b ticket opens g := by
  have hmap : ∃ x : Option FwdPart, g ∈ s.dsc.flights.map fun f => if f.id = id then { f with fwd := x } else f := by
    unfold sendFwd at hg
    split at hg
    · exact ⟨_, hg⟩
    · exact ⟨_, hg⟩
  obtain ⟨x, hmem⟩ := hmap
  obtain ⟨g0, h0, rfl⟩ := List.mem_map.1 hmem
  refine ⟨g0, h0, by split <;> rfl, fun u b ticket opens hm => ?_⟩
  split
  · exact ⟨hm.phase, hm.tA, hm.status, hm.lost, hm.ticket, hm.opens⟩
  · exact hm

theorem forwardMark_flights {g : Flight} (hg : g ∈ (forwardMark f n kdl s).dsc.flights) : ∃ g0 ∈ s.dsc.flights, g0.id = g.id ∧
    ∀ u b ticket opens, MarkFlight u b ticket opens g0 → MarkFlight u b ticket opens g := by
  unfold forwardMark at hg
  split at hg
  · exact ⟨g, hg, rfl, fun _ _ _ _ h => h⟩
  · split at hg
    · exact sendFwd_flights _ hg
    · exact ⟨g, hg, rfl, fun _ _ _ _ h => h⟩

theorem partSent_fwd {id : Nat} {side : Fin 2} {d : RawDesc} {t first m : Nat} {p : Fin 2} {g : Flight}
    (hg : g ∈ (partSent id side d t first m kdl p s).dsc.flights) (hid : g.id = id) : g.fwd = some ⟨p, s.dsc.fseq, none⟩ := by
  obtain ⟨g0, -, rfl⟩ := List.mem_map.1 (hg : g ∈ s.dsc.flights.map _)
  by_cases h0 : g0.id = id
  · simp [h0]
  · simp [h0] at hid

theorem partFailed_fwd {id : Nat} {side : Fin 2} {g : Flight} (hg : g ∈ (partFailed id side s).dsc.flights) (hid : g.id = id) :
    g.fwd = some ⟨side, 0, some (.forwardFail, 0)⟩ := by
  obtain ⟨g0, -, rfl⟩ := List.mem_map.1 (hg : g ∈ s.dsc.flights.map _)
  by_cases h0 : g0.id = id
  · simp [h0]
  · simp [h0] at hid

variable (f s)

/-- The descriptor of a mark that is carried out. -/
theorem marked_flight {g : Flight} (hg : g ∈ (marked f b n kdl ticket opens k s).dsc.flights) (hid : g.id = f.id) :
    MarkFlight s b ticket opens g := by
  rw [marked_eq] at hg
  obtain ⟨g0, h0, hid0, himp⟩ := forwardMark_flights _ _ hg
  exact himp _ _ _ _ (markBegun_flight f b ticket opens k s h0 (hid0.trans hid))

theorem marked_tkt : (marked f b n kdl ticket opens k s).tkt = k := by
  rw [marked_eq, forwardMark_only _ _ _ .tkt (by decide), markBegun_tkt]

theorem marked_carriedOut {op : CellOp} (hop : (if dOp f.raw = 2 then CellOp.incSpec else .incFirm) = op) :
    CarriedOut s (marked f b n kdl ticket opens k s) f b op := by
  have hbegun := markBegun_only f b ticket opens k s
  have hosr : (markBegun f b ticket opens k s).osr = s.osr := hbegun .osr (by decide)
  have hpwr : (markBegun f b ticket opens k s).pwr = s.pwr := hbegun .pwr (by decide)
  have htx : (markBegun f b ticket opens k s).tx = s.tx := hbegun .tx (by decide)
  have hcis : (marked f b n kdl ticket opens k s).cis = (markBegun f b ticket opens k s).cis := forwardMark_only _ _ _ .cis (by decide)
  refine ⟨?_, ?_, fun w hw => hop ▸ bandWrites_spec hw, fun p => ?_, fun g hg hid => ?_, fun h => ?_, fun side first m hp hpart => ⟨fun p hl hpath => ?_, fun h => ?_⟩⟩
  · rw [hcis]; exact beginWrites_cells _ _ _ _ _ _ _ _
  · exact (hbegun.mono (by decide)).trans ((forwardMark_only _ _ _).mono (by decide))
  · rw [hcis]; exact beginWrites_wq _ _ _ _ _ _ _ _ p
  · have hm := marked_flight f b n kdl ticket opens k s hg hid
    exact ⟨hm.phase, hm.tA, hm.status, hm.lost⟩
  · rw [marked_eq, forwardMark_kept _ _ (by rwa [foreignPart_congr hosr]), htx]
  · have hsent : marked f b n kdl ticket opens k s = partSent f.id side f.raw n first m kdl p (markBegun f b ticket opens k s) := by
      rw [marked_eq, forwardMark_part _ _ hp (by rwa [foreignPart_congr hosr])]
      exact sendFwd_path _ _ _ _ _ _ _ (by rwa [State.locked_congr hosr]) (by rwa [pathTo_congr hpwr hosr])
    rw [hsent]
    refine ⟨⟨_, congrArg (_ :: ·) htx⟩, fun g hg hid => ?_⟩
    rw [partSent_fwd _ hg hid, markBegun_fseq]
  · have hfail : marked f b n kdl ticket opens k s = partFailed f.id side (markBegun f b ticket opens k s) := by
      rw [marked_eq, forwardMark_part _ _ hp (by rwa [foreignPart_congr hosr])]
      exact sendFwd_noPath _ _ _ _ _ _ _ (by rwa [State.locked_congr hosr, pathTo_congr hpwr hosr])
    rw [hfail]
    exact ⟨htx, fun g hg hid => partFailed_fwd hg hid⟩

end Sys2Proof.Machine
end
section
/-! Admission of MARK and MARK_SPEC (R62, R125, R126, R134, R157, R163, R164). -/

namespace Sys2Proof.Machine

variable {f : Flight} {u : State} {b : Band}

theorem markEff_refused {st : Status} (h : markRefused u f (bandOf u f.raw) = some st) : markEff f u = finished f st u := by
  simp [markEff, h, finished]

theorem markEff_carried (hb : b = bandOf u f.raw) (h : markRefused u f b = none) (hq : queuesReady u (markWrites u f b) = true) :
    markEff f u = marked f b 0 0 none none u.tkt u := by
  subst hb
  simp only [markEff, h, hq, Bool.not_true, Bool.false_eq_true, if_false]
  rfl

theorem markEff_waits (hb : b = bandOf u f.raw) (h : markRefused u f b = none) (hq : queuesReady u (markWrites u f b) = false) :
    markEff f u = u := by
  subst hb
  simp only [markEff, h, hq, Bool.not_false, if_true]

/-- A MARK_SPEC waits for room in the bookings, and is counted once. -/
def bookWait (f : Flight) (s : State) : State :=
  (updFlight s f.id fun g => { g with waited := true }).add R.CIS_RES_WAIT_CNT (if f.waited then 0 else 1)

theorem bookWait_only (f : Flight) (s : State) : OnlyChanges [.dsc, .regs] s (bookWait f s) := by
  simp [onlyChanges_iff, bookWait, updFlight, State.add]

theorem bookWait_count (f : Flight) (s : State) : (bookWait f s).r R.CIS_RES_WAIT_CNT =
    if f.waited then s.r R.CIS_RES_WAIT_CNT else min (s.r R.CIS_RES_WAIT_CNT + 1) (2 ^ 32 - 1) := by
  have hcount : (bookWait f s).r R.CIS_RES_WAIT_CNT = min (s.r R.CIS_RES_WAIT_CNT + if f.waited then 0 else 1) (2 ^ 32 - 1) :=
    rget_radd _ _ _ _ _ (by decide)
  have hlt : s.r R.CIS_RES_WAIT_CNT < 2 ^ 32 := Nat.mod_lt _ (by decide)
  rw [hcount]
  split <;> omega

theorem specEff_refused {st : Status} (h : markRefused u f (bandOf u f.raw) = some st) : specEff f u = finished f st u := by
  simp [specEff, h, finished]

theorem specEff_waits {n : Nat} (hb : b = bandOf u f.raw) (h : markRefused u f b = none) (hn : specTicket u f.raw = some n)
    (hq : queuesReady u (markWrites u f b) = false) : specEff f u = u := by
  subst hb
  simp only [specEff, h, hn, hq, Bool.not_false, if_true]

theorem specEff_unbooked {n : Nat} {due lo : Int} (hb : b = bandOf u f.raw)
    (hdue : due = (if f.peer.isSome then (f.peerDeadline : Int) else b.kmin - max (dDl f.raw) 2))
    (hlo : lo = (if u.slot.tickZ due ≤ u.tb then u.slot.slotOf u.tb else due))
    (h : markRefused u f b = none) (hn : specTicket u f.raw = some n) (hq : queuesReady u (markWrites u f b) = true)
    (hbook : bookAll (bookLimit u) n lo.toNat (markWrites u f b) u.tkt.books = none) : specEff f u = bookWait f u := by
  subst hlo hdue hb
  simp only [specEff, h, hn, hq, hbook, Bool.not_true, Bool.false_eq_true, if_false]
  rfl

theorem specEff_carried {n : Nat} {due lo : Int} {books : List Booking} (hb : b = bandOf u f.raw)
    (hdue : due = (if f.peer.isSome then (f.peerDeadline : Int) else b.kmin - max (dDl f.raw) 2))
    (hlo : lo = (if u.slot.tickZ due ≤ u.tb then u.slot.slotOf u.tb else due))
    (h : markRefused u f b = none) (hn : specTicket u f.raw = some n) (hq : queuesReady u (markWrites u f b) = true)
    (hbook : bookAll (bookLimit u) n lo.toNat (markWrites u f b) u.tkt.books = some books) :
    specEff f u = marked f b n due (some n) (some (newTicket u f b due)) { u.tkt with books := books } u := by
  subst hlo hdue hb
  simp only [specEff, h, hn, hq, hbook, Bool.not_true, Bool.false_eq_true, if_false]
  rfl

theorem execAdmitMark_eq {s : State} (h : Next s u f 1) : execAdmitMark s = .next (markEff f u) :=
  congrArg Host.Outcome.next (withNext_eq h _)

theorem execAdmitMarkSpec_eq {s : State} (h : Next s u f 2) : execAdmitMarkSpec s = .next (specEff f u) :=
  congrArg Host.Outcome.next (withNext_eq h _)

/-- Settles O28: both marks are carried out alike (`marked_carriedOut`), and MARK_SPEC books its resolution besides. -/
theorem marks : Obligations.Marks := by
  refine ⟨fun s u f b hnext hb => ?_, fun s u f b due lo hnext hb hdue hlo => ?_⟩
  · have htkt : u.tkt = s.tkt := next_only hnext .tkt (by decide)
    have hop : (if dOp f.raw = 2 then CellOp.incSpec else .incFirm) = .incFirm := if_neg (by rw [next_op hnext]; decide)
    have hexec := execAdmitMark_eq hnext
    refine ⟨fun st hr => ⟨_, hexec, ?_⟩, fun hr hq => ⟨_, hexec, ?_⟩, fun hr hq => hexec.trans (congrArg _ (markEff_waits hb hr hq))⟩
    · rw [markEff_refused (hb ▸ hr)]
      exact ⟨finished_only f st u, finished_with f st u⟩
    · rw [markEff_carried hb hr hq]
      exact ⟨marked_carriedOut f b 0 0 none none u.tkt u hop, (marked_tkt f b 0 0 none none u.tkt u).trans htkt⟩
  · have htkt : u.tkt = s.tkt := next_only hnext .tkt (by decide)
    have hcis : u.cis = s.cis := next_only hnext .cis (by decide)
    have hregs : u.regs = s.regs := next_only hnext .regs (by decide)
    have hop : (if dOp f.raw = 2 then CellOp.incSpec else .incFirm) = .incSpec := if_pos (next_op hnext)
    have hexec := execAdmitMarkSpec_eq hnext
    have hcount : s.r R.CIS_RES_WAIT_CNT = u.r R.CIS_RES_WAIT_CNT := by rw [State.r, State.r, hregs]
    rw [← htkt, ← hcis, hcount]
    refine ⟨fun st hr => ⟨_, hexec, ?_⟩, fun n hr hn hq => ⟨fun books hbook => ⟨_, hexec, ?_⟩, fun hbook => ⟨_, hexec, ?_⟩⟩,
      fun n hr hn hq => hexec.trans (congrArg _ (specEff_waits hb hr hn hq))⟩
    · rw [specEff_refused (hb ▸ hr)]
      exact ⟨finished_only f st u, finished_with f st u⟩
    · rw [specEff_carried hb hdue hlo hr hn hq hbook]
      refine ⟨marked_carriedOut f b n due _ _ _ u hop, marked_tkt f b n due _ _ _ u, fun g hg hid => ?_⟩
      have hm := marked_flight f b n due _ _ _ u hg hid
      exact ⟨hm.ticket, _, hm.opens, rfl, rfl, rfl, rfl, rfl⟩
    · rw [specEff_unbooked hb hdue hlo hr hn hq hbook]
      exact ⟨bookWait_only f u, bookWait_count f u⟩

end Sys2Proof.Machine
end

section
/-! Valve ports: the line and discovery (R173, R182-R185, R196, R201). -/

namespace Sys2Proof.Machine

theorem vmod_self {α : Type} {n : Nat} (v : Vector α n) (i : Fin n) (f : α → α) : (vmod v i f)[i] = f v[i] := by simp [vmod]

theorem vmod_other {α : Type} {n : Nat} (v : Vector α n) {i j : Fin n} (h : j ≠ i) (f : α → α) : (vmod v i f)[j] = v[j] :=
  set_getElem_other _ _ h

theorem State.port_self (s : State) (n : Fin 16) (f : Port → Port) : (s.port n f).vpt.ports[n] = f s.vpt.ports[n] := vmod_self _ _ _

theorem State.port_other (s : State) {n m : Fin 16} (h : m ≠ n) (f : Port → Port) : (s.port n f).vpt.ports[m] = s.vpt.ports[m] :=
  vmod_other _ h _

theorem fw_lt (f : Frame) (i : Nat) : fw f i < 2 ^ 32 := BitVec.isLt _

/-- Bits of a word fit their width. -/
theorem bitsOf_lt (w hi lo : Nat) : bitsOf w hi lo < 2 ^ (hi + 1 - lo) := Nat.mod_lt _ (Nat.two_pow_pos _)

/-! ### Frames received (R173, R201) -/

variable {s : State} {n : Fin 16}

/-- A frame that a port takes reaches its effect. -/
theorem vpReceive_good {typ words : Nat} {f : Frame} (h : PortGood s n typ words f) {expected : Bool} (he : expected = true)
    (eff : State → State) : vpReceive n f typ words expected eff s = eff s := by
  obtain ⟨hd, hs, hl, hg, ht⟩ := h
  rw [vpReceive, if_neg (by rw [hd, hs]; decide), if_neg (by simp [hl]), if_neg (by simp [hg]), if_neg (by simp [ht, he])]

/-- The count of frames dropped at a port. -/
def dropCount (crc : Bool) : RegField := if crc then R.VPT_PORT_ERR_CRC else R.VPT_PORT_ERR_VIOL

theorem dropCount_leaves (crc : Bool) (n : Fin 16) : raiseLeaves ((dropCount crc).off n 0) := by
  cases crc <;> revert n <;> unfold raiseLeaves <;> decide

theorem dropCount_hi (crc : Bool) : (dropCount crc).hi < 32 := by cases crc <;> decide

theorem vpDrop_raised (h : s.dom 7 = true) (n : Fin 16) (crc : Bool) : (vpDrop n crc s).raised S.VPT_FRAME = true :=
  raised_raise _ _ h

theorem vpDrop_count (n : Fin 16) (crc : Bool) (s : State) :
    (vpDrop n crc s).r (dropCount crc) n = min (s.r (dropCount crc) n + 1) 65535 := by
  have hdrop : vpDrop n crc s = raise S.VPT_FRAME 0 (s.add (dropCount crc) 1 n) := rfl
  rw [hdrop, raise_r _ _ _ _ _ _ (dropCount_leaves crc n)]
  refine (rget_radd _ _ _ _ _ (dropCount_hi crc)).trans ?_
  cases crc <;> rfl

/-! ### Discovery (R182-R185) -/

theorem discover_only (n : Fin 16) (s : State) : OnlyChanges [.vpt, .tx] s (discover n s) :=
  ((State.port_only _ _ _).mono (by decide)).trans ((State.send_only _ _).mono (by decide))

theorem discover_self (n : Fin 16) (s : State) : (discover n s).vpt.ports[n] =
    { s.vpt.ports[n] with st := .search, dseq := s.vpt.ports[n].dseq + 1, await := false } := State.port_self _ _ _

theorem discover_other (s : State) {n m : Fin 16} (h : m ≠ n) : (discover n s).vpt.ports[m] = s.vpt.ports[m] := State.port_other _ h _

theorem execDiscoverSend_eq (hon : s.portOn n = true)
    (h : s.vpt.ports[n].st = .off ∨ s.vpt.ports[n].st = .search ∨ s.vpt.ports[n].st = .lost ∧ s.rb R.VPT_CTRL_AUTO = true) :
    execDiscoverSend n s = .next (discover n s) := by
  refine congrArg Host.Outcome.next (if_pos ?_)
  rcases h with h | h | ⟨h, ha⟩
  · simp only [hon, h]; rfl
  · simp only [hon, h]; rfl
  · simp only [hon, h, ha]; rfl

/-- What an accepted IDENT leaves in the registers of its port. -/
def identRegs (n : Fin 16) (f : Frame) (m : Map Word) : Map Word :=
  let m := rput (rput m R.VPT_PORT_ID_MPRODUCT (bitsOf (fw f 1) 31 16) n) R.VPT_PORT_ID_MVENDOR (bitsOf (fw f 1) 15 0) n
  let m := rput m R.VPT_PORT_SER_SERIAL (fw f 2) n
  let m := rput (rput m R.VPT_PORT_VER_CAP_BURST (bitsOf (fw f 0) 24 24) n) R.VPT_PORT_VER_PVER (bitsOf (fw f 0) 7 4) n
  rput (rput m R.VPT_PORT_VER_FW (bitsOf (fw f 3) 15 8) n) R.VPT_PORT_VER_HW (bitsOf (fw f 3) 7 0) n

/-- The port that an accepted IDENT has described. -/
def identPort (f : Frame) (cable : Nat) (p : Port) : Port :=
  { p with cable := BitVec.ofNat 8 cable, nvalve := BitVec.ofNat 8 (bitsOf (fw f 0) 15 8),
           capBurst := (fw f 0).testBit 24 }

theorem identPort_cable (f : Frame) (p : Port) {cable : Nat} (hc : cable ≤ 255) : (identPort f cable p).cable.toNat = cable := by
  simp only [identPort, BitVec.toNat_ofNat]
  exact Nat.mod_eq_of_lt (Nat.lt_succ_of_le hc)

theorem identPort_cfgid (f : Frame) (cable : Nat) (p : Port) : (identPort f cable p).cfgid = p.cfgid := rfl

theorem identPort_nvalve (f : Frame) (cable : Nat) (p : Port) : (identPort f cable p).nvalve.toNat = bitsOf (fw f 0) 15 8 := by
  simp only [identPort, BitVec.toNat_ofNat]
  exact Nat.mod_eq_of_lt (bitsOf_lt _ _ _)

/-- An accepted IDENT, before its CONFIG leaves. -/
def identShown (n : Fin 16) (f : Frame) (cable : Nat) (s : State) : State :=
  { s with regs := identRegs n f s.regs, vpt := { s.vpt with ports := vmod s.vpt.ports n (identPort f cable) } }

theorem identEff_accepted {f : Frame} {rtt : Nat} (h : identOk s n f = true) (hc : (rtt - 10000 + 10) / 20 ≤ 255) :
    identEff n f rtt s = sendConfig n (identShown n f ((rtt - 10000 + 10) / 20) s) := by
  simp only [identEff, h, Bool.not_true, Bool.false_eq_true, if_false, if_neg (Nat.not_lt.2 hc)]
  rfl

theorem identEff_far {f : Frame} {rtt : Nat} (h : identOk s n f = true) (hc : 255 < (rtt - 10000 + 10) / 20) :
    identEff n f rtt s = raise S.VPT_CABLE 0 s := by
  simp only [identEff, h, Bool.not_true, Bool.false_eq_true, if_false, if_pos hc]

theorem identEff_foreign {f : Frame} (h : identOk s n f = false) (rtt : Nat) : identEff n f rtt s = raise S.VPT_IDENT 0 s := by
  simp [identEff, h]

/-- The registers that identify a module keep what the fields written after them leave. -/
theorem identRegs_read (n : Fin 16) (f : Frame) (m : Map Word) :
    rget (identRegs n f m) R.VPT_PORT_ID_MPRODUCT n = bitsOf (fw f 1) 31 16
    ∧ rget (identRegs n f m) R.VPT_PORT_ID_MVENDOR n = bitsOf (fw f 1) 15 0
    ∧ rget (identRegs n f m) R.VPT_PORT_SER_SERIAL n = fw f 2 := by
  have hap : ∀ a b : RegField, (∀ k : Fin 16, a.apart k 0 b k 0 = true) → ∀ (m : Map Word) (v : Nat),
      rget (rput m a v n) b n = rget m b n := fun a b h m v => rget_rput_apart m v (h n)
  have hver : ∀ b : RegField, (∀ k : Fin 16, R.VPT_PORT_VER_CAP_BURST.apart k 0 b k 0 = true)
      → (∀ k : Fin 16, R.VPT_PORT_VER_PVER.apart k 0 b k 0 = true) → (∀ k : Fin 16, R.VPT_PORT_VER_FW.apart k 0 b k 0 = true)
      → (∀ k : Fin 16, R.VPT_PORT_VER_HW.apart k 0 b k 0 = true) → rget (identRegs n f m) b n =
        rget (rput (rput (rput m R.VPT_PORT_ID_MPRODUCT (bitsOf (fw f 1) 31 16) n) R.VPT_PORT_ID_MVENDOR (bitsOf (fw f 1) 15 0) n)
          R.VPT_PORT_SER_SERIAL (fw f 2) n) b n := fun b h h' h'' h''' => by
    rw [identRegs, hap _ b h''', hap _ b h'', hap _ b h', hap _ b h]
  refine ⟨?_, ?_, ?_⟩
  · rw [hver _ (by decide) (by decide) (by decide) (by decide), hap _ _ (by decide), hap _ _ (by decide), rget_rput_same _ _ _ _ _ (by decide)]
    exact Nat.mod_eq_of_lt (bitsOf_lt _ _ _)
  · rw [hver _ (by decide) (by decide) (by decide) (by decide), hap _ _ (by decide), rget_rput_same _ _ _ _ _ (by decide)]
    exact Nat.mod_eq_of_lt (bitsOf_lt _ _ _)
  · rw [hver _ (by decide) (by decide) (by decide) (by decide), rget_rput_same _ _ _ _ _ (by decide)]
    exact Nat.mod_eq_of_lt (fw_lt _ _)

theorem sendConfig_only (n : Fin 16) (s : State) : OnlyChanges [.vpt, .tx] s (sendConfig n s) :=
  ((State.port_only _ _ _).mono (by decide)).trans ((State.send_only _ _).mono (by decide))

theorem sendConfig_self (n : Fin 16) (s : State) : (sendConfig n s).vpt.ports[n] =
    { s.vpt.ports[n] with st := .config, cfgid := s.vpt.ports[n].cfgid + 1, await := false } := State.port_self _ _ _

theorem sendConfig_tx (n : Fin 16) (s : State) : (sendConfig n s).tx =
    Tx.port n (configFrame n (s.vpt.ports[n].cfgid + 1) s.slot.len s.vpt.ports[n].cable) :: s.tx := rfl

theorem identShown_self (n : Fin 16) (f : Frame) (cable : Nat) (s : State) :
    (identShown n f cable s).vpt.ports[n] = identPort f cable s.vpt.ports[n] := vmod_self _ _ _

theorem identShown_only (n : Fin 16) (f : Frame) (cable : Nat) (s : State) : OnlyChanges [.vpt, .regs] s (identShown n f cable s) := by
  simp [onlyChanges_iff, identShown]

theorem execIdentReceive_eq {f : Frame} (h : PortGood s n 9 6 f) (hst : s.vpt.ports[n].st = .search) (rtt : Nat) :
    execIdentReceive n f rtt s = .next (identEff n f rtt s) :=
  congrArg Host.Outcome.next (vpReceive_good h (by rw [hst]; decide) _)

theorem execConfigAckReceive_eq {f : Frame} (h : PortGood s n 10 2 f) (hst : s.vpt.ports[n].st = .config) :
    execConfigAckReceive n f s = .next (configAckEff n f s) :=
  congrArg Host.Outcome.next (vpReceive_good h (by rw [hst]; decide) _)

/-- The port after a CONFIG_ACK of its CFGID. -/
def ackedPort (n : Fin 16) (f : Frame) (p : Port) : Port :=
  let ready := bitsOf (fw f 0) 23 16 == n.val && bitsOf (fw f 0) 6 4 == 1
  { p with mstate := BitVec.ofNat 3 (bitsOf (fw f 0) 6 4), st := if ready then .ready else p.st,
           consec := if ready then 0 else p.consec, armed0 := p.armed0 && !ready, armed1 := p.armed1 && !ready }

theorem configAckEff_taken {f : Frame} (h : bitsOf (fw f 0) 31 24 = s.vpt.ports[n].cfgid.toNat) :
    configAckEff n f s = s.port n (ackedPort n f) := by
  rw [configAckEff, if_neg (by simpa using h)]
  rfl

theorem configAckEff_dropped {f : Frame} (h : bitsOf (fw f 0) 31 24 ≠ s.vpt.ports[n].cfgid.toNat) :
    configAckEff n f s = vpDrop n false s := if_pos (bne_iff_ne.2 h)

/-! ### HALT (R196) -/

/-- A port owes a HALT that it can send. -/
def State.owes (s : State) (n : Fin 16) : Bool := s.dom 7 && s.vpt.ports[n].st == .ready && s.vpt.ports[n].halt

/-- The ports that owe a HALT have sent it. -/
def haltsSent (s : State) : State :=
  { s with vpt := { s.vpt with ports := vimap (fun n p => if s.owes n then { p with halt := false } else p) s.vpt.ports },
           tx := (((List.finRange 16).filter s.owes).map fun n => Tx.port n (haltFrame s.vpt.ports[n].seq)).reverse ++ s.tx }

theorem execHaltSend_eq (s : State) : execHaltSend s = .next (haltsSent s) := rfl

theorem haltsSent_port (s : State) (n : Fin 16) : (haltsSent s).vpt.ports[n] =
    if s.owes n then { s.vpt.ports[n] with halt := false } else s.vpt.ports[n] := by simp [haltsSent, vimap]

theorem haltsSent_only (s : State) : OnlyChanges [.vpt, .tx] s (haltsSent s) := by simp [onlyChanges_iff, haltsSent]

theorem haltsSent_of_none {s : State} (h : ∀ n, s.owes n = false) : haltsSent s = s := by
  have hports : vimap (fun n p => if s.owes n then { p with halt := false } else p) s.vpt.ports = s.vpt.ports := by
    ext i hi
    simp [vimap, h]
  have hnone : (List.finRange 16).filter s.owes = [] := List.filter_eq_nil_iff.2 fun n _ => by simp [h n]
  rw [haltsSent, hports, hnone]
  rfl

theorem haltsSent_owes (s : State) (n : Fin 16) : (haltsSent s).owes n = false := by
  rw [State.owes, haltsSent_port]
  split
  · simp
  · next h =>
    rw [State.dom_congr (haltsSent_only s .pwr (by decide))]
    exact Bool.eq_false_iff.2 h

/-- Settles O49: each command of the line and of discovery by its equation. -/
theorem portDiscoveryAndLine : Obligations.PortDiscoveryAndLine := by
  refine ⟨fun s n => ⟨fun hon hst => ⟨_, execDiscoverSend_eq hon hst, discover_only n s, ?_, ?_, rfl, fun m hm => discover_other s hm⟩,
      fun f rtt hg hst => ⟨fun hok hc => ⟨_, execIdentReceive_eq hg hst rtt, ?_⟩, fun hok hc => ⟨_, execIdentReceive_eq hg hst rtt, ?_⟩,
        fun hok => ⟨_, execIdentReceive_eq hg hst rtt, ?_⟩⟩,
      fun f hg hst => ⟨fun hid => ⟨_, execConfigAckReceive_eq hg hst, ?_⟩, fun hid => ⟨_, execConfigAckReceive_eq hg hst, ?_⟩⟩,
      fun hon hst => ⟨_, congrArg Host.Outcome.next (if_pos (by rw [hon, hst]; rfl)), discover_only n s, ?_, rfl⟩⟩,
    fun s n hd => ⟨⟨_, rfl, State.port_only _ _ _, State.port_self _ _ _, fun m hm => State.port_other _ hm _⟩,
      ⟨_, congrArg Host.Outcome.next (if_pos hd), State.port_only _ _ _, State.port_self _ _ _, fun m hm => State.port_other _ hm _⟩,
      fun hs => ?_, fun hs crc => congrArg Host.Outcome.next (if_neg (by rw [hd, hs]; decide)), ⟨_, execHaltSend_eq s, haltsSent_only s, fun hst hh => ?_, fun hno => ?_, ?_⟩⟩⟩
  · rw [discover_self]
  · rw [discover_self]
  · rw [identEff_accepted hok hc]
    generalize (rtt - 10000 + 10) / 20 = cable at hc ⊢
    have hshown := identShown_only n f cable s
    have hcfg := sendConfig_only n (identShown n f cable s)
    have hregs : (sendConfig n (identShown n f cable s)).regs = identRegs n f s.regs := hcfg .regs (by decide)
    obtain ⟨hprod, hvend, hser⟩ := identRegs_read n f s.regs
    refine ⟨(hshown.mono (by decide)).trans (hcfg.mono (by decide)), ?_, ?_, ?_, ?_, ?_, ?_, ?_, ?_⟩
    · rw [sendConfig_self]
    · rw [sendConfig_self, identShown_self, identPort_cfgid]
    · rw [sendConfig_self, identShown_self]
      exact identPort_nvalve f cable s.vpt.ports[n]
    · rw [sendConfig_self, identShown_self]
      exact identPort_cable f s.vpt.ports[n] hc
    · rw [State.r, hregs, hprod]
    · rw [State.r, hregs, hvend]
    · rw [State.r, hregs, hser]
    · rw [sendConfig_tx, sendConfig_self, hshown .slot (by decide), hshown .tx (by decide)]
  · rw [identEff_far hok hc]
    exact ⟨raise_only _ _ _, raised_raise _ _ hg.1⟩
  · rw [identEff_foreign hok]
    exact ⟨raise_only _ _ _, raised_raise _ _ hg.1⟩
  · rw [configAckEff_taken hid]
    have hself := State.port_self s n (ackedPort n f)
    refine ⟨State.port_only _ _ _, ?_, fun hn h1 => ?_, fun h => ?_⟩
    · rw [hself]
      exact Nat.mod_eq_of_lt (bitsOf_lt _ _ _)
    · rw [hself]
      simp [ackedPort, hn, h1]
    · have hno : (bitsOf (fw f 0) 23 16 == n.val && bitsOf (fw f 0) 6 4 == 1) = false := by
        rcases h with h | h <;> simp [h]
      rw [hself, ackedPort, hno]
      exact hst
  · rw [configAckEff_dropped hid]
    exact ⟨vpDrop_only _ _ _, vpDrop_raised hg.1 _ _⟩
  · rw [discover_self]
  · have hexec : ∀ crc, execVpFrameDrop n crc s = .next (vpDrop n crc s) := fun crc =>
      congrArg Host.Outcome.next (if_pos (by rw [hd, hs]; rfl))
    exact ⟨⟨_, hexec true, vpDrop_only _ _ _, vpDrop_raised hd _ _, vpDrop_count n true s⟩,
      ⟨_, hexec false, vpDrop_only _ _ _, vpDrop_raised hd _ _, vpDrop_count n false s⟩⟩
  · have howes : s.owes n = true := by rw [State.owes, hd, hst, hh]; rfl
    refine ⟨?_, ?_⟩
    · refine List.mem_append_left _ (List.mem_reverse.2 (List.mem_map.2 ⟨n, List.mem_filter.2 ⟨List.mem_finRange n, howes⟩, rfl⟩))
    · rw [haltsSent_port, if_pos howes]
  · have hnone : ∀ m, s.owes m = false := fun m => by rw [State.owes, hno m, Bool.and_false]
    rw [haltsSent_of_none hnone]
  · exact (execHaltSend_eq _).trans (congrArg Host.Outcome.next (haltsSent_of_none (haltsSent_owes s)))

end Sys2Proof.Machine
end

section
/-! What raisings leave of a state, in a row (R494, R495). -/

namespace Sys2Proof.Machine

/-- Raisings in a row: the parts that they reach, the registers that they leave, and the sources raised before. -/
structure Raises (s t : State) : Prop where
  only : OnlyChanges raiseParts s t
  regs : ∀ o, raiseLeaves o → mget t.regs o = mget s.regs o
  raised : ∀ c, s.raised c = true → t.raised c = true

namespace Raises

variable {s t u : State}

theorem refl (s : State) : Raises s s := ⟨.refl _ _, fun _ _ => rfl, fun _ h => h⟩

theorem trans (h : Raises s t) (h' : Raises t u) : Raises s u :=
  ⟨h.only.trans h'.only, fun o ho => (h'.regs o ho).trans (h.regs o ho), fun c hc => h'.raised c (h.raised c hc)⟩

theorem of_raise (c : Src) (d : Nat) (s : State) : Raises s (raise c d s) :=
  ⟨raise_only _ _ _, fun _ ho => raise_regs_leaves _ _ _ ho, fun _ => raised_of_raise⟩

theorem of_raiseIf (b : Bool) (c : Src) (d : Nat) (s : State) : Raises s (raiseIf b c d s) :=
  ⟨raiseIf_only _ _ _ _, fun _ ho => raiseIf_regs_leaves _ _ _ _ ho, fun _ => raised_of_raiseIf⟩

theorem foldl {α : Type} {g : State → α → State} (h : ∀ s a, Raises s (g s a)) (l : List α) (s : State) : Raises s (l.foldl g s) := by
  induction l generalizing s with
  | nil => exact .refl s
  | cons a l ih => exact (h s a).trans (ih _)

theorem r (h : Raises s t) {f : RegField} {i j : Nat} (ho : raiseLeaves (f.off i j)) : t.r f i j = s.r f i j :=
  State.r_congr (h.regs _ ho)

theorem vpt (h : Raises s t) : t.vpt = s.vpt := h.only .vpt (by decide)

theorem dom (h : Raises s t) (d : Nat) : t.dom d = s.dom d := State.dom_congr (h.only .pwr (by decide)) d

end Raises

end Sys2Proof.Machine
end
section
/-! The answer of a slot: STATUS, coils, error slots and link loss (R177, R187, R199, R202-R205). -/

namespace Sys2Proof.Machine

/-! ### Digits -/

/-- A number from digits of base 4 is below the power of their count, and shows each of them. -/
theorem digits_four (c : Nat → Nat) (hc : ∀ v, c v < 4) (n : Nat) :
    ((List.range n).map fun v => c v * 4 ^ v).sum < 4 ^ n
      ∧ ∀ v, v < n → ((List.range n).map fun v => c v * 4 ^ v).sum / 4 ^ v % 4 = c v := by
  induction n with
  | zero => exact ⟨Nat.one_pos, fun v hv => absurd hv (Nat.not_lt_zero v)⟩
  | succ n ih =>
    obtain ⟨hlt, hdig⟩ := ih
    have hsum : ((List.range (n + 1)).map fun v => c v * 4 ^ v).sum = ((List.range n).map fun v => c v * 4 ^ v).sum + 4 ^ n * c n := by
      simp [List.range_succ, Nat.mul_comm]
    rw [hsum]
    generalize ((List.range n).map fun v => c v * 4 ^ v).sum = x at *
    have hpos := Nat.pow_pos (n := n) (by decide : 0 < 4)
    refine ⟨?_, fun v hv => ?_⟩
    · have hle := Nat.mul_le_mul_left (4 ^ n) (Nat.le_pred_of_lt (hc n))
      rw [Nat.pow_succ]
      simp only [Nat.pred_eq_sub_one] at hle
      omega
    · rcases Nat.lt_or_eq_of_le (Nat.le_of_lt_succ hv) with h | rfl
      · obtain ⟨k, rfl⟩ : ∃ k, n = v + 1 + k := ⟨n - (v + 1), by omega⟩
        have hsplit : 4 ^ (v + 1 + k) * c (v + 1 + k) = 4 ^ v * (4 * (4 ^ k * c (v + 1 + k))) := by rw [Nat.pow_add, Nat.pow_succ]; ring
        rw [hsplit, Nat.add_mul_div_left _ _ (Nat.pow_pos (by decide)), Nat.add_mul_mod_self_left]
        exact hdig v h
      · rw [Nat.add_mul_div_left _ _ hpos, Nat.div_eq_of_lt hlt, Nat.zero_add]
        exact Nat.mod_eq_of_lt (hc v)

/-! ### Coils (R177, R205) -/

/-- The coil status that a STATUS shows. -/
def coilWord (f : Frame) : BitVec 256 := BitVec.ofNat 256 (((List.range 128).map fun v => coilOf f v * 4 ^ v).sum)

theorem coilWord_bits (f : Frame) {v : Nat} (hv : v < 128) : bitsOf (coilWord f).toNat (2 * v + 1) (2 * v) = coilOf f v := by
  obtain ⟨hlt, hdig⟩ := digits_four (coilOf f) (fun v => Nat.mod_lt _ (by decide)) 128
  have hw : 2 * v + 1 + 1 - 2 * v = 2 := by omega
  rw [coilWord, BitVec.toNat_ofNat, Nat.mod_eq_of_lt (Nat.lt_of_lt_of_eq hlt (by decide)), bitsOf, hw, Nat.pow_mul]
  exact hdig v hv

/-- The coils whose status leaves OK. -/
def coilsChanged (f : Frame) (old : BitVec 256) : List Nat :=
  (List.range 128).filter fun v => bitsOf old.toNat (2 * v + 1) (2 * v) == 0 && coilOf f v != 0

/-- The report of a coil whose status leaves OK. -/
def coilReport (n : Fin 16) (f : Frame) (s : State) (v : Nat) : State :=
  raise S.VPT_COIL (n.val + 16 * v + 4096 * coilOf f v) (s.stat 8 (128 * n.val + v) 1)

/-- The coil status of a STATUS is shown. -/
def coilsShown (n : Fin 16) (f : Frame) (s : State) : State := s.port n fun p => { p with coil := coilWord f }

theorem coilEff_eq (n : Fin 16) (f : Frame) (s : State) :
    coilEff n f s = (coilsChanged f s.vpt.ports[n].coil).foldl (coilReport n f) (coilsShown n f s) := rfl

theorem coilReport_raises (n : Fin 16) (f : Frame) (s : State) (v : Nat) : Raises s (coilReport n f s v) := by
  have hstat : Raises s (s.stat 8 (128 * n.val + v) 1) := ⟨(State.stat_only _ _ _ _).mono (by decide), fun _ _ => rfl, fun _ h => h⟩
  exact hstat.trans (.of_raise _ _ _)

theorem coilEff_raises (n : Fin 16) (f : Frame) (s : State) : Raises (coilsShown n f s) (coilEff n f s) :=
  .foldl (coilReport_raises n f) _ _

theorem coilEff_raised {n : Fin 16} {f : Frame} {s : State} (h7 : s.dom 7 = true) {v : Nat} (hv : v < 128) (hc : coilOf f v ≠ 0)
    (ho : bitsOf s.vpt.ports[n].coil.toNat (2 * v + 1) (2 * v) = 0) : (coilEff n f s).raised S.VPT_COIL = true := by
  have hmem : v ∈ coilsChanged f s.vpt.ports[n].coil := List.mem_filter.2 ⟨List.mem_range.2 hv, by rw [ho]; simpa using hc⟩
  rw [coilEff_eq]
  refine foldl_establishes (I := fun t => t.dom 7 = true) (fun t v ht => ?_) (fun t v ht => (coilReport_raises n f t v).raised _ ht)
    (fun t ht => ?_) hmem ?_
  · rw [(coilReport_raises n f t v).dom]; exact ht
  · exact raised_raise _ _ ht
  · exact h7

theorem coilEff_quiet {n : Fin 16} {f : Frame} {s : State}
    (h : ∀ v, v < 128 → coilOf f v = 0 ∨ bitsOf s.vpt.ports[n].coil.toNat (2 * v + 1) (2 * v) ≠ 0) :
    coilEff n f s = coilsShown n f s := by
  have hnone : coilsChanged f s.vpt.ports[n].coil = [] := by
    refine List.filter_eq_nil_iff.2 fun v hv hchg => ?_
    obtain ⟨ho, hc⟩ := (Bool.and_eq_true _ _ ▸ hchg : _ ∧ _)
    exact (h v (List.mem_range.1 hv)).elim (bne_iff_ne.1 hc) fun hne => hne (eq_of_beq ho)
  rw [coilEff_eq, hnone]
  rfl

/-! ### Burst answer (R199) -/

theorem burstEnd_only (flag : RegField) (s : State) : OnlyChanges [.regs, .vpt] s (burstEnd flag s) := by
  simp [onlyChanges_iff, burstEnd]

theorem burstEnd_vpt (flag : RegField) (s : State) : (burstEnd flag s).vpt = { s.vpt with burst := none } := rfl

theorem burstEnd_regs {flag : RegField} (h : flag.off 0 0 = 0x30014) (s : State) : RegsBut [0x30014] s.regs (burstEnd flag s).regs :=
  ((RegsBut.refl _ _).rput (by decide)).rput (by rw [h]; decide)

theorem burstEnd_flag (flag : RegField) (hh : flag.hi < 32) (s : State) :
    (burstEnd flag s).r flag = 1 % 2 ^ (flag.hi + 1 - flag.lo) := rget_rput_same _ _ _ _ _ hh

theorem burstEnd_busy {flag : RegField} (h : flag.apart 0 0 R.VPT_BURST_STAT_BUSY 0 0 = true) (s : State) :
    (burstEnd flag s).r R.VPT_BURST_STAT_BUSY = 0 :=
  (rget_rput_apart _ _ h).trans (rget_rput_same _ _ _ _ _ (by decide))

theorem burstAnswer_cases (n : Fin 16) (bpend : Bool) (s : State) : burstAnswer n bpend s = s
    ∨ (∃ b, burstAnswer n bpend s = { s with vpt := { s.vpt with burst := some b } })
    ∨ burstAnswer n bpend s = burstEnd R.VPT_BURST_STAT_REFUSED s := by
  unfold burstAnswer
  split
  · split
    · exact .inl rfl
    · split
      · exact .inr (.inl ⟨_, rfl⟩)
      · split
        · exact .inl rfl
        · exact .inr (.inr rfl)
  · exact .inl rfl

theorem burstAnswer_only (n : Fin 16) (bpend : Bool) (s : State) : OnlyChanges [.regs, .vpt] s (burstAnswer n bpend s) := by
  rcases burstAnswer_cases n bpend s with h | ⟨b, h⟩ | h <;> rw [h]
  · exact .refl _ _
  · simp [onlyChanges_iff]
  · exact burstEnd_only _ _

theorem burstAnswer_ports (n : Fin 16) (bpend : Bool) (s : State) : (burstAnswer n bpend s).vpt.ports = s.vpt.ports := by
  rcases burstAnswer_cases n bpend s with h | ⟨b, h⟩ | h <;> rw [h]
  rfl

theorem burstAnswer_regs (n : Fin 16) (bpend : Bool) (s : State) : RegsBut [0x30014] s.regs (burstAnswer n bpend s).regs := by
  rcases burstAnswer_cases n bpend s with h | ⟨b, h⟩ | h <;> rw [h]
  · exact .refl _ _
  · exact .refl _ _
  · exact burstEnd_regs rfl s

/-- A burst request of the port that awaits its answer. -/
def Awaits (s : State) (n : Fin 16) (b : Burst) : Prop := s.vpt.burst = some b ∧ b.port = n ∧ b.accepted = false ∧ b.tries ≠ 0

theorem burstAnswer_awaited {s : State} {n : Fin 16} {b : Burst} (h : Awaits s n b) (bpend : Bool) : burstAnswer n bpend s =
    if bpend then { s with vpt := { s.vpt with burst := some { b with accepted := true } } }
    else if b.tries < 4 then s else burstEnd R.VPT_BURST_STAT_REFUSED s := by
  obtain ⟨hb, hp, ha, ht⟩ := h
  have hskip : (b.port != n || b.accepted || decide (b.tries = 0)) = false := by simp [hp, ha, ht]
  simp only [burstAnswer, hb, hskip, Bool.false_eq_true, if_false]

end Sys2Proof.Machine
end

section
/-! STATUS, error slots and link loss (R177, R187, R202-R205). -/

namespace Sys2Proof.Machine

/-! ### Link loss (R203, R204) -/

/-- A port whose link is lost. -/
def lostPort (p : Port) : Port := { p with st := .lost, await := false, halt := false }

/-- A link loss, before its report. -/
def linkLost (n : Fin 16) (s : State) : State :=
  { s with vpt := { s.vpt with ports := vmod s.vpt.ports n lostPort },
           regs := rput (radd s.regs R.VPT_PORT_MISS_LOSSES 1 n) R.VPT_READY_LOSS (s.r R.VPT_READY_LOSS ||| 2 ^ n.val) }

theorem portLoss_eq (n : Fin 16) (cause : Nat) (s : State) : portLoss n cause s = raise S.VPT_LINK (n.val + 16 * cause) (linkLost n s) := rfl

variable (n : Fin 16) (cause : Nat) (s : State)

theorem linkLost_raised {c : Src} (h : s.raised c = true) : (linkLost n s).raised c = true := by
  rw [← h]
  refine State.raised_congr ?_
  have hmiss : fltOff c.blk.toNat 0xF000 ≠ R.VPT_PORT_MISS_LOSSES.off n 0 := by
    have := n.isLt
    simp only [fltOff, RegField.off, R.VPT_PORT_MISS_LOSSES]
    omega
  have hloss : fltOff c.blk.toNat 0xF000 ≠ R.VPT_READY_LOSS.off 0 0 := by
    simp only [fltOff, RegField.off, R.VPT_READY_LOSS]
    omega
  exact (mget_rput_ne _ _ _ _ _ _ hloss).trans (mget_rput_ne _ _ _ _ _ _ hmiss)

theorem portLoss_only : OnlyChanges (.vpt :: raiseParts) s (portLoss n cause s) := by
  rw [portLoss_eq]
  have h : OnlyChanges [.vpt, .regs] s (linkLost n s) := by simp [onlyChanges_iff, linkLost]
  exact (h.mono (by decide)).trans ((raise_only _ _ _).mono (by decide))

theorem portLoss_port : (portLoss n cause s).vpt.ports[n] = lostPort s.vpt.ports[n] := by
  rw [portLoss_eq, raise_vpt]
  exact vmod_self _ _ _

theorem portLoss_burst : (portLoss n cause s).vpt.burst = s.vpt.burst := by
  rw [portLoss_eq, raise_vpt]
  rfl

variable {s}

theorem portLoss_kept {c : Src} (h : s.raised c = true) : (portLoss n cause s).raised c = true := by
  rw [portLoss_eq]
  exact raised_of_raise (linkLost_raised n s h)

theorem portLoss_raised (h : s.dom 7 = true) : (portLoss n cause s).raised S.VPT_LINK = true := by
  rw [portLoss_eq]
  exact raised_raise _ _ h

theorem portLoss_losses : (portLoss n cause s).r R.VPT_PORT_MISS_LOSSES n = min (s.r R.VPT_PORT_MISS_LOSSES n + 1) 255 := by
  rw [portLoss_eq, raise_r _ _ _ _ _ _ ((by unfold raiseLeaves; decide : ∀ k : Fin 16, raiseLeaves (R.VPT_PORT_MISS_LOSSES.off k 0)) n)]
  have h : (linkLost n s).r R.VPT_PORT_MISS_LOSSES n = rget (radd s.regs R.VPT_PORT_MISS_LOSSES 1 n) R.VPT_PORT_MISS_LOSSES n :=
    rget_rput_apart _ _ ((by decide : ∀ k : Fin 16, R.VPT_READY_LOSS.apart 0 0 R.VPT_PORT_MISS_LOSSES k 0 = true) n)
  exact h.trans (rget_radd _ _ _ _ _ (by decide))

theorem portLoss_r {f : RegField} {i : Nat} (hl : raiseLeaves (f.off i 0)) (hm : R.VPT_PORT_MISS_LOSSES.apart n 0 f i 0 = true)
    (hr : R.VPT_READY_LOSS.apart 0 0 f i 0 = true) : (portLoss n cause s).r f i = s.r f i := by
  rw [portLoss_eq, raise_r _ _ _ _ _ _ hl]
  exact (rget_rput_apart _ _ hr).trans (rget_rput_apart _ _ hm)

/-! ### STATUS (R187, R203) -/

/-- The cause of the link loss that a STATUS shows (R203). -/
def lossCause (p : Port) (f : Frame) : Option Nat :=
  if bitsOf (fw f 0) 6 4 = 3 then some 1 else if bitsOf (fw f 0) 6 4 = 4 then some 2
  else if bitsOf (fw f 0) 6 4 = 1 && p.armed0 && p.armed1 then some 3 else none

theorem lossCause_some {p : Port} {f : Frame} (h : statusLoses p f) : ∃ c, lossCause p f = some c := by
  unfold lossCause
  rcases h with h | h | ⟨h, h0, h1⟩
  · exact ⟨1, by rw [h]; rfl⟩
  · exact ⟨2, by rw [h]; rfl⟩
  · exact ⟨3, by rw [h, h0, h1]; rfl⟩

theorem lossCause_none {p : Port} {f : Frame} (h : ¬statusLoses p f) : lossCause p f = none := by
  unfold lossCause
  rw [if_neg fun h3 => h (.inl h3), if_neg fun h4 => h (.inr (.inl h4)), if_neg fun h1 => h (.inr (.inr ?_))]
  simpa [and_assoc] using h1

/-- A link that is lost, where there is a cause. -/
def lossFor (n : Fin 16) (cause : Option Nat) (s : State) : State :=
  match cause with
  | some c => portLoss n c s
  | none => s

/-- The port after a link loss, where there is a cause. -/
def lossPort (cause : Option Nat) (p : Port) : Port := if cause.isSome then lostPort p else p

theorem lossFor_port (c : Option Nat) : (lossFor n c s).vpt.ports[n] = lossPort c s.vpt.ports[n] := by
  cases c with
  | none => rfl
  | some c => exact portLoss_port n c s

theorem lossFor_burst (c : Option Nat) : (lossFor n c s).vpt.burst = s.vpt.burst := by
  cases c with
  | none => rfl
  | some c => exact portLoss_burst n c s

theorem lossFor_only (c : Option Nat) : OnlyChanges (.vpt :: raiseParts) s (lossFor n c s) := by
  cases c with
  | none => exact .refl _ _
  | some c => exact portLoss_only n c s

theorem lossFor_kept (c : Option Nat) {e : Src} (h : s.raised e = true) : (lossFor n c s).raised e = true := by
  cases c with
  | none => exact h
  | some c => exact portLoss_kept n c h

theorem lossFor_stat (c : Option Nat) {f : RegField} (h : f = R.VPT_BURST_STAT_REFUSED ∨ f = R.VPT_BURST_STAT_BUSY) :
    (lossFor n c s).r f = s.r f := by
  cases c with
  | none => rfl
  | some c =>
    rcases h with rfl | rfl
    · exact portLoss_r n c (raiseLeaves_of rfl) ((by decide : ∀ k : Fin 16, R.VPT_PORT_MISS_LOSSES.apart k 0 R.VPT_BURST_STAT_REFUSED 0 0 = true) n) rfl
    · exact portLoss_r n c (raiseLeaves_of rfl) ((by decide : ∀ k : Fin 16, R.VPT_PORT_MISS_LOSSES.apart k 0 R.VPT_BURST_STAT_BUSY 0 0 = true) n) rfl

/-- A STATUS has answered its slot and shows the module's state. -/
def stateShown (n : Fin 16) (f : Frame) (s : State) : State :=
  (statusAnswer n f s).port n fun p => { p with mstate := BitVec.ofNat 3 (bitsOf (fw f 0) 6 4) }

/-- A STATUS has shown all that it shows. -/
def statusShown (n : Fin 16) (f : Frame) (s : State) : State :=
  raiseIf (bitsOf (fw f 0) 6 4 == 4) S.VPT_MOD_FAULT 0 (coilEff n f (stateShown n f s))

theorem statusEff_eq {f : Frame} (h : bitsOf (fw f 0) 31 24 = s.vpt.ports[n].cfgid.toNat) :
    statusEff n f s = lossFor n (lossCause s.vpt.ports[n] f) (statusShown n f s) := by
  rw [statusEff, if_neg (by simpa using h)]
  unfold lossCause
  dsimp only
  split
  · rfl
  · split
    · rfl
    · split <;> rfl

theorem statusEff_dropped {f : Frame} (h : bitsOf (fw f 0) 31 24 ≠ s.vpt.ports[n].cfgid.toNat) : statusEff n f s = vpDrop n false s :=
  if_pos (bne_iff_ne.2 h)

/-- The port that a STATUS of its own slot has answered. -/
def answeredPort (p : Port) : Port := { p with consec := 0, await := false }

theorem statusAnswer_own {f : Frame} (hs : bitsOf (fw f 0) 15 8 = s.vpt.ports[n].seq.toNat) (ha : s.vpt.ports[n].await = true) :
    statusAnswer n f s = burstAnswer n ((fw f 0).testBit 7) (s.port n answeredPort) := by
  rw [statusAnswer, if_pos (by rw [hs, ha]; simp)]
  rfl

theorem statusAnswer_other {f : Frame} (hs : ¬(bitsOf (fw f 0) 15 8 = s.vpt.ports[n].seq.toNat ∧ s.vpt.ports[n].await = true)) :
    statusAnswer n f s = s := if_neg (by simpa using hs)

theorem statusAnswer_only (f : Frame) : OnlyChanges [.regs, .vpt] s (statusAnswer n f s) := by
  unfold statusAnswer
  exact .ite _ ((State.port_only _ _ _ |>.mono (by decide)).trans (burstAnswer_only _ _ _)) (.refl _ _)

theorem statusAnswer_regs (f : Frame) : RegsBut [0x30014] s.regs (statusAnswer n f s).regs := by
  unfold statusAnswer
  dsimp only
  split
  · exact burstAnswer_regs n _ (s.port n answeredPort)
  · exact .refl _ _

/-- What the answer leaves of the port. -/
theorem statusAnswer_port (f : Frame) : (statusAnswer n f s).vpt.ports[n] =
    if bitsOf (fw f 0) 15 8 = s.vpt.ports[n].seq.toNat ∧ s.vpt.ports[n].await = true then answeredPort s.vpt.ports[n]
    else s.vpt.ports[n] := by
  split
  · next h => rw [statusAnswer_own n h.1 h.2, burstAnswer_ports]; exact vmod_self _ _ _
  · next h => rw [statusAnswer_other n h]

theorem statusShown_raises (f : Frame) : Raises (coilsShown n f (stateShown n f s)) (statusShown n f s) :=
  (coilEff_raises n f _).trans (.of_raiseIf _ _ _ _)

theorem stateShown_port (f : Frame) : (stateShown n f s).vpt.ports[n] =
    { (statusAnswer n f s).vpt.ports[n] with mstate := BitVec.ofNat 3 (bitsOf (fw f 0) 6 4) } := vmod_self _ _ _

/-- The port after a STATUS, but for a link loss. -/
theorem statusShown_port (f : Frame) : (statusShown n f s).vpt.ports[n] =
    { (statusAnswer n f s).vpt.ports[n] with mstate := BitVec.ofNat 3 (bitsOf (fw f 0) 6 4), coil := coilWord f } := by
  rw [(statusShown_raises n f).vpt]
  refine (vmod_self _ _ _).trans ?_
  rw [stateShown_port]

theorem stateShown_coil (f : Frame) : (stateShown n f s).vpt.ports[n].coil = s.vpt.ports[n].coil := by
  rw [stateShown_port, statusAnswer_port]
  split <;> rfl

theorem statusShown_burst (f : Frame) : (statusShown n f s).vpt.burst = (statusAnswer n f s).vpt.burst := by
  rw [(statusShown_raises n f).vpt]
  rfl

theorem statusShown_only (f : Frame) : OnlyChanges (.vpt :: raiseParts) s (statusShown n f s) := by
  have hshown : OnlyChanges [.regs, .vpt] s (coilsShown n f (stateShown n f s)) :=
    (statusAnswer_only n f).trans (((State.port_only _ _ _).trans (State.port_only _ _ _)).mono (by decide))
  exact (hshown.mono (by decide)).trans ((statusShown_raises n f).only.mono (by decide))

theorem statusShown_r (f : Frame) {g : RegField} {i : Nat} (h : raiseLeaves (g.off i 0)) :
    (statusShown n f s).r g i = (statusAnswer n f s).r g i := ((statusShown_raises n f).r h).trans rfl

theorem statusShown_quiet {f : Frame} (h4 : bitsOf (fw f 0) 6 4 ≠ 4)
    (h : ∀ v, v < 128 → coilOf f v = 0 ∨ bitsOf s.vpt.ports[n].coil.toNat (2 * v + 1) (2 * v) ≠ 0) :
    statusShown n f s = coilsShown n f (stateShown n f s) := by
  rw [statusShown, coilEff_quiet fun v hv => by rw [stateShown_coil]; exact h v hv]
  exact if_neg (by simpa using h4)

end Sys2Proof.Machine
end

section
/-! The answer of a slot, and bursts (R177, R187, R199, R200, R202-R205). -/

namespace Sys2Proof.Machine

variable {s : State} {n : Fin 16}

/-! ### Error slots (R202) -/

/-- The run of error slots after one more. -/
def errorRun (s : State) (n : Fin 16) : Nat := min (s.vpt.ports[n].consec.toNat + 1) 255

/-- An error slot, before a link loss. -/
def slotMissed (n : Fin 16) (s : State) : State :=
  { s with vpt := { s.vpt with ports := vmod s.vpt.ports n fun p => { p with consec := BitVec.ofNat 8 (errorRun s n), await := false } },
           regs := radd s.regs R.VPT_PORT_MISS_SLOTS 1 n }

theorem errorSlot_eq (n : Fin 16) (s : State) : errorSlot n s =
    if s.r R.VPT_ERR_LIM_LIM ≤ errorRun s n then portLoss n 0 (slotMissed n s) else slotMissed n s := rfl

theorem slotMissed_only (n : Fin 16) (s : State) : OnlyChanges [.vpt, .regs] s (slotMissed n s) := by
  simp [onlyChanges_iff, slotMissed]

theorem slotMissed_port (n : Fin 16) (s : State) : (slotMissed n s).vpt.ports[n] =
    { s.vpt.ports[n] with consec := BitVec.ofNat 8 (errorRun s n), await := false } := vmod_self _ _ _

theorem slotMissed_slots (n : Fin 16) (s : State) :
    (slotMissed n s).r R.VPT_PORT_MISS_SLOTS n = min (s.r R.VPT_PORT_MISS_SLOTS n + 1) 65535 := rget_radd _ _ _ _ _ (by decide)

theorem errorSlot_slots (n : Fin 16) (s : State) :
    (errorSlot n s).r R.VPT_PORT_MISS_SLOTS n = min (s.r R.VPT_PORT_MISS_SLOTS n + 1) 65535 := by
  rw [errorSlot_eq]
  split
  · rw [portLoss_r n 0 ((by unfold raiseLeaves; decide : ∀ k : Fin 16, raiseLeaves (R.VPT_PORT_MISS_SLOTS.off k 0)) n)
      ((by decide : ∀ k : Fin 16, R.VPT_PORT_MISS_LOSSES.apart k 0 R.VPT_PORT_MISS_SLOTS k 0 = true) n)
      ((by decide : ∀ k : Fin 16, R.VPT_READY_LOSS.apart 0 0 R.VPT_PORT_MISS_SLOTS k 0 = true) n)]
    exact slotMissed_slots n s
  · exact slotMissed_slots n s

theorem errorSlot_port (n : Fin 16) (s : State) : (errorSlot n s).vpt.ports[n].await = false
    ∧ (errorSlot n s).vpt.ports[n].consec = BitVec.ofNat 8 (errorRun s n) := by
  rw [errorSlot_eq]
  split
  · rw [portLoss_port, slotMissed_port]
    exact ⟨rfl, rfl⟩
  · rw [slotMissed_port]
    exact ⟨rfl, rfl⟩

theorem errorSlot_tb (n : Fin 16) (s : State) : (errorSlot n s).tb = s.tb := by
  rw [errorSlot_eq]
  split
  · exact portLoss_only n 0 _ .tb (by decide)
  · rfl

theorem execStatusDeadline_eq {due : Nat} (h7 : s.dom 7 = true) (hst : s.vpt.ports[n].st = .ready) (ha : s.vpt.ports[n].await = true)
    (hdue : due = s.slot.tick s.slot.k + 800) (hc : s.comes due = true) : execStatusDeadline n s = .next (errorSlot n (s.at due)) := by
  subst hdue
  refine congrArg Host.Outcome.next (if_pos ?_)
  rw [h7, hst, ha, hc]
  rfl

/-! ### Burst requests (R199, R200) -/

/-- A burst request names its valve and its port. -/
def burstNamed (val : BitVec 32) (n : Fin 16) (s : State) : State :=
  { s with regs := rput (rput s.regs R.VPT_BURST_CTRL_VALVE (bitsOf val.toNat 10 4)) R.VPT_BURST_CTRL_PORT n }

/-- A burst request is taken. -/
def burstTaken (val : BitVec 32) (n : Fin 16) (s : State) : State :=
  { s with regs := rput s.regs R.VPT_BURST_STAT_BUSY 1,
           vpt := { s.vpt with burst := some ⟨n, BitVec.ofNat 7 (bitsOf val.toNat 10 4), 0, s.slot.k, false⟩ } }

theorem burstNamed_busy (val : BitVec 32) (n : Fin 16) (s : State) :
    (burstNamed val n s).r R.VPT_BURST_STAT_BUSY = s.r R.VPT_BURST_STAT_BUSY :=
  (rget_rput_apart _ _ rfl).trans (rget_rput_apart _ _ rfl)

theorem burstNamed_regs (val : BitVec 32) (n : Fin 16) (s : State) : RegsBut [0x30010] s.regs (burstNamed val n s).regs :=
  ((RegsBut.refl _ _).rput (by decide)).rput (by decide)

theorem burstCtrlEff_eq {val : BitVec 32} (hn : n.val = bitsOf val.toNat 3 0) (s : State) : burstCtrlEff val s =
    if !val.getLsbD 31 || s.rb R.VPT_BURST_STAT_BUSY then burstNamed val n s
    else if s.vpt.ports[n].st != .ready || !s.vpt.ports[n].capBurst then (burstNamed val n s).w R.VPT_BURST_STAT_REFUSED 1
    else burstTaken val n (burstNamed val n s) := by
  have hlt : bitsOf val.toNat 3 0 < 16 := bitsOf_lt _ _ _
  have hfin : n = ⟨bitsOf val.toNat 3 0, hlt⟩ := Fin.ext hn
  have hbusy : (burstNamed val n s).rb R.VPT_BURST_STAT_BUSY = s.rb R.VPT_BURST_STAT_BUSY := State.rb_of_r (burstNamed_busy val n s)
  rw [← hbusy]
  subst hfin
  rfl

theorem burstNamed_regs_wide (val : BitVec 32) (n : Fin 16) (s : State) :
    RegsBut [0x30010, 0x30014] s.regs (burstNamed val n s).regs := fun o ho =>
  burstNamed_regs val n s o fun h => ho (List.mem_cons.2 (.inl (List.mem_singleton.1 h)))

theorem burstCtrlEff_quiet {val : BitVec 32} (hn : n.val = bitsOf val.toNat 3 0)
    (h : val.getLsbD 31 = false ∨ s.rb R.VPT_BURST_STAT_BUSY = true) : burstCtrlEff val s = burstNamed val n s := by
  rw [burstCtrlEff_eq hn, if_pos]
  rcases h with h | h
  · rw [h]; rfl
  · rw [h, Bool.or_true]

theorem burstCtrlEff_refused {val : BitVec 32} (hn : n.val = bitsOf val.toNat 3 0) (hv : val.getLsbD 31 = true)
    (hb : s.rb R.VPT_BURST_STAT_BUSY = false) (h : s.vpt.ports[n].st ≠ .ready ∨ s.vpt.ports[n].capBurst = false) :
    burstCtrlEff val s = (burstNamed val n s).w R.VPT_BURST_STAT_REFUSED 1 := by
  rw [burstCtrlEff_eq hn, if_neg (by rw [hv, hb]; decide), if_pos]
  rcases h with h | h
  · rw [bne_iff_ne.2 h, Bool.true_or]
  · rw [h, Bool.not_false, Bool.or_true]

theorem burstCtrlEff_taken {val : BitVec 32} (hn : n.val = bitsOf val.toNat 3 0) (hv : val.getLsbD 31 = true)
    (hb : s.rb R.VPT_BURST_STAT_BUSY = false) (hst : s.vpt.ports[n].st = .ready) (hc : s.vpt.ports[n].capBurst = true) :
    burstCtrlEff val s = burstTaken val n (burstNamed val n s) := by
  rw [burstCtrlEff_eq hn, if_neg (by rw [hv, hb]; decide), if_neg (by rw [hst, hc]; decide)]

theorem burstCtrlEff_only {val : BitVec 32} (hn : n.val = bitsOf val.toNat 3 0) (s : State) :
    OnlyChanges [.regs, .vpt] s (burstCtrlEff val s) := by
  rw [burstCtrlEff_eq hn]
  refine .ite _ ?_ (.ite _ ?_ ?_)
  · simp [onlyChanges_iff, burstNamed]
  · simp [onlyChanges_iff, burstNamed]
  · simp [onlyChanges_iff, burstTaken, burstNamed]

theorem burstCtrlEff_regs {val : BitVec 32} (hn : n.val = bitsOf val.toNat 3 0) (s : State) :
    RegsBut [0x30010, 0x30014] s.regs (burstCtrlEff val s).regs := by
  rw [burstCtrlEff_eq hn]
  split
  · exact burstNamed_regs_wide val n s
  · split
    · exact (burstNamed_regs_wide val n s).rput (by decide)
    · exact (burstNamed_regs_wide val n s).rput (by decide)

/-- A one-bit field that is not set reads 0. -/
theorem State.r_of_rb {f : RegField} (h1 : f.hi + 1 - f.lo = 1) (h : s.rb f = false) : s.r f = 0 := by
  have hlt : s.r f < 2 ^ (f.hi + 1 - f.lo) := bitsOf_lt _ _ _
  rw [h1] at hlt
  have hne : s.r f ≠ 1 := fun e => by rw [State.rb_of_r e] at h; exact absurd h (by decide)
  omega

theorem execBurstGo_eq {val : BitVec 32} (h : s.lands 3 = true) : execBurstGo val s = .next (burstCtrlEff val (s.order 6)) :=
  congrArg Host.Outcome.next (hostWr_lands (burstCtrlEff val) h)

/-- The data of a BURST (R200). -/
def burstData (f : Frame) (m : Map Word) : Map Word := (List.range 32).foldl (fun m i => mput 0 m (0x30800 + 4 * i) (f.getD (i + 1) 0)) m

theorem burstData_read (f : Frame) (m : Map Word) {i : Nat} (hi : i < 32) :
    mread 0 (burstData f m) (0x30800 + 4 * i) = f.getD (i + 1) 0 := by
  have hfold : ∀ (k : Nat), i < k → mread 0 ((List.range k).foldl (fun m i => mput 0 m (0x30800 + 4 * i) (f.getD (i + 1) 0)) m)
      (0x30800 + 4 * i) = f.getD (i + 1) 0 := fun k => by
    induction k with
    | zero => exact fun h => absurd h (Nat.not_lt_zero i)
    | succ k ih =>
      intro h
      rw [List.range_succ, List.foldl_append, List.foldl_cons, List.foldl_nil]
      by_cases hik : i = k
      · rw [hik, mread_mput_same]
      · rw [mread_mput_ne _ _ _ _ (by omega)]
        exact ih (by omega)
  exact hfold 32 hi

theorem burstEff_taken {f : Frame} (h : bitsOf (fw f 0) 31 24 = s.vpt.ports[n].cfgid.toNat) : burstEff n f s =
    burstEnd R.VPT_BURST_STAT_DONE { s with regs := rput (burstData f s.regs) R.VPT_BURST_STAT_SEQ (bitsOf (fw f 0) 23 16) } := by
  rw [burstEff, if_neg (by simpa using h)]
  rfl

theorem burstEff_dropped {f : Frame} (h : bitsOf (fw f 0) 31 24 ≠ s.vpt.ports[n].cfgid.toNat) : burstEff n f s = vpDrop n false s :=
  if_pos (bne_iff_ne.2 h)

theorem burstEnd_read (flag : RegField) (h : flag.off 0 0 = 0x30014) {o : Nat} (ho : o ≠ 0x30014) (s : State) :
    mread 0 (burstEnd flag s).regs o = mread 0 s.regs o := by
  rw [mread, mread, burstEnd_regs h s o (by simpa using ho)]

theorem execBurstReceive_eq {b : Burst} {f : Frame} (hb : s.vpt.burst = some b) (hp : b.port = n) (hst : s.vpt.ports[n].st = .ready)
    (h : PortGood s n 12 34 f) : execBurstReceive n f s = .next (burstEff n f s) := by
  refine congrArg Host.Outcome.next (vpReceive_good h ?_ _)
  simp only [hb, hp, hst, beq_self_eq_true, Bool.and_self]

theorem execBurstTimeout_eq {b : Burst} (hb : s.vpt.burst = some b) (h7 : s.dom 7 = true) (hk : b.slot + 256 ≤ s.slot.k) :
    execBurstTimeout s = .next (burstEnd R.VPT_BURST_STAT_TIMEOUT s) := by
  simp only [execBurstTimeout, hb, h7, decide_eq_true hk, Bool.and_self, if_true]

theorem execStatusReceive_eq {f : Frame} (h : PortGood s n 11 10 f) (hst : s.vpt.ports[n].st = .ready) :
    execStatusReceive n f s = .next (statusEff n f s) :=
  congrArg Host.Outcome.next (vpReceive_good h (by rw [hst]; decide) _)

/-! ### What a good STATUS does -/

section
variable {f : Frame}

theorem statusAnswer_st (n : Fin 16) (f : Frame) : (statusAnswer n f s).vpt.ports[n].st = s.vpt.ports[n].st := by
  rw [statusAnswer_port]
  split <;> rfl

theorem statusEff_answers (hid : bitsOf (fw f 0) 31 24 = s.vpt.ports[n].cfgid.toNat)
    (hs : bitsOf (fw f 0) 15 8 = s.vpt.ports[n].seq.toNat) (ha : s.vpt.ports[n].await = true) :
    (statusEff n f s).vpt.ports[n].consec = 0 ∧ (statusEff n f s).vpt.ports[n].await = false := by
  rw [statusEff_eq n hid, lossFor_port, statusShown_port, statusAnswer_port, if_pos ⟨hs, ha⟩]
  cases lossCause s.vpt.ports[n] f <;> exact ⟨rfl, rfl⟩

theorem statusEff_burst (hid : bitsOf (fw f 0) 31 24 = s.vpt.ports[n].cfgid.toNat) :
    (statusEff n f s).vpt.burst = (statusAnswer n f s).vpt.burst := by
  rw [statusEff_eq n hid, lossFor_burst, statusShown_burst]

theorem statusEff_stat (hid : bitsOf (fw f 0) 31 24 = s.vpt.ports[n].cfgid.toNat) {g : RegField}
    (h : g = R.VPT_BURST_STAT_REFUSED ∨ g = R.VPT_BURST_STAT_BUSY) : (statusEff n f s).r g = (statusAnswer n f s).r g := by
  rw [statusEff_eq n hid, lossFor_stat n _ h]
  rcases h with rfl | rfl
  · exact statusShown_r n f (raiseLeaves_of rfl)
  · exact statusShown_r n f (raiseLeaves_of rfl)

/-- The answer to a burst request (R199). -/
theorem statusEff_burstAnswer (hid : bitsOf (fw f 0) 31 24 = s.vpt.ports[n].cfgid.toNat)
    (hs : bitsOf (fw f 0) 15 8 = s.vpt.ports[n].seq.toNat) (ha : s.vpt.ports[n].await = true) {b : Burst} (hb : Awaits s n b) :
    ((fw f 0).testBit 7 = true → (statusEff n f s).vpt.burst = some { b with accepted := true })
    ∧ ((fw f 0).testBit 7 = false → b.tries < 4 → (statusEff n f s).vpt.burst = some b)
    ∧ ((fw f 0).testBit 7 = false → 4 ≤ b.tries → (statusEff n f s).vpt.burst = none
        ∧ (statusEff n f s).r R.VPT_BURST_STAT_REFUSED = 1 ∧ (statusEff n f s).r R.VPT_BURST_STAT_BUSY = 0) := by
  have hans : Awaits (s.port n answeredPort) n b := hb
  rw [statusEff_burst hid, statusEff_stat hid (.inl rfl), statusEff_stat hid (.inr rfl), statusAnswer_own n hs ha, burstAnswer_awaited hans]
  refine ⟨fun h => ?_, fun h ht => ?_, fun h ht => ?_⟩
  · rw [if_pos h]
  · rw [if_neg (by rw [h]; decide), if_pos ht]
    exact hans.1
  · rw [if_neg (by rw [h]; decide), if_neg (Nat.not_lt.2 ht)]
    exact ⟨rfl, burstEnd_flag _ (by decide) _, burstEnd_busy rfl _⟩

theorem statusEff_lost (h7 : s.dom 7 = true) (hid : bitsOf (fw f 0) 31 24 = s.vpt.ports[n].cfgid.toNat)
    (h : statusLoses s.vpt.ports[n] f) : (statusEff n f s).vpt.ports[n].st = .lost ∧ (statusEff n f s).raised S.VPT_LINK = true
      ∧ (statusEff n f s).r R.VPT_PORT_MISS_LOSSES n.val = min (s.r R.VPT_PORT_MISS_LOSSES n.val + 1) 255 := by
  obtain ⟨c, hc⟩ := lossCause_some h
  have hkept : (statusShown n f s).r R.VPT_PORT_MISS_LOSSES n = s.r R.VPT_PORT_MISS_LOSSES n := by
    rw [statusShown_r n f ((by unfold raiseLeaves; decide : ∀ k : Fin 16, raiseLeaves (R.VPT_PORT_MISS_LOSSES.off k 0)) n)]
    exact State.r_congr (statusAnswer_regs n f _ ((by decide : ∀ k : Fin 16, R.VPT_PORT_MISS_LOSSES.off k 0 ∉ [0x30014]) n))
  rw [statusEff_eq n hid, hc]
  refine ⟨?_, portLoss_raised n c ?_, ?_⟩
  · rw [lossFor, portLoss_port]
    rfl
  · rw [State.dom_congr (statusShown_only n f .pwr (by decide))]
    exact h7
  · rw [lossFor, portLoss_losses, hkept]

end

/-- Settles O50: what a STATUS shows, then the link loss that it means; and the equations of the other commands. -/
theorem slotAnswersAndBursts : Obligations.SlotAnswersAndBursts := by
  refine ⟨fun s n hst => ⟨fun f hg => ⟨fun hid => ⟨_, execStatusReceive_eq hg hst, ?_⟩, fun hid => ⟨_, execStatusReceive_eq hg hst, ?_⟩⟩,
      fun due h7 ha hdue hc => ⟨_, execStatusDeadline_eq h7 hst ha hdue hc, ?_⟩⟩,
    fun s => ⟨fun val n u hu hl hn => ⟨_, execBurstGo_eq hl, ?_⟩, fun n f b hb hp hst hg => ⟨fun hid => ⟨_, execBurstReceive_eq hb hp hst hg, ?_⟩,
      fun hid => ⟨_, execBurstReceive_eq hb hp hst hg, ?_⟩⟩, fun b hb h7 hk => ⟨_, execBurstTimeout_eq hb h7 hk, ?_⟩⟩⟩
  · rw [statusEff_dropped n hid]
    exact ⟨vpDrop_only _ _ _, vpDrop_raised hg.1 _ _⟩
  · have hport : (statusEff n f s).vpt.ports[n] = lossPort (lossCause s.vpt.ports[n] f)
        { (statusAnswer n f s).vpt.ports[n] with mstate := BitVec.ofNat 3 (bitsOf (fw f 0) 6 4), coil := coilWord f } := by
      rw [statusEff_eq n hid, lossFor_port, statusShown_port]
    have hmst : ∀ c p, (lossPort c p).mstate = p.mstate := fun c p => by cases c <;> rfl
    have hcoil : ∀ c p, (lossPort c p).coil = p.coil := fun c p => by cases c <;> rfl
    have hcons : ∀ c p, (lossPort c p).consec = p.consec := fun c p => by cases c <;> rfl
    have hshown7 : (stateShown n f s).dom 7 = true :=
      (State.dom_congr ((statusAnswer_only n f).trans (State.port_only _ _ _ |>.mono (by decide)) .pwr (by decide)) 7).trans hg.1
    refine ⟨?_, ?_, fun v hv => ⟨?_, fun hc ho => ?_⟩, fun hs ha => ?_, fun hs => ?_, fun h => statusEff_lost hg.1 hid h, fun h4 => ?_,
      fun h => ⟨?_, fun hq => ?_⟩⟩
    · rw [statusEff_eq n hid]
      exact (statusShown_only n f).trans (lossFor_only n _)
    · rw [hport, hmst]
      exact Nat.mod_eq_of_lt (bitsOf_lt _ _ _)
    · rw [hport, hcoil]
      exact coilWord_bits f hv
    · rw [statusEff_eq n hid]
      refine lossFor_kept n _ (raised_of_raiseIf (coilEff_raised hshown7 hv hc ?_))
      rw [stateShown_coil]
      exact ho
    · obtain ⟨hcon, haw⟩ := statusEff_answers hid hs ha
      exact ⟨hcon, haw, fun b hb hp hacc ht => statusEff_burstAnswer hid hs ha ⟨hb, hp, hacc, ht⟩⟩
    · rw [hport, hcons, statusAnswer_port, if_neg fun h => hs h.1]
    · rw [statusEff_eq n hid]
      refine lossFor_kept n _ ?_
      rw [statusShown, h4]
      refine raised_raise _ _ ?_
      rw [State.blockUp_congr ((coilEff_raises n f _).only .pwr (by decide))]
      exact hshown7
    · rw [hport, lossCause_none h]
      exact (statusAnswer_st n f).trans hst
    · have h4 : bitsOf (fw f 0) 6 4 ≠ 4 := fun h4 => h (.inr (.inl h4))
      rw [statusEff_eq n hid, lossCause_none h, lossFor, statusShown_quiet n h4 hq]
      exact ((statusAnswer_only n f).mono (by decide)).trans (((State.port_only _ _ _).trans (State.port_only _ _ _)).mono (by decide))
  · obtain ⟨haw, hcon⟩ := errorSlot_port n (s.at due)
    have hat : OnlyChanges [.tb, .edge, .vpt, .regs] s (slotMissed n (s.at due)) :=
      ((State.at_only s due).mono (by decide)).trans ((slotMissed_only n (s.at due)).mono (by decide))
    refine ⟨errorSlot_tb n _, haw, ?_, errorSlot_slots n _, fun h => ?_, fun h => ?_⟩
    · rw [hcon]
      exact Nat.mod_eq_of_lt (Nat.lt_succ_of_le (Nat.min_le_right _ _))
    · have hno : ¬ (s.at due).r R.VPT_ERR_LIM_LIM ≤ errorRun (s.at due) n := Nat.not_le.2 h
      rw [errorSlot_eq, if_neg hno]
      refine ⟨hat, ?_⟩
      rw [slotMissed_port]
      exact hst
    · have hyes : (s.at due).r R.VPT_ERR_LIM_LIM ≤ errorRun (s.at due) n := h
      rw [errorSlot_eq, if_pos hyes]
      refine ⟨(hat.mono (by decide)).trans ((portLoss_only n 0 _).mono (by decide)), ?_, portLoss_raised n 0 ?_⟩
      · rw [portLoss_port]
        rfl
      · exact h7
  · subst hu
    have hregs : (s.order 6).regs = s.regs := s.order_only 6 .regs (by decide)
    have hvpt : (s.order 6).vpt = s.vpt := s.order_only 6 .vpt (by decide)
    have hslot : (s.order 6).slot = s.slot := s.order_only 6 .slot (by decide)
    have hbusy : (s.order 6).rb R.VPT_BURST_STAT_BUSY = s.rb R.VPT_BURST_STAT_BUSY := by rw [State.rb, State.rb, hregs]
    rw [← hregs, ← hslot, ← hvpt, ← hbusy]
    generalize s.order 6 = u
    refine ⟨burstCtrlEff_only hn u, burstCtrlEff_regs hn u, fun hv hb hst hcap => ?_, fun hv hb h => ?_, fun h => ?_⟩
    · rw [burstCtrlEff_taken hn hv hb hst hcap]
      exact ⟨rget_rput_same _ _ _ _ _ (by decide), rfl⟩
    · rw [burstCtrlEff_refused hn hv hb h]
      refine ⟨rfl, State.r_w_same (by decide), ?_⟩
      exact (rget_rput_apart _ _ rfl).trans ((burstNamed_busy val n u).trans (State.r_of_rb rfl hb))
    · rw [burstCtrlEff_quiet hn h]
      exact ⟨rfl, burstNamed_regs val n u⟩
  · rw [burstEff_taken hid]
    refine ⟨by simp [onlyChanges_iff, burstEnd], rfl, burstEnd_flag _ (by decide) _, burstEnd_busy rfl _, ?_, fun i hi => ?_⟩
    · refine ((rget_rput_apart _ _ rfl).trans (rget_rput_apart _ _ rfl)).trans ((rget_rput_same _ _ _ _ _ (by decide)).trans ?_)
      exact Nat.mod_eq_of_lt (bitsOf_lt _ _ _)
    · rw [burstEnd_read _ rfl (by omega)]
      refine (congrArg (Option.getD · 0) (mget_rput_ne _ _ _ _ _ _ ?_)).trans (burstData_read f s.regs hi)
      simp only [RegField.off, R.VPT_BURST_STAT_SEQ]
      omega
  · rw [burstEff_dropped hid]
    exact ⟨vpDrop_only _ _ _, vpDrop_raised hg.1 _ _⟩
  · exact ⟨burstEnd_only _ _, rfl, burstEnd_flag _ (by decide) _, burstEnd_busy rfl _⟩

end Sys2Proof.Machine
end

section
/-! Network paths and connections (R388, R404, R405, R408). -/

namespace Sys2Proof.Machine

variable {s : State} {p : Fin 2}

theorem State.nport_self (s : State) (p : Fin 2) (f : NetPort → NetPort) : (s.nport p f).net.ports[p] = f s.net.ports[p] := vmod_self _ _ _

theorem State.nport_other (s : State) {p q : Fin 2} (h : q ≠ p) (f : NetPort → NetPort) : (s.nport p f).net.ports[q] = s.net.ports[q] :=
  vmod_other _ h _

theorem other_side_ne (p : Fin 2) : 1 - p ≠ p := by revert p; decide

/-! ### A port leaves UP (R408) -/

/-- A port that leaves UP, before the report of its path. -/
def pathLeft (p : Fin 2) (cause : Nat) (st : PathState) (s : State) : State :=
  let t := s.nport p fun q => { q with st := st, cause := BitVec.ofNat 4 cause, cleanAt := s.tb, consec := 0 }
  if s.net.ports[1 - p].st != .up && s.net.ports[1 - p].cause != 0 && t.net.ports[1 - p].st == .qual then
    t.nport (1 - p) fun q => { q with st := .lost, cause := 4, cleanAt := t.tb }
  else t

theorem pathLeave_eq (p : Fin 2) (cause : Nat) (st : PathState) (s : State) :
    pathLeave p cause st s = raise S.NET_PATH (p.val + 65536 * cause) (pathLeft p cause st s) := rfl

theorem pathLeft_only (p : Fin 2) (cause : Nat) (st : PathState) (s : State) : OnlyChanges [.net] s (pathLeft p cause st s) :=
  .ite _ ((State.nport_only _ _ _).trans (State.nport_only _ _ _)) (State.nport_only _ _ _)

theorem pathLeft_port (p : Fin 2) (cause : Nat) (st : PathState) (s : State) : (pathLeft p cause st s).net.ports[p] =
    { s.net.ports[p] with st := st, cause := BitVec.ofNat 4 cause, cleanAt := s.tb, consec := 0 } := by
  unfold pathLeft
  dsimp only
  split
  · rw [State.nport_other _ (other_side_ne p).symm, State.nport_self]
  · rw [State.nport_self]

theorem pathLeft_conns (p : Fin 2) (cause : Nat) (st : PathState) (s : State) : (pathLeft p cause st s).net.conns = s.net.conns := by
  unfold pathLeft
  dsimp only
  split <;> rfl

theorem pathLeft_exch (p : Fin 2) (cause : Nat) (st : PathState) (s : State) : (pathLeft p cause st s).net.exch = s.net.exch := by
  unfold pathLeft
  dsimp only
  split <;> rfl

theorem pathLeave_net (p : Fin 2) (cause : Nat) (st : PathState) (s : State) :
    (pathLeave p cause st s).net = (pathLeft p cause st s).net := by
  rw [pathLeave_eq]
  exact raise_only _ _ _ .net (by decide)

theorem pathLeave_only (p : Fin 2) (cause : Nat) (st : PathState) (s : State) :
    OnlyChanges (.net :: raiseParts) s (pathLeave p cause st s) := by
  rw [pathLeave_eq]
  exact ((pathLeft_only p cause st s).mono (by decide)).trans ((raise_only _ _ _).mono (by decide))

theorem pathLeave_raised (h : s.dom 6 = true) (p : Fin 2) (cause : Nat) (st : PathState) :
    (pathLeave p cause st s).raised S.NET_PATH = true := by
  rw [pathLeave_eq]
  refine raised_raise _ _ ?_
  exact (State.dom_congr (pathLeft_only p cause st s .pwr (by decide)) 6).trans h

theorem pathLeave_kept {c : Src} (h : s.raised c = true) (p : Fin 2) (cause : Nat) (st : PathState) :
    (pathLeave p cause st s).raised c = true := by
  rw [pathLeave_eq]
  refine raised_of_raise ?_
  rw [← h]
  exact State.raised_congr (congrArg (mget · _) (pathLeft_only p cause st s .regs (by decide)))

theorem pathLeave_r (p : Fin 2) (cause : Nat) (st : PathState) (s : State) {f : RegField} {i : Nat} (h : raiseLeaves (f.off i 0)) :
    (pathLeave p cause st s).r f i = s.r f i := by
  rw [pathLeave_eq, raise_r _ _ _ _ _ _ h, State.r, State.r, pathLeft_only p cause st s .regs (by decide)]

/-! ### Links (R388, R408) -/

/-- A port whose link comes up. -/
def linkedPort (an fd : Bool) (tb : Nat) (q : NetPort) : NetPort :=
  { q with sync := true, anDone := an, lpFd := an && fd, st := if q.st == .down && (!an || fd) then .qual else q.st,
           cleanAt := if q.st == .down then tb else q.cleanAt }

theorem execNetLinkUp_eq (h6 : s.dom 6 = true) (hdead : s.net.ports[p].dead = false) (fd : Bool) :
    execNetLinkUp p fd s = .next (s.nport p (linkedPort (s.rb R.NET_PORT_CFG_AN p) fd s.tb)) :=
  congrArg Host.Outcome.next (if_neg (by rw [h6, hdead]; decide))

/-- A port without its link. -/
def unlinkedPort (q : NetPort) : NetPort := { q with sync := false, anDone := false, lpFd := false }

theorem netDown_up (h : s.net.ports[p].st = .up) : netDown p s = pathLeave p 1 .down (s.nport p unlinkedPort) := by
  rw [netDown, h]
  rfl

theorem netDown_idle (h : s.net.ports[p].st ≠ .up) :
    netDown p s = (s.nport p unlinkedPort).nport p fun q => { q with st := .down } := by
  rw [netDown, beq_false_of_ne h]
  rfl

theorem execNetLinkDown_eq (h6 : s.dom 6 = true) : execNetLinkDown p s = .next (netDown p s) := congrArg Host.Outcome.next (if_pos h6)

/-! ### Connections (R404, R405) -/

theorem loseConn_conn (n : Fin 32) (s : State) : (loseConn n s).net.conns[n] =
    { s.net.conns[n] with st := .lost, ok := false, close := some (s.net.conns[n].close.getD 1), answer := none } := by
  rw [loseConn, raise_only _ _ _ .net (by decide)]
  exact vmod_self _ _ _

theorem loseConn_other (s : State) {n m : Fin 32} (h : m ≠ n) : (loseConn n s).net.conns[m] = s.net.conns[m] := by
  rw [loseConn, raise_only _ _ _ .net (by decide)]
  exact vmod_other _ h _

theorem loseConn_raised (h : s.dom 6 = true) (n : Fin 32) : (loseConn n s).raised S.NET_CONN = true := raised_raise _ _ h

theorem loseConn_losses (n : Fin 32) (s : State) :
    (loseConn n s).r R.NET_CONN_CNT_LOSSES n = min (s.r R.NET_CONN_CNT_LOSSES n + 1) 255 := by
  rw [loseConn, raise_r _ _ _ _ _ _ ((by unfold raiseLeaves; decide : ∀ k : Fin 32, raiseLeaves (R.NET_CONN_CNT_LOSSES.off k 0)) n)]
  exact rget_radd _ _ _ _ _ (by decide)

/-- A connection whose data are too old reads as not valid, in every map of the scan and in NET_CONN_OK. -/
def connInvalid (n : Fin 32) (t : State) : State :=
  { t with lan := { t.lan with map := connGone n t.lan.map
                               lanes := t.lan.lanes.map fun x => { x with own := x.own.map fun m => (connGone n m.1, m.2) } }
           regs := rput t.regs R.NET_CONN_OK_OK (putBit (BitVec.ofNat 32 (t.r R.NET_CONN_OK_OK)) n.val false).toNat }

theorem execConnWatchdogExpire_eq {n : Fin 32} (hrun : s.lan.run = true) (hph : s.lan.phase = 1) (hok : s.net.conns[n].ok = true)
    (hst : s.net.conns[n].st = .open) (hts : ∀ a, s.net.conns[n].ts = some a → a + connWd s n.val < s.lan.boundary) :
    execConnWatchdogExpire n s = .next (connInvalid n (loseConn n s)) := by
  have hstale : connFresh s n s.lan.boundary = false := by
    unfold connFresh
    cases h : s.net.conns[n].ts with
    | none => exact Bool.and_false _
    | some a => exact (congrArg (_ && ·) (decide_eq_false (Nat.not_le.2 (hts a h)))).trans (Bool.and_false _)
  refine congrArg Host.Outcome.next (if_pos ?_)
  rw [hrun, hph, hok, hst, hstale]
  rfl

theorem connGone_bit (n : Fin 32) (m : InMap) : (connGone n m).bits.getLsbD (168 + n.val) = false :=
  putBit_getLsbD_self _ _ (by omega)

theorem connGone_word (n : Fin 32) (m : InMap) {j : Nat} (hj : j < 4) : mread 0 (connGone n m).words (256 + 4 * n.val + j) = 0 := by
  have hgone : (!decide (256 + 4 * n.val ≤ 256 + 4 * n.val + j ∧ 256 + 4 * n.val + j < 260 + 4 * n.val)) = false := by
    rw [decide_eq_true (by omega)]
    rfl
  have hread := mget_filter_key (fun k => !decide (256 + 4 * n.val ≤ k ∧ k < 260 + 4 * n.val)) m.words (256 + 4 * n.val + j)
  rw [hgone] at hread
  rw [mread, connGone, hread]
  rfl

/-- Every map of the scan is one in which the connection is not valid. -/
theorem connInvalid_mapOf (n : Fin 32) (t : State) (l : Fin 3) : ∃ m, (connInvalid n t).lan.mapOf l = connGone n m := by
  unfold Lan.mapOf connInvalid
  simp only [Fin.getElem_fin, Vector.getElem_map]
  cases t.lan.lanes[l.val].own with
  | none => exact ⟨_, rfl⟩
  | some m => exact ⟨_, rfl⟩

theorem connInvalid_ok (n : Fin 32) (t : State) : ((connInvalid n t).r R.NET_CONN_OK_OK).testBit n.val = false := by
  have h : (connInvalid n t).r R.NET_CONN_OK_OK = (putBit (BitVec.ofNat 32 (t.r R.NET_CONN_OK_OK)) n.val false).toNat :=
    (rget_rput_same _ _ _ _ _ (by decide)).trans (Nat.mod_eq_of_lt (BitVec.isLt _))
  rw [h]
  exact putBit_getLsbD_self _ _ n.isLt

theorem connInvalid_only (n : Fin 32) (t : State) : OnlyChanges [.lan, .regs] t (connInvalid n t) := by
  simp [onlyChanges_iff, connInvalid]

theorem connInvalid_raised {c : Src} (n : Fin 32) {t : State} (h : t.raised c = true) : (connInvalid n t).raised c = true := by
  rw [← h]
  refine State.raised_congr (mget_rput_ne _ _ _ _ _ _ ?_)
  simp only [fltOff, RegField.off, R.NET_CONN_OK_OK]
  omega

end Sys2Proof.Machine
end

section
/-! Frames of the safe network, and clause 22 management (R387, R390, R402, R408). -/

namespace Sys2Proof.Machine

variable {s : State} {p : Fin 2}

/-! ### Violations (R402, R408) -/

/-- A violation is noted at its port and counted. -/
def violationNoted (p : Fin 2) (s : State) : State :=
  (s.nport p fun q => { q with consec := BitVec.ofNat 8 (satAdd 8 s.net.ports[p].consec.toNat 1), cleanAt := s.tb }).add R.NET_PORT_ERR_VIOL 1 p

/-- A violation with its reports. -/
def violationTold (p : Fin 2) (check conn : Nat) (s : State) : State :=
  raiseIf (check == 4) S.NET_IDENT (p.val + 256 * conn) (raise S.NET_FRAME (p.val + 256 * conn + 65536 * check) (violationNoted p s))

theorem netViolation_eq (p : Fin 2) (check conn : Nat) (s : State) : netViolation p check conn s =
    if (violationTold p check conn s).net.ports[p].st == .up
        && decide ((violationTold p check conn s).r R.NET_ERR_LIM_LIM ≤ satAdd 8 s.net.ports[p].consec.toNat 1) then
      pathLeave p 2 .lost (violationTold p check conn s) else violationTold p check conn s := rfl

theorem violationTold_raises (p : Fin 2) (check conn : Nat) (s : State) : Raises (violationNoted p s) (violationTold p check conn s) :=
  (Raises.of_raise _ _ _).trans (.of_raiseIf _ _ _ _)

theorem violationNoted_only (p : Fin 2) (s : State) : OnlyChanges [.net, .regs] s (violationNoted p s) :=
  ((State.nport_only _ _ _).mono (by decide)).trans ((State.add_only _ _ _ _ _).mono (by decide))

theorem violationTold_net (p : Fin 2) (check conn : Nat) (s : State) :
    (violationTold p check conn s).net = (violationNoted p s).net := (violationTold_raises p check conn s).only .net (by decide)

theorem violationTold_only (p : Fin 2) (check conn : Nat) (s : State) :
    OnlyChanges (.net :: raiseParts) s (violationTold p check conn s) :=
  ((violationNoted_only p s).mono (by decide)).trans ((violationTold_raises p check conn s).only.mono (by decide))

theorem violationNoted_port (p : Fin 2) (s : State) : (violationNoted p s).net.ports[p] =
    { s.net.ports[p] with consec := BitVec.ofNat 8 (satAdd 8 s.net.ports[p].consec.toNat 1), cleanAt := s.tb } := State.nport_self _ _ _

theorem netViolation_only (p : Fin 2) (check conn : Nat) (s : State) : OnlyChanges (.net :: raiseParts) s (netViolation p check conn s) := by
  rw [netViolation_eq]
  exact .ite _ ((violationTold_only p check conn s).trans (pathLeave_only _ _ _ _)) (violationTold_only p check conn s)

theorem netViolation_exch (p : Fin 2) (check conn : Nat) (s : State) : (netViolation p check conn s).net.exch = s.net.exch := by
  have htold : (violationTold p check conn s).net.exch = s.net.exch := by
    rw [violationTold_net]
    rfl
  rw [netViolation_eq]
  split
  · rw [pathLeave_net, pathLeft_exch, htold]
  · exact htold

/-- A violation on a port that is not in use. -/
theorem netViolation_idle (h : s.net.ports[p].st ≠ .up) (check conn : Nat) : netViolation p check conn s = violationTold p check conn s := by
  rw [netViolation_eq, if_neg]
  rw [violationTold_net, violationNoted_port]
  intro hup
  exact h (eq_of_beq (Bool.and_eq_true _ _ ▸ hup : _ ∧ _).1)

theorem violationTold_frame (h6 : s.dom 6 = true) (p : Fin 2) (check conn : Nat) :
    (violationTold p check conn s).raised S.NET_FRAME = true := by
  refine raised_of_raiseIf (raised_raise _ _ ?_)
  exact (State.dom_congr (violationNoted_only p s .pwr (by decide)) 6).trans h6

theorem violationTold_ident (h6 : s.dom 6 = true) (p : Fin 2) (conn : Nat) :
    (violationTold p 4 conn s).raised S.NET_IDENT = true := by
  refine raised_raise _ _ ?_
  rw [State.blockUp_congr (raise_pwr _ _ _)]
  exact (State.dom_congr (violationNoted_only p s .pwr (by decide)) 6).trans h6

theorem violationTold_count (p : Fin 2) (check conn : Nat) (s : State) :
    (violationTold p check conn s).r R.NET_PORT_ERR_VIOL p = min (s.r R.NET_PORT_ERR_VIOL p + 1) 65535 := by
  rw [(violationTold_raises p check conn s).r ((by unfold raiseLeaves; decide : ∀ k : Fin 2, raiseLeaves (R.NET_PORT_ERR_VIOL.off k 0)) p)]
  exact rget_radd _ _ _ _ _ (by decide)

/-! ### Copies (R390, R408) -/

/-- A change that reaches the network but not what waits for the lanes. -/
def KeepsExch (s t : State) : Prop := OnlyChanges (.net :: raiseParts) s t ∧ t.net.exch = s.net.exch

namespace KeepsExch

variable {t u : State}

theorem trans (h : KeepsExch s t) (h' : KeepsExch t u) : KeepsExch s u := ⟨h.1.trans h'.1, h'.2.trans h.2⟩

theorem refl (s : State) : KeepsExch s s := ⟨.refl _ _, rfl⟩

theorem of_conn (n : Fin 32) (f : Conn → Conn) (s : State) : KeepsExch s (s.conn n f) := ⟨(State.conn_only _ _ _).mono (by decide), rfl⟩

theorem of_nport (p : Fin 2) (f : NetPort → NetPort) (s : State) : KeepsExch s (s.nport p f) :=
  ⟨(State.nport_only _ _ _).mono (by decide), rfl⟩

theorem of_add (f : RegField) (n i j : Nat) (s : State) : KeepsExch s (s.add f n i j) :=
  ⟨(State.add_only _ _ _ _ _).mono (by decide), rfl⟩

theorem of_raise (c : Src) (d : Nat) (s : State) : KeepsExch s (raise c d s) :=
  ⟨(raise_only _ _ _).mono (by decide), by rw [raise_only c d s .net (by decide)]⟩

theorem of_violation (p : Fin 2) (check conn : Nat) (s : State) : KeepsExch s (netViolation p check conn s) :=
  ⟨netViolation_only _ _ _ _, netViolation_exch _ _ _ _⟩

theorem foldl {α : Type} {g : State → α → State} (h : ∀ s a, KeepsExch s (g s a)) (l : List α) (s : State) : KeepsExch s (l.foldl g s) := by
  induction l generalizing s with
  | nil => exact .refl s
  | cons a l ih => exact (h s a).trans (ih _)

end KeepsExch

theorem pathCompare_keeps (p : Fin 2) (n : Fin 32) (f : Frame) (s : State) : KeepsExch s (pathCompare p n f s) := by
  unfold pathCompare
  extract_lets t
  have ht : KeepsExch s t := .of_conn _ _ _
  split
  · exact ht
  · split
    · exact ht
    · split
      · exact ht.trans (.of_conn _ _ _)
      · split
        · exact ht
        · exact ht.trans ((KeepsExch.of_add _ _ _ _ _).trans ((KeepsExch.of_raise _ _ _).trans (.foldl (fun u q => .of_violation q 0 n u) _ _)))

/-- A copy that comes in on a port in use waits for the lanes. -/
def delivered (p : Fin 2) (f : Frame) (s : State) : State := { s with net := { s.net with exch := s.net.exch ++ [(p, f, s.tb)] } }

theorem netTake_up (h : s.net.ports[p].st = .up) (f : Frame) : KeepsExch (delivered p f s) (netTake p f s) := by
  unfold netTake
  simp only [h, beq_self_eq_true, if_true]
  split
  · exact .refl _
  · exact .refl _
  · exact pathCompare_keeps p _ f (delivered p f s)
  · exact pathCompare_keeps p _ f (delivered p f s)

theorem netTake_idle (h : s.net.ports[p].st ≠ .up) (f : Frame) : KeepsExch s (netTake p f s) := by
  unfold netTake
  simp only [beq_false_of_ne h, Bool.false_eq_true, if_false]
  split
  · exact .of_violation _ _ _ _
  · exact .of_add _ _ _ _ _
  · exact (KeepsExch.of_nport _ _ _).trans (pathCompare_keeps _ _ _ _)
  · exact (KeepsExch.of_nport _ _ _).trans (pathCompare_keeps _ _ _ _)

theorem netTake_bad (h : s.net.ports[p].st ≠ .up) {f : Frame} {k n : Nat} (hbad : checkCopy s p f s.tb = .bad k n) :
    netTake p f s = violationTold p k n s := by
  rw [← netViolation_idle h]
  unfold netTake
  simp only [hbad, beq_false_of_ne h, Bool.false_eq_true, if_false]

/-! ### Ethernet frames (R387, R390) -/

theorem netLink_of (h6 : s.dom 6 = true) (h : s.net.ports[p].st ≠ .down) : netLink s p = true := by
  rw [netLink, h6, bne_iff_ne.2 h]
  rfl

theorem execEthFrameReceive_unsound {e : EthFrame} (hl : netLink s p = true) (h : ¬EthSound e) :
    execEthFrameReceive p e s = .next (s.add R.NET_PORT_ERR_FCS 1 p) := by
  have hbad : (e.fcs != crc32 (ethBytes e.dst e.src e.tag e.etype e.payload) || e.violation) = true := by
    by_contra hno
    exact h (by simpa [EthSound] using hno)
  exact congrArg Host.Outcome.next ((if_neg (by rw [hl]; decide)).trans (if_pos hbad))

theorem execEthFrameReceive_sound {e : EthFrame} (hl : netLink s p = true) (h : EthSound e) :
    execEthFrameReceive p e s = .next (ethOffer p e s) := by
  have hgood : ¬ (e.fcs != crc32 (ethBytes e.dst e.src e.tag e.etype e.payload) || e.violation) = true := by
    rw [h.1, h.2]
    simp
  exact congrArg Host.Outcome.next ((if_neg (by rw [hl]; decide)).trans (if_neg hgood))

theorem ethOffer_short {e : EthFrame} (h : ethLen e < 64) : ethOffer p e s = s := if_pos h

theorem ethOffer_pause {e : EthFrame} (h : 64 ≤ ethLen e) (he : e.etype = 0x8808) : ethOffer p e s = s.add R.NET_PORT_IGN_PAUSE 1 p :=
  (if_neg (Nat.not_lt.2 h)).trans (if_pos he)

theorem ethOffer_foreign {e : EthFrame} (h : 64 ≤ ethLen e) (he : e.etype ≠ 0x8808)
    (hf : e.dst ≠ Config.mac p ∨ e.etype.toNat ≠ s.r R.NET_ETYPE_ETYPE ∨ 1522 < ethLen e ∨ e.payload.length < 36) :
    ethOffer p e s = s.add R.NET_PORT_IGN_FOREIGN 1 p := by
  refine (if_neg (Nat.not_lt.2 h)).trans ((if_neg he).trans (if_pos ?_))
  rcases hf with hf | hf | hf | hf
  · exact .inr (.inl hf)
  · exact .inr (.inr (.inl hf))
  · exact .inl hf
  · exact .inr (.inr (.inr hf))

theorem ethOffer_taken {e : EthFrame} (h : 64 ≤ ethLen e) (he : e.etype ≠ 0x8808) (hd : e.dst = Config.mac p)
    (ht : e.etype.toNat = s.r R.NET_ETYPE_ETYPE) (hl : ethLen e ≤ 1522) (hp : 36 ≤ e.payload.length) :
    ethOffer p e s = netTake p (bytesWords (e.payload.take 36)) s := by
  refine (if_neg (Nat.not_lt.2 h)).trans ((if_neg he).trans (if_neg ?_))
  rintro (hf | hf | hf | hf)
  · exact absurd hf (Nat.not_lt.2 hl)
  · exact hf hd
  · exact hf ht
  · exact absurd hf (Nat.not_lt.2 hp)

theorem portCount_counted (f : RegField) (hh : f.hi < 32) (hw : f.hi + 1 - f.lo = 16) (s : State) (p : Fin 2) :
    (s.add f 1 p).r f p = min (s.r f p + 1) 65535 := by
  rw [State.r, State.add, rget_radd _ _ _ _ _ hh, hw]
  rfl

/-! ### Clause 22 management (R387) -/

/-- The fields of NET_MDIO that a write leaves. -/
def mdioFields (val : Word) (m : Map Word) : Map Word :=
  rput (rput (rput (rput m R.NET_MDIO_OP (bitsOf val.toNat 26 26)) R.NET_MDIO_PHYAD (bitsOf val.toNat 25 21))
    R.NET_MDIO_REGAD (bitsOf val.toNat 20 16)) R.NET_MDIO_DATA (bitsOf val.toNat 15 0)

theorem mdioFields_regs (val : Word) (m : Map Word) : RegsBut [0x60050] m (mdioFields val m) :=
  ((((RegsBut.refl _ _).rput (by decide)).rput (by decide)).rput (by decide)).rput (by decide)

theorem mdioFields_busy (val : Word) (m : Map Word) : rget (mdioFields val m) R.NET_MDIO_BUSY = rget m R.NET_MDIO_BUSY :=
  (rget_rput_apart _ _ rfl).trans ((rget_rput_apart _ _ rfl).trans ((rget_rput_apart _ _ rfl).trans (rget_rput_apart _ _ rfl)))

theorem mdioFields_data (val : Word) (m : Map Word) : rget (mdioFields val m) R.NET_MDIO_DATA = bitsOf val.toNat 15 0 :=
  (rget_rput_same _ _ _ _ _ (by decide)).trans (Nat.mod_eq_of_lt (bitsOf_lt _ _ _))

/-- An access to a PHY begins. -/
def mdioBegun (val : Word) (s : State) : State :=
  { s with regs := rput (mdioFields val s.regs) R.NET_MDIO_BUSY 1, net := { s.net with mdio := true }, tx := Tx.mdio val :: s.tx }

theorem execMdioGo_begun {val : BitVec 32} (hl : s.lands 6 = true) (hv : val.getLsbD 31 = true) (hb : (s.order 6).rb R.NET_MDIO_BUSY = false) :
    execMdioGo val s = .next (mdioBegun val (s.order 6)) := by
  refine congrArg Host.Outcome.next ((hostWr_lands (mdioEff val) hl).trans (if_pos ?_))
  rw [hv, hb]
  rfl

theorem execMdioGo_quiet {val : BitVec 32} (hl : s.lands 6 = true)
    (h : val.getLsbD 31 = false ∨ (s.order 6).rb R.NET_MDIO_BUSY = true) :
    execMdioGo val s = .next { s.order 6 with regs := mdioFields val (s.order 6).regs } := by
  refine congrArg Host.Outcome.next ((hostWr_lands (mdioEff val) hl).trans (if_neg ?_))
  rcases h with h | h
  · rw [h]; exact Bool.false_ne_true
  · rw [h, Bool.not_true, Bool.and_false]; exact Bool.false_ne_true

/-- An access to a PHY has ended. -/
def mdioEnded (data : BitVec 16) (s : State) : State :=
  { s with
    regs := if s.rb R.NET_MDIO_OP then rput s.regs R.NET_MDIO_BUSY 0 else rput (rput s.regs R.NET_MDIO_BUSY 0) R.NET_MDIO_DATA data.toNat
    net := { s.net with mdio := false } }

theorem execMdioDone_eq (h6 : s.dom 6 = true) (hm : s.net.mdio = true) (data : BitVec 16) :
    execMdioDone data s = .next (mdioEnded data s) := congrArg Host.Outcome.next (if_pos (by rw [h6, hm]; rfl))

theorem mdioEnded_regs (data : BitVec 16) (s : State) : RegsBut [0x60050] s.regs (mdioEnded data s).regs := by
  have h : RegsBut [0x60050] s.regs (rput s.regs R.NET_MDIO_BUSY 0) := (RegsBut.refl _ _).rput (by decide)
  rw [mdioEnded]
  dsimp only
  split
  · exact h
  · exact h.rput (by decide)

theorem mdioEnded_busy (data : BitVec 16) (s : State) : (mdioEnded data s).r R.NET_MDIO_BUSY = 0 := by
  have h : rget (rput s.regs R.NET_MDIO_BUSY 0) R.NET_MDIO_BUSY = 0 := rget_rput_same _ _ _ _ _ (by decide)
  rw [State.r, mdioEnded]
  dsimp only
  split
  · exact h
  · exact (rget_rput_apart _ _ rfl).trans h

theorem mdioEnded_data (data : BitVec 16) (s : State) : (mdioEnded data s).r R.NET_MDIO_DATA =
    if s.rb R.NET_MDIO_OP = true then s.r R.NET_MDIO_DATA else data.toNat := by
  rw [State.r, mdioEnded]
  dsimp only
  split
  · exact rget_rput_apart _ _ rfl
  · exact (rget_rput_same _ _ _ _ _ (by decide)).trans (Nat.mod_eq_of_lt data.isLt)

end Sys2Proof.Machine
end

section
/-! The safe network: its commands together (R387, R388, R390, R402, R404, R405, R408). -/

namespace Sys2Proof.Machine

variable {s : State} {p : Fin 2}

theorem execNetQualDone_eq {due : Nat} (h6 : s.dom 6 = true) (hst : s.net.ports[p].st = .qual)
    (hdue : due = s.net.ports[p].cleanAt + s.r R.NET_QUAL_MS * ms) (hc : s.comes due = true)
    (heq : ∀ n : Fin 32, s.net.conns[n].st = .open → ∃ e, s.net.conns[n].eqAt[p] = some e ∧ (s.at due).tb ≤ e + connWd s n.val) :
    execNetQualDone p s = .next ((s.at due).nport p fun q => { q with st := .up, consec := 0, upAt := (s.at due).tb }) := by
  subst hdue
  have hpaths : pathsEqual (s.at (s.net.ports[p].cleanAt + s.r R.NET_QUAL_MS * ms)) p = true := by
    refine List.all_eq_true.2 fun n _ => ?_
    by_cases ho : s.net.conns[n].st = .open
    · obtain ⟨e, he, hle⟩ := heq n ho
      refine Bool.or_eq_true_iff.2 (.inr ?_)
      have he' : (s.at (s.net.ports[p].cleanAt + s.r R.NET_QUAL_MS * ms)).net.conns[n].eqAt[p] = some e := he
      rw [he']
      exact decide_eq_true hle
    · exact Bool.or_eq_true_iff.2 (.inl (bne_iff_ne.2 ho))
  refine congrArg Host.Outcome.next (if_pos ?_)
  rw [h6, hc, hst, hpaths]
  rfl

theorem execNetLostRecover_eq {due : Nat} (h6 : s.dom 6 = true) (hst : s.net.ports[p].st = .lost) (hsync : s.net.ports[p].sync = true)
    (hdue : due = s.net.ports[p].cleanAt + 100 * ms) (hc : s.comes due = true) :
    execNetLostRecover p s = .next ((s.at due).nport p fun q => { q with st := .qual, cleanAt := (s.at due).tb, consec := 0 }) := by
  subst hdue
  refine congrArg Host.Outcome.next (if_pos ?_)
  rw [h6, hst, hsync, hc]
  rfl

theorem execNetPathSilence_eq {n : Fin 32} {b due : Nat} (h6 : s.dom 6 = true) (hst : s.net.ports[p].st = .up)
    (ho : s.net.conns[n].st = .open) (hb : s.net.conns[n].pathAt[1 - p] = some b)
    (hdue : due = max (s.net.conns[n].pathAt[p].getD 0) (max s.net.ports[p].upAt s.net.conns[n].openedAt) + connWd s n.val)
    (hc : s.comes due = true) (hle : (s.at due).tb ≤ b + connWd s n.val) :
    execNetPathSilence p n s = .next (pathLeave p 3 .lost (s.at due)) := by
  subst hdue
  refine congrArg Host.Outcome.next (if_pos ?_)
  rw [h6, hst, ho, hb, hc]
  simpa using hle

theorem pathLeave_at_raised (h : s.dom 6 = true) (due : Nat) (p : Fin 2) (cause : Nat) (st : PathState) :
    (pathLeave p cause st (s.at due)).raised S.NET_PATH = true := by
  refine pathLeave_raised ?_ p cause st
  exact h

theorem pathLeave_nport_raised (h : s.dom 6 = true) (f : NetPort → NetPort) (p : Fin 2) (cause : Nat) (st : PathState) :
    (pathLeave p cause st (s.nport p f)).raised S.NET_PATH = true := by
  refine pathLeave_raised ?_ p cause st
  exact h

theorem linkedPort_down {an fd : Bool} {q : NetPort} (h : q.st = .down) (tb : Nat) :
    (linkedPort an fd tb q).st = (if an = true ∧ fd = false then .down else .qual) ∧ (linkedPort an fd tb q).cleanAt = tb := by
  refine ⟨?_, by simp [linkedPort, h]⟩
  cases an <;> cases fd <;> simp [linkedPort, h]

theorem linkedPort_other {an fd : Bool} {q : NetPort} (h : q.st ≠ .down) (tb : Nat) :
    (linkedPort an fd tb q).st = q.st ∧ (linkedPort an fd tb q).cleanAt = q.cleanAt := by
  simp [linkedPort, h]

/-- Settles O46: the paths and connections, the frames, and the management, each command by its equation. -/
theorem network : Obligations.Network := by
  refine ⟨fun s p h6 => ⟨fun fd hdead => ⟨_, execNetLinkUp_eq h6 hdead fd, State.nport_only _ _ _, ?_⟩,
      fun hup => ⟨_, execNetLinkDown_eq h6, ?_⟩, fun hno => ⟨_, execNetLinkDown_eq h6, ?_⟩,
      fun due hst hdue hc heq => ⟨_, execNetQualDone_eq h6 hst hdue hc heq, ?_⟩,
      fun due hst hsync hdue hc => ⟨_, execNetLostRecover_eq h6 hst hsync hdue hc, ?_⟩,
      fun n b due hst ho hb hdue hc hle => ⟨_, execNetPathSilence_eq h6 hst ho hb hdue hc hle, ?_⟩,
      fun n hrun hph hok hst hts => ⟨_, execConnWatchdogExpire_eq hrun hph hok hst hts, ?_⟩⟩,
    fun s p e h6 hst => ⟨fun hbad => ⟨_, execEthFrameReceive_unsound (netLink_of h6 hst) hbad, State.add_only _ _ _ _ _,
        portCount_counted _ (by decide) rfl s p⟩,
      fun hs hlen => (execEthFrameReceive_sound (netLink_of h6 hst) hs).trans (congrArg _ (ethOffer_short hlen)), fun hs hlen => ?_,
      fun val hl => ?_, fun data hm => ⟨_, execMdioDone_eq h6 hm data, ?_⟩⟩⟩
  · have hself : (s.nport p (linkedPort (s.rb R.NET_PORT_CFG_AN p) fd s.tb)).net.ports[p] = linkedPort (s.rb R.NET_PORT_CFG_AN p) fd s.tb s.net.ports[p] :=
      State.nport_self _ _ _
    unfold PathIs
    rw [hself]
    exact ⟨rfl, rfl, fun h => linkedPort_down h _, fun h => linkedPort_other h _, State.nport_other _ (other_side_ne p) _, rfl⟩
  · have hleft := pathLeft_port p 1 .down (s.nport p unlinkedPort)
    rw [State.nport_self] at hleft
    rw [netDown_up hup]
    unfold PathIs
    rw [pathLeave_net, hleft, pathLeft_conns]
    exact ⟨(State.nport_only s p _ |>.mono (by decide)).trans (pathLeave_only _ _ _ _), rfl, rfl, rfl,
      pathLeave_nport_raised h6 _ _ _ _, rfl⟩
  · rw [netDown_idle hno]
    unfold PathIs
    rw [State.nport_self, State.nport_self]
    exact ⟨(State.nport_only _ _ _).trans (State.nport_only _ _ _), rfl, rfl⟩
  · unfold PathIs
    rw [State.nport_self]
    exact ⟨((State.at_only s due).mono (by decide)).trans ((State.nport_only _ _ _).mono (by decide)), rfl, rfl, rfl,
      State.nport_other _ (other_side_ne p) _, rfl⟩
  · unfold PathIs
    rw [State.nport_self]
    exact ⟨((State.at_only s due).mono (by decide)).trans ((State.nport_only _ _ _).mono (by decide)), rfl, rfl, rfl, rfl⟩
  · unfold PathIs
    rw [pathLeave_net, pathLeft_port, pathLeave_only p 3 .lost _ .tb (by decide)]
    exact ⟨((State.at_only s due).mono (by decide)).trans ((pathLeave_only _ _ _ _).mono (by decide)), rfl, rfl,
      pathLeave_at_raised h6 _ _ _ _, rfl⟩
  · have hnet : (connInvalid n (loseConn n s)).net = (loseConn n s).net := rfl
    rw [hnet, loseConn_conn]
    refine ⟨?_, rfl, rfl, rfl, connInvalid_raised n (loseConn_raised h6 n), connInvalid_ok n _, fun l => ?_, ?_, fun m hm => loseConn_other s hm⟩
    · exact ((loseConn_only n s).mono (by decide)).trans ((connInvalid_only n _).mono (by decide))
    · obtain ⟨m, hm⟩ := connInvalid_mapOf n (loseConn n s) l
      rw [hm]
      exact ⟨connGone_bit n m, fun j hj => connGone_word n m hj⟩
    · refine Eq.trans ?_ (loseConn_losses n s)
      exact rget_rput_apart _ _ ((by decide : ∀ k : Fin 32, R.NET_CONN_OK_OK.apart 0 0 R.NET_CONN_CNT_LOSSES k 0 = true) n)
  · have hexec := execEthFrameReceive_sound (netLink_of h6 hst) hs
    refine ⟨fun he => ⟨_, hexec, ?_⟩, fun he hf => ⟨_, hexec, ?_⟩, fun he hd ht hmax hp => ⟨_, hexec, ?_⟩⟩
    · rw [ethOffer_pause hlen he]
      exact ⟨State.add_only _ _ _ _ _, portCount_counted _ (by decide) rfl s p⟩
    · rw [ethOffer_foreign hlen he hf]
      exact ⟨State.add_only _ _ _ _ _, portCount_counted _ (by decide) rfl s p⟩
    · rw [ethOffer_taken hlen he hd ht hmax hp]
      generalize bytesWords (e.payload.take 36) = f
      refine ⟨?_, fun hup => (netTake_up hup f).2, fun hno => ⟨(netTake_idle hno f).2, fun k n hbad => ?_⟩⟩
      · by_cases hup : s.net.ports[p].st = .up
        · exact OnlyChanges.trans (by simp [onlyChanges_iff, delivered, raiseParts]) (netTake_up hup f).1
        · exact (netTake_idle hup f).1
      · rw [netTake_bad hno hbad]
        refine ⟨violationTold_frame h6 p k n, violationTold_count p k n s, fun h4 => h4 ▸ violationTold_ident h6 p n, ?_⟩
        rw [violationTold_net, violationNoted_port]
  · have hregs : (s.order 6).regs = s.regs := s.order_only 6 .regs (by decide)
    have hnet : (s.order 6).net = s.net := s.order_only 6 .net (by decide)
    have htx : (s.order 6).tx = s.tx := s.order_only 6 .tx (by decide)
    have hbusy : (s.order 6).rb R.NET_MDIO_BUSY = s.rb R.NET_MDIO_BUSY := by rw [State.rb, State.rb, hregs]
    refine ⟨fun hv hb => ⟨_, execMdioGo_begun hl hv (hbusy.trans hb), ?_⟩, fun h => ⟨_, execMdioGo_quiet hl (by rwa [hbusy]), ?_⟩⟩
    · rw [← hregs, ← hnet, ← htx]
      refine ⟨by simp [onlyChanges_iff, mdioBegun], (mdioFields_regs val _).rput (by decide), rfl, ?_, rfl⟩
      exact rget_rput_same _ _ _ _ _ (by decide)
    · rw [State.r, ← hregs]
      exact ⟨by simp [onlyChanges_iff], mdioFields_regs val _, mdioFields_busy val _, mdioFields_data val _⟩
  · exact ⟨by simp [onlyChanges_iff, mdioEnded], mdioEnded_regs data s, mdioEnded_busy data s, rfl, mdioEnded_data data s⟩

end Sys2Proof.Machine
end

section
/-! The links of an Osrin ring: synchronisation, loss, dropped frames (R414, R417, R418, R436). -/

namespace Sys2Proof.Machine

variable {s : State} {p : Fin 2}

theorem State.link_self (s : State) (p : Fin 2) (f : OsrLink → OsrLink) : (s.link p f).osr.links[p] = f s.osr.links[p] := vmod_self _ _ _

theorem State.link_other (s : State) {p q : Fin 2} (h : q ≠ p) (f : OsrLink → OsrLink) :
    (s.link p f).osr.links[q] = s.osr.links[q] := vmod_other _ h _

theorem ringed_dom (h : s.ringed = true) : s.dom 7 = true := (Bool.and_eq_true _ _ ▸ h : _ ∧ _).1

/-! ### A link leaves UP (R418, R436) -/

/-- A link that leaves UP, before its report. -/
def linkLeft (p : Fin 2) (cause : Nat) (s : State) : State :=
  let t := s.link p fun k => { k with st := if cause = 1 then .down else .lost, cause := BitVec.ofNat 4 cause, consec := 0,
                                      lostAt := s.tb, window := true, time := none, peerCls := none }
  if s.osr.links[1 - p].window then t.link (1 - p) fun k => { k with st := .lost, cause := 3, lostAt := s.tb } else t

theorem linkLeave_eq (p : Fin 2) (cause : Nat) (s : State) :
    linkLeave p cause s = raise S.OSR_LINK (osrDetail p.val s.osr.links[p].peer.toNat cause) (linkLeft p cause s) := rfl

theorem linkLeft_only (p : Fin 2) (cause : Nat) (s : State) : OnlyChanges [.osr] s (linkLeft p cause s) :=
  .ite _ ((State.link_only _ _ _).trans (State.link_only _ _ _)) (State.link_only _ _ _)

theorem linkLeft_link (p : Fin 2) (cause : Nat) (s : State) : (linkLeft p cause s).osr.links[p] =
    { s.osr.links[p] with st := if cause = 1 then .down else .lost, cause := BitVec.ofNat 4 cause, consec := 0,
                          lostAt := s.tb, window := true, time := none, peerCls := none } := by
  unfold linkLeft
  dsimp only
  split
  · rw [State.link_other _ (other_side_ne p).symm, State.link_self]
  · rw [State.link_self]

theorem linkLeave_only (p : Fin 2) (cause : Nat) (s : State) : OnlyChanges (.osr :: raiseParts) s (linkLeave p cause s) := by
  rw [linkLeave_eq]
  exact ((linkLeft_only p cause s).mono (by decide)).trans ((raise_only _ _ _).mono (by decide))

theorem linkLeave_link (p : Fin 2) (cause : Nat) (s : State) : (linkLeave p cause s).osr.links[p] = (linkLeft p cause s).osr.links[p] := by
  rw [linkLeave_eq, raise_only _ _ _ .osr (by decide)]

theorem linkLeave_raised (h : s.dom 7 = true) (p : Fin 2) (cause : Nat) : (linkLeave p cause s).raised S.OSR_LINK = true := by
  rw [linkLeave_eq]
  refine raised_raise _ _ ?_
  exact (State.dom_congr (linkLeft_only p cause s .pwr (by decide)) 7).trans h

theorem linkLeave_kept {c : Src} (h : s.raised c = true) (p : Fin 2) (cause : Nat) : (linkLeave p cause s).raised c = true := by
  rw [linkLeave_eq]
  refine raised_of_raise ?_
  rw [← h]
  exact State.raised_congr (congrArg (mget · _) (linkLeft_only p cause s .regs (by decide)))

theorem linkLeave_r (p : Fin 2) (cause : Nat) (s : State) {f : RegField} {i : Nat} (h : raiseLeaves (f.off i 0)) :
    (linkLeave p cause s).r f i = s.r f i := by
  rw [linkLeave_eq, raise_r _ _ _ _ _ _ h, State.r, State.r, linkLeft_only p cause s .regs (by decide)]

/-! ### Frames dropped (R418) -/

/-- The count of frames dropped on a link. -/
def linkDropCount (crc : Bool) : RegField := if crc then R.OSR_LINK_ERR_CRC else R.OSR_LINK_ERR_VIOL

theorem linkDropCount_leaves (crc : Bool) (p : Fin 2) : raiseLeaves ((linkDropCount crc).off p 0) := by
  cases crc <;> revert p <;> unfold raiseLeaves <;> decide

/-- The run of dropped frames after one more. -/
def dropRun (s : State) (p : Fin 2) : Nat := min (s.osr.links[p].consec.toNat + 1) 255

/-- A dropped frame is counted and reported. -/
def dropTold (p : Fin 2) (crc : Bool) (s : State) : State :=
  raise S.OSR_FRAME (osrDetail p.val s.osr.links[p].peer.toNat 0)
    ((s.link p fun k => { k with consec := BitVec.ofNat 8 (dropRun s p) }).add (linkDropCount crc) 1 p)

theorem osrDrop_eq (p : Fin 2) (crc : Bool) (s : State) : osrDrop p crc s =
    if (dropTold p crc s).osr.links[p].st == .up && decide (s.r R.OSR_ERR_LIM_LIM ≤ dropRun s p) then linkLeave p 2 (dropTold p crc s)
    else dropTold p crc s := rfl

theorem dropTold_only (p : Fin 2) (crc : Bool) (s : State) : OnlyChanges (.osr :: raiseParts) s (dropTold p crc s) :=
  ((State.link_only s p _).mono (by decide)).trans (((State.add_only _ _ _ _ _).mono (by decide)).trans ((raise_only _ _ _).mono (by decide)))

theorem dropTold_link (p : Fin 2) (crc : Bool) (s : State) : (dropTold p crc s).osr.links[p] =
    { s.osr.links[p] with consec := BitVec.ofNat 8 (dropRun s p) } := by
  rw [dropTold, raise_only _ _ _ .osr (by decide)]
  exact vmod_self _ _ _

theorem dropTold_raised (h : s.dom 7 = true) (p : Fin 2) (crc : Bool) : (dropTold p crc s).raised S.OSR_FRAME = true := raised_raise _ _ h

theorem dropTold_count (p : Fin 2) (crc : Bool) (s : State) :
    (dropTold p crc s).r (linkDropCount crc) p = min (s.r (linkDropCount crc) p + 1) 65535 := by
  rw [dropTold, raise_r _ _ _ _ _ _ (linkDropCount_leaves crc p)]
  cases crc <;> exact rget_radd _ _ _ _ _ (by decide)

theorem osrDrop_only (p : Fin 2) (crc : Bool) (s : State) : OnlyChanges (.osr :: raiseParts) s (osrDrop p crc s) := by
  rw [osrDrop_eq]
  exact .ite _ ((dropTold_only p crc s).trans (linkLeave_only _ _ _)) (dropTold_only p crc s)

theorem osrDrop_raised (h : s.dom 7 = true) (p : Fin 2) (crc : Bool) : (osrDrop p crc s).raised S.OSR_FRAME = true := by
  rw [osrDrop_eq]
  split
  · exact linkLeave_kept (dropTold_raised h p crc) _ _
  · exact dropTold_raised h p crc

theorem osrDrop_count (p : Fin 2) (crc : Bool) (s : State) :
    (osrDrop p crc s).r (linkDropCount crc) p = min (s.r (linkDropCount crc) p + 1) 65535 := by
  rw [osrDrop_eq]
  split
  · rw [linkLeave_r _ _ _ (linkDropCount_leaves crc p), dropTold_count]
  · exact dropTold_count p crc s

theorem osrDrop_limit (h7 : s.dom 7 = true) (hst : s.osr.links[p].st = .up) (hl : s.r R.OSR_ERR_LIM_LIM ≤ dropRun s p) (crc : Bool) :
    (osrDrop p crc s).osr.links[p].st = .lost ∧ (osrDrop p crc s).osr.links[p].cause = 2 ∧ (osrDrop p crc s).raised S.OSR_LINK = true := by
  have hcond : ((dropTold p crc s).osr.links[p].st == .up && decide (s.r R.OSR_ERR_LIM_LIM ≤ dropRun s p)) = true := by
    rw [dropTold_link, decide_eq_true hl, hst]
    rfl
  rw [osrDrop_eq, if_pos hcond, linkLeave_link, linkLeft_link]
  exact ⟨rfl, rfl, linkLeave_raised ((State.dom_congr (dropTold_only p crc s .pwr (by decide)) 7).trans h7) _ _⟩

theorem osrDrop_below (h : dropRun s p < s.r R.OSR_ERR_LIM_LIM ∨ s.osr.links[p].st ≠ .up) (crc : Bool) :
    (osrDrop p crc s).osr.links[p].st = s.osr.links[p].st ∧ (osrDrop p crc s).osr.links[p].consec.toNat = dropRun s p := by
  have hcond : ¬((dropTold p crc s).osr.links[p].st == .up && decide (s.r R.OSR_ERR_LIM_LIM ≤ dropRun s p)) = true := by
    rw [dropTold_link, Bool.and_eq_true, beq_iff_eq, decide_eq_true_eq]
    rintro ⟨hst, hle⟩
    exact h.elim (fun hlt => absurd hle (Nat.not_le.2 hlt)) fun hne => hne hst
  rw [osrDrop_eq, if_neg hcond, dropTold_link]
  exact ⟨rfl, Nat.mod_eq_of_lt (Nat.lt_succ_of_le (Nat.min_le_right _ _))⟩

theorem execOsrFrameDrop_eq (hr : s.ringed = true) (hs : s.osr.links[p].sync = true) (crc : Bool) :
    execOsrFrameDrop p crc s = .next (osrDrop p crc s) := congrArg Host.Outcome.next (if_pos (by rw [hr, hs]; rfl))

/-! ### Frames taken (R418) -/

/-- A link that takes a frame ends its run of dropped ones. -/
def linkTook (p : Fin 2) (s : State) : State := s.link p fun k => { k with consec := 0 }

theorem osrTake_good {typ words : Nat} {f : Frame} (h : OsrGood s p typ words f) {bad : Bool} (hb : bad = false) (eff : State → State) :
    osrTake p typ words bad f eff s = eff (linkTook p s) := by
  obtain ⟨hr, hs, hg, ht, hl⟩ := h
  rw [osrTake, if_neg (by rw [hr, hs]; decide), if_neg (by rw [hg]; decide), if_neg (by simp [ht, hl, hb])]
  rfl

theorem osrTake_bad {typ words : Nat} {f : Frame} (h : OsrGood s p typ words f) {bad : Bool} (hb : bad = true) (eff : State → State) :
    osrTake p typ words bad f eff s = osrDrop p false s := by
  obtain ⟨hr, hs, hg, -, -⟩ := h
  rw [osrTake, if_neg (by rw [hr, hs]; decide), if_neg (by rw [hg]; decide), if_pos (by rw [hb, Bool.or_true])]

theorem linkTook_link (p : Fin 2) (s : State) : (linkTook p s).osr.links[p] = { s.osr.links[p] with consec := 0 } := State.link_self _ _ _

theorem linkTook_other (p : Fin 2) (s : State) : (linkTook p s).osr.links[1 - p] = s.osr.links[1 - p] :=
  State.link_other _ (other_side_ne p) _

theorem linkTook_only (p : Fin 2) (s : State) : OnlyChanges [.osr] s (linkTook p s) := State.link_only _ _ _

/-! ### Synchronisation (R414, R417, R418) -/

/-- A link whose line synchronises. -/
def syncedLink (k : OsrLink) : OsrLink := { k with sync := true, st := if k.st = .down then .train else k.st }

theorem trainLink_synced (hr : s.ringed = true) (hd : s.osr.links[p].dead = false) :
    (trainLink (s.link p fun k => { k with sync := true }) p).osr.links[p] = syncedLink s.osr.links[p]
      ∧ (trainLink (s.link p fun k => { k with sync := true }) p).osr.links[1 - p] = s.osr.links[1 - p] := by
  have hcond : ((s.link p fun k => { k with sync := true }).ringed && (s.link p fun k => { k with sync := true }).osr.links[p].sync
      && (s.link p fun k => { k with sync := true }).osr.links[p].st == .down
      && !(s.link p fun k => { k with sync := true }).osr.links[p].dead) = (s.osr.links[p].st == .down) := by
    have hring : (s.link p fun k => { k with sync := true }).ringed = true := hr
    rw [State.link_self, hring, hd]
    simp
  unfold trainLink
  rw [hcond]
  split
  · next h =>
    rw [State.link_self, State.link_self, State.link_other _ (other_side_ne p), State.link_other _ (other_side_ne p)]
    exact ⟨by rw [syncedLink, if_pos (eq_of_beq h)], rfl⟩
  · next h =>
    rw [State.link_self, State.link_other _ (other_side_ne p)]
    exact ⟨by rw [syncedLink, if_neg fun e => h (beq_iff_eq.2 e)], rfl⟩

theorem execOsrSyncGain_eq (hr : s.ringed = true) (hd : s.osr.links[p].dead = false) :
    execOsrSyncGain p s = .next (trainLink (s.link p fun k => { k with sync := true }) p) :=
  congrArg Host.Outcome.next (if_pos (by rw [ringed_dom hr, hd]; rfl))

/-- A link without synchronisation. -/
def unsynced (p : Fin 2) (s : State) : State := s.link p fun k => { k with sync := false }

theorem osrSyncLost_up (h : s.osr.links[p].st = .up) : osrSyncLost p s = linkLeave p 1 (unsynced p s) := by
  rw [osrSyncLost, h]
  rfl

theorem osrSyncLost_idle (h : s.osr.links[p].st ≠ .up) :
    osrSyncLost p s = (unsynced p s).link p fun k => { k with st := if k.st == .lost then .lost else .down } := by
  rw [osrSyncLost, beq_false_of_ne h]
  rfl

theorem execOsrSyncLoss_eq (hr : s.ringed = true) (hs : s.osr.links[p].sync = true) :
    execOsrSyncLoss p s = .next (osrSyncLost p s) := congrArg Host.Outcome.next (if_pos (by rw [ringed_dom hr, hs]; rfl))

theorem execOsrLostExpire_eq (hr : s.ringed = true) (hst : s.osr.links[p].st = .lost) {due : Nat}
    (hdue : due = s.osr.links[p].lostAt + 100 * ms) (hc : s.comes due = true) :
    execOsrLostExpire p s = .next ((s.at due).link p fun k => { k with st := if k.sync then .train else .down }) := by
  subst hdue
  refine congrArg Host.Outcome.next (if_pos ?_)
  rw [hr, hst, hc]
  rfl

theorem execHelloSend_eq (hr : s.ringed = true) (hst : s.osr.links[p].st = .train) :
    execHelloSend p s = .next (s.send [.osr p (helloFrame s false)]) := congrArg Host.Outcome.next (if_pos (by rw [hr, hst]; rfl))

end Sys2Proof.Machine
end

section
/-! HELLO and its answer; the links of an Osrin ring together (R414, R417, R418). -/

namespace Sys2Proof.Machine

variable {s t : State} {p : Fin 2}

theorem clsCrc_congr (h : t.regs = s.regs) : clsCrc t = clsCrc s := by simp only [clsCrc, h]

theorem State.period_congr (h : t.lan = s.lan) : t.period = s.period := by rw [State.period, State.period, h]

theorem helloFrame_congr (hr : t.regs = s.regs) (hi : t.osr.ringId = s.osr.ringId) (hl : t.lan = s.lan) (reply : Bool) :
    helloFrame t reply = helloFrame s reply := by
  simp only [helloFrame, State.r, hr, State.ringId, hi, State.period_congr hl, clsCrc_congr hr]

/-- A HELLO of a state in which a link has changed. -/
theorem helloFrame_link (f : OsrLink → OsrLink) (reply : Bool) : helloFrame (s.link p f) reply = helloFrame s reply :=
  helloFrame_congr rfl rfl rfl reply

/-! ### Class tables (R417) -/

/-- The class tables as compared on a link. -/
def clsNoted (p : Fin 2) (peer : Word) (s : State) : State := s.link p fun k => { k with peerCls := some (peer, clsCrc s) }

/-- The class tables differ, and were not compared as they are now. -/
def clsNews (p : Fin 2) (peer : Word) (s : State) : Bool := peer != clsCrc s && s.osr.links[p].peerCls != some (peer, clsCrc s)

theorem judgeCls_eq (p : Fin 2) (peer : Word) (s : State) : judgeCls p peer s =
    raiseIf (clsNews p peer s) S.OSR_CLS (osrDetail p.val s.osr.links[p].peer.toNat 0) (clsNoted p peer s) := rfl

theorem judgeCls_only (p : Fin 2) (peer : Word) (s : State) : OnlyChanges (.osr :: raiseParts) s (judgeCls p peer s) := by
  rw [judgeCls_eq]
  exact (State.link_only s p _ |>.mono (by decide)).trans ((raiseIf_only _ _ _ _).mono (by decide))

theorem judgeCls_link (p : Fin 2) (peer : Word) (s : State) : (judgeCls p peer s).osr.links[p] =
    { s.osr.links[p] with peerCls := some (peer, clsCrc s) } := by
  rw [judgeCls_eq, raiseIf_only _ _ _ _ .osr (by decide)]
  exact vmod_self _ _ _

theorem judgeCls_same {peer : Word} (h : peer = clsCrc s) : judgeCls p peer s = clsNoted p peer s := by
  rw [judgeCls_eq, clsNews, bne_eq_false_iff_eq.2 h]
  rfl

theorem judgeCls_raised (h7 : s.dom 7 = true) {peer : Word} (h : peer ≠ clsCrc s)
    (hn : s.osr.links[p].peerCls ≠ some (peer, clsCrc s)) : (judgeCls p peer s).raised S.OSR_CLS = true := by
  rw [judgeCls_eq, clsNews, bne_iff_ne.2 h, bne_iff_ne.2 hn]
  refine raised_raise _ _ ?_
  exact h7

theorem judgeCls_tx (p : Fin 2) (peer : Word) (s : State) : s.tx ⊆ (judgeCls p peer s).tx := by
  rw [judgeCls_eq, raiseIf]
  split
  · exact raise_tx _ _ (clsNoted p peer s)
  · exact fun _ h => h

/-! ### HELLO (R417) -/

/-- A link with a round trip measured. -/
def measured (p : Fin 2) (dly : BitVec 8) (s : State) : State := s.link p fun k => { k with dly := dly }

/-- A HELLO that asks is answered. -/
def helloAnswered (p : Fin 2) (f : Frame) (s : State) : State :=
  (s.link p fun k => { k with peer := BitVec.ofNat 3 (bitsOf (fw f 0) 6 4) }).send [.osr p (helloFrame s true)]

/-- The effect of a HELLO that a link takes. -/
def helloEff (p : Fin 2) (f : Frame) (rtt : Nat) (s : State) : State :=
  let k := s.osr.links[p]
  if k.st != .train && k.st != .up then s
  else if bitsOf (fw f 0) 12 12 = 0 then
    if k.st == .up then judgeCls p (f.getD 4 0) (helloAnswered p f s) else helloAnswered p f s
  else if k.st == .train then helloJudge p f rtt s
  else judgeCls p (f.getD 4 0) (measured p (dlyOf rtt) s)

theorem execHelloReceive_eq {f : Frame} (h : OsrGood s p 1 6 f) (hb : helloBad f = false) (rtt : Nat) :
    execHelloReceive p f rtt s = .next (helloEff p f rtt (linkTook p s)) :=
  congrArg Host.Outcome.next (osrTake_good h hb _)

theorem helloEff_trainAsk (hst : s.osr.links[p].st = .train) {f : Frame} (h : bitsOf (fw f 0) 12 12 = 0) (rtt : Nat) :
    helloEff p f rtt s = helloAnswered p f s := by simp only [helloEff, hst, h]; rfl

theorem helloEff_upAsk (hst : s.osr.links[p].st = .up) {f : Frame} (h : bitsOf (fw f 0) 12 12 = 0) (rtt : Nat) :
    helloEff p f rtt s = judgeCls p (f.getD 4 0) (helloAnswered p f s) := by simp only [helloEff, hst, h]; rfl

theorem helloEff_trainReply (hst : s.osr.links[p].st = .train) {f : Frame} (h : bitsOf (fw f 0) 12 12 ≠ 0) (rtt : Nat) :
    helloEff p f rtt s = helloJudge p f rtt s := by
  rw [helloEff, if_neg (by rw [hst]; decide), if_neg h, if_pos (by rw [hst]; decide)]

theorem helloEff_upReply (hst : s.osr.links[p].st = .up) {f : Frame} (h : bitsOf (fw f 0) 12 12 ≠ 0) (rtt : Nat) :
    helloEff p f rtt s = judgeCls p (f.getD 4 0) (measured p (dlyOf rtt) s) := by
  rw [helloEff, if_neg (by rw [hst]; decide), if_neg h, if_neg (by rw [hst]; decide)]

/-! ### The answer is judged (R417) -/

/-- The answer comes from the wrong device. -/
def helloWiring (s : State) (p : Fin 2) (f : Frame) : Bool := bitsOf (fw f 0) 6 4 != peerId s p

/-- The answer shows other settings. -/
def helloMismatch (s : State) (f : Frame) : Bool :=
  bitsOf (fw f 0) 10 8 != s.r R.OSR_ID_NDEV || bitsOf (fw f 1) 20 0 != s.period || bitsOf (fw f 2) 11 0 != s.r R.OSR_CFG_RSEND

/-- An answer names its device and gives the delay of the link. -/
def answerNoted (p : Fin 2) (f : Frame) (dly : BitVec 8) (s : State) : State :=
  s.link p fun k => { k with peer := BitVec.ofNat 3 (bitsOf (fw f 0) 6 4), dly := dly }

/-- A link that comes up. -/
def linkUp (p : Fin 2) (s : State) : State :=
  s.link p fun k => { k with st := .up, window := false, consec := 0, peerCls := none }

/-- The link after an answer whose device, settings or distance may be wrong. -/
def answerJudged (p : Fin 2) (f : Frame) (dly : BitVec 8) (far : Bool) (s : State) : State :=
  if helloWiring s p f || helloMismatch s f || far then
    raiseIf (helloWiring s p f || far) S.OSR_WIRING (osrDetail p.val (bitsOf (fw f 0) 6 4) 0)
      (raiseIf (helloMismatch s f) S.OSR_MATCH (osrDetail p.val (bitsOf (fw f 0) 6 4) 0) (answerNoted p f dly s))
  else judgeCls p (f.getD 4 0) (linkUp p (answerNoted p f dly s))

theorem helloJudge_eq (p : Fin 2) (f : Frame) (rtt : Nat) (s : State) :
    helloJudge p f rtt s = answerJudged p f (dlyOf rtt) (decide (5100 < rtt - 10000)) s := rfl

variable {f : Frame} {dly : BitVec 8} {far : Bool}

theorem answerJudged_only (p : Fin 2) (f : Frame) (dly : BitVec 8) (far : Bool) (s : State) :
    OnlyChanges (.osr :: raiseParts) s (answerJudged p f dly far s) := by
  have hnoted : OnlyChanges [.osr] s (answerNoted p f dly s) := State.link_only _ _ _
  have hup : OnlyChanges [.osr] s (linkUp p (answerNoted p f dly s)) := hnoted.trans (State.link_only _ _ _)
  exact .ite _ ((hnoted.mono (by decide)).trans (((raiseIf_only _ _ _ _).mono (by decide)).trans ((raiseIf_only _ _ _ _).mono (by decide))))
    ((hup.mono (by decide)).trans (judgeCls_only _ _ _))

theorem answerNoted_link (p : Fin 2) (f : Frame) (dly : BitVec 8) (s : State) : (answerNoted p f dly s).osr.links[p] =
    { s.osr.links[p] with peer := BitVec.ofNat 3 (bitsOf (fw f 0) 6 4), dly := dly } := vmod_self _ _ _

theorem linkUp_link (p : Fin 2) (s : State) : (linkUp p s).osr.links[p] =
    { s.osr.links[p] with st := .up, window := false, consec := 0, peerCls := none } := vmod_self _ _ _

/-- What an answer that does not fit leaves of its link. -/
theorem answerJudged_wrong (h : (helloWiring s p f || helloMismatch s f || far) = true) :
    (answerJudged p f dly far s).osr.links[p] = { s.osr.links[p] with peer := BitVec.ofNat 3 (bitsOf (fw f 0) 6 4), dly := dly } := by
  rw [answerJudged, if_pos h, raiseIf_only _ _ _ _ .osr (by decide), raiseIf_only _ _ _ _ .osr (by decide), answerNoted_link]

theorem answerJudged_wiring (h7 : s.dom 7 = true) (h : (helloWiring s p f || far) = true) :
    (answerJudged p f dly far s).raised S.OSR_WIRING = true := by
  have hcond : (helloWiring s p f || helloMismatch s f || far) = true := by
    rcases Bool.or_eq_true_iff.1 h with h | h <;> simp [h]
  rw [answerJudged, if_pos hcond, h]
  refine raised_raise _ _ ?_
  rw [State.blockUp_congr (raiseIf_only _ _ _ _ .pwr (by decide))]
  exact h7

theorem answerJudged_match (h7 : s.dom 7 = true) (h : helloMismatch s f = true) :
    (answerJudged p f dly far s).raised S.OSR_MATCH = true := by
  have hcond : (helloWiring s p f || helloMismatch s f || far) = true := by simp [h]
  rw [answerJudged, if_pos hcond, h]
  refine raised_of_raiseIf (raised_raise _ _ ?_)
  exact h7

theorem answerJudged_fits (h : (helloWiring s p f || helloMismatch s f || far) = false) :
    answerJudged p f dly far s = judgeCls p (f.getD 4 0) (linkUp p (answerNoted p f dly s)) :=
  if_neg (by rw [h]; decide)

/-- An answer that fits brings the link up. -/
theorem answerJudged_up (h7 : s.dom 7 = true) (h : (helloWiring s p f || helloMismatch s f || far) = false) :
    (answerJudged p f dly far s).osr.links[p].st = .up ∧ (answerJudged p f dly far s).osr.links[p].window = false
      ∧ (f.getD 4 0 = clsCrc s → OnlyChanges [.osr] s (answerJudged p f dly far s))
      ∧ (f.getD 4 0 ≠ clsCrc s → (answerJudged p f dly far s).raised S.OSR_CLS = true) := by
  have hcrc : clsCrc (linkUp p (answerNoted p f dly s)) = clsCrc s := clsCrc_congr rfl
  have hlink := judgeCls_link p (f.getD 4 0) (linkUp p (answerNoted p f dly s))
  rw [linkUp_link, answerNoted_link] at hlink
  rw [answerJudged_fits h, hlink]
  refine ⟨rfl, rfl, fun hc => ?_, fun hc => judgeCls_raised ?_ ?_ ?_⟩
  · rw [judgeCls_same (hc.trans hcrc.symm)]
    exact (State.link_only s p _).trans ((State.link_only _ _ _).trans (State.link_only _ _ _))
  · exact h7
  · rwa [hcrc]
  · rw [linkUp_link]
    exact fun e => by cases e

theorem answerJudged_dly (p : Fin 2) (f : Frame) (dly : BitVec 8) (far : Bool) (s : State) :
    (answerJudged p f dly far s).osr.links[p].dly = dly := by
  cases h : (helloWiring s p f || helloMismatch s f || far) with
  | true => rw [answerJudged_wrong h]
  | false => rw [answerJudged_fits h, judgeCls_link, linkUp_link, answerNoted_link]

/-- The round trip of a link in UP is measured. -/
theorem execOsrRttMeasure_eq (hr : s.ringed = true) (hst : s.osr.links[p].st = .up) (rtt : Nat) : execOsrRttMeasure p rtt s =
    .next (match s.osr.links[p].peerCls with
      | some c => judgeCls p c.1 ((measured p (dlyOf rtt) s).send [.osr p (helloFrame s false)])
      | none => (measured p (dlyOf rtt) s).send [.osr p (helloFrame s false)]) :=
  congrArg Host.Outcome.next (if_pos (by rw [hr, hst]; rfl))

end Sys2Proof.Machine
end

section
/-! The links of an Osrin ring: the obligation (R414, R417, R418). -/

namespace Sys2Proof.Machine

variable {s : State} {p : Fin 2} {f : Frame}

theorem helloAnswered_tx (p : Fin 2) (f : Frame) (s : State) : (helloAnswered p f (linkTook p s)).tx = Tx.osr p (helloFrame s true) :: s.tx :=
  congrArg (fun g => Tx.osr p g :: s.tx) (helloFrame_link _ _)

theorem helloAnswered_link (p : Fin 2) (f : Frame) (s : State) : (helloAnswered p f s).osr.links[p] =
    { s.osr.links[p] with peer := BitVec.ofNat 3 (bitsOf (fw f 0) 6 4) } := vmod_self _ _ _

theorem helloAnswered_only (p : Fin 2) (f : Frame) (s : State) : OnlyChanges [.osr, .tx] s (helloAnswered p f s) :=
  ((State.link_only _ _ _).mono (by decide)).trans ((State.send_only _ _).mono (by decide))

theorem measured_link (p : Fin 2) (dly : BitVec 8) (s : State) : (measured p dly s).osr.links[p] = { s.osr.links[p] with dly := dly } :=
  vmod_self _ _ _

theorem measured_only (p : Fin 2) (dly : BitVec 8) (s : State) : OnlyChanges [.osr] s (measured p dly s) := State.link_only _ _ _

/-- A HELLO that asks, on a link in TRAIN. -/
theorem hello_trainAsk (hst : s.osr.links[p].st = .train) (h : bitsOf (fw f 0) 12 12 = 0) (rtt : Nat) :
    OnlyChanges [.osr, .tx] s (helloEff p f rtt (linkTook p s))
      ∧ (helloEff p f rtt (linkTook p s)).tx = Tx.osr p (helloFrame s true) :: s.tx
      ∧ (helloEff p f rtt (linkTook p s)).osr.links[p].st = .train := by
  have hst' : (linkTook p s).osr.links[p].st = .train := by rw [linkTook_link]; exact hst
  rw [helloEff_trainAsk hst' h, helloAnswered_tx, helloAnswered_link, linkTook_link]
  exact ⟨((linkTook_only p s).mono (by decide)).trans (helloAnswered_only _ _ _), rfl, hst⟩

/-- The state whose class table a HELLO on a link in UP is compared with. -/
def helloUp (p : Fin 2) (f : Frame) (rtt : Nat) (s : State) : State :=
  if bitsOf (fw f 0) 12 12 = 0 then helloAnswered p f (linkTook p s) else measured p (dlyOf rtt) (linkTook p s)

theorem helloEff_up (hst : s.osr.links[p].st = .up) (rtt : Nat) :
    helloEff p f rtt (linkTook p s) = judgeCls p (f.getD 4 0) (helloUp p f rtt s) := by
  have hst' : (linkTook p s).osr.links[p].st = .up := by rw [linkTook_link]; exact hst
  unfold helloUp
  split
  · next h => exact helloEff_upAsk hst' h rtt
  · next h => exact helloEff_upReply hst' h rtt

theorem helloUp_only (p : Fin 2) (f : Frame) (rtt : Nat) (s : State) : OnlyChanges [.osr, .tx] s (helloUp p f rtt s) :=
  .ite _ (((linkTook_only p s).mono (by decide)).trans (helloAnswered_only _ _ _))
    (((linkTook_only p s).mono (by decide)).trans ((measured_only _ _ _).mono (by decide)))

theorem helloUp_link (p : Fin 2) (f : Frame) (rtt : Nat) (s : State) :
    (helloUp p f rtt s).osr.links[p].st = s.osr.links[p].st ∧ (helloUp p f rtt s).osr.links[p].peerCls = s.osr.links[p].peerCls := by
  unfold helloUp
  split
  · rw [helloAnswered_link, linkTook_link]
    exact ⟨rfl, rfl⟩
  · rw [measured_link, linkTook_link]
    exact ⟨rfl, rfl⟩

/-- A HELLO on a link in UP. -/
theorem hello_up (h7 : s.dom 7 = true) (hst : s.osr.links[p].st = .up) (rtt : Nat) :
    OnlyChanges (.osr :: raiseParts) s (helloEff p f rtt (linkTook p s))
      ∧ (helloEff p f rtt (linkTook p s)).osr.links[p].st = .up
      ∧ (helloEff p f rtt (linkTook p s)).osr.links[p].peerCls = some (f.getD 4 0, clsCrc s)
      ∧ (bitsOf (fw f 0) 12 12 = 0 → Tx.osr p (helloFrame s true) ∈ (helloEff p f rtt (linkTook p s)).tx)
      ∧ (bitsOf (fw f 0) 12 12 = 1 → (helloEff p f rtt (linkTook p s)).osr.links[p].dly = dlyOf rtt)
      ∧ (f.getD 4 0 ≠ clsCrc s → s.osr.links[p].peerCls ≠ some (f.getD 4 0, clsCrc s) →
          (helloEff p f rtt (linkTook p s)).raised S.OSR_CLS = true) := by
  obtain ⟨hup, hpeer⟩ := helloUp_link p f rtt s
  have hcrc : clsCrc (helloUp p f rtt s) = clsCrc s := clsCrc_congr (helloUp_only p f rtt s .regs (by decide))
  rw [helloEff_up hst, judgeCls_link, hcrc]
  refine ⟨((helloUp_only p f rtt s).mono (by decide)).trans (judgeCls_only _ _ _), hup.trans hst, rfl, fun h => judgeCls_tx _ _ _ ?_,
    fun h => ?_, fun hne hn => judgeCls_raised ?_ ?_ ?_⟩
  · rw [helloUp, if_pos h, helloAnswered_tx]
    exact List.mem_cons_self
  · rw [helloUp, if_neg (by rw [h]; decide), measured_link]
  · exact (State.dom_congr (helloUp_only p f rtt s .pwr (by decide)) 7).trans h7
  · rwa [hcrc]
  · rwa [hcrc, hpeer]

/-- An answer on a link in TRAIN. -/
theorem hello_trainReply (h7 : s.dom 7 = true) (hst : s.osr.links[p].st = .train) (h : bitsOf (fw f 0) 12 12 = 1) (rtt : Nat) :
    OnlyChanges (.osr :: raiseParts) s (helloEff p f rtt (linkTook p s)) ∧ (helloEff p f rtt (linkTook p s)).osr.links[p].dly = dlyOf rtt
      ∧ (bitsOf (fw f 0) 6 4 = peerId s p → bitsOf (fw f 0) 10 8 = s.r R.OSR_ID_NDEV → bitsOf (fw f 1) 20 0 = s.period →
          bitsOf (fw f 2) 11 0 = s.r R.OSR_CFG_RSEND → rtt - 10000 ≤ 5100 →
          (helloEff p f rtt (linkTook p s)).osr.links[p].st = .up ∧ (helloEff p f rtt (linkTook p s)).osr.links[p].window = false
          ∧ (f.getD 4 0 = clsCrc s → OnlyChanges [.osr] s (helloEff p f rtt (linkTook p s)))
          ∧ (f.getD 4 0 ≠ clsCrc s → (helloEff p f rtt (linkTook p s)).raised S.OSR_CLS = true))
      ∧ ((bitsOf (fw f 0) 6 4 ≠ peerId s p ∨ 5100 < rtt - 10000) → (helloEff p f rtt (linkTook p s)).osr.links[p].st = .train
          ∧ (helloEff p f rtt (linkTook p s)).raised S.OSR_WIRING = true)
      ∧ ((bitsOf (fw f 0) 10 8 ≠ s.r R.OSR_ID_NDEV ∨ bitsOf (fw f 1) 20 0 ≠ s.period
            ∨ bitsOf (fw f 2) 11 0 ≠ s.r R.OSR_CFG_RSEND) → (helloEff p f rtt (linkTook p s)).osr.links[p].st = .train
          ∧ (helloEff p f rtt (linkTook p s)).raised S.OSR_MATCH = true) := by
  have hst' : (linkTook p s).osr.links[p].st = .train := by rw [linkTook_link]; exact hst
  have h7' : (linkTook p s).dom 7 = true := h7
  have hwir : helloWiring (linkTook p s) p f = (bitsOf (fw f 0) 6 4 != peerId s p) := rfl
  have hmis : helloMismatch (linkTook p s) f = (bitsOf (fw f 0) 10 8 != s.r R.OSR_ID_NDEV || bitsOf (fw f 1) 20 0 != s.period
    || bitsOf (fw f 2) 11 0 != s.r R.OSR_CFG_RSEND) := rfl
  have hcrc : clsCrc (linkTook p s) = clsCrc s := clsCrc_congr rfl
  have hwrong : ∀ {far : Bool}, (helloWiring (linkTook p s) p f || helloMismatch (linkTook p s) f || far) = true →
      (answerJudged p f (dlyOf rtt) far (linkTook p s)).osr.links[p].st = .train := fun hw => by
    rw [answerJudged_wrong hw]
    exact hst'
  rw [helloEff_trainReply hst' (by rw [h]; decide), helloJudge_eq]
  generalize rtt - 10000 = far
  refine ⟨((linkTook_only p s).mono (by decide)).trans (answerJudged_only _ _ _ _ _), answerJudged_dly _ _ _ _ _,
    fun hw hn hp hrs hf => ?_, fun hw => ?_, fun hm => ?_⟩
  · have hfit : (helloWiring (linkTook p s) p f || helloMismatch (linkTook p s) f || decide (5100 < far)) = false := by
      rw [hwir, hmis, hw, hn, hp, hrs, decide_eq_false (Nat.not_lt.2 hf)]
      simp
    obtain ⟨hup, hwin, hq, hc⟩ := answerJudged_up (p := p) (f := f) (dly := dlyOf rtt) h7' hfit
    rw [hcrc] at hq hc
    exact ⟨hup, hwin, fun e => (linkTook_only p s).trans (hq e), hc⟩
  · have hcond : (helloWiring (linkTook p s) p f || decide (5100 < far)) = true := by
      rw [hwir]
      simpa using hw
    refine ⟨hwrong ?_, answerJudged_wiring h7' hcond⟩
    rw [Bool.or_right_comm, hcond, Bool.true_or]
  · have hcond : helloMismatch (linkTook p s) f = true := by
      rw [hmis]
      simpa [or_assoc] using hm
    refine ⟨hwrong ?_, answerJudged_match h7' hcond⟩
    rw [hcond, Bool.or_true, Bool.true_or]

/-- Settles O47: synchronisation, HELLO, the round trip, and dropped frames. -/
theorem osrinLinks : Obligations.OsrinLinks := by
  intro s p hr
  have h7 := ringed_dom hr
  refine ⟨fun hd => ⟨_, execOsrSyncGain_eq hr hd, ?_, (trainLink_synced hr hd).1, (trainLink_synced hr hd).2⟩,
    fun hs hst => ⟨_, execOsrSyncLoss_eq hr hs, ?_⟩, fun hs hst => ⟨_, execOsrSyncLoss_eq hr hs, ?_⟩,
    fun due hst hdue hc => ⟨_, execOsrLostExpire_eq hr hst hdue hc, ?_, ?_, rfl⟩, fun hst => execHelloSend_eq hr hst,
    fun f rtt hg hb => ⟨fun hst h => ⟨_, execHelloReceive_eq hg hb rtt, hello_trainAsk hst h rtt⟩,
      fun hst => ⟨_, execHelloReceive_eq hg hb rtt, hello_up h7 hst rtt⟩,
      fun hst h => ⟨_, execHelloReceive_eq hg hb rtt, hello_trainReply h7 hst h rtt⟩⟩,
    fun rtt hst => ⟨_, execOsrRttMeasure_eq hr hst rtt, ?_⟩,
    fun crc hs => ⟨_, execOsrFrameDrop_eq hr hs crc, osrDrop_only _ _ _, osrDrop_raised h7 _ _, fun h => ?_, fun h => ?_,
      fun hst hl => osrDrop_limit h7 hst hl crc, fun h => osrDrop_below h crc⟩⟩
  · exact (State.link_only _ _ _).trans (trainLink_only _ _)
  · have hleft := linkLeft_link p 1 (unsynced p s)
    rw [unsynced, State.link_self] at hleft
    rw [osrSyncLost_up hst, linkLeave_link, unsynced, hleft]
    refine ⟨(State.link_only s p _ |>.mono (by decide)).trans (linkLeave_only _ _ _), rfl, rfl, rfl, linkLeave_raised ?_ _ _⟩
    exact h7
  · rw [osrSyncLost_idle hst, State.link_self, unsynced, State.link_self]
    refine ⟨(State.link_only _ _ _).trans (State.link_only _ _ _), ?_⟩
    simp only [beq_iff_eq]
  · exact ((State.at_only s due).mono (by decide)).trans ((State.link_only _ _ _).mono (by decide))
  · rw [State.link_self]
    rfl
  · have hsent : OnlyChanges [.osr, .tx] s ((measured p (dlyOf rtt) s).send [.osr p (helloFrame s false)]) :=
      ((measured_only _ _ _).mono (by decide)).trans ((State.send_only _ _).mono (by decide))
    have hlink : ((measured p (dlyOf rtt) s).send [.osr p (helloFrame s false)]).osr.links[p] = { s.osr.links[p] with dly := dlyOf rtt } :=
      measured_link _ _ _
    have hcrc : clsCrc ((measured p (dlyOf rtt) s).send [.osr p (helloFrame s false)]) = clsCrc s := clsCrc_congr rfl
    have htx : Tx.osr p (helloFrame s false) ∈ ((measured p (dlyOf rtt) s).send [.osr p (helloFrame s false)]).tx := List.mem_cons_self
    cases hc : s.osr.links[p].peerCls with
    | none =>
      dsimp only
      rw [hlink]
      exact ⟨hsent.mono (by decide), rfl, hst, htx, fun _ => hsent⟩
    | some c =>
      dsimp only
      rw [judgeCls_link, hlink]
      refine ⟨(hsent.mono (by decide)).trans (judgeCls_only _ _ _), rfl, hst, judgeCls_tx _ _ _ htx, fun h => ?_⟩
      rw [judgeCls_same ((h c rfl).trans hcrc.symm)]
      exact hsent.trans ((State.link_only _ _ _).mono (by decide))
  · subst h; exact osrDrop_count p true s
  · subst h; exact osrDrop_count p false s

end Sys2Proof.Machine
end

section
/-! The common timebase of an Osrin ring (R419-R424). -/

namespace Sys2Proof.Machine

variable {s : State} {p : Fin 2} {f : Frame}

theorem execTimeSend_eq (hr : s.ringed = true) : execTimeSend s = .next (s.send [.osr 0 (timeFrame s), .osr 1 (timeFrame s)]) :=
  congrArg Host.Outcome.next (if_pos hr)

/-! ### TIME frames (R419-R422) -/

/-- What a TIME frame says is kept with its link. -/
def timeNoted (p : Fin 2) (f : Frame) (s : State) : State := s.link p fun k => { k with time := some (timeInfo f s.tb) }

theorem execTimeReceive_eq (h : OsrGood s p 2 12 f) (hb : timeBad s f = false) (hst : s.osr.links[p].st = .up) :
    execTimeReceive p f s = .next (bootLeave (timeEff p f (linkTook p s))) := by
  have hst' : (linkTook p s).osr.links[p].st = .up := by rw [linkTook_link]; exact hst
  refine congrArg Host.Outcome.next ((osrTake_good h hb _).trans (if_pos ?_))
  rw [hst']
  rfl

theorem timeEff_master (h : s.ringId = 0) : timeEff p f s = timeNoted p f s := if_pos (by rw [decide_eq_true h]; rfl)

theorem timeNoted_link (p : Fin 2) (f : Frame) (s : State) :
    (timeNoted p f s).osr.links[p] = { s.osr.links[p] with time := some (timeInfo f s.tb) } := State.link_self _ _ _

theorem timeNoted_other (p : Fin 2) (f : Frame) (s : State) : (timeNoted p f s).osr.links[1 - p] = s.osr.links[1 - p] :=
  State.link_other _ (other_side_ne p) _

theorem sourceLink_of {p : Fin 2} {i : TimeInfo} (hself : sourceInfo s p = some i) (hother : sourceInfo s (1 - p) = none) :
    sourceLink s = some p := by
  rcases Fin.exists_fin_two.1 ⟨p, rfl⟩ with rfl | rfl
  · have hw : sourceInfo s 1 = none := hother
    simp only [sourceLink, hself, hw]
  · have he : sourceInfo s 0 = none := hother
    simp only [sourceLink, hself, he]

/-- The link of a TIME frame with LOCK, where the other brings none, is the source. -/
theorem sourceLink_only (hst : s.osr.links[p].st = .up) (hl : bitsOf (fw f 0) 12 12 = 1) (ho : s.osr.links[1 - p].time = none) :
    sourceLink (timeNoted p f s) = some p := by
  refine sourceLink_of (i := timeInfo f s.tb) ?_ ?_
  · have hcond : (s.osr.links[p].st == .up && (timeInfo f s.tb).lock && decide (s.tb ≤ (timeInfo f s.tb).at' + 100 * us)) = true := by
      rw [hst, timeInfo, hl]
      simp
    unfold sourceInfo
    rw [timeNoted_link]
    exact if_pos hcond
  · unfold sourceInfo
    rw [timeNoted_other, ho]

/-- A follower takes its source and the hops to it. -/
def sourced (p : Fin 2) (f : Frame) (s : State) : State :=
  { s with osr := { s.osr with src := some p, hops := (timeInfo f s.tb).hops + 1 } }

/-- A follower's TIME frame of its source, before the estimate steers the timebase. -/
def timeTaken (p : Fin 2) (f : Frame) (s : State) : State := sourced p f (timeNoted p f s)

theorem takeKc_none {t : TimeInfo} (h : t.kc = 0) (s : State) : takeKc t s = s := if_pos (by rw [decide_eq_true h]; rfl)

theorem timeInfo_kc (h8 : fw f 8 = 0) (h9 : fw f 9 = 0) (now : Nat) : (timeInfo f now).kc = 0 := by
  simp only [timeInfo, h8, h9, Nat.mul_zero]

theorem steer_sys (est : Nat) (s : State) : (steer est s).sys = s.sys := by
  unfold steer
  split
  · rfl
  · dsimp only
    split <;> rfl

/-- A follower that waits for its source in Boot may start its slot clock. -/
def slotFollowed (t : State) : State := if t.sys.step == 15 then slotStart t else t

/-- The timebase steered by a TIME frame of the source. -/
def timeSteered (p : Fin 2) (f : Frame) (s : State) : State :=
  timeNoted p f (steer (timeEstimate (timeNoted p f s) p f) (timeTaken p f s))

theorem timeEff_eq (p : Fin 2) (f : Frame) (s : State) : timeEff p f s =
    if decide (s.ringId = 0) || !s.pwr.refOk || sourceLink (timeNoted p f s) != some p then timeNoted p f s
    else slotFollowed (takeKc (timeInfo f (timeSteered p f s).tb) (timeSteered p f s)) := rfl

theorem timeSteered_sys (p : Fin 2) (f : Frame) (s : State) : (timeSteered p f s).sys = s.sys := steer_sys _ _

theorem timeEff_follower (hid : s.ringId ≠ 0) (href : s.pwr.refOk = true) (hstep : s.sys.step ≠ 15)
    (hsrc : sourceLink (timeNoted p f s) = some p) (h8 : fw f 8 = 0) (h9 : fw f 9 = 0) : timeEff p f s = timeSteered p f s := by
  rw [timeEff_eq, if_neg, takeKc_none (timeInfo_kc h8 h9 _), slotFollowed, timeSteered_sys, if_neg]
  · simpa using hstep
  · rw [decide_eq_false hid, href, hsrc]
    simp

/-! ### Steering (R420-R422) -/

/-- The one step of a follower. -/
def stepped (est : Nat) (s : State) : State :=
  { s with tb := est, osr := { s.osr with stepped := true, ofs := 0, good := 1, skip := 0, markAt := none },
           adc := s.adc.shift s.tb est, tmr := s.tmr.shift s.tb est, pwr := { s.pwr with mvAt := none },
           cis := { s.cis with ceAt := none }, cfg := { s.cfg with sealAt := s.cfg.sealAt.map fun a => est + a - s.tb } }

theorem steer_step (hs : s.osr.stepped = false) (hl : s.lan.run = false) (hk : s.slot.run = false) (est : Nat) :
    steer est s = stepped est s := if_pos (by rw [hs, hl, hk]; rfl)

/-- A follower far from its source. -/
def tooFar (est : Nat) (s : State) : State :=
  { s with osr := { s.osr with ofs := 20 * ((est : Int) - s.tb), stuck := true, good := 0 } }

/-- Frames in a row without error, after one more. -/
def goodRun (est : Nat) (s : State) : Nat := if (est : Int) - s.tb = 0 then s.osr.good + 1 else 0

/-- A follower slews to its source, by a tick at most. -/
def slewed (est : Nat) (s : State) : State :=
  { s with tb := if 0 < (est : Int) - s.tb then s.tb + 1 else s.tb,
           osr := { s.osr with ofs := 20 * ((est : Int) - s.tb), good := goodRun est s, skip := if (est : Int) - s.tb < 0 then 1 else 0,
                               lock := s.osr.lock || (!s.osr.stuck && decide (100 ≤ goodRun est s)) } }

theorem steer_slew (hs : s.osr.stepped = true) (est : Nat) : steer est s =
    if !s.osr.lock && decide (1000 < ((est : Int) - s.tb).natAbs) then tooFar est s else slewed est s := by
  rw [steer, if_neg (by rw [hs]; exact Bool.false_ne_true)]
  rfl

/-! ### A follower's TIME frame (R420-R422) -/

/-- What a TIME frame of the source leaves of the state, but for the timebase and the ring. -/
theorem timeSteered_step (hs : s.osr.stepped = false) (hl : s.lan.run = false) (hk : s.slot.run = false) :
    timeSteered p f s = timeNoted p f (stepped (timeEstimate (timeNoted p f s) p f) (timeTaken p f s)) :=
  congrArg (timeNoted p f) (steer_step (s := timeTaken p f s) hs hl hk _)

theorem timeSteered_slew (hs : s.osr.stepped = true) : timeSteered p f s =
    if !s.osr.lock && decide (1000 < ((timeEstimate (timeNoted p f s) p f : Int) - s.tb).natAbs) then
      timeNoted p f (tooFar (timeEstimate (timeNoted p f s) p f) (timeTaken p f s))
    else timeNoted p f (slewed (timeEstimate (timeNoted p f s) p f) (timeTaken p f s)) := by
  have hsteer := steer_slew (s := timeTaken p f s) hs (timeEstimate (timeNoted p f s) p f)
  rw [timeSteered, hsteer]
  exact apply_ite (timeNoted p f) _ _ _

theorem timeTaken_only (p : Fin 2) (f : Frame) (s : State) : OnlyChanges [.osr] s (timeTaken p f s) := by
  simp [onlyChanges_iff, timeTaken, sourced, timeNoted, State.link]

/-- The one step of a follower, by the TIME frame of its source. -/
theorem timeStep (hs : s.osr.stepped = false) (hl : s.lan.run = false) (hk : s.slot.run = false) {est : Nat}
    (hest : timeEstimate (timeNoted p f s) p f = est) :
    OnlyChanges [.tb, .osr, .adc, .tmr, .pwr, .cis, .cfg] s (timeSteered p f s) ∧ (timeSteered p f s).tb = est
      ∧ (timeSteered p f s).osr.stepped = true ∧ (timeSteered p f s).osr.src = some p ∧ (timeSteered p f s).osr.good = 1
      ∧ (timeSteered p f s).pwr.on = s.pwr.on ∧ (timeSteered p f s).cis.cells = s.cis.cells
      ∧ (timeSteered p f s).cfg.cur = s.cfg.cur := by
  rw [timeSteered_step hs hl hk, hest]
  refine ⟨?_, rfl, rfl, rfl, rfl, rfl, rfl, rfl⟩
  have hstep : OnlyChanges [.tb, .osr, .adc, .tmr, .pwr, .cis, .cfg] (timeTaken p f s) (stepped est (timeTaken p f s)) := by
    simp [onlyChanges_iff, stepped]
  exact ((timeTaken_only p f s).mono (by decide)).trans (hstep.trans ((State.link_only _ _ _).mono (by decide)))

/-- A follower slews by the TIME frame of its source, or is too far from it. -/
theorem timeSlew (hs : s.osr.stepped = true) {est : Nat} (hest : timeEstimate (timeNoted p f s) p f = est) :
    OnlyChanges [.tb, .osr] s (timeSteered p f s) ∧ (timeSteered p f s).osr.ofs = 20 * ((est : Int) - s.tb)
      ∧ (timeSteered p f s).osr.src = some p
      ∧ (s.osr.lock = false → s.tb + 1000 < est ∨ est + 1000 < s.tb →
          (timeSteered p f s).tb = s.tb ∧ (timeSteered p f s).osr.stuck = true ∧ (timeSteered p f s).osr.lock = false)
      ∧ ((s.osr.lock = true ∨ s.tb ≤ est + 1000 ∧ est ≤ s.tb + 1000) →
          (s.tb < est → (timeSteered p f s).tb = s.tb + 1 ∧ (timeSteered p f s).osr.good = 0 ∧ (timeSteered p f s).osr.skip = 0)
          ∧ (est < s.tb → (timeSteered p f s).tb = s.tb ∧ (timeSteered p f s).osr.good = 0 ∧ (timeSteered p f s).osr.skip = 1)
          ∧ (est = s.tb → (timeSteered p f s).tb = s.tb ∧ (timeSteered p f s).osr.good = s.osr.good + 1
              ∧ (timeSteered p f s).osr.skip = 0 ∧ (s.osr.stuck = false → 99 ≤ s.osr.good → (timeSteered p f s).osr.lock = true))
          ∧ (s.osr.lock = false → (s.osr.stuck = true ∨ est ≠ s.tb ∨ s.osr.good < 99) → (timeSteered p f s).osr.lock = false)) := by
  rw [timeSteered_slew hs, hest]
  by_cases hfar : (!s.osr.lock && decide (1000 < ((est : Int) - s.tb).natAbs)) = true
  · obtain ⟨hlock, hdist⟩ := (Bool.and_eq_true _ _ ▸ hfar : _ ∧ _)
    have hlock : s.osr.lock = false := by simpa using hlock
    have hdist := of_decide_eq_true hdist
    rw [if_pos hfar]
    refine ⟨?_, rfl, rfl, fun _ _ => ⟨rfl, rfl, hlock⟩, fun h => ?_⟩
    · have htoo : OnlyChanges [.osr] (timeTaken p f s) (tooFar est (timeTaken p f s)) := by simp [onlyChanges_iff, tooFar]
      exact ((timeTaken_only p f s).trans (htoo.trans (State.link_only _ _ _))).mono (by decide)
    · rcases h with h | ⟨h, h'⟩
      · rw [hlock] at h
        exact absurd h (by decide)
      · omega
  · rw [if_neg hfar]
    have hnear : s.osr.lock = true ∨ ¬ 1000 < ((est : Int) - s.tb).natAbs := by
      cases hl : s.osr.lock with
      | true => exact .inl rfl
      | false => exact .inr fun hd => hfar (by rw [hl, decide_eq_true hd]; rfl)
    refine ⟨?_, rfl, rfl, fun hl h => ?_, fun _ => ?_⟩
    · have hsl : OnlyChanges [.tb, .osr] (timeTaken p f s) (slewed est (timeTaken p f s)) := by simp [onlyChanges_iff, slewed]
      exact ((timeTaken_only p f s).mono (by decide)).trans (hsl.trans ((State.link_only _ _ _).mono (by decide)))
    · rcases hnear with hn | hn
      · rw [hl] at hn
        exact absurd hn (by decide)
      · omega
    · have htb : (timeNoted p f (slewed est (timeTaken p f s))).tb = if 0 < (est : Int) - s.tb then s.tb + 1 else s.tb := rfl
      have hgood : (timeNoted p f (slewed est (timeTaken p f s))).osr.good = if (est : Int) - s.tb = 0 then s.osr.good + 1 else 0 := rfl
      have hskip : (timeNoted p f (slewed est (timeTaken p f s))).osr.skip = if (est : Int) - s.tb < 0 then 1 else 0 := rfl
      have hlock : (timeNoted p f (slewed est (timeTaken p f s))).osr.lock =
          (s.osr.lock || (!s.osr.stuck && decide (100 ≤ if (est : Int) - s.tb = 0 then s.osr.good + 1 else 0))) := rfl
      rw [htb, hgood, hskip, hlock]
      refine ⟨fun h => ?_, fun h => ?_, fun h => ?_, fun hl h => ?_⟩
      · exact ⟨if_pos (by omega), if_neg (by omega), if_neg (by omega)⟩
      · exact ⟨if_neg (by omega), if_neg (by omega), if_pos (by omega)⟩
      · refine ⟨if_neg (by omega), if_pos (by omega), if_neg (by omega), fun hst hg => ?_⟩
        rw [if_pos (by omega), hst, decide_eq_true (by omega : 100 ≤ s.osr.good + 1), Bool.not_false, Bool.and_self, Bool.or_true]
      · rw [hl, Bool.false_or, Bool.and_eq_false_iff]
        rcases h with h | h | h
        · exact .inl (by rw [h]; rfl)
        · rw [if_neg (by omega)]
          exact .inr rfl
        · refine .inr (decide_eq_false ?_)
          split <;> omega

/-! ### Lock, marks and their supervision (R422, R423) -/

/-- A follower that has lost its source, before the report. -/
def lockLost (due : Nat) (s : State) : State := { s.at due with osr := { s.osr with lock := false, good := 0 } }

theorem execTimeLockTimeout_eq (hr : s.ringed = true) (hid : s.ringId ≠ 0) (hl : s.osr.lock = true) {due : Nat}
    (hdue : due = lastTime s + 100 * us) (hc : s.comes due = true) : execTimeLockTimeout s =
      .next (raise S.OSR_TLOCK (osrDetail 15 0 0) (lockLost due s)) := by
  subst hdue
  refine congrArg Host.Outcome.next (if_pos ?_)
  rw [hr, hl, hc, bne_iff_ne.2 hid]
  rfl

theorem execTimeLockTimeout_unlocked (h : s.osr.lock = false) : execTimeLockTimeout s = .next s := by
  refine congrArg Host.Outcome.next (if_neg ?_)
  rw [h, Bool.and_false, Bool.false_and]
  exact Bool.false_ne_true

/-- The instant of the next mark. -/
def markDue (s : State) : Nat := (nextEdge s.tb s.osr.markAt + 99999) / 100000 * 100000

/-- A mark leaves at its instant. -/
def markSent (due : Nat) (s : State) : State :=
  { s.at due with osr := { s.osr with markAt := some (s.at due).tb }, tx := Tx.sync :: s.tx }

theorem execRingSyncMark_eq (hr : s.ringed = true) (href : s.pwr.refOk = true) : execRingSyncMark s = .next (markSent (markDue s) s) :=
  congrArg Host.Outcome.next (if_pos (by rw [hr, href]; rfl))

/-- An edge lies within 100 ns of a mark. -/
theorem syncGood_iff (s : State) (d : Fin 10) : syncGood s d.val = true ↔
    ∃ k : Int, ((10 * s.tb + d.val : Int) - (1000000 * k + s.r R.OSR_SYNC_DLY_NS)).natAbs ≤ 100 := by
  have hdly : s.r R.OSR_SYNC_DLY_NS < 256 := bitsOf_lt _ _ _
  rw [syncGood, decide_eq_true_eq]
  generalize s.r R.OSR_SYNC_DLY_NS = y at *
  have hd := d.isLt
  refine ⟨fun h => ?_, fun ⟨k, hk⟩ => ?_⟩
  · rcases h with h | h
    · exact ⟨((10 * s.tb + d.val + 1000000 - y) / 1000000 : Nat) - 1, by omega⟩
    · exact ⟨((10 * s.tb + d.val + 1000000 - y) / 1000000 : Nat), by omega⟩
  · omega

end Sys2Proof.Machine
end

section
/-! Frames of an Osrin ring: parts of marks, answers and safety words (R425-R428, R433). -/

namespace Sys2Proof.Machine

variable {s : State} {p : Fin 2} {f : Frame}

theorem linkTook_osrUp (p : Fin 2) (s : State) : (linkTook p s).osrUp (1 - p) = s.osrUp (1 - p) := by
  rw [State.osrUp, linkTook_other]
  rfl

/-- A frame for another device is passed on unchanged on the other link. -/
theorem relay_took (p : Fin 2) (f : Frame) (s : State) : OnlyChanges [.osr, .tx] s (relay p f (linkTook p s))
    ∧ (relay p f (linkTook p s)).tx = if s.osrUp (1 - p) = true then Tx.osr (1 - p) f :: s.tx else s.tx := by
  rw [relay, linkTook_osrUp]
  split
  · exact ⟨((linkTook_only p s).mono (by decide)).trans ((State.send_only _ _).mono (by decide)), rfl⟩
  · exact ⟨(linkTook_only p s).mono (by decide), rfl⟩

/-- RING_ID of the device that a frame comes from, and of the one that it is for. -/
def frameOrigin (f : Frame) : Nat := bitsOf (fw f 0) 6 4
def frameDest (f : Frame) : Nat := bitsOf (fw f 0) 10 8

/-! ### Parts of marks (R427) -/

/-- A FWD frame that breaks R416 or R425. -/
def fwdBad (s : State) (f : Frame) : Bool :=
  decide (s.ndev ≤ frameOrigin f) || decide (s.ndev ≤ frameDest f) || frameOrigin f == s.ringId || bitsOf (fw f 0) 15 12 == 0
    || decide (4 < bitsOf (fw f 0) 15 12) || (frameDest f == s.ringId && (sideOf s (frameOrigin f)).isNone)

theorem execFwdReceive_eq (h : OsrGood s p 3 10 f) (hb : fwdBad s f = false) (hst : s.osr.links[p].st = .up) :
    execFwdReceive p f s = .next (if frameDest f != s.ringId then relay p f (linkTook p s) else
      match sideOf s (frameOrigin f) with
      | some side => stageFwd side f (linkTook p s)
      | none => linkTook p s) := by
  have hup : ¬((linkTook p s).osr.links[p].st != .up) = true := by
    rw [linkTook_link, hst]
    decide
  exact congrArg Host.Outcome.next ((osrTake_good h hb _).trans (if_neg hup))

/-- The descriptor of a neighbour's part. -/
def partFlight (side : Fin 2) (f : Frame) (id : Nat) : Flight :=
  { id := id, raw := fwdDesc f, phase := .staged, peer := some (side, BitVec.ofNat 16 (fw f 1)), peerDeadline := fw f 7 + 2 ^ 32 * fw f 8 }

/-- A neighbour's part enters staging. -/
def partStaged (side : Fin 2) (f : Frame) (s : State) : State :=
  { s with dsc := { s.dsc with flights := s.dsc.flights ++ [partFlight side f s.dsc.nextId], nextId := s.dsc.nextId + 1 } }

theorem partStaged_only (side : Fin 2) (f : Frame) (s : State) : OnlyChanges [.dsc] s (partStaged side f s) := by
  simp [onlyChanges_iff, partStaged]

theorem stageFwd_eq (h4 : s.dom 4 = true) (side : Fin 2) (f : Frame) : stageFwd side f s = partStaged side f s := if_pos h4

/-! ### Answers (R427, R428) -/

/-- An ANS frame that breaks R416, or comes late. -/
def ansBad (s : State) (f : Frame) : Bool :=
  decide (s.ndev ≤ frameOrigin f) || decide (s.ndev ≤ frameDest f) || frameOrigin f == s.ringId
    || (statusOf (bitsOf (fw f 0) 23 16)).isNone || (frameDest f == s.ringId && (awaiting s (BitVec.ofNat 16 (fw f 1))).isNone)

/-- What an answer does at the device that it is for. -/
def ansTaken (p : Fin 2) (f : Frame) (s : State) : State :=
  match awaiting s (BitVec.ofNat 16 (fw f 1)), statusOf (bitsOf (fw f 0) 23 16) with
  | some g, some st => answered (linkTook p s) g.id st (fw f 2 + 2 ^ 32 * fw f 3)
  | _, _ => linkTook p s

theorem execAnsReceive_eq (h : OsrGood s p 4 6 f) (hb : ansBad s f = false) (hst : s.osr.links[p].st = .up) :
    execAnsReceive p f s = .next (if frameDest f != s.ringId then relay p f (linkTook p s) else ansTaken p f s) := by
  have hup : ¬((linkTook p s).osr.links[p].st != .up) = true := by
    rw [linkTook_link, hst]
    decide
  exact congrArg Host.Outcome.next ((osrTake_good h hb _).trans (if_neg hup))

theorem execAnsReceive_bad (h : OsrGood s p 4 6 f) (hb : ansBad s f = true) : execAnsReceive p f s = .next (osrDrop p false s) :=
  congrArg Host.Outcome.next (osrTake_bad h hb _)

theorem answered_only (s : State) (id : Nat) (st : Status) (drain : Nat) : OnlyChanges [.dsc] s (answered s id st drain) := updFlight_only _ _ _

theorem answered_length (s : State) (id : Nat) (st : Status) (drain : Nat) :
    (answered s id st drain).dsc.flights.length = s.dsc.flights.length := List.length_map _

theorem answered_answer {s : State} {id : Nat} {st : Status} {drain : Nat} {h : Flight}
    (hh : h ∈ (answered s id st drain).dsc.flights) (hid : h.id = id) {w : FwdPart} (hw : h.fwd = some w) :
    w.answer = some (st, drain) := by
  obtain ⟨g, -, rfl⟩ := List.mem_map.1 hh
  by_cases hg : g.id = id
  · rw [if_pos hg] at hw
    obtain ⟨w', -, rfl⟩ := Option.map_eq_some_iff.1 hw
    rfl
  · rw [if_neg hg] at hid
    exact absurd hid hg

theorem execFwdAnsTimeout_eq {fseq : BitVec 16} {g : Flight} (hg : awaiting s fseq = some g) {due : Nat} (hdue : due = g.tA + 150 * us)
    (hc : s.comes due = true) : execFwdAnsTimeout fseq s = .next ((answered (s.at due) g.id .forwardFail 0).add R.OSR_FWD_CNT_FAIL 1) := by
  subst hdue
  simp only [execFwdAnsTimeout, hg, hc, Bool.not_true, Bool.false_eq_true, if_false]

/-! ### Safety words (R433) -/

/-- An RSW frame that breaks R416. -/
def rswBad (s : State) (f : Frame) : Bool := decide (s.ndev ≤ frameOrigin f) || frameDest f == 0 || decide (s.ndev ≤ frameDest f)

/-- The word of one origin, scan and direction. -/
def rswKey (p : Fin 2) (f : Frame) : Fin 2 × BitVec 3 × BitVec 16 :=
  (p, BitVec.ofNat 3 (frameOrigin f), BitVec.ofNat 16 (bitsOf (fw f 0) 31 16))

/-- A safety word is kept for the lanes. -/
def rswKept (f : Frame) (s : State) : State :=
  { s with lan := { s.lan with ringIn := s.lan.ringIn ++ [(⟨frameOrigin f % 8, Nat.mod_lt _ (by decide)⟩, f)] } }

/-- A safety word is relayed. -/
def rswRelayed (p : Fin 2) (f : Frame) (s : State) : State :=
  { s with lan := { s.lan with ringRelayed := rswKey p f :: s.lan.ringRelayed.take 63 }, tx := Tx.osr (1 - p) (nextHop f) :: s.tx }

theorem rswKept_only (f : Frame) (s : State) : OnlyChanges [.lan] s (rswKept f s) := by simp [onlyChanges_iff, rswKept]

theorem rswRelayed_only (p : Fin 2) (f : Frame) (s : State) : OnlyChanges [.lan, .tx] s (rswRelayed p f s) := by
  simp [onlyChanges_iff, rswRelayed]

theorem execRswReceive_eq (h : OsrGood s p 5 8 f) (hb : rswBad s f = false) (hst : s.osr.links[p].st = .up)
    (ho : frameOrigin f ≠ s.ringId) : execRswReceive p f s = .next
      (if frameDest f + 1 < s.ndev && !s.lan.ringRelayed.contains (rswKey p f) then rswRelayed p f (rswKept f (linkTook p s))
       else rswKept f (linkTook p s)) := by
  have hup : ¬((linkTook p s).osr.links[p].st != .up || frameOrigin f == (linkTook p s).ringId) = true := by
    have hid : (linkTook p s).ringId = s.ringId := rfl
    rw [linkTook_link, hst, hid, beq_false_of_ne ho]
    decide
  exact congrArg Host.Outcome.next ((osrTake_good h hb _).trans (if_neg hup))

end Sys2Proof.Machine
end

section
/-! The common timebase and the frames of an Osrin ring: the obligation (R419-R428, R433). -/

namespace Sys2Proof.Machine

variable {s : State} {p : Fin 2} {f : Frame}

theorem fwdBad_false (hop : 1 ≤ bitsOf (fw f 0) 15 12) (hop' : bitsOf (fw f 0) 15 12 ≤ 4) (ho : frameOrigin f < s.ndev)
    (hd : frameDest f < s.ndev) (hne : frameOrigin f ≠ s.ringId) (hside : frameDest f = s.ringId → (sideOf s (frameOrigin f)).isSome) :
    fwdBad s f = false := by
  have hlast : (frameDest f == s.ringId && (sideOf s (frameOrigin f)).isNone) = false := by
    by_cases h : frameDest f = s.ringId
    · rw [Option.isNone_eq_false_iff.2 (hside h), Bool.and_false]
    · rw [beq_false_of_ne h, Bool.false_and]
  have hop0 : bitsOf (fw f 0) 15 12 ≠ 0 := by omega
  rw [fwdBad, hlast, decide_eq_false (Nat.not_le.2 ho), decide_eq_false (Nat.not_le.2 hd), beq_false_of_ne hne, beq_false_of_ne hop0,
    decide_eq_false (Nat.not_lt.2 hop')]
  rfl

theorem ansBad_eq {st : Status} (ho : frameOrigin f < s.ndev) (hd : frameDest f < s.ndev) (hne : frameOrigin f ≠ s.ringId)
    (hst : statusOf (bitsOf (fw f 0) 23 16) = some st) :
    ansBad s f = (frameDest f == s.ringId && (awaiting s (BitVec.ofNat 16 (fw f 1))).isNone) := by
  rw [ansBad, decide_eq_false (Nat.not_le.2 ho), decide_eq_false (Nat.not_le.2 hd), beq_false_of_ne hne, hst]
  rfl

theorem rswBad_false (ho : frameOrigin f < s.ndev) (h1 : 1 ≤ frameDest f) (hd : frameDest f < s.ndev) : rswBad s f = false := by
  have h0 : frameDest f ≠ 0 := by omega
  rw [rswBad, decide_eq_false (Nat.not_le.2 ho), decide_eq_false (Nat.not_le.2 hd), beq_false_of_ne h0]
  rfl

/-- The estimate of a TIME frame does not move with what the frame says of its link. -/
theorem timeEstimate_took (p : Fin 2) (f : Frame) (s : State) : timeEstimate (timeNoted p f (linkTook p s)) p f =
    (10 * (fw f 1 + 2 ^ 32 * fw f 2) + s.osr.links[p].dly.toNat + 5) / 10 := by
  rw [timeEstimate, timeNoted_link, linkTook_link]

theorem timeEff_took (hid : s.ringId ≠ 0) (href : s.pwr.refOk = true) (hstep : s.sys.step ≠ 15) (hsrc : TimeOfSource s p f) :
    timeEff p f (linkTook p s) = timeSteered p f (linkTook p s) := by
  obtain ⟨-, -, hst, hl, ho, h8, h9⟩ := hsrc
  refine timeEff_follower hid href hstep (sourceLink_only ?_ hl ?_) h8 h9
  · rw [linkTook_link]; exact hst
  · rw [linkTook_other]; exact ho

theorem execTimeReceive_source (hleave : s.sys.leave = none) (hid : s.ringId ≠ 0) (href : s.pwr.refOk = true) (hstep : s.sys.step ≠ 15)
    (hsrc : TimeOfSource s p f) : execTimeReceive p f s = .next (timeSteered p f (linkTook p s)) := by
  have hnone : (timeSteered p f (linkTook p s)).sys.leave = none := by rw [timeSteered_sys]; exact hleave
  rw [execTimeReceive_eq hsrc.1 hsrc.2.1 hsrc.2.2.1, timeEff_took hid href hstep hsrc, bootLeave_of_none hnone]

theorem execTimeReceive_master (hleave : s.sys.leave = none) (hid : s.ringId = 0) (h : OsrGood s p 2 12 f) (hb : timeBad s f = false)
    (hst : s.osr.links[p].st = .up) : execTimeReceive p f s = .next (timeNoted p f (linkTook p s)) := by
  have hnone : (timeNoted p f (linkTook p s)).sys.leave = none := hleave
  have hid' : (linkTook p s).ringId = 0 := hid
  rw [execTimeReceive_eq h hb hst, timeEff_master hid', bootLeave_of_none hnone]

theorem execRingSyncEdge_good (hr : s.ringed = true) {d : Fin 10} (h : syncGood s d.val = true) :
    execRingSyncEdge (some d) s = .next { s with osr := { s.osr with syncFail := 0 } } :=
  congrArg Host.Outcome.next ((if_neg (by rw [hr]; decide)).trans (if_pos h))

/-- A mark that no edge, or an edge at the wrong instant, answers. -/
def edgeFails (o : Option (Fin 10)) (s : State) : Prop := ∀ d, o = some d → syncGood s d.val = false

theorem execRingSyncEdge_failed (hr : s.ringed = true) {o : Option (Fin 10)} (h : edgeFails o s) : execRingSyncEdge o s =
    .next (if s.osr.syncFail < 2 then { s with osr := { s.osr with syncFail := s.osr.syncFail + 1 } }
      else raise S.OSR_TSKEW (osrDetail 15 0 0) { s with osr := { s.osr with syncFail := 0 } }) := by
  refine congrArg Host.Outcome.next ((if_neg (by rw [hr]; decide)).trans (if_neg ?_))
  cases o with
  | none => exact Bool.false_ne_true
  | some d =>
    have hd : syncGood s d.val = false := h d rfl
    exact fun e => Bool.false_ne_true (hd.symm.trans e)

theorem markDue_bounds (s : State) : s.tb ≤ markDue s ∧ nextEdge s.tb s.osr.markAt ≤ markDue s
    ∧ markDue s < nextEdge s.tb s.osr.markAt + 100000 ∧ markDue s % 100000 = 0 := by
  have hle := le_nextEdge s.tb s.osr.markAt
  unfold markDue
  omega

/-- The timebase after the next mark. -/
theorem at_markDue (href : s.pwr.refOk = true) : (s.at (markDue s)).tb = markDue s := by
  rw [State.at_tb_ok s _ href]
  exact Nat.max_eq_right (markDue_bounds s).1

theorem markSent_only (due : Nat) (s : State) : OnlyChanges [.tb, .edge, .osr, .tx] s (markSent due s) := by
  have hsent : OnlyChanges [.osr, .tx] (s.at due) (markSent due s) := by simp [onlyChanges_iff, markSent]
  exact ((State.at_only s due).mono (by decide)).trans (hsent.mono (by decide))

theorem lockLost_only (due : Nat) (s : State) : OnlyChanges [.tb, .edge, .osr] s (lockLost due s) := by
  have h : OnlyChanges [.osr] (s.at due) (lockLost due s) := by simp [onlyChanges_iff, lockLost]
  exact ((State.at_only s due).mono (by decide)).trans (h.mono (by decide))

/-- Settles O48: the timebase by `timeStep` and `timeSlew`, the marks, and the frames by what each does once taken. -/
theorem osrinTimebaseAndFrames : Obligations.OsrinTimebaseAndFrames := by
  refine ⟨fun s hr => ⟨execTimeSend_eq hr, fun p f hleave => ⟨fun hid hg hb hst => ⟨_, execTimeReceive_master hleave hid hg hb hst, ?_⟩,
      fun est hid href hstep hsrc hest => ⟨fun hs hl hk => ⟨_, execTimeReceive_source hleave hid href hstep hsrc, ?_⟩,
        fun hs => ⟨_, execTimeReceive_source hleave hid href hstep hsrc, ?_⟩⟩⟩,
      fun due hid hl hdue hc => ⟨_, execTimeLockTimeout_eq hr hid hl hdue hc, ?_⟩, fun href => ⟨_, execRingSyncMark_eq hr href, ?_⟩,
      fun d hk => execRingSyncEdge_good hr ((syncGood_iff s d).2 hk), fun o ho => ?_⟩,
    fun s p f => ⟨fun hst hg hop hop' horig hdest hne => ⟨fun side hd hside h4 => ?_, fun hd => ?_⟩,
      fun st hst hg horig hne hdest hstat => ⟨fun hd => ⟨fun g hg' => ?_, fun hnone => ?_⟩, fun hd => ?_⟩,
      fun fseq g due hg hdue hc => ⟨_, execFwdAnsTimeout_eq hg hdue hc, ?_⟩, fun hst hg horig hne h1 hdest => ?_⟩⟩
  · refine ⟨(linkTook_only p s).trans (State.link_only _ _ _), ?_, ?_⟩
    · rw [timeNoted_link]
      rfl
    · rw [timeNoted_link, linkTook_link]
  · obtain ⟨honly, hrest⟩ := timeStep (s := linkTook p s) (p := p) (f := f) hs hl hk ((timeEstimate_took p f s).trans hest.symm)
    exact ⟨((linkTook_only p s).mono (by decide)).trans honly, hrest⟩
  · obtain ⟨honly, hrest⟩ := timeSlew (s := linkTook p s) (p := p) (f := f) hs ((timeEstimate_took p f s).trans hest.symm)
    exact ⟨((linkTook_only p s).mono (by decide)).trans honly, hrest⟩
  · have hosr : (raise S.OSR_TLOCK (osrDetail 15 0 0) (lockLost due s)).osr = (lockLost due s).osr := raise_only _ _ _ .osr (by decide)
    have hlock : (raise S.OSR_TLOCK (osrDetail 15 0 0) (lockLost due s)).osr.lock = false := congrArg Osr.lock hosr
    refine ⟨((lockLost_only due s).mono (by decide)).trans ((raise_only _ _ _).mono (by decide)), hlock, congrArg Osr.good hosr,
      raised_raise _ _ ?_, raise_only _ _ _ .tb (by decide), execTimeLockTimeout_unlocked hlock⟩
    exact ringed_dom hr
  · obtain ⟨-, hlo, hhi, hmod⟩ := markDue_bounds s
    have htb : (markSent (markDue s) s).tb = markDue s := at_markDue href
    rw [htb]
    exact ⟨markSent_only _ s, rfl, hmod, hlo, hhi, congrArg some (at_markDue href)⟩
  · have hfail : edgeFails o s := fun d hd => by
      refine Bool.eq_false_iff.2 fun hgood => ?_
      obtain ⟨k, hk⟩ := (syncGood_iff s d).1 hgood
      exact absurd hk (Nat.not_le.2 (ho d hd k))
    have hexec := execRingSyncEdge_failed hr hfail
    refine ⟨fun h => hexec.trans (congrArg _ (if_pos h)), fun h => ⟨_, hexec.trans (congrArg _ (if_neg (Nat.not_lt.2 h))), ?_, ?_, ?_⟩⟩
    · have hosr : OnlyChanges [.osr] s { s with osr := { s.osr with syncFail := 0 } } := by simp [onlyChanges_iff]
      exact (hosr.mono (by decide)).trans ((raise_only _ _ _).mono (by decide))
    · rw [raise_only _ _ _ .osr (by decide)]
    · exact raised_raise _ _ (ringed_dom hr)
  · have hb := fwdBad_false hop hop' horig hdest hne fun _ => Option.isSome_iff_exists.2 ⟨side, hside⟩
    have hside' : sideOf s (frameOrigin f) = some side := hside
    have heff : execFwdReceive p f s = .next (stageFwd side f (linkTook p s)) := by
      rw [execFwdReceive_eq hg hb hst, if_neg (by rw [bne_iff_ne]; exact fun h => h hd), hside']
    have h4' : (linkTook p s).dom 4 = true := h4
    rw [stageFwd_eq h4'] at heff
    exact ⟨_, partFlight side f s.dsc.nextId, heff, ((linkTook_only p s).mono (by decide)).trans ((partStaged_only _ _ _).mono (by decide)),
      rfl, rfl, rfl, rfl, rfl⟩
  · have hb := fwdBad_false hop hop' horig hdest hne fun h => absurd h hd
    exact ⟨_, (execFwdReceive_eq hg hb hst).trans (congrArg _ (if_pos (bne_iff_ne.2 hd))), relay_took p f s⟩
  · have hb : ansBad s f = false := by
      rw [ansBad_eq horig hdest hne hstat, hg']
      exact Bool.and_false _
    have heff : execAnsReceive p f s = .next (answered (linkTook p s) g.id st (fw f 2 + 2 ^ 32 * fw f 3)) := by
      rw [execAnsReceive_eq hg hb hst, if_neg (by rw [bne_iff_ne]; exact fun h => h hd), ansTaken, hg', hstat]
    exact ⟨_, heff, ((linkTook_only p s).mono (by decide)).trans ((answered_only _ _ _ _).mono (by decide)), answered_length _ _ _ _,
      fun h hh hid w hw => answered_answer hh hid hw⟩
  · have hb : ansBad s f = true := by
      rw [ansBad_eq horig hdest hne hstat, hnone, (beq_iff_eq.2 hd : (frameDest f == s.ringId) = true)]
      rfl
    exact ⟨_, execAnsReceive_bad hg hb, osrDrop_only _ _ _, osrDrop_raised (ringed_dom hg.1) _ _⟩
  · have hb : ansBad s f = false := by
      rw [ansBad_eq horig hdest hne hstat, (beq_false_of_ne hd : (frameDest f == s.ringId) = false), Bool.false_and]
    exact ⟨_, (execAnsReceive_eq hg hb hst).trans (congrArg _ (if_pos (bne_iff_ne.2 hd))), relay_took p f s⟩
  · refine ⟨?_, rfl, rget_radd _ _ _ _ _ (by decide), fun h hh hid w hw => answered_answer (s := s.at due) hh hid hw⟩
    exact ((State.at_only s due).mono (by decide)).trans (((answered_only _ _ _ _).mono (by decide)).trans
      ((State.add_only _ _ _ _ _).mono (by decide)))
  · have hmod : frameOrigin f % 8 = frameOrigin f := Nat.mod_eq_of_lt (bitsOf_lt _ _ _)
    have hkept : OnlyChanges [.osr, .lan, .tx] s (rswKept f (linkTook p s)) :=
      ((linkTook_only p s).mono (by decide)).trans ((rswKept_only _ _).mono (by decide))
    refine ⟨_, execRswReceive_eq hg (rswBad_false horig h1 hdest) hst hne, ?_⟩
    by_cases hrel : frameDest f + 1 < s.ndev ∧ s.lan.ringRelayed.contains (rswKey p f) = false
    · have hcond : (decide (frameDest f + 1 < s.ndev) && !s.lan.ringRelayed.contains (rswKey p f)) = true := by
        rw [decide_eq_true hrel.1, hrel.2]
        rfl
      rw [if_pos hcond]
      exact ⟨hkept.trans ((rswRelayed_only _ _ _).mono (by decide)), ⟨_, hmod, rfl⟩, (if_pos hrel).symm⟩
    · have hcond : ¬(decide (frameDest f + 1 < s.ndev) && !s.lan.ringRelayed.contains (rswKey p f)) = true := by
        rw [Bool.and_eq_true, decide_eq_true_eq, Bool.not_eq_true']
        exact hrel
      rw [if_neg hcond]
      exact ⟨hkept, ⟨_, hmod, rfl⟩, (if_neg hrel).symm⟩

end Sys2Proof.Machine
end

section
/-! Counting and matches of the timers (R468-R475). -/

namespace Sys2Proof.Machine

variable {s : State} {n : Fin 8}

/-! ### Frames, and what of a timer a match leaves -/

/-- Two timer blocks differ at most in what waits: frames, captures and source events. -/
structure KeepsCounts (t t' : Tmr) : Prop where
  acc : t'.acc = t.acc
  cntAt : t'.cntAt = t.cntAt
  evAt : t'.evAt = t.evAt
  cmpAt : t'.cmpAt = t.cmpAt
  capAt : t'.capAt = t.capAt

theorem KeepsCounts.refl (t : Tmr) : KeepsCounts t t := ⟨rfl, rfl, rfl, rfl, rfl⟩

theorem KeepsCounts.trans {t t' t'' : Tmr} (h : KeepsCounts t t') (h' : KeepsCounts t' t'') : KeepsCounts t t'' :=
  ⟨h'.acc.trans h.acc, h'.cntAt.trans h.cntAt, h'.evAt.trans h.evAt, h'.cmpAt.trans h.cmpAt, h'.capAt.trans h.capAt⟩

theorem offerCap_keepsCounts (m : Map Word) (t : Tmr) (due : Nat) (hit : Nat → Nat → Bool) : KeepsCounts t (offerCap m t due hit) := by
  unfold offerCap
  exact ⟨rfl, rfl, rfl, rfl, rfl⟩

theorem offerEvent_keepsCounts (m : Map Word) (t : Tmr) (due : Nat) (hit : Nat → Bool) : KeepsCounts t (offerEvent m t due hit) :=
  ⟨rfl, rfl, rfl, rfl, rfl⟩

theorem settle_keepsCounts (m : Map Word) (t : Tmr) : KeepsCounts t (t.settle m) := by
  unfold Tmr.settle
  split
  · exact ⟨rfl, rfl, rfl, rfl, rfl⟩
  · exact .refl t

theorem settleFrames_only (s : State) : OnlyChanges [.tmr] s (settleFrames s) := by simp [onlyChanges_iff, settleFrames]

theorem timerMatch_keepsCounts (i : Nat) (a b : Bool) (s : State) : KeepsCounts s.tmr (timerMatch i a b s).tmr := by
  have h : ∀ (c : Bool) (m : Map Word) (t : Tmr) (due : Nat) (hit : Nat → Nat → Bool),
      KeepsCounts t (if c = true then offerCap m t due hit else t) := fun c m t due hit => by
    cases c
    · exact .refl t
    · exact offerCap_keepsCounts m t due hit
  exact (h a _ _ _ _).trans (h b _ _ _ _)

theorem timerMatch_only (i : Nat) (a b : Bool) (s : State) : OnlyChanges [.tmr, .adc, .regs] s (timerMatch i a b s) := by
  simp [onlyChanges_iff, timerMatch]

/-- A timer that matches on no channel changes nothing. -/
theorem timerMatch_none (i : Nat) (s : State) : timerMatch i false false s = s := rfl

/-! ### The flags of a match (R475) -/

/-- The registers after matches on the channels for which `c` holds. -/
def matchFlags (i : Nat) (c : Fin 2 → Bool) (m : Map Word) : Map Word :=
  let m := if c 0 then rput m R.TMR_TC_FLAG_M0 1 i else m
  if c 1 then rput m R.TMR_TC_FLAG_M1 1 i else m

theorem timerMatch_regs (i : Nat) (c : Fin 2 → Bool) (s : State) : (timerMatch i (c 0) (c 1) s).regs = matchFlags i c s.regs := rfl

theorem matchFlags_but (n : Fin 8) (c : Fin 2 → Bool) (m : Map Word) : RegsBut [0x90128 + 0x40 * n.val] m (matchFlags n.val c m) := by
  have h0 : ∀ m, RegsBut [0x90128 + 0x40 * n.val] m (rput m R.TMR_TC_FLAG_M0 1 n.val) := fun m =>
    (RegsBut.refl _ m).rput ((by decide : ∀ n : Fin 8, R.TMR_TC_FLAG_M0.off n.val 0 ∈ [0x90128 + 0x40 * n.val]) n)
  have h1 : ∀ m, RegsBut [0x90128 + 0x40 * n.val] m (rput m R.TMR_TC_FLAG_M1 1 n.val) := fun m =>
    (RegsBut.refl _ m).rput ((by decide : ∀ n : Fin 8, R.TMR_TC_FLAG_M1.off n.val 0 ∈ [0x90128 + 0x40 * n.val]) n)
  unfold matchFlags
  cases c 0 <;> cases c 1
  · exact .refl _ m
  · exact h1 m
  · exact h0 m
  · exact (h0 m).trans (h1 _)

theorem flag_m0_apart_m1 (n : Fin 8) : R.TMR_TC_FLAG_M0.apart n.val 0 R.TMR_TC_FLAG_M1 n.val 0 = true := by revert n; decide
theorem flag_m1_apart_m0 (n : Fin 8) : R.TMR_TC_FLAG_M1.apart n.val 0 R.TMR_TC_FLAG_M0 n.val 0 = true := by revert n; decide

theorem rget_matchFlags (n : Fin 8) (c : Fin 2 → Bool) (m : Map Word) (k : Fin 2) :
    rget (matchFlags n.val c m) (matchField k) n.val = if c k then 1 else rget m (matchField k) n.val := by
  have hm0 : ∀ m v, rget (rput m R.TMR_TC_FLAG_M0 v n.val) R.TMR_TC_FLAG_M0 n.val = v % 2 := fun m v => rget_rput_same _ _ _ _ _ (by decide)
  have hm1 : ∀ m v, rget (rput m R.TMR_TC_FLAG_M1 v n.val) R.TMR_TC_FLAG_M1 n.val = v % 2 := fun m v => rget_rput_same _ _ _ _ _ (by decide)
  unfold matchFlags
  rcases Fin.exists_fin_two.1 ⟨k, rfl⟩ with rfl | rfl
  · change rget _ R.TMR_TC_FLAG_M0 n.val = if c 0 then 1 else rget m R.TMR_TC_FLAG_M0 n.val
    cases c 0 <;> cases c 1 <;> simp [hm0, rget_rput_apart _ _ (flag_m1_apart_m0 n)]
  · change rget _ R.TMR_TC_FLAG_M1 n.val = if c 1 then 1 else rget m R.TMR_TC_FLAG_M1 n.val
    cases c 0 <;> cases c 1 <;> simp [hm1, rget_rput_apart _ _ (flag_m0_apart_m1 n)]

theorem rget_matchFlags_apart (n : Fin 8) (c : Fin 2 → Bool) (m : Map Word) {f : RegField} (h0 : R.TMR_TC_FLAG_M0.apart n.val 0 f n.val 0 = true)
    (h1 : R.TMR_TC_FLAG_M1.apart n.val 0 f n.val 0 = true) : rget (matchFlags n.val c m) f n.val = rget m f n.val := by
  unfold matchFlags
  cases c 0 <;> cases c 1 <;> simp [rget_rput_apart _ _ h0, rget_rput_apart _ _ h1]

/-! ### A step of the count (R468, R475) -/

/-- The count after a step. -/
def stepCount (s : State) (i : Nat) : Nat := if s.r R.TMR_TC_TOP_TOP i ≤ s.r R.TMR_TC_CNT_CNT i then 0 else s.r R.TMR_TC_CNT_CNT i + 1

/-- The registers after a step of the count, before its matches. -/
def stepRegs (s : State) (i : Nat) : Map Word :=
  let m := rput s.regs R.TMR_TC_CNT_CNT (stepCount s i) i
  if s.r R.TMR_TC_TOP_TOP i ≤ s.r R.TMR_TC_CNT_CNT i then rput m R.TMR_TC_FLAG_OVF 1 i else m

/-- The channels on which a step matches. -/
def stepHits (s : State) (i : Nat) (k : Fin 2) : Bool := stepCount s i == s.r (cmpField k) i

theorem timerStepEff_regs (i : Nat) (s : State) : (timerStepEff i s).regs = matchFlags i (stepHits s i) (stepRegs s i) := by
  have h : (timerStepEff i s).regs =
      matchFlags i (fun k => (if decide (s.r R.TMR_TC_TOP_TOP i ≤ s.r R.TMR_TC_CNT_CNT i) then 0 else s.r R.TMR_TC_CNT_CNT i + 1) == s.r (cmpField k) i)
        (if decide (s.r R.TMR_TC_TOP_TOP i ≤ s.r R.TMR_TC_CNT_CNT i) then
          rput (rput s.regs R.TMR_TC_CNT_CNT (if decide (s.r R.TMR_TC_TOP_TOP i ≤ s.r R.TMR_TC_CNT_CNT i) then 0 else s.r R.TMR_TC_CNT_CNT i + 1) i)
            R.TMR_TC_FLAG_OVF 1 i
        else rput s.regs R.TMR_TC_CNT_CNT (if decide (s.r R.TMR_TC_TOP_TOP i ≤ s.r R.TMR_TC_CNT_CNT i) then 0 else s.r R.TMR_TC_CNT_CNT i + 1) i) := rfl
  rw [h]
  simp only [decide_eq_true_eq]
  rfl

theorem timerStepEff_keepsCounts (i : Nat) (s : State) : KeepsCounts s.tmr (timerStepEff i s).tmr := by
  unfold timerStepEff
  refine .trans ?_ (timerMatch_keepsCounts i _ _ _)
  dsimp only
  split
  · exact (offerCap_keepsCounts _ _ _ _).trans (offerEvent_keepsCounts _ _ _ _)
  · exact .refl _

theorem timerStepEff_only (i : Nat) (s : State) : OnlyChanges [.tmr, .adc, .regs] s (timerStepEff i s) := by
  simp [onlyChanges_iff, timerStepEff, timerMatch]

theorem r_lt (s : State) (f : RegField) (i j : Nat) : s.r f i j < 2 ^ (f.hi + 1 - f.lo) := bitsOf_lt _ _ _

theorem stepCount_lt (s : State) (i : Nat) : stepCount s i < 2 ^ 32 := by
  have h : s.r R.TMR_TC_TOP_TOP i < 2 ^ 32 := r_lt s R.TMR_TC_TOP_TOP i 0
  unfold stepCount
  split <;> omega

theorem stepRegs_but (s : State) (n : Fin 8) : RegsBut [0x9010C + 0x40 * n.val, 0x90128 + 0x40 * n.val] s.regs (stepRegs s n.val) := by
  have hc := (RegsBut.refl [0x9010C + 0x40 * n.val, 0x90128 + 0x40 * n.val] s.regs).rput (f := R.TMR_TC_CNT_CNT) (v := stepCount s n.val)
    ((by decide : ∀ n : Fin 8, R.TMR_TC_CNT_CNT.off n.val 0 ∈ [0x9010C + 0x40 * n.val, 0x90128 + 0x40 * n.val]) n)
  unfold stepRegs
  dsimp only
  split
  · exact hc.rput ((by decide : ∀ n : Fin 8, R.TMR_TC_FLAG_OVF.off n.val 0 ∈ [0x9010C + 0x40 * n.val, 0x90128 + 0x40 * n.val]) n)
  · exact hc

theorem rget_stepRegs_cnt (s : State) (n : Fin 8) : rget (stepRegs s n.val) R.TMR_TC_CNT_CNT n.val = stepCount s n.val := by
  have hc : rget (rput s.regs R.TMR_TC_CNT_CNT (stepCount s n.val) n.val) R.TMR_TC_CNT_CNT n.val = stepCount s n.val :=
    (rget_rput_same _ _ _ _ _ (by decide)).trans (Nat.mod_eq_of_lt (stepCount_lt s n.val))
  unfold stepRegs
  dsimp only
  split
  · rw [rget_rput_apart _ _ ((by decide : ∀ n : Fin 8, R.TMR_TC_FLAG_OVF.apart n.val 0 R.TMR_TC_CNT_CNT n.val 0 = true) n), hc]
  · exact hc

theorem rget_stepRegs_ovf (s : State) (n : Fin 8) (h : s.r R.TMR_TC_TOP_TOP n.val ≤ s.r R.TMR_TC_CNT_CNT n.val) :
    rget (stepRegs s n.val) R.TMR_TC_FLAG_OVF n.val = 1 := by
  rw [stepRegs, if_pos h]
  exact rget_rput_same _ _ _ _ _ (by decide)

theorem rget_stepRegs_match (s : State) (n : Fin 8) (k : Fin 2) : rget (stepRegs s n.val) (matchField k) n.val = s.r (matchField k) n.val := by
  have hc : rget (rput s.regs R.TMR_TC_CNT_CNT (stepCount s n.val) n.val) (matchField k) n.val = rget s.regs (matchField k) n.val :=
    rget_rput_apart _ _ ((by decide : ∀ n : Fin 8, ∀ k, R.TMR_TC_CNT_CNT.apart n.val 0 (matchField k) n.val 0 = true) n k)
  unfold stepRegs
  dsimp only
  split
  · rw [rget_rput_apart _ _ ((by decide : ∀ n : Fin 8, ∀ k, R.TMR_TC_FLAG_OVF.apart n.val 0 (matchField k) n.val 0 = true) n k), hc, State.r]
  · rw [hc, State.r]

/-! ### Source events (R469-R471) -/

/-- A source event of the timer is taken: the prescaler holds `acc`, and the edge is noted. -/
def eventTaken (n : Fin 8) (acc : Nat) (s : State) : State :=
  { s with tmr := { s.tmr with acc := s.tmr.acc.set n (BitVec.ofNat 32 acc), evDue := s.tmr.evDue.set n s.tmr.evDue[n].tail,
                               evAt := s.tmr.evAt.set n (some s.tb) } }

theorem eventTaken_only (n : Fin 8) (acc : Nat) (s : State) : OnlyChanges [.tmr] s (eventTaken n acc s) := by
  simp [onlyChanges_iff, eventTaken]

/-- The divisor of a timer's prescaler (R471). -/
def timerDiv (s : State) (n : Fin 8) : Nat := s.r R.TMR_TC_DIV_INT n.val * 65536 + s.r R.TMR_TC_DIV_FRAC n.val

theorem timerEvent_miss (h : s.tmr.acc[n].toNat + 0x10000 < timerDiv s n) :
    timerEvent n s = eventTaken n (s.tmr.acc[n].toNat + 0x10000) s := by
  have hd : decide (timerDiv s n ≤ s.tmr.acc[n].toNat + 0x10000) = false := decide_eq_false (Nat.not_le.2 h)
  unfold timerEvent
  unfold timerDiv at hd
  simp only [hd]
  rfl

theorem timerEvent_hit (h : timerDiv s n ≤ s.tmr.acc[n].toNat + 0x10000) :
    timerEvent n s = if s.tmr.cntAt[n] = some s.tb then eventTaken n (s.tmr.acc[n].toNat + 0x10000 - timerDiv s n) s
      else timerStepEff n (eventTaken n (s.tmr.acc[n].toNat + 0x10000 - timerDiv s n) s) := by
  have hd : decide (timerDiv s n ≤ s.tmr.acc[n].toNat + 0x10000) = true := decide_eq_true h
  unfold timerEvent
  unfold timerDiv at hd
  simp only [hd]
  by_cases hc : s.tmr.cntAt[n] = some s.tb
  · rw [if_pos hc]
    exact if_neg (by rw [hc]; simp)
  · rw [if_neg hc]
    exact if_pos (by rw [Bool.true_and]; exact bne_iff_ne.2 hc)

theorem execTimerStep_eq {due : Nat} (h4 : s.dom 4 = true) (hen : s.rb R.TMR_TC_CTRL_EN n.val = true)
    (hdue : timerEventDue n (settleFrames s) = some due) (hcomes : s.comes due = true) :
    execTimerStep n s = .next (timerEvent n ((settleFrames s).at due)) := by
  refine congrArg Host.Outcome.next ((if_pos (by rw [h4, hen]; rfl)).trans ?_)
  simp only [hdue]
  exact if_pos hcomes

end Sys2Proof.Machine
end

section
/-! Captures, register writes and flag reads of the timers (R473-R482). -/

namespace Sys2Proof.Machine

variable {s : State} {n : Fin 8} {k : Fin 2}

/-! ### Captures (R480) -/

/-- The registers after a capture, before its NEW bit and its count. -/
def captureKept (n : Fin 8) (k : Fin 2) (m : Map Word) : Map Word :=
  let m := rput m (capField k) (rget m R.TMR_TC_CNT_CNT n.val) n.val
  if rbit m (newField k) n.val then rput m (ovrField k) 1 n.val else m

/-- The registers after a capture. -/
def captureRegs (n : Fin 8) (k : Fin 2) (m : Map Word) : Map Word :=
  rput (rput (captureKept n k m) (newField k) 1 n.val) (ccntField k) ((rget (captureKept n k m) (ccntField k) n.val + 1) % 256) n.val

/-- The instant of a capture is noted. -/
def captureNoted (n : Fin 8) (s : State) : State := { s with tmr := { s.tmr with capAt := s.tmr.capAt.set n (some s.tb) } }

theorem captureEff_eq (n : Fin 8) (k : Fin 2) (s : State) :
    captureEff n k.val s = { captureNoted n s with regs := captureRegs n k s.regs } := by
  rcases Fin.exists_fin_two.1 ⟨k, rfl⟩ with rfl | rfl <;> rfl

theorem capField_off (n : Fin 8) (k : Fin 2) : (capField k).off n.val 0 = 0x90120 + 4 * k.val + 0x40 * n.val := by revert n k; decide
theorem newField_off (n : Fin 8) (k : Fin 2) : (newField k).off n.val 0 = 0x90128 + 0x40 * n.val := by revert n k; decide
theorem ovrField_off (n : Fin 8) (k : Fin 2) : (ovrField k).off n.val 0 = 0x90128 + 0x40 * n.val := by revert n k; decide
theorem ccntField_off (n : Fin 8) (k : Fin 2) : (ccntField k).off n.val 0 = 0x90128 + 0x40 * n.val := by revert n k; decide
theorem cap_apart_new (n : Fin 8) (k : Fin 2) : (capField k).apart n.val 0 (newField k) n.val 0 = true := by revert n k; decide
theorem cap_apart_ovr (n : Fin 8) (k : Fin 2) : (capField k).apart n.val 0 (ovrField k) n.val 0 = true := by revert n k; decide
theorem cap_apart_ccnt (n : Fin 8) (k : Fin 2) : (capField k).apart n.val 0 (ccntField k) n.val 0 = true := by revert n k; decide
theorem cap_apart_cnt (n : Fin 8) (k : Fin 2) : (capField k).apart n.val 0 R.TMR_TC_CNT_CNT n.val 0 = true := by revert n k; decide
theorem ovr_apart_cap (n : Fin 8) (k : Fin 2) : (ovrField k).apart n.val 0 (capField k) n.val 0 = true := by revert n k; decide
theorem ovr_apart_ccnt (n : Fin 8) (k : Fin 2) : (ovrField k).apart n.val 0 (ccntField k) n.val 0 = true := by revert n k; decide
theorem ovr_apart_cnt (n : Fin 8) (k : Fin 2) : (ovrField k).apart n.val 0 R.TMR_TC_CNT_CNT n.val 0 = true := by revert n k; decide
theorem new_apart_cap (n : Fin 8) (k : Fin 2) : (newField k).apart n.val 0 (capField k) n.val 0 = true := by revert n k; decide
theorem new_apart_ovr (n : Fin 8) (k : Fin 2) : (newField k).apart n.val 0 (ovrField k) n.val 0 = true := by revert n k; decide
theorem new_apart_cnt (n : Fin 8) (k : Fin 2) : (newField k).apart n.val 0 R.TMR_TC_CNT_CNT n.val 0 = true := by revert n k; decide
theorem ccnt_apart_cap (n : Fin 8) (k : Fin 2) : (ccntField k).apart n.val 0 (capField k) n.val 0 = true := by revert n k; decide
theorem ccnt_apart_new (n : Fin 8) (k : Fin 2) : (ccntField k).apart n.val 0 (newField k) n.val 0 = true := by revert n k; decide
theorem ccnt_apart_ovr (n : Fin 8) (k : Fin 2) : (ccntField k).apart n.val 0 (ovrField k) n.val 0 = true := by revert n k; decide
theorem ccnt_apart_cnt (n : Fin 8) (k : Fin 2) : (ccntField k).apart n.val 0 R.TMR_TC_CNT_CNT n.val 0 = true := by revert n k; decide

/-- A field that neither the capture value nor the overrun bit lies in. -/
theorem rget_captureKept_apart (m : Map Word) {f : RegField} (hc : (capField k).apart n.val 0 f n.val 0 = true)
    (ho : (ovrField k).apart n.val 0 f n.val 0 = true) : rget (captureKept n k m) f n.val = rget m f n.val := by
  unfold captureKept
  dsimp only
  split
  · rw [rget_rput_apart _ _ ho, rget_rput_apart _ _ hc]
  · exact rget_rput_apart _ _ hc

theorem rget_captureKept_cap (m : Map Word) : rget (captureKept n k m) (capField k) n.val = rget m R.TMR_TC_CNT_CNT n.val := by
  have hlt : rget m R.TMR_TC_CNT_CNT n.val < 2 ^ 32 := bitsOf_lt _ _ _
  have hput : rget (rput m (capField k) (rget m R.TMR_TC_CNT_CNT n.val) n.val) (capField k) n.val = rget m R.TMR_TC_CNT_CNT n.val := by
    rw [rget_rput_same _ _ _ _ _ ((by decide : ∀ k, (capField k).hi < 32) k),
      (by decide : ∀ k, 2 ^ ((capField k).hi + 1 - (capField k).lo) = 2 ^ 32) k, Nat.mod_eq_of_lt hlt]
  unfold captureKept
  dsimp only
  split
  · rw [rget_rput_apart _ _ (ovr_apart_cap n k), hput]
  · exact hput

theorem rget_captureKept_ovr (m : Map Word) :
    rget (captureKept n k m) (ovrField k) n.val = if rget m (newField k) n.val = 1 then 1 else rget m (ovrField k) n.val := by
  unfold captureKept
  dsimp only
  rw [rbit, rget_rput_apart _ _ (cap_apart_new n k)]
  simp only [beq_iff_eq]
  split
  · rw [rget_rput_same _ _ _ _ _ ((by decide : ∀ k, (ovrField k).hi < 32) k),
      (by decide : ∀ k, 2 ^ ((ovrField k).hi + 1 - (ovrField k).lo) = 2) k]
  · exact rget_rput_apart _ _ (cap_apart_ovr n k)

theorem captureRegs_but (n : Fin 8) (k : Fin 2) (m : Map Word) :
    RegsBut [0x90120 + 4 * k.val + 0x40 * n.val, 0x90128 + 0x40 * n.val] m (captureRegs n k m) := by
  have hkept : RegsBut [0x90120 + 4 * k.val + 0x40 * n.val, 0x90128 + 0x40 * n.val] m (captureKept n k m) := by
    have hc := (RegsBut.refl [0x90120 + 4 * k.val + 0x40 * n.val, 0x90128 + 0x40 * n.val] m).rput (f := capField k)
      (v := rget m R.TMR_TC_CNT_CNT n.val) (i := n.val) (j := 0) (by rw [capField_off]; simp)
    unfold captureKept
    dsimp only
    split
    · exact hc.rput (by rw [ovrField_off]; simp)
    · exact hc
  exact (hkept.rput (by rw [newField_off]; simp)).rput (by rw [ccntField_off]; simp)

theorem captured_of_regs {t : State} (h : t.regs = captureRegs n k s.regs) : Captured s t n k := by
  have hr : ∀ f, t.r f n.val = rget (captureRegs n k s.regs) f n.val := fun f => by rw [State.r, h]
  refine ⟨?_, ?_, ?_, ?_, ?_, h ▸ captureRegs_but n k s.regs⟩
  · rw [hr, captureRegs, rget_rput_apart _ _ (ccnt_apart_cap n k), rget_rput_apart _ _ (new_apart_cap n k), rget_captureKept_cap, State.r]
  · rw [hr, captureRegs, rget_rput_apart _ _ (ccnt_apart_new n k), rget_rput_same _ _ _ _ _ ((by decide : ∀ k, (newField k).hi < 32) k),
      (by decide : ∀ k, 2 ^ ((newField k).hi + 1 - (newField k).lo) = 2) k]
  · rw [hr, captureRegs, rget_rput_same _ _ _ _ _ ((by decide : ∀ k, (ccntField k).hi < 32) k),
      (by decide : ∀ k, 2 ^ ((ccntField k).hi + 1 - (ccntField k).lo) = 256) k, Nat.mod_mod,
      rget_captureKept_apart _ (cap_apart_ccnt n k) (ovr_apart_ccnt n k), State.r]
  · rw [hr, captureRegs, rget_rput_apart _ _ (ccnt_apart_ovr n k), rget_rput_apart _ _ (new_apart_ovr n k), rget_captureKept_ovr,
      State.r, State.r]
  · rw [hr, captureRegs, rget_rput_apart _ _ (ccnt_apart_cnt n k), rget_rput_apart _ _ (new_apart_cnt n k),
      rget_captureKept_apart _ (cap_apart_cnt n k) (ovr_apart_cnt n k), State.r]

theorem captureEff_only (n : Fin 8) (k : Fin 2) (s : State) : OnlyChanges [.regs, .tmr] s (captureEff n k.val s) := by
  rw [captureEff_eq]
  simp [onlyChanges_iff, captureNoted]

/-- A trigger that waited is taken from the queue of its channel. -/
def triggerTaken (n : Fin 8) (k : Fin 2) (rest : List Nat) (s : State) : State :=
  { s with tmr := { s.tmr with capDue := s.tmr.capDue.set (capPlace n k) rest } }

theorem execTcCapture_eq {due : Nat} {rest : List Nat} (h4 : s.dom 4 = true)
    (hd : (settleFrames s).tmr.capDue[capPlace n k] = due :: rest) (hc : s.comes due = true) :
    execTcCapture n k s = .next (captureEff n k.val (triggerTaken n k rest ((settleFrames s).at due))) := by
  refine congrArg Host.Outcome.next ((if_pos h4).trans ?_)
  simp only [hd]
  exact if_pos hc

/-! ### Register writes of a timer (R473, R474, R476, R479) -/

theorem unboundWr_free {off : Nat} (eff : State → State) (hl : s.lands (off / 0x10000) = true) (hb : timerBound s.regs n.val = false) :
    unboundWr n.val off eff s = eff (s.order 6) := by
  rw [unboundWr, hostWr_lands _ hl]
  exact if_neg (by rw [State.order_regs, hb]; decide)

theorem unboundWr_bound {off : Nat} (eff : State → State) (hl : s.lands (off / 0x10000) = true) (hb : timerBound s.regs n.val = true) :
    unboundWr n.val off eff s = raiseAccess 9 true off (s.order 6) := by
  rw [unboundWr, hostWr_lands _ hl]
  exact if_pos hb

/-- The registers of a timer lie in block 9. -/
theorem timer_block (n : Fin 8) {a : Nat} (ha : 0x90100 ≤ a) (ha' : a < 0x90140) : (a + 0x40 * n.val) / 0x10000 = 9 := by omega

/-- A capture command with the bit of one channel (R479). -/
theorem tcCapEff_one (k : Fin 2) (s : State) : tcCapEff n (BitVec.ofNat 32 (2 ^ k.val)) s =
    if capTrig s.regs n.val k.val == 1 then captureEff n k.val s else s := by
  rcases Fin.exists_fin_two.1 ⟨k, rfl⟩ with rfl | rfl
  · have h0 : (BitVec.ofNat 32 (2 ^ (0 : Fin 2).val)).getLsbD 1 = false := by decide
    have h1 : (BitVec.ofNat 32 (2 ^ (0 : Fin 2).val)).getLsbD 0 = true := by decide
    unfold tcCapEff
    rw [h0, h1]
    rfl
  · exact congrArg (fun b : Bool => if b then captureEff n 1 s else s) (Bool.true_and _)

/-- A count write is taken at its edge. -/
theorem tcCntEff_only (val : Word) (s : State) : OnlyChanges [.regs, .tmr] (s.past s.tmr.evAt[n]) (tcCntEff n val s) := by
  simp [onlyChanges_iff, tcCntEff, State.w]

/-- Whether a written compare value matches at once (R476). -/
def cmpNow (n : Fin 8) (k : Fin 2) (val : Word) (s : State) : Bool :=
  s.rb (if k = 0 then R.TMR_TC_CTRL_MIP0 else R.TMR_TC_CTRL_MIP1) n.val
    && mipNow val.toNat (s.r R.TMR_TC_CNT_CNT n.val) (s.r R.TMR_TC_TOP_TOP n.val)

/-- A compare value is stored, before a match. -/
def cmpStored (n : Fin 8) (k : Fin 2) (val : Word) (s : State) : State :=
  { s with tmr := { s.tmr with cmpAt := s.tmr.cmpAt.set n (some s.tb) }, regs := rput s.regs (cmpField k) val.toNat n.val }

theorem tcCmpEff_eq (n : Fin 8) (k : Fin 2) (val : Word) (s : State) : tcCmpEff n k.val val s =
    timerMatch n.val (cmpNow n k val s && k == 0) (cmpNow n k val s && k == 1) (cmpStored n k val s) := by
  rcases Fin.exists_fin_two.1 ⟨k, rfl⟩ with rfl | rfl <;> rfl

theorem cmpStored_only (n : Fin 8) (k : Fin 2) (val : Word) (s : State) : OnlyChanges [.regs, .tmr] s (cmpStored n k val s) := by
  simp [onlyChanges_iff, cmpStored]

theorem cmpField_off (n : Fin 8) (k : Fin 2) : (cmpField k).off n.val 0 = 0x90110 + 4 * k.val + 0x40 * n.val := by revert n k; decide

theorem cmpStored_but (n : Fin 8) (k : Fin 2) (val : Word) (s : State) :
    RegsBut [0x90110 + 4 * k.val + 0x40 * n.val] s.regs (cmpStored n k val s).regs :=
  (RegsBut.refl _ _).rput (by rw [cmpField_off]; simp)

theorem cmpStored_r (n : Fin 8) (k : Fin 2) (val : Word) (s : State) : rget (cmpStored n k val s).regs (cmpField k) n.val = val.toNat := by
  refine (rget_rput_same _ _ _ _ _ ((by decide : ∀ k, (cmpField k).hi < 32) k)).trans ?_
  rw [(by decide : ∀ k, 2 ^ ((cmpField k).hi + 1 - (cmpField k).lo) = 2 ^ 32) k, Nat.mod_eq_of_lt val.isLt]

theorem tcCmpEff_only (n : Fin 8) (k : Fin 2) (val : Word) (s : State) : OnlyChanges [.regs, .tmr, .adc] s (tcCmpEff n k.val val s) := by
  rw [tcCmpEff_eq]
  exact ((cmpStored_only n k val s).mono (by decide)).trans ((timerMatch_only _ _ _ _).mono (by decide))

theorem tcCmpEff_regs (n : Fin 8) (k : Fin 2) (val : Word) (s : State) :
    (tcCmpEff n k.val val s).regs = matchFlags n.val (fun c => cmpNow n k val s && k == c) (cmpStored n k val s).regs := by
  rw [tcCmpEff_eq]
  exact timerMatch_regs n.val (fun c => cmpNow n k val s && k == c) _

theorem tcCmpEff_r (n : Fin 8) (k : Fin 2) (val : Word) (s : State) : (tcCmpEff n k.val val s).r (cmpField k) n.val = val.toNat := by
  rw [State.r, tcCmpEff_regs, rget_matchFlags_apart _ _ _
    ((by decide : ∀ n : Fin 8, ∀ k, R.TMR_TC_FLAG_M0.apart n.val 0 (cmpField k) n.val 0 = true) n k)
    ((by decide : ∀ n : Fin 8, ∀ k, R.TMR_TC_FLAG_M1.apart n.val 0 (cmpField k) n.val 0 = true) n k), cmpStored_r]

theorem tcCmpEff_not (h : cmpNow n k val s = false) : tcCmpEff n k.val val s = cmpStored n k val s := by
  rw [tcCmpEff_eq, h]
  exact timerMatch_none _ _

/-- A write to a bound timer is discarded (R473): no timer register changes. -/
theorem raiseAccess_timer (a : Nat) (s : State) {f : RegField} (h : ∀ i : Fin 8, raiseLeaves (f.off i.val 0)) (n : Fin 8) :
    (raiseAccess 9 true a s).r f n.val = s.r f n.val := State.r_congr (raiseWith_regs_leaves _ s (h n))

/-! ### Flag reads (R481, R482) -/

theorem timerRead_flag (n : Fin 8) (s : State) : timerRead (0x90128 + 0x40 * n.val) s = s.past s.tmr.capAt[n] := by
  have hi : (0x90128 + 0x40 * n.val - 0x90100) / 0x40 = n.val := by omega
  have hm : (0x90128 + 0x40 * n.val) % 0x40 = 0x28 := by omega
  refine (dif_pos ⟨by omega, by omega⟩).trans ((if_pos (.inr (.inr hm))).trans ?_)
  simp only [hi]
  rfl

/-- The bits of TMR_TC_FLAG that a read clears are the low four. -/
theorem flag_rc (n : Fin 8) : (fieldsAt (0x90128 + 0x40 * n.val)).map (maskOf fun f => f.acc == .rc) = some 0xF#32
    ∧ resetWord (0x90128 + 0x40 * n.val) = 0 := by revert n; decide

theorem storedWord_flagClear (n : Fin 8) (ev : Option Word) (m : Map Word) :
    storedWord (rcClear m (0x90128 + 0x40 * n.val) ev) (0x90128 + 0x40 * n.val)
      = blend 0xF#32 (ev.getD 0) (storedWord m (0x90128 + 0x40 * n.val)) := by
  obtain ⟨hf, hr⟩ := flag_rc n
  obtain ⟨l, hl, hm⟩ := Option.map_eq_some_iff.1 hf
  simp [rcClear, hl, hm, hr, storedWord]

theorem flagClear_but (n : Fin 8) (ev : Option Word) (m : Map Word) :
    RegsBut [0x90128 + 0x40 * n.val] m (rcClear m (0x90128 + 0x40 * n.val) ev) := by
  unfold rcClear
  split
  · exact .refl _ m
  · exact (RegsBut.refl _ m).mput (by simp)

/-- A one-bit field of TMR_TC_FLAG is its bit of the word stored. -/
theorem rget_flagBit (m : Map Word) {f : RegField} (ho : f.off n.val 0 = 0x90128 + 0x40 * n.val) (hd : f.dflt = 0) (hlo : f.hi = f.lo) :
    rget m f n.val = b2n ((storedWord m (0x90128 + 0x40 * n.val)).getLsbD f.lo) := by
  have hlen : f.lo + 1 - f.lo = 1 := by omega
  rw [rget, ho, hd, storedWord, (flag_rc n).2, bitsOf, hlo, hlen, BitVec.getLsbD, Nat.testBit_eq_decide_div_mod_eq]
  generalize hw : (mread (0 : Word) m (0x90128 + 0x40 * n.val)).toNat / 2 ^ f.lo = w
  rcases Nat.mod_two_eq_zero_or_one w with h | h <;> simp [h, b2n]

theorem execTcFlagRead_eq (ev : Option Word) (hr : s.hostReach = true) (h4 : s.dom 4 = true) :
    execTcFlagRead n ev s = .next (flagReadEff n.val ev (s.order 6)) :=
  congrArg Host.Outcome.next (if_pos (by rw [hr, h4]; rfl))

/-- What a flag read does at its edge. -/
def flagRead (n : Fin 8) (ev : Option Word) (s : State) : State :=
  { s with hif := { s.hif with rd := [storedWord s.regs (0x90128 + 0x40 * n.val)] }, regs := rcClear s.regs (0x90128 + 0x40 * n.val) ev }

theorem flagReadEff_eq (n : Fin 8) (ev : Option Word) (s : State) : flagReadEff n.val ev s = flagRead n ev (s.past s.tmr.capAt[n]) := by
  unfold flagReadEff
  dsimp only
  rw [timerRead_flag]
  rfl

/-- A bit of the flags after a read: of the four that a read clears it is what a coinciding capture left. -/
theorem flagRead_bit (ev : Option Word) (s : State) {f : RegField} (ho : f.off n.val 0 = 0x90128 + 0x40 * n.val) (hd : f.dflt = 0)
    (hlo : f.hi = f.lo) (hlt : f.lo < 32) : (flagRead n ev s).r f n.val =
      b2n (if f.lo < 4 then (ev.getD 0).getLsbD f.lo else (storedWord s.regs (0x90128 + 0x40 * n.val)).getLsbD f.lo) := by
  have hmask : (0xF#32).getLsbD f.lo = decide (f.lo < 4) := by
    have h : ∀ i : Fin 32, (0xF#32).getLsbD i.val = decide (i.val < 4) := by decide
    exact h ⟨f.lo, hlt⟩
  rw [State.r, rget_flagBit _ ho hd hlo]
  refine congrArg b2n ?_
  change (storedWord (rcClear s.regs _ ev) _).getLsbD f.lo = _
  rw [storedWord_flagClear, blend_getLsbD _ _ _ _ hlt, hmask]
  by_cases h : f.lo < 4 <;> simp [h]

theorem newField_lo (k : Fin 2) : (newField k).dflt = 0 ∧ (newField k).hi = (newField k).lo ∧ (newField k).lo = 2 * k.val := by revert k; decide
theorem ovrField_lo (k : Fin 2) : (ovrField k).dflt = 0 ∧ (ovrField k).hi = (ovrField k).lo ∧ (ovrField k).lo = 2 * k.val + 1 := by
  revert k; decide

theorem flagRead_new (ev : Option Word) (s : State) (n : Fin 8) (k : Fin 2) :
    (flagRead n ev s).r (newField k) n.val = b2n ((ev.getD 0).getLsbD (2 * k.val)) := by
  obtain ⟨hd, hh, hl⟩ := newField_lo k
  rw [flagRead_bit ev s (newField_off n k) hd hh (by omega), hl, if_pos (by omega)]

theorem flagRead_ovr (ev : Option Word) (s : State) (n : Fin 8) (k : Fin 2) :
    (flagRead n ev s).r (ovrField k) n.val = b2n ((ev.getD 0).getLsbD (2 * k.val + 1)) := by
  obtain ⟨hd, hh, hl⟩ := ovrField_lo k
  rw [flagRead_bit ev s (ovrField_off n k) hd hh (by omega), hl, if_pos (by omega)]

theorem flagRead_ovf (ev : Option Word) (s : State) (n : Fin 8) :
    (flagRead n ev s).r R.TMR_TC_FLAG_OVF n.val = s.r R.TMR_TC_FLAG_OVF n.val := by
  have ho : R.TMR_TC_FLAG_OVF.off n.val 0 = 0x90128 + 0x40 * n.val := by revert n; decide
  rw [flagRead_bit ev s ho rfl rfl (by decide), if_neg (by decide)]
  exact (rget_flagBit s.regs ho rfl rfl).symm

end Sys2Proof.Machine
end

section
/-! O52: the timers. -/

namespace Sys2Proof.Machine

variable {s : State} {n : Fin 8}

theorem eventTaken_acc (n : Fin 8) (acc : Nat) (s : State) : (eventTaken n acc s).tmr.acc[n] = BitVec.ofNat 32 acc := by
  simp [eventTaken]

theorem eventTaken_evAt (n : Fin 8) (acc : Nat) (s : State) : (eventTaken n acc s).tmr.evAt[n] = some s.tb := by simp [eventTaken]

theorem execTcCmpWrite_eq {k : Fin 2} (val : Word) (hl : s.lands 9 = true) (hb : k = 1 ∨ timerBound s.regs n.val = false) :
    execTcCmpWrite n k val s = .next (tcCmpEff n k.val val (s.order 6)) := by
  have hblk : ∀ a, 0x90100 ≤ a → a < 0x90140 → s.lands ((a + 0x40 * n.val) / 0x10000) = true := fun a ha ha' => by
    rw [timer_block n ha ha']
    exact hl
  refine congrArg Host.Outcome.next ?_
  rcases Fin.exists_fin_two.1 ⟨k, rfl⟩ with rfl | rfl
  · exact unboundWr_free (tcCmpEff n 0 val) (hblk 0x90110 (by decide) (by decide)) (hb.resolve_left (by decide))
  · exact hostWr_lands (tcCmpEff n 1 val) (hblk 0x90114 (by decide) (by decide))

/-- A source event that passes the prescaler and is not lost steps the count. -/
theorem timerStepped (n : Fin 8) (acc : Nat) (w : State) :
    let t := timerStepEff n.val (eventTaken n acc w)
    OnlyChanges [.tmr, .adc, .regs] w t ∧ t.tmr.evAt[n] = some w.tb ∧ t.tmr.acc[n] = BitVec.ofNat 32 acc
      ∧ t.r R.TMR_TC_CNT_CNT n.val = stepCount w n.val
      ∧ (w.r R.TMR_TC_TOP_TOP n.val ≤ w.r R.TMR_TC_CNT_CNT n.val → t.r R.TMR_TC_FLAG_OVF n.val = 1)
      ∧ (∀ k : Fin 2, t.r (matchField k) n.val = if stepCount w n.val = w.r (cmpField k) n.val then 1 else w.r (matchField k) n.val)
      ∧ RegsBut [0x9010C + 0x40 * n.val, 0x90128 + 0x40 * n.val] w.regs t.regs := by
  intro t
  have hregs : t.regs = matchFlags n.val (stepHits w n.val) (stepRegs w n.val) := timerStepEff_regs n.val _
  have hr : ∀ f, t.r f n.val = rget (matchFlags n.val (stepHits w n.val) (stepRegs w n.val)) f n.val := fun f => by rw [State.r, hregs]
  have hk : KeepsCounts (eventTaken n acc w).tmr t.tmr := timerStepEff_keepsCounts n.val _
  refine ⟨((eventTaken_only n acc w).mono (by decide)).trans (timerStepEff_only n.val _), ?_, ?_, ?_, fun h => ?_, fun k => ?_, ?_⟩
  · rw [hk.evAt]
    exact eventTaken_evAt n acc w
  · rw [hk.acc]
    exact eventTaken_acc n acc w
  · rw [hr, rget_matchFlags_apart _ _ _ ((by decide : ∀ n : Fin 8, R.TMR_TC_FLAG_M0.apart n.val 0 R.TMR_TC_CNT_CNT n.val 0 = true) n)
      ((by decide : ∀ n : Fin 8, R.TMR_TC_FLAG_M1.apart n.val 0 R.TMR_TC_CNT_CNT n.val 0 = true) n), rget_stepRegs_cnt]
  · rw [hr, rget_matchFlags_apart _ _ _ ((by decide : ∀ n : Fin 8, R.TMR_TC_FLAG_M0.apart n.val 0 R.TMR_TC_FLAG_OVF n.val 0 = true) n)
      ((by decide : ∀ n : Fin 8, R.TMR_TC_FLAG_M1.apart n.val 0 R.TMR_TC_FLAG_OVF n.val 0 = true) n), rget_stepRegs_ovf _ _ h]
  · rw [hr, rget_matchFlags, rget_stepRegs_match]
    simp only [stepHits, beq_iff_eq]
  · rw [hregs]
    refine (stepRegs_but w n).trans fun o ho => matchFlags_but n _ _ o fun h => ho ?_
    rw [List.mem_singleton.1 h]
    exact List.mem_cons_of_mem _ List.mem_cons_self

/-- The device at the edge of a happening, the frames that have come taken. -/
def settledAt (due : Nat) (s : State) : State := (settleFrames s).at due

theorem settledAt_only (due : Nat) (s : State) : OnlyChanges [.tmr] (s.at due) (settledAt due s) := settleFrames_only (s.at due)

theorem settledAt_r (due : Nat) (s : State) (f : RegField) (i : Nat) : (settledAt due s).r f i = s.r f i := rfl

theorem settledAt_acc (due : Nat) (s : State) (n : Fin 8) : (settledAt due s).tmr.acc[n] = s.tmr.acc[n] :=
  congrArg (fun v : Vector (BitVec 32) 8 => v[n]) (settle_keepsCounts s.regs s.tmr).acc

theorem settledAt_cntAt (due : Nat) (s : State) (n : Fin 8) : (settledAt due s).tmr.cntAt[n] = s.tmr.cntAt[n] :=
  congrArg (fun v : Vector (Option Nat) 8 => v[n]) (settle_keepsCounts s.regs s.tmr).cntAt

theorem eventTaken_at_only (n : Fin 8) (acc due : Nat) (s : State) : OnlyChanges [.tmr] (s.at due) (eventTaken n acc (settledAt due s)) :=
  (settledAt_only due s).trans (eventTaken_only n acc _)

/-- A write of a bound timer is refused with TMR.ACCESS, and its registers keep their values (R473). -/
theorem timerRefused (a : Nat) (h : s.blockUp 9 = true) :
    OnlyChanges raiseParts s (raiseAccess 9 true a s) ∧ (raiseAccess 9 true a s).raised S.TMR_ACCESS = true
      ∧ (raiseAccess 9 true a s).r R.TMR_TC_CNT_CNT n.val = s.r R.TMR_TC_CNT_CNT n.val
      ∧ (raiseAccess 9 true a s).r R.TMR_TC_CMP0_CMP n.val = s.r R.TMR_TC_CMP0_CMP n.val
      ∧ ∀ k, (raiseAccess 9 true a s).r (capField k) n.val = s.r (capField k) n.val :=
  ⟨raiseAccess_only _ _ _ _, raised_raiseAccess h, raiseAccess_timer a s (by unfold raiseLeaves; decide) n,
    raiseAccess_timer a s (by unfold raiseLeaves; decide) n,
    fun k => raiseAccess_timer a s ((by unfold raiseLeaves; decide : ∀ k, ∀ i : Fin 8, raiseLeaves ((capField k).off i.val 0)) k) n⟩

/-- Settles O52: a source event by `timerStepped`, writes and captures by what they do once they land, and the flag read by the
word that it leaves. -/
theorem timerCommands : Obligations.TimerCommands := by
  rintro s u n h4 rfl
  refine ⟨fun v w due div acc hv hen hdue hcomes hw hdiv hacc => ?_, fun val hl hb => ⟨?_, fun k ht => ?_, fun k ht => ?_⟩,
    fun val k hl hb => ?_, fun val c hl hb hc => ?_, fun k due rest hd hc => ?_, fun hreach ev => ?_⟩
  · subst hv hw
    have hexec : exec (.timerStep n) s = .next (timerEvent n (settledAt due s)) := execTimerStep_eq h4 hen hdue hcomes
    have hacc' : (settledAt due s).tmr.acc[n].toNat + 0x10000 = acc := by rw [settledAt_acc, hacc]
    have hdiv' : timerDiv (settledAt due s) n = div := hdiv.symm
    have hevt : ∀ a, (eventTaken n a (settledAt due s)).tmr.evAt[n] = some (s.at due).tb := fun a => eventTaken_evAt n a _
    rcases Nat.lt_or_ge acc div with hlt | hge
    · have heff : timerEvent n (settledAt due s) = eventTaken n acc (settledAt due s) :=
        (timerEvent_miss (by rw [hacc', hdiv']; exact hlt)).trans (by rw [hacc'])
      refine ⟨_, hexec.trans (congrArg _ heff), (eventTaken_at_only n acc due s).mono (by decide), hevt _,
        fun _ => ⟨eventTaken_at_only n acc due s, eventTaken_acc _ _ _⟩, ?_, ?_, ?_⟩ <;>
      exact fun h => absurd h (Nat.not_le.2 hlt)
    · have heff := timerEvent_hit (n := n) (s := settledAt due s) (by rw [hacc', hdiv']; exact hge)
      rw [hacc', hdiv', settledAt_cntAt] at heff
      by_cases hc : s.tmr.cntAt[n] = some (s.at due).tb
      · exact ⟨_, hexec.trans (congrArg _ (heff.trans (if_pos hc))), (eventTaken_at_only n _ due s).mono (by decide), hevt _,
          fun h => absurd h (Nat.not_lt.2 hge), fun _ => eventTaken_acc _ _ _, fun _ _ => eventTaken_at_only n _ due s,
          fun _ h => absurd hc h⟩
      · obtain ⟨honly, hev, ha, hcnt, hovf, hmatch, hbut⟩ := timerStepped n (acc - div) (settledAt due s)
        refine ⟨_, hexec.trans (congrArg _ (heff.trans (if_neg hc))), ((settledAt_only due s).mono (by decide)).trans honly, hev,
          fun h => absurd h (Nat.not_lt.2 hge), fun _ => ha, fun _ h => absurd h hc, fun _ _ => ⟨hcnt, hovf, fun k => ?_, hbut⟩⟩
        rw [hmatch k, hcnt]
        rfl
  · refine ⟨_, congrArg Host.Outcome.next (unboundWr_free (tcCntEff n val) ?_ hb), tcCntEff_only val _, ?_, rfl, ?_⟩
    · rw [timer_block n (by decide) (by decide)]
      exact hl
    · refine (State.r_w_same (by decide)).trans (Nat.mod_eq_of_lt ?_)
      exact val.isLt
    · exact (RegsBut.refl _ _).rput ((by decide : ∀ n : Fin 8, R.TMR_TC_CNT_CNT.off n.val 0 ∈ [0x9010C + 0x40 * n.val]) n)
  · have hblk : s.lands ((0x9011C + 0x40 * n.val) / 0x10000) = true := by
      rw [timer_block n (by decide) (by decide)]
      exact hl
    have heff : tcCapEff n (BitVec.ofNat 32 (2 ^ k.val)) (s.order 6) = captureEff n k.val (s.order 6) :=
      (tcCapEff_one k _).trans (if_pos (beq_iff_eq.2 ht))
    refine ⟨_, congrArg Host.Outcome.next ((unboundWr_free _ hblk hb).trans heff), captureEff_only _ _ _, ?_, ?_⟩
    · rw [captureEff_eq]
      exact captured_of_regs rfl
    · rw [captureEff_eq]
      rfl
  · have hblk : s.lands ((0x9011C + 0x40 * n.val) / 0x10000) = true := by
      rw [timer_block n (by decide) (by decide)]
      exact hl
    have heff : tcCapEff n (BitVec.ofNat 32 (2 ^ k.val)) (s.order 6) = s.order 6 :=
      (tcCapEff_one k _).trans (if_neg (by rw [beq_iff_eq]; exact ht))
    exact congrArg Host.Outcome.next ((unboundWr_free _ hblk hb).trans heff)
  · have hexec : exec (.tcCmpWrite n k val) s = .next (tcCmpEff n k.val val (s.order 6)) := execTcCmpWrite_eq val hl hb
    have hcmpAt : ∀ b c, (timerMatch n.val b c (cmpStored n k val (s.order 6))).tmr.cmpAt[n] = some (s.order 6).tb := fun b c => by
      rw [(timerMatch_keepsCounts n.val b c _).cmpAt]
      simp [cmpStored]
    refine ⟨_, hexec, tcCmpEff_only n k val _, tcCmpEff_r n k val _, ?_, fun hnow => ⟨?_, ?_⟩, fun hnow => ?_⟩
    · rw [tcCmpEff_eq]
      exact hcmpAt _ _
    · have hn : cmpNow n k val (s.order 6) = true := Bool.and_eq_true_iff.2 hnow
      rw [State.r, tcCmpEff_regs, rget_matchFlags, hn, beq_self_eq_true]
      rfl
    · rw [tcCmpEff_regs]
      refine RegsBut.trans (fun o ho => cmpStored_but n k val (s.order 6) o fun h => ho ?_)
        (fun o ho => matchFlags_but n _ _ o fun h => ho ?_)
      · rw [List.mem_singleton.1 h]
        exact List.mem_cons_self
      · rw [List.mem_singleton.1 h]
        exact List.mem_cons_of_mem _ List.mem_cons_self
    · have hn : cmpNow n k val (s.order 6) = false := Bool.eq_false_iff.2 fun h => hnow (Bool.and_eq_true_iff.1 h)
      rw [tcCmpEff_not hn]
      exact ⟨rfl, rfl, cmpStored_but n k val (s.order 6)⟩
  · have hup : (s.order 6).blockUp 9 = true := State.lands_blockUp hl
    have hblk : ∀ a, 0x90100 ≤ a → a < 0x90140 → s.lands ((a + 0x40 * n.val) / 0x10000) = true := fun a ha ha' => by
      rw [timer_block n ha ha']
      exact hl
    rcases hc with rfl | rfl | rfl
    · exact ⟨_, congrArg Host.Outcome.next (unboundWr_bound _ (hblk 0x9010C (by decide) (by decide)) hb), timerRefused _ hup⟩
    · exact ⟨_, congrArg Host.Outcome.next (unboundWr_bound _ (hblk 0x90110 (by decide) (by decide)) hb), timerRefused _ hup⟩
    · exact ⟨_, congrArg Host.Outcome.next (unboundWr_bound _ (hblk 0x9011C (by decide) (by decide)) hb), timerRefused _ hup⟩
  · refine ⟨_, execTcCapture_eq h4 hd hc, ?_, ?_, ?_, ?_⟩
    · refine (((settledAt_only due s).mono (by decide)).trans ?_).trans (captureEff_only n k _)
      simp [onlyChanges_iff, triggerTaken, settledAt]
    · rw [captureEff_eq]
      simp [captureNoted, triggerTaken]
    · rw [captureEff_eq]
      simp [captureNoted, triggerTaken]
    · rw [captureEff_eq]
      exact captured_of_regs rfl
  · refine ⟨_, (execTcFlagRead_eq ev hreach h4).trans (congrArg _ (flagReadEff_eq n ev _)), ?_, rfl, fun k => ⟨fun he => ?_, fun w he => ?_⟩,
      flagRead_ovf ev _ n, flagClear_but n ev _⟩
    · simp [onlyChanges_iff, flagRead]
    · rw [flagRead_new, flagRead_ovr, he]
      exact ⟨by simp [b2n], by simp [b2n]⟩
    · rw [flagRead_new, flagRead_ovr, he]
      exact ⟨rfl, rfl⟩

end Sys2Proof.Machine
end

section
/-! Triggers of the converters (R447-R450, R454, R461). -/

namespace Sys2Proof.Machine

variable {s : State} {c : Fin 2}

theorem State.conv_self (s : State) (c : Fin 2) (f : Conv → Conv) : (s.withConv c f).adc.conv[c] = f s.adc.conv[c] := vmod_self _ _ _

theorem State.conv_other (s : State) (c : Fin 2) (f : Conv → Conv) : (s.withConv c f).adc.conv[1 - c] = s.adc.conv[1 - c] :=
  vmod_other _ (other_side_ne c) _

/-! ### What bringing a converter up to the present leaves (R445) -/

/-- Two states of a converter differ at most in what its sequencer has sampled. -/
structure KeepsConv (v v' : Conv) : Prop where
  coef : v'.coef = v.coef
  halted : v'.halted = v.halted
  fails : v'.fails = v.fails
  cal : v'.cal = v.cal
  inj : v'.inj = v.inj
  held : v'.held = v.held

theorem KeepsConv.refl (v : Conv) : KeepsConv v v := ⟨rfl, rfl, rfl, rfl, rfl, rfl⟩

theorem KeepsConv.trans {v v' v'' : Conv} (h : KeepsConv v v') (h' : KeepsConv v' v'') : KeepsConv v v'' :=
  ⟨h'.coef.trans h.coef, h'.halted.trans h.halted, h'.fails.trans h.fails, h'.cal.trans h.cal, h'.inj.trans h.inj, h'.held.trans h.held⟩

theorem roll1_keepsConv (m : Map Word) (c : Nat) (hold : Bool) (now : Nat) (v : Conv) : KeepsConv v (v.roll1 m c hold now) := by
  unfold Conv.roll1
  split
  · exact .refl v
  · split
    · exact ⟨rfl, rfl, rfl, rfl, rfl, rfl⟩
    · dsimp only
      split
      · exact .refl v
      · exact ⟨rfl, rfl, rfl, rfl, rfl, rfl⟩

theorem roll_keepsConv (m : Map Word) (c : Nat) (hold : Bool) (now : Nat) (v : Conv) : KeepsConv v (v.roll m c hold now) := by
  unfold Conv.roll
  refine List.foldlRecOn (motive := fun v' => KeepsConv v v') _ _ (.refl v) fun v' h _ _ => h.trans (roll1_keepsConv _ _ _ _ _)

theorem adcRoll_keepsConv (c : Fin 2) (s : State) : KeepsConv s.adc.conv[c] (adcRoll c s).adc.conv[c] := by
  rw [adcRoll, State.conv_self]
  exact roll_keepsConv _ _ _ _ _

theorem adcRoll_other (c : Fin 2) (s : State) : (adcRoll c s).adc.conv[1 - c] = s.adc.conv[1 - c] := State.conv_other _ _ _

theorem other_other (c : Fin 2) : 1 - (1 - c) = c := by revert c; decide

theorem adcRoll_of_other (c : Fin 2) (s : State) : (adcRoll (1 - c) s).adc.conv[c] = s.adc.conv[c] := by
  have h := adcRoll_other (1 - c) s
  simp only [other_other] at h
  exact h

theorem adcRoll_calq (c : Fin 2) (s : State) : (adcRoll c s).adc.calq = s.adc.calq := rfl

/-! ### A trigger that is ignored (R447, R450) -/

theorem adcIgnore_only (c : Fin 2) (s : State) : OnlyChanges raiseParts s (adcIgnore c s) := by
  refine .trans ?_ (raise_only _ _ _)
  simp [onlyChanges_iff, State.add, raiseParts]

theorem adcIgnore_raised (h : s.dom 8 = true) : (adcIgnore c s).raised S.ADC_TRIG_OVR = true := raised_raise _ _ h

theorem adcIgnore_ovr (c : Fin 2) (s : State) : (adcIgnore c s).r (adcOvr c) = (s.add (adcOvr c) 1).r (adcOvr c) :=
  State.r_congr (raise_regs_leaves _ _ _ ((by unfold raiseLeaves; decide : ∀ c, raiseLeaves ((adcOvr c).off 0 0)) c))

/-! ### The injected group (R448-R450, R454) -/

theorem injTrigger_silent (h : s.adc.conv[c].coef = none ∨ s.adc.conv[c].halted = true ∨ s.r R.ADC_INJ_CFG_LEN c.val = 0) :
    injTrigger c s = s := by
  refine if_pos ?_
  rcases h with h | h | h <;> simp only [h] <;> simp

theorem injTrigger_heard (hc : s.adc.conv[c].coef.isSome = true) (hh : s.adc.conv[c].halted = false) (hl : s.r R.ADC_INJ_CFG_LEN c.val ≠ 0) :
    injTrigger c s =
      if s.adc.conv[c].inj || s.adc.conv[c].held then adcIgnore c s
      else if s.adc.conv[c].cal then s.withConv c fun v => { v with held := true }
      else (adcRoll c s).withConv c fun v => { v with inj := true, injPos := 0, free := max v.free (convEdge s.tb) } := by
  refine if_neg ?_
  have hn : s.adc.conv[c].coef.isNone = false := by rw [Option.isNone_eq_false_iff]; exact hc
  rw [hn, hh, beq_false_of_ne hl]
  decide

/-- A trigger that the converter can take starts its group. -/
theorem injTrigger_ready (h : InjReady s c) :
    injTrigger c s = { s with adc := { s.adc with conv := s.adc.conv.set c (injStarted s c) } } := by
  obtain ⟨hc, hh, hcal, hi, hd, hl⟩ := h
  rw [injTrigger_heard hc hh hl, hi, hd, hcal]
  refine (if_neg (by decide)).trans ((if_neg (by decide)).trans ?_)
  simp [State.withConv, adcRoll, injStarted, vmod]

theorem injReady_congr {t : State} (h : InjReady s c) (hconv : t.adc.conv = s.adc.conv) (hregs : t.regs = s.regs) : InjReady t c := by
  unfold InjReady State.r at *
  rw [hconv, hregs]
  exact h

/-- A match that named the group is taken. -/
def injMatched (c : Fin 2) (s : State) : State := { s with adc := { s.adc with injDue := putBit s.adc.injDue c.val false } }

theorem injMatched_only (c : Fin 2) (s : State) : OnlyChanges [.adc] s (injMatched c s) := by simp [onlyChanges_iff, injMatched]

theorem injStarted_matched (c : Fin 2) (s : State) : injStarted (injMatched c s) c = injStarted s c := rfl

theorem execAdcInjTrigger_eq (h8 : s.dom 8 = true) (hd : s.adc.injDue.getLsbD c.val = true) :
    execAdcInjTrigger c s = .next (injTrigger c (injMatched c s)) :=
  congrArg Host.Outcome.next ((if_pos h8).trans (if_pos hd))

theorem injSet_only (v : Vector Conv 2) (s : State) : OnlyChanges [.adc] s { s with adc := { s.adc with conv := v } } := by
  simp [onlyChanges_iff]

/-- A command that starts the groups of one converter (R448). -/
theorem injGoEff_one (c : Fin 2) (s : State) : injGoEff (BitVec.ofNat 32 (2 ^ c.val)) s =
    if s.r R.ADC_INJ_CFG_TRIG c.val == 1 then injTrigger c s else s := by
  rcases Fin.exists_fin_two.1 ⟨c, rfl⟩ with rfl | rfl
  · have h0 : (BitVec.ofNat 32 (2 ^ (0 : Fin 2).val)).getLsbD 1 = false := by decide
    have h1 : (BitVec.ofNat 32 (2 ^ (0 : Fin 2).val)).getLsbD 0 = true := by decide
    unfold injGoEff
    rw [h0, h1]
    rfl
  · have h0 : (BitVec.ofNat 32 (2 ^ (1 : Fin 2).val)).getLsbD 0 = false := by decide
    have h1 : (BitVec.ofNat 32 (2 ^ (1 : Fin 2).val)).getLsbD 1 = true := by decide
    unfold injGoEff
    rw [h0, h1]
    rfl

theorem execAdcInjGo_eq (hl : s.lands 8 = true) : execAdcInjGo (BitVec.ofNat 32 (2 ^ c.val)) s = .next
    (if s.r R.ADC_INJ_CFG_TRIG c.val == 1 then injTrigger c (s.order 6) else s.order 6) :=
  congrArg Host.Outcome.next ((hostWr_lands _ hl).trans (injGoEff_one c _))

theorem execAdcScanTrigger_eq (lanes : BitVec 3) (h8 : s.dom 8 = true) : execAdcScanTrigger c lanes s = .next
    (if s.r R.ADC_INJ_CFG_TRIG c.val == 2 && s.lan.run && decide (2 ≤ popcount (lanes &&& s.lan.svc)) then
      injTrigger c (s.at (s.lan.boundary + s.r R.ADC_INJ_CFG_OFS_US c.val * us)) else s) := by
  rw [Nat.mul_comm (s.r R.ADC_INJ_CFG_OFS_US c.val) us]
  exact congrArg Host.Outcome.next (if_pos h8)

/-! ### A pass of the regular sequence (R447) -/

/-- A match that named the sequence is taken. -/
def regMatched (c : Fin 2) (s : State) : State := { s with adc := { s.adc with regDue := putBit s.adc.regDue c.val false } }

theorem regMatched_only (c : Fin 2) (s : State) : OnlyChanges [.adc] s (regMatched c s) := by simp [onlyChanges_iff, regMatched]

theorem execAdcRegTrigger_eq (h8 : s.dom 8 = true) (hd : s.adc.regDue.getLsbD c.val = true) :
    execAdcRegTrigger c s = .next (regTrigger c (regMatched c s)) :=
  congrArg Host.Outcome.next ((if_pos h8).trans (if_pos hd))

theorem regTrigger_heard (hc : s.adc.conv[c].coef.isSome = true) (hh : s.adc.conv[c].halted = false) (hl : s.r R.ADC_SEQ_CFG_LEN c.val ≠ 0) :
    regTrigger c s = if s.adc.conv[c].passBusy then adcIgnore c s
      else (adcRoll c s).withConv c fun v =>
        { v with pos := 0, pass := s.r R.ADC_SEQ_CFG_LEN c.val, passBusy := true, free := max v.free (convEdge s.tb) } := by
  refine if_neg ?_
  have hn : s.adc.conv[c].coef.isNone = false := by rw [Option.isNone_eq_false_iff]; exact hc
  rw [hn, hh, beq_false_of_ne hl]
  decide

/-- A pass of the regular sequence starts. -/
def passStarted (c : Fin 2) (s : State) : State := (adcRoll c s).withConv c fun v =>
  { v with pos := 0, pass := s.r R.ADC_SEQ_CFG_LEN c.val, passBusy := true, free := max v.free (convEdge s.tb) }

theorem passStarted_conv (c : Fin 2) (s : State) : (passStarted c s).adc.conv[c] = { (adcRoll c s).adc.conv[c] with
    pos := 0, pass := s.r R.ADC_SEQ_CFG_LEN c.val, passBusy := true, free := max (adcRoll c s).adc.conv[c].free (convEdge s.tb) } :=
  State.conv_self _ _ _

theorem passStarted_other (c : Fin 2) (s : State) : (passStarted c s).adc.conv[1 - c] = s.adc.conv[1 - c] :=
  (State.conv_other _ _ _).trans (adcRoll_other c s)

theorem passStarted_only (c : Fin 2) (s : State) : OnlyChanges [.adc] s (passStarted c s) := (adcRoll_only c s).trans (State.withConv_only _ _ _)

theorem le_convEdge (t : Nat) : t ≤ convEdge t := by unfold convEdge; omega

/-- The clauses of O51 on the triggers of the injected group by a match. -/
theorem injTriggers (h8 : s.dom 8 = true) (hdue : s.adc.injDue.getLsbD c.val = true) :
    (InjReady s c → ∃ t, exec (.adcInjTrigger c) s = .next t ∧ OnlyChanges [.adc] s t
      ∧ t.adc = { s.adc with conv := s.adc.conv.set c (injStarted s c), injDue := putBit s.adc.injDue c.val false })
    ∧ ((s.adc.conv[c].coef = none ∨ s.adc.conv[c].halted = true ∨ s.r R.ADC_INJ_CFG_LEN c.val = 0) →
      exec (.adcInjTrigger c) s = .next { s with adc := { s.adc with injDue := putBit s.adc.injDue c.val false } })
    ∧ (s.adc.conv[c].coef.isSome = true → s.adc.conv[c].halted = false → s.r R.ADC_INJ_CFG_LEN c.val ≠ 0 →
      (s.adc.conv[c].inj = false → s.adc.conv[c].held = false → s.adc.conv[c].cal = true →
        ∃ t, exec (.adcInjTrigger c) s = .next t ∧ OnlyChanges [.adc] s t ∧ t.adc.conv[c] = { s.adc.conv[c] with held := true })
      ∧ ((s.adc.conv[c].inj = true ∨ s.adc.conv[c].held = true) →
        ∃ t, exec (.adcInjTrigger c) s = .next t ∧ OnlyChanges (.adc :: raiseParts) s t ∧ t.adc.conv = s.adc.conv
          ∧ t.raised S.ADC_TRIG_OVR = true ∧ t.r (adcOvr c) = (s.add (adcOvr c) 1).r (adcOvr c))) := by
  have hexec : exec (.adcInjTrigger c) s = .next (injTrigger c (injMatched c s)) := execAdcInjTrigger_eq h8 hdue
  refine ⟨fun h => ?_, fun h => hexec.trans (congrArg _ (injTrigger_silent (s := injMatched c s) h)), fun hc hh hl => ?_⟩
  · have hr : InjReady (injMatched c s) c := injReady_congr h rfl rfl
    exact ⟨_, hexec.trans (congrArg _ (injTrigger_ready hr)), (injMatched_only c s).trans (injSet_only _ _), rfl⟩
  · have heff := injTrigger_heard (s := injMatched c s) (c := c) hc hh hl
    refine ⟨fun hi hd hcal => ?_, fun hb => ?_⟩
    · have hnot : ¬((s.adc.conv[c].inj || s.adc.conv[c].held) = true) := by rw [hi, hd]; decide
      exact ⟨_, hexec.trans (congrArg _ (heff.trans ((if_neg hnot).trans (if_pos hcal)))),
        (injMatched_only c s).trans (State.withConv_only _ _ _), State.conv_self _ _ _⟩
    · have hpos : (s.adc.conv[c].inj || s.adc.conv[c].held) = true := by rcases hb with h | h <;> simp only [h] <;> simp
      refine ⟨_, hexec.trans (congrArg _ (heff.trans (if_pos hpos))),
        ((injMatched_only c s).mono (by decide)).trans ((adcIgnore_only c _).mono (by decide)), ?_, adcIgnore_raised h8, adcIgnore_ovr c _⟩
      rw [adcIgnore_only c (injMatched c s) .adc (by decide)]
      rfl

/-- The clauses of O51 on the triggers of a regular pass. -/
theorem regTriggers (h8 : s.dom 8 = true) (hdue : s.adc.regDue.getLsbD c.val = true) (hc : s.adc.conv[c].coef.isSome = true)
    (hh : s.adc.conv[c].halted = false) (hl : s.r R.ADC_SEQ_CFG_LEN c.val ≠ 0) :
    (s.adc.conv[c].passBusy = false → ∃ t, exec (.adcRegTrigger c) s = .next t ∧ OnlyChanges [.adc] s t
      ∧ t.adc.conv[c].passBusy = true ∧ t.adc.conv[c].pos = 0 ∧ t.adc.conv[c].pass = s.r R.ADC_SEQ_CFG_LEN c.val
      ∧ s.tb ≤ t.adc.conv[c].free ∧ t.adc.conv[1 - c] = s.adc.conv[1 - c]
      ∧ t.adc.regDue = putBit s.adc.regDue c.val false)
    ∧ (s.adc.conv[c].passBusy = true → ∃ t, exec (.adcRegTrigger c) s = .next t ∧ OnlyChanges (.adc :: raiseParts) s t
      ∧ t.adc.conv = s.adc.conv ∧ t.raised S.ADC_TRIG_OVR = true ∧ t.r (adcOvr c) = (s.add (adcOvr c) 1).r (adcOvr c)) := by
  have hexec : exec (.adcRegTrigger c) s = .next (regTrigger c (regMatched c s)) := execAdcRegTrigger_eq h8 hdue
  have heff := regTrigger_heard (s := regMatched c s) (c := c) hc hh hl
  refine ⟨fun hp => ?_, fun hp => ?_⟩
  · have hnot : ¬(s.adc.conv[c].passBusy = true) := by rw [hp]; decide
    have hv := passStarted_conv c (regMatched c s)
    refine ⟨passStarted c (regMatched c s), hexec.trans (congrArg _ (heff.trans (if_neg hnot))),
      (regMatched_only c s).trans (passStarted_only _ _), ?_, ?_, ?_, ?_, passStarted_other c _, rfl⟩
    · rw [hv]
    · rw [hv]
    · rw [hv]
      rfl
    · rw [hv]
      exact (le_convEdge s.tb).trans (Nat.le_max_right _ _)
  · refine ⟨_, hexec.trans (congrArg _ (heff.trans (if_pos hp))),
      ((regMatched_only c s).mono (by decide)).trans ((adcIgnore_only c _).mono (by decide)), ?_, adcIgnore_raised h8, adcIgnore_ovr c _⟩
    rw [adcIgnore_only c (regMatched c s) .adc (by decide)]
    rfl

end Sys2Proof.Machine
end

section
/-! Results and calibrations of the converters (R443, R445, R451-R457, R461). -/

namespace Sys2Proof.Machine

variable {s : State} {c : Fin 2}

/-! ### A result (R445, R457) -/

/-- The registers of a result. -/
def resultRegs (c : Fin 2) (e : Sampled) (value cnt : Nat) (m : Map Word) : Map Word :=
  rput (rput (rput (rput m R.ADC_RES_VALID 1 c.val e.src.toNat) R.ADC_RES_INJ (b2n e.inj) c.val e.src.toNat) R.ADC_RES_CNT cnt c.val e.src.toNat)
    R.ADC_RES_VALUE value c.val e.src.toNat

/-- The oldest entry leaves its converter. -/
def entryDone (c : Fin 2) (rest : List Sampled) (injEnd passEnd : Bool) (s : State) : State :=
  s.withConv c fun v => { v with pipe := rest, inj := v.inj && !injEnd, passBusy := v.passBusy && !passEnd }

/-- Key of a source's result. -/
def resKey (c : Fin 2) (e : Sampled) : Nat := 32 * c.val + e.src.toNat

/-- The count of a source's results after one more. -/
def resTally (old : Option AdcRes) : BitVec 8 := match old with | some o => o.cnt + 1 | none => 1

/-- A result is kept with its stamp, and the one before it. -/
def resultKept (c : Fin 2) (e : Sampled) (value : BitVec 14) (a : Adc) : Adc :=
  { a with res := mput none a.res (resKey c e) (some ⟨value, e.due, e.inj, resTally (mread none a.res (resKey c e))⟩)
           prev := mput none a.prev (resKey c e) (mread none a.res (resKey c e)) }

/-- The telemetry keeps the highest junction temperature (R145). -/
def warmest (t : State) : State := { t with evs := { t.evs with telTj := BitVec.ofNat 8 (max t.evs.telTj.toNat t.junction) } }

/-- A result is kept, counted in the telemetry, and shown. -/
def resultStored (c : Fin 2) (e : Sampled) (value : BitVec 14) (t : State) : State :=
  let u := warmest { t with adc := resultKept c e value t.adc }
  { u with regs := resultRegs c e value.toNat (resTally (mread none t.adc.res (resKey c e))).toNat t.regs }

theorem adcResultEff_eq {e : Sampled} {rest : List Sampled} (v : Int) (h : (adcRoll c s).adc.conv[c].pipe = e :: rest) :
    adcResultEff c v s = resultStored c e (BitVec.ofNat 14 (min v.toNat 16383))
      (entryDone c rest (e.inj && e.entry + 1 == s.r R.ADC_INJ_CFG_LEN c.val) (!e.inj && e.entry + 1 == s.r R.ADC_SEQ_CFG_LEN c.val)
        ((adcRoll c s).at e.due)) := by
  unfold adcResultEff
  simp only [h]
  rfl

theorem resultStored_only (c : Fin 2) (e : Sampled) (value : BitVec 14) (t : State) :
    OnlyChanges [.adc, .regs, .evs] t (resultStored c e value t) := by
  simp [onlyChanges_iff, resultStored, warmest]

theorem resultStored_res (c : Fin 2) (e : Sampled) (value : BitVec 14) (t : State) : (resultStored c e value t).adc.res =
    mput none t.adc.res (resKey c e) (some ⟨value, e.due, e.inj, resTally (mread none t.adc.res (resKey c e))⟩) := rfl

theorem res_inj_apart (c : Fin 2) (i : Fin 32) : R.ADC_RES_INJ.apart c.val i.val R.ADC_RES_VALID c.val i.val = true := by revert c i; decide
theorem res_cnt_apart_valid (c : Fin 2) (i : Fin 32) : R.ADC_RES_CNT.apart c.val i.val R.ADC_RES_VALID c.val i.val = true := by revert c i; decide
theorem res_cnt_apart_inj (c : Fin 2) (i : Fin 32) : R.ADC_RES_CNT.apart c.val i.val R.ADC_RES_INJ c.val i.val = true := by revert c i; decide
theorem res_value_apart_valid (c : Fin 2) (i : Fin 32) : R.ADC_RES_VALUE.apart c.val i.val R.ADC_RES_VALID c.val i.val = true := by
  revert c i; decide
theorem res_value_apart_inj (c : Fin 2) (i : Fin 32) : R.ADC_RES_VALUE.apart c.val i.val R.ADC_RES_INJ c.val i.val = true := by
  revert c i; decide

theorem resultRegs_r (c : Fin 2) (e : Sampled) (value cnt : Nat) (m : Map Word) :
    rget (resultRegs c e value cnt m) R.ADC_RES_VALUE c.val e.src.toNat = value % 2 ^ 14
      ∧ rget (resultRegs c e value cnt m) R.ADC_RES_VALID c.val e.src.toNat = 1
      ∧ rget (resultRegs c e value cnt m) R.ADC_RES_INJ c.val e.src.toNat = b2n e.inj := by
  have hi := res_inj_apart c ⟨e.src.toNat, e.src.isLt⟩
  have hcv := res_cnt_apart_valid c ⟨e.src.toNat, e.src.isLt⟩
  have hci := res_cnt_apart_inj c ⟨e.src.toNat, e.src.isLt⟩
  have hvv := res_value_apart_valid c ⟨e.src.toNat, e.src.isLt⟩
  have hvi := res_value_apart_inj c ⟨e.src.toNat, e.src.isLt⟩
  refine ⟨rget_rput_same _ _ _ _ _ (by decide), ?_, ?_⟩
  · rw [resultRegs, rget_rput_apart _ _ hvv, rget_rput_apart _ _ hcv, rget_rput_apart _ _ hi]
    exact rget_rput_same _ _ _ _ _ (by decide)
  · rw [resultRegs, rget_rput_apart _ _ hvi, rget_rput_apart _ _ hci, rget_rput_same _ _ _ _ _ (by decide)]
    cases e.inj <;> rfl

/-- The clause of O51 on results. -/
theorem resultClause (h8 : s.dom 8 = true) (v : Int) (e : Sampled) (rest : List Sampled) (h : (adcRoll c s).adc.conv[c].pipe = e :: rest) :
    ∃ t, exec (.adcResult c v) s = .next t
      ∧ OnlyChanges [.tb, .edge, .adc, .regs, .evs] s t ∧ t.tb = (s.at e.due).tb ∧ t.adc.conv[c].pipe = rest
      ∧ t.r R.ADC_RES_VALUE c.val e.src.toNat = min v.toNat 16383 ∧ t.r R.ADC_RES_VALID c.val e.src.toNat = 1
      ∧ t.r R.ADC_RES_INJ c.val e.src.toNat = b2n e.inj ∧ t.evs = { s.evs with telTj := t.evs.telTj }
      ∧ (∃ x : AdcRes, mread none t.adc.res (32 * c.val + e.src.toNat) = some x ∧ x.value.toNat = min v.toNat 16383
          ∧ x.stamp = e.due ∧ x.inj = e.inj)
      ∧ (∀ k, k ≠ 32 * c.val + e.src.toNat → mget t.adc.res k = mget s.adc.res k) := by
  have hclamp : (BitVec.ofNat 14 (min v.toNat 16383)).toNat = min v.toNat 16383 := by
    rw [BitVec.toNat_ofNat]
    exact Nat.mod_eq_of_lt (by omega)
  obtain ⟨hval, hvalid, hinj⟩ := resultRegs_r c e (BitVec.ofNat 14 (min v.toNat 16383)).toNat
    (resTally (mread none s.adc.res (resKey c e))).toNat s.regs
  refine ⟨_, congrArg Host.Outcome.next ((if_pos h8).trans (adcResultEff_eq v h)), ?_, rfl, ?_, ?_, hvalid, hinj, rfl, ?_, fun k hk => ?_⟩
  · refine .trans (((adcRoll_only c s).mono (by decide)).trans (((State.at_only _ e.due).mono (by decide)).trans
      ((State.withConv_only _ _ _).mono (by decide)))) ((resultStored_only c e _ _).mono (by decide))
  · exact congrArg Conv.pipe (State.conv_self _ c _)
  · refine hval.trans ?_
    rw [hclamp]
    exact Nat.mod_eq_of_lt (by omega)
  · rw [resultStored_res]
    exact ⟨_, mread_mput_same _ _ _ _, hclamp, rfl, rfl⟩
  · rw [resultStored_res]
    exact mget_mput_ne none s.adc.res _ hk

/-! ### Requests (R451, R453) -/

theorem calRequest_calq (c : Fin 2) (s : State) : (calRequest c s).adc.calq =
    if s.adc.conv[c].halted = false ∧ s.adc.conv[c].cal = false ∧ c ∉ s.adc.calq then s.adc.calq ++ [c] else s.adc.calq := by
  have hcond : (s.adc.conv[c].halted || s.adc.conv[c].cal || s.adc.calq.contains c) = true
      ↔ ¬(s.adc.conv[c].halted = false ∧ s.adc.conv[c].cal = false ∧ c ∉ s.adc.calq) := by
    rw [← List.contains_iff_mem]
    cases s.adc.conv[c].halted <;> cases s.adc.conv[c].cal <;> cases s.adc.calq.contains c <;> decide
  by_cases h : s.adc.conv[c].halted = false ∧ s.adc.conv[c].cal = false ∧ c ∉ s.adc.calq
  · rw [if_pos h]
    exact congrArg (fun t : State => t.adc.calq) (if_neg fun hc => hcond.1 hc h)
  · rw [if_neg h]
    exact congrArg (fun t : State => t.adc.calq) (if_pos (hcond.2 h))

theorem calRequest_only (c : Fin 2) (s : State) : OnlyChanges [.adc] s (calRequest c s) := by
  unfold calRequest
  dsimp only
  split
  · exact .refl _ s
  · refine (adcRoll_only c s).trans ?_
    simp [onlyChanges_iff]

theorem calCtrlEff_one {val : Word} (s : State) (h : val.getLsbD c.val = true) (ho : val.getLsbD (1 - c).val = false) :
    calCtrlEff val s = calRequest c (fieldWrite 0x80004 val s) := by
  unfold calCtrlEff
  rcases Fin.exists_fin_two.1 ⟨c, rfl⟩ with rfl | rfl
  · have h1 : val.getLsbD 1 = false := ho
    have h0 : val.getLsbD 0 = true := h
    rw [h0, h1]
    rfl
  · have h1 : val.getLsbD 1 = true := h
    have h0 : val.getLsbD 0 = false := ho
    rw [h0, h1]
    rfl

/-- The clause of O51 on requests of the host. -/
theorem calReqClause (val : Word) (hl : s.lands 8 = true) (h : val.getLsbD c.val = true) (ho : val.getLsbD (1 - c).val = false) :
    ∃ t, exec (.adcCalReq val) s = .next t ∧ OnlyChanges (.adc :: .shadow :: raiseParts) (s.order 6) t
      ∧ t.adc.calq = if s.adc.conv[c].halted = false ∧ s.adc.conv[c].cal = false ∧ c ∉ s.adc.calq then s.adc.calq ++ [c] else s.adc.calq := by
  have hfw := fieldWrite_only 0x80004 val (s.order 6)
  refine ⟨_, congrArg Host.Outcome.next ((hostWr_lands _ hl).trans (calCtrlEff_one _ h ho)),
    (hfw.mono (by decide)).trans ((calRequest_only c _).mono (by decide)), ?_⟩
  rw [calRequest_calq, hfw .adc (by decide)]
  rfl

/-- The next instant at a phase of a period, at or after a given one. -/
theorem nextMultiple_spec {per phase : Nat} (t : Nat) (hp : phase < per) :
    t ≤ nextMultiple per phase t ∧ nextMultiple per phase t < t + per ∧ nextMultiple per phase t % per = phase := by
  have hpos : 0 < per := by omega
  have hlt := Nat.mod_lt (per - (t + per - phase) % per) hpos
  unfold nextMultiple
  rw [Nat.mod_eq_of_lt hp]
  refine ⟨by omega, by omega, ?_⟩
  have hr := Nat.mod_lt (t + per - phase) hpos
  have hsum : t + (per - (t + per - phase) % per) = phase + per * ((t + per - phase) / per) := by
    have := Nat.div_add_mod (t + per - phase) per
    omega
  rw [Nat.add_mod_mod, hsum, Nat.add_mul_mod_self_left, Nat.mod_eq_of_lt hp]

/-- The clause of O51 on requests of the clock. -/
theorem calAutoClause (h8 : s.dom 8 = true) (per : Nat) (hper : per = s.r R.ADC_CAL_CTRL_PER_S * 100000000) (hne : per ≠ 0)
    (hh : s.adc.conv[c].halted = false) (hcal : s.adc.conv[c].cal = false) (hq : c ∉ s.adc.calq) :
    ∃ t, exec (.adcCalAuto c) s = .next t ∧ OnlyChanges [.tb, .edge, .adc] s t ∧ t.adc.calq = s.adc.calq ++ [c]
      ∧ (s.pwr.refOk = true → s.tb ≤ t.tb ∧ t.tb < s.tb + per ∧ t.tb % per = if c = 0 then 0 else per / 2) := by
  have hphase : (if c = 0 then 0 else per / 2) < per := by split <;> omega
  obtain ⟨hlo, hhi, hmod⟩ := nextMultiple_spec s.tb hphase
  have hexec : exec (.adcCalAuto c) s = .next (calRequest c (s.at (nextMultiple per (if c = 0 then 0 else per / 2) s.tb))) := by
    subst hper
    exact congrArg Host.Outcome.next ((if_pos h8).trans (if_neg hne))
  refine ⟨_, hexec, ((State.at_only s _).mono (by decide)).trans ((calRequest_only c _).mono (by decide)),
    (calRequest_calq c _).trans (if_pos ⟨hh, hcal, hq⟩), fun href => ?_⟩
  rw [calRequest_only c _ .tb (by decide), State.at_tb_ok _ _ href, Nat.max_eq_right hlo]
  exact ⟨hlo, hhi, hmod⟩

/-! ### A calibration (R451-R455, R461) -/

/-- A calibration starts. -/
def calStarted (c : Fin 2) (s : State) : State :=
  let t := s.withConv c fun v => { v with cal := true, calEnd := s.tb + 220 * us }
  { t with adc := { t.adc with calq := t.adc.calq.tail } }

/-- The clause of O51 on the start of a calibration. -/
theorem calStartClause (h8 : s.dom 8 = true) (q : List (Fin 2)) (v : Conv) (hv : v = (adcRoll c s).adc.conv[c]) (hq : s.adc.calq = c :: q)
    (h0 : s.adc.conv[(0 : Fin 2)].cal = false) (h1 : s.adc.conv[(1 : Fin 2)].cal = false) (hp : v.pipe = []) (hi : v.inj = false)
    (hh : v.halted = false) :
    ∃ t, exec (.adcCalStart c) s = .next t ∧ OnlyChanges [.adc] s t ∧ t.adc.calq = q
      ∧ t.adc.conv[c] = { v with cal := true, calEnd := s.tb + 22000 } ∧ t.adc.conv[1 - c] = s.adc.conv[1 - c] := by
  have hcal : ∀ d : Fin 2, (adcRoll c s).adc.conv[d].cal = false := fun d => by
    have hd : s.adc.conv[d].cal = false := by rcases Fin.exists_fin_two.1 ⟨d, rfl⟩ with rfl | rfl <;> assumption
    by_cases hdc : d = c
    · rw [hdc, (adcRoll_keepsConv c s).cal, ← hdc, hd]
    · exact (congrArg Conv.cal (vmod_other _ hdc _)).trans hd
  have hfirst : (adcRoll c s).adc.calFirst c = true := by
    unfold Adc.calFirst
    have h0' : (adcRoll c s).adc.conv[0].cal = false := hcal 0
    have h1' : (adcRoll c s).adc.conv[1].cal = false := hcal 1
    rw [adcRoll_calq, hq, h0', h1', List.head?_cons, beq_self_eq_true]
    rfl
  subst hv
  have hcond : ((adcRoll c s).adc.calFirst c && (adcRoll c s).adc.conv[c].pipe.isEmpty && !(adcRoll c s).adc.conv[c].inj
      && !(adcRoll c s).adc.conv[c].halted) = true := by
    rw [hfirst, hp, hi, hh]
    rfl
  refine ⟨calStarted c (adcRoll c s), congrArg Host.Outcome.next ((if_pos h8).trans (if_pos hcond)), (adcRoll_only c s).trans ?_, ?_,
    State.conv_self (adcRoll c s) c _, (State.conv_other (adcRoll c s) c _).trans (adcRoll_other c s)⟩
  · simp [onlyChanges_iff, calStarted, State.withConv]
  · exact (congrArg List.tail ((adcRoll_calq c s).trans hq)).trans rfl

/-- Counters of the good and of the bad calibrations of a converter. -/
def calDoneCnt (c : Fin 2) : RegField := if c = 0 then R.ADC_CAL_CNT_P_DONE else R.ADC_CAL_CNT_Q_DONE
def calFailCnt (c : Fin 2) : RegField := if c = 0 then R.ADC_CAL_CNT_P_FAIL else R.ADC_CAL_CNT_Q_FAIL

/-- A converter at the end of its calibration. -/
def calReleased (tb : Nat) (v : Conv) : Conv :=
  { v with cal := false, inj := v.inj || v.held, injPos := if v.held then 0 else v.injPos, held := false, free := convEdge tb }

/-- A good calibration gives its coefficients. -/
def calPassed (c : Fin 2) (offset gain : Int) (s : State) : State :=
  (((s.withConv c fun v => { calReleased s.tb v with fails := 0, coef := some (BitVec.ofInt 16 offset, BitVec.ofInt 16 gain) }).w
    R.ADC_CAL_COEF_OFFSET (toTwos 16 offset) c.val).w R.ADC_CAL_COEF_GAIN gain.toNat c.val).add (calDoneCnt c) 1

/-- A bad calibration is counted and raises ADC.CAL. -/
def calFailed (c : Fin 2) (s : State) : State :=
  raise S.ADC_CAL c ((s.withConv c fun v => { calReleased s.tb v with fails := v.fails + 1 }).add (calFailCnt c) 1)

theorem calResult_good {offset gain : Int} (h : calGood offset gain = true) :
    calResult c offset gain s = calPassed c offset gain (adcRoll (1 - c) s) := if_pos h

theorem calResult_bad {offset gain : Int} (h : calGood offset gain = false) : calResult c offset gain s =
    if 2 ≤ s.adc.conv[c].fails + 1 ∨ s.adc.conv[c].coef.isNone ∧ s.sys.mode = .boot then adcHalt c (calFailed c (adcRoll (1 - c) s))
    else calFailed c (adcRoll (1 - c) s) := by
  have hc : ¬(calGood offset gain = true) := by rw [h]; decide
  refine (if_neg hc).trans ?_
  rw [adcRoll_of_other, adcRoll_only (1 - c) s .sys (by decide)]
  rfl

theorem calPassed_only (c : Fin 2) (offset gain : Int) (s : State) : OnlyChanges [.adc, .regs] s (calPassed c offset gain s) := by
  simp [onlyChanges_iff, calPassed, State.withConv, State.w, State.add]

theorem calPassed_conv (c : Fin 2) (offset gain : Int) (s : State) : (calPassed c offset gain s).adc.conv[c] =
    { calReleased s.tb s.adc.conv[c] with fails := 0, coef := some (BitVec.ofInt 16 offset, BitVec.ofInt 16 gain) } := State.conv_self _ _ _

theorem calPassed_gain {offset gain : Int} (h : calGood offset gain = true) :
    (calPassed c offset gain s).r R.ADC_CAL_COEF_GAIN c.val = gain.toNat := by
  have hlt : gain.toNat < 2 ^ 16 := by
    have := of_decide_eq_true h
    omega
  refine (rget_rput_apart _ _ ((by decide : ∀ c : Fin 2, (calDoneCnt c).apart 0 0 R.ADC_CAL_COEF_GAIN c.val 0 = true) c)).trans ?_
  exact (rget_rput_same _ _ _ _ _ (by decide)).trans (Nat.mod_eq_of_lt hlt)

theorem calPassed_cnt (c : Fin 2) (offset gain : Int) (s : State) :
    (calPassed c offset gain s).r (calDoneCnt c) = (s.add (calDoneCnt c) 1).r (calDoneCnt c) := by
  have hhi : (calDoneCnt c).hi < 32 := (by decide : ∀ c, (calDoneCnt c).hi < 32) c
  refine (rget_radd _ _ _ _ _ hhi).trans (.trans ?_ (rget_radd s.regs (calDoneCnt c) 1 0 0 hhi).symm)
  congr 2
  refine (rget_rput_apart _ _ ((by decide : ∀ c : Fin 2, R.ADC_CAL_COEF_GAIN.apart c.val 0 (calDoneCnt c) 0 0 = true) c)).trans ?_
  exact rget_rput_apart _ _ ((by decide : ∀ c : Fin 2, R.ADC_CAL_COEF_OFFSET.apart c.val 0 (calDoneCnt c) 0 0 = true) c)

theorem calFailed_only (c : Fin 2) (s : State) : OnlyChanges (.adc :: raiseParts) s (calFailed c s) := by
  refine .trans ?_ ((raise_only _ _ _).mono (by decide))
  simp [onlyChanges_iff, State.withConv, State.add, raiseParts]

theorem calFailed_conv (c : Fin 2) (s : State) :
    (calFailed c s).adc.conv[c] = { calReleased s.tb s.adc.conv[c] with fails := s.adc.conv[c].fails + 1 } := by
  rw [calFailed, raise_only _ _ _ .adc (by decide)]
  exact State.conv_self s c _

theorem calFailed_raised (h : s.dom 8 = true) : (calFailed c s).raised S.ADC_CAL = true := raised_raise _ _ h

/-- A converter halts (R461): the other is only brought up to the present. -/
theorem adcHalt_conv (c : Fin 2) (s : State) : (adcHalt c s).adc.conv[c] = { s.adc.conv[c] with
    halted := true, cal := false, pipe := [], inj := false, held := false, pass := 0, passBusy := false } := by
  rw [adcHalt, raise_only _ _ _ .adc (by decide)]
  exact (State.conv_self _ c _).trans (by rw [adcRoll_of_other])

theorem adcHalt_other (c : Fin 2) (s : State) : KeepsConv s.adc.conv[1 - c] (adcHalt c s).adc.conv[1 - c] := by
  rw [adcHalt, raise_only _ _ _ .adc (by decide)]
  have h : KeepsConv s.adc.conv[1 - c] (adcRoll (1 - c) s).adc.conv[1 - c] := adcRoll_keepsConv (1 - c) s
  rw [← State.conv_other (adcRoll (1 - c) s) c] at h
  exact h

theorem adcHalt_refOk (c : Fin 2) (s : State) : (adcHalt c s).adc.refOk = s.adc.refOk := by
  rw [adcHalt, raise_only _ _ _ .adc (by decide)]
  rfl

theorem adcHalt_raised (h : s.dom 8 = true) : (adcHalt c s).raised S.ADC_HALT = true := raised_raise _ _ h

theorem raised_of_adcHalt {e : Src} (h : s.raised e = true) : (adcHalt c s).raised e = true := by
  refine raised_of_raise ?_
  rw [← h]
  exact State.raised_congr rfl

end Sys2Proof.Machine
end

section
/-! O51: the converters. -/

namespace Sys2Proof.Machine

variable {s : State} {c : Fin 2}

theorem execAdcCalDone_eq (offset gain : Int) (h8 : s.dom 8 = true) (hcal : s.adc.conv[c].cal = true) :
    execAdcCalDone c offset gain s = .next (calResult c offset gain (s.at s.adc.conv[c].calEnd)) :=
  congrArg Host.Outcome.next ((if_pos h8).trans (if_pos hcal))

theorem calPassed_tb (c : Fin 2) (offset gain : Int) (s : State) : (calPassed c offset gain s).tb = s.tb := rfl

/-- The clause of O51 on a good calibration. -/
theorem calGoodClause {offset gain : Int} (h8 : s.dom 8 = true) (hcal : s.adc.conv[c].cal = true) (h : calGood offset gain = true) :
    ∃ t, exec (.adcCalDone c offset gain) s = .next t ∧ OnlyChanges [.tb, .edge, .adc, .regs] s t
      ∧ t.tb = (s.at s.adc.conv[c].calEnd).tb ∧ t.adc.conv[c].cal = false ∧ t.adc.conv[c].fails = 0
      ∧ t.adc.conv[c].coef = some (BitVec.ofInt 16 offset, BitVec.ofInt 16 gain) ∧ t.r R.ADC_CAL_COEF_GAIN c.val = gain.toNat
      ∧ t.r (calDoneCnt c) = (s.add (calDoneCnt c) 1).r (calDoneCnt c)
      ∧ t.adc.conv[c].held = false
      ∧ (s.adc.conv[c].held = true → t.adc.conv[c].inj = true ∧ t.adc.conv[c].injPos = 0) := by
  have hv := calPassed_conv c offset gain (adcRoll (1 - c) (s.at s.adc.conv[c].calEnd))
  rw [adcRoll_of_other] at hv
  refine ⟨_, (execAdcCalDone_eq offset gain h8 hcal).trans (congrArg _ (calResult_good h)),
    ((State.at_only s _).mono (by decide)).trans (((adcRoll_only _ _).mono (by decide)).trans ((calPassed_only c offset gain _).mono (by decide))),
    rfl, ?_, ?_, ?_, calPassed_gain h, calPassed_cnt c offset gain _, ?_, fun hheld => ?_⟩
  · rw [hv]
    rfl
  · rw [hv]
  · rw [hv]
  · rw [hv]
    rfl
  · rw [hv]
    have hh : (s.at s.adc.conv[c].calEnd).adc.conv[c].held = true := hheld
    refine ⟨?_, if_pos hh⟩
    rw [calReleased, hh, Bool.or_true]

/-- A converter after a bad calibration: it keeps its coefficients, and halts where `stop` says so. -/
structure CalFailed (c : Fin 2) (s t : State) (stop : Bool) : Prop where
  only : OnlyChanges (.adc :: raiseParts) s t
  raised : t.raised S.ADC_CAL = true
  cal : t.adc.conv[c].cal = false
  coef : t.adc.conv[c].coef = s.adc.conv[c].coef
  fails : t.adc.conv[c].fails = s.adc.conv[c].fails + 1
  stopped : stop = true → t.adc.conv[c].halted = true ∧ t.raised S.ADC_HALT = true
  runs : stop = false → t.adc.conv[c].halted = s.adc.conv[c].halted

theorem calFailed_goes (h8 : s.dom 8 = true) : CalFailed c s (calFailed c s) false := by
  have hv := calFailed_conv c s
  exact ⟨calFailed_only c s, calFailed_raised h8, by rw [hv]; rfl, by rw [hv]; rfl, by rw [hv], fun h => absurd h (by decide), fun _ => by rw [hv]; rfl⟩

theorem calFailed_stops (h8 : s.dom 8 = true) : CalFailed c s (adcHalt c (calFailed c s)) true := by
  have hv := adcHalt_conv c (calFailed c s)
  rw [calFailed_conv] at hv
  have h8' : (calFailed c s).dom 8 = true := (State.dom_congr (calFailed_only c s .pwr (by decide)) 8).trans h8
  exact ⟨(calFailed_only c s).trans (adcHalt_only c _), raised_of_adcHalt (calFailed_raised h8), by rw [hv], by rw [hv]; rfl, by rw [hv],
    fun _ => ⟨by rw [hv], adcHalt_raised h8'⟩, fun h => absurd h (by decide)⟩

/-- What a bad calibration decides: two in a row, or one without coefficients in Boot, halt the converter (R455, R461). -/
def calStops (c : Fin 2) (s : State) : Bool := decide (2 ≤ s.adc.conv[c].fails + 1 ∨ s.adc.conv[c].coef.isNone ∧ s.sys.mode = .boot)

theorem calResult_failed {offset gain : Int} (h8 : s.dom 8 = true) (h : calGood offset gain = false) :
    CalFailed c (adcRoll (1 - c) s) (calResult c offset gain s) (calStops c s) := by
  have h8' : (adcRoll (1 - c) s).dom 8 = true := h8
  rw [calResult_bad h]
  by_cases hs : 2 ≤ s.adc.conv[c].fails + 1 ∨ s.adc.conv[c].coef.isNone ∧ s.sys.mode = .boot
  · rw [if_pos hs, calStops, decide_eq_true hs]
    exact calFailed_stops h8'
  · rw [if_neg hs, calStops, decide_eq_false hs]
    exact calFailed_goes h8'

/-- The clause of O51 on a bad calibration. -/
theorem calBadClause {offset gain : Int} (h8 : s.dom 8 = true) (hcal : s.adc.conv[c].cal = true) (h : calGood offset gain = false) :
    ∃ t, exec (.adcCalDone c offset gain) s = .next t
      ∧ OnlyChanges (.tb :: .edge :: .adc :: raiseParts) s t ∧ t.tb = (s.at s.adc.conv[c].calEnd).tb
      ∧ t.raised S.ADC_CAL = true ∧ t.adc.conv[c].cal = false
      ∧ t.adc.conv[c].coef = s.adc.conv[c].coef ∧ t.adc.conv[c].fails = s.adc.conv[c].fails + 1
      ∧ ((1 ≤ s.adc.conv[c].fails ∨ s.adc.conv[c].coef = none ∧ s.sys.mode = .boot) →
          t.adc.conv[c].halted = true ∧ t.raised S.ADC_HALT = true)
      ∧ (s.adc.conv[c].fails = 0 → (s.adc.conv[c].coef.isSome = true ∨ s.sys.mode ≠ .boot) →
          t.adc.conv[c].halted = s.adc.conv[c].halted) := by
  have hf := calResult_failed (s := s.at s.adc.conv[c].calEnd) (c := c) h8 h
  have hroll : (adcRoll (1 - c) (s.at s.adc.conv[c].calEnd)).adc.conv[c] = s.adc.conv[c] := adcRoll_of_other c _
  refine ⟨_, execAdcCalDone_eq offset gain h8 hcal,
    ((State.at_only s _).mono (by decide)).trans (((adcRoll_only (1 - c) _).mono (by decide)).trans (hf.only.mono (by decide))),
    hf.only .tb (by decide), hf.raised, hf.cal, ?_, ?_, fun hs => hf.stopped ?_, fun h0 hor => ?_⟩
  · rw [hf.coef, hroll]
  · rw [hf.fails, hroll]
  · refine decide_eq_true ?_
    rcases hs with hs | ⟨hc, hm⟩
    · exact .inl (Nat.succ_le_succ hs)
    · exact .inr ⟨Option.isNone_iff_eq_none.2 hc, hm⟩
  · rw [hf.runs, hroll]
    refine decide_eq_false fun hs => ?_
    rcases hs with hs | ⟨hc, hm⟩
    · have hs' : 2 ≤ s.adc.conv[c].fails + 1 := hs
      omega
    · rcases hor with ho | ho
      · have hc' : s.adc.conv[c].coef = none := Option.isNone_iff_eq_none.1 hc
        rw [hc'] at ho
        exact absurd ho (by decide)
      · exact ho hm

/-- The reference has failed (R443). -/
def refFailed (s : State) : State := raise S.ADC_REF 1 { s with adc := { s.adc with refOk := false } }

theorem refFailed_adc (s : State) : (refFailed s).adc = { s.adc with refOk := false } := raise_only _ _ _ .adc (by decide)

theorem refFailed_only (s : State) : OnlyChanges (.adc :: raiseParts) s (refFailed s) := by
  refine .trans ?_ ((raise_only _ _ _).mono (by decide))
  simp [onlyChanges_iff, raiseParts]

theorem execAdcRefFault_eq (h8 : s.dom 8 = true) : execAdcRefFault s =
    .next (if (refFailed s).adc.conv[(1 : Fin 2)].halted then refFailed s else adcHalt 1 (refFailed s)) := by
  rw [refFailed_adc]
  exact congrArg Host.Outcome.next (if_pos h8)

/-- The clause of O51 on a reference fault. -/
theorem refFaultClause (h8 : s.dom 8 = true) :
    ∃ t, exec .adcRefFault s = .next t ∧ OnlyChanges (.adc :: raiseParts) s t ∧ t.raised S.ADC_REF = true
      ∧ t.adc.conv[(1 : Fin 2)].halted = true ∧ t.adc.refOk = false ∧ t.adc.conv[(0 : Fin 2)].halted = s.adc.conv[(0 : Fin 2)].halted
      ∧ t.adc.conv[(0 : Fin 2)].coef = s.adc.conv[(0 : Fin 2)].coef
      ∧ (s.adc.conv[(1 : Fin 2)].halted = false → t.raised S.ADC_HALT = true) := by
  have hraised : (refFailed s).raised S.ADC_REF = true := raised_raise _ _ h8
  have hconv : ∀ d : Fin 2, (refFailed s).adc.conv[d] = s.adc.conv[d] := fun d => by rw [refFailed_adc]
  have hexec : exec .adcRefFault s = _ := execAdcRefFault_eq h8
  by_cases h : s.adc.conv[(1 : Fin 2)].halted = true
  · have h' : (refFailed s).adc.conv[(1 : Fin 2)].halted = true := by rw [hconv]; exact h
    refine ⟨_, hexec.trans (congrArg _ (if_pos h')), refFailed_only s, hraised, h', ?_, ?_, ?_, fun hn => absurd h (by rw [hn]; decide)⟩
    · rw [refFailed_adc]
    · rw [hconv]
    · rw [hconv]
  · have h' : ¬((refFailed s).adc.conv[(1 : Fin 2)].halted = true) := by rw [hconv]; exact h
    have h8' : (refFailed s).dom 8 = true := (State.dom_congr (refFailed_only s .pwr (by decide)) 8).trans h8
    have hk : KeepsConv (refFailed s).adc.conv[(0 : Fin 2)] (adcHalt 1 (refFailed s)).adc.conv[(0 : Fin 2)] := adcHalt_other 1 (refFailed s)
    refine ⟨_, hexec.trans (congrArg _ (if_neg h')), (refFailed_only s).trans (adcHalt_only 1 _), raised_of_adcHalt hraised, ?_, ?_, ?_, ?_,
      fun _ => adcHalt_raised h8'⟩
    · rw [adcHalt_conv]
    · rw [adcHalt_refOk, refFailed_adc]
    · rw [hk.halted, hconv]
    · rw [hk.coef, hconv]

/-- Settles O51: triggers by `injTrigger_ready`, `injTrigger_silent` and `adcIgnore`, results by `resultClause`, and calibrations by
what their end decides. -/
theorem converters : Obligations.Converters := by
  refine ⟨fun s u c h8 hu => ⟨fun hdue => injTriggers h8 hdue, fun hr hl => ⟨fun ht => ?_, fun ht => ?_⟩,
      fun lanes b hr hb => ⟨fun ht hrun hp => ?_, fun hn => ?_⟩, fun hdue hc hh hlen => regTriggers h8 hdue hc hh hlen⟩,
    fun s u c h8 hu => ⟨fun v e rest h => resultClause h8 v e rest h, fun val hl h ho => ?_,
      fun per hper hne hh hcal hq => calAutoClause h8 per hper hne hh hcal hq,
      fun q v hv hq h0 h1 hp hi hh => calStartClause h8 q v hv hq h0 h1 hp hi hh,
      fun offset gain hcal => ⟨fun h => ?_, fun h => calBadClause h8 hcal h⟩, refFaultClause h8⟩⟩
  · subst hu
    exact ⟨_, (execAdcInjGo_eq hl).trans (congrArg _ ((if_pos (beq_iff_eq.2 ht)).trans (injTrigger_ready (injReady_congr hr rfl rfl)))),
      injSet_only _ _, rfl⟩
  · subst hu
    exact (execAdcInjGo_eq hl).trans (congrArg _ (if_neg (by rw [beq_iff_eq]; exact ht)))
  · subst hb
    have hcond : (s.r R.ADC_INJ_CFG_TRIG c.val == 2 && s.lan.run && decide (2 ≤ popcount (lanes &&& s.lan.svc))) = true := by
      rw [ht, hrun, decide_eq_true hp]
      rfl
    exact ⟨_, (execAdcScanTrigger_eq lanes h8).trans (congrArg _ ((if_pos hcond).trans (injTrigger_ready (injReady_congr hr rfl rfl)))),
      injSet_only _ _, rfl⟩
  · have hcond : (s.r R.ADC_INJ_CFG_TRIG c.val == 2 && s.lan.run && decide (2 ≤ popcount (lanes &&& s.lan.svc))) = false := by
      rcases hn with hn | hn | hn
      · rw [beq_false_of_ne hn]
        rfl
      · rw [hn, Bool.and_false]
        rfl
      · rw [decide_eq_false (Nat.not_le.2 hn), Bool.and_false]
    exact (execAdcScanTrigger_eq lanes h8).trans (congrArg _ (if_neg (by rw [hcond]; decide)))
  · subst hu
    exact calReqClause val hl h ho
  · exact calGoodClause h8 hcal h

end Sys2Proof.Machine
end

section
/-! Requests for the self-test and the re-admission of a lane (R269-R274). -/

namespace Sys2Proof.Machine

variable {s : State} {l : Fin 3}

/-! ### Which lane a write names -/

/-- The lanes that a write of LAN_CTRL names. -/
def namedLanes (readmit test : BitVec 3) : List (Fin 3) := (List.finRange 3).filter fun l => readmit.getLsbD l.val || test.getLsbD l.val

theorem lanCtrlEff_cons {readmit test : BitVec 3} {rest : List (Fin 3)} (h : namedLanes readmit test = l :: rest) (s : State) :
    lanCtrlEff readmit test s = if popcount readmit + popcount test = 1 then laneRequest (test.getLsbD l.val) l s else lanResult 5 l s := by
  unfold namedLanes at h
  unfold lanCtrlEff
  rw [h]

theorem lanCtrlEff_readmit (l : Fin 3) (s : State) : lanCtrlEff (putBit 0 l.val true) 0 s = laneRequest false l s := by
  have h : ∀ l : Fin 3, namedLanes (putBit 0 l.val true) 0 = [l] ∧ popcount (putBit (0 : BitVec 3) l.val true) + popcount (0 : BitVec 3) = 1
      ∧ (0 : BitVec 3).getLsbD l.val = false := by decide
  obtain ⟨hn, hp, ht⟩ := h l
  rw [lanCtrlEff_cons hn, if_pos hp, ht]

theorem lanCtrlEff_test (l : Fin 3) (s : State) : lanCtrlEff 0 (putBit 0 l.val true) s = laneRequest true l s := by
  have h : ∀ l : Fin 3, namedLanes 0 (putBit 0 l.val true) = [l] ∧ popcount (0 : BitVec 3) + popcount (putBit (0 : BitVec 3) l.val true) = 1
      ∧ (putBit (0 : BitVec 3) l.val true).getLsbD l.val = true := by decide
  obtain ⟨hn, hp, ht⟩ := h l
  rw [lanCtrlEff_cons hn, if_pos hp, ht]

/-- More than one bit names a first lane, in either field, and is refused. -/
theorem lanCtrlEff_many {bits : BitVec 3} (h : 2 ≤ popcount bits) :
    ∃ l : Fin 3, ∀ s, lanCtrlEff bits 0 s = lanResult 5 l s ∧ lanCtrlEff 0 bits s = lanResult 5 l s := by
  have hfirst : ∀ bits : BitVec 3, 2 ≤ popcount bits → ∃ l : Fin 3, (namedLanes bits 0).head? = some l ∧ (namedLanes 0 bits).head? = some l := by
    decide
  have hzero : popcount (0 : BitVec 3) = 0 := by decide
  obtain ⟨l, hr, ht⟩ := hfirst bits h
  obtain ⟨r, hr⟩ := List.head?_eq_some_iff.1 hr
  obtain ⟨q, hq⟩ := List.head?_eq_some_iff.1 ht
  refine ⟨l, fun s => ⟨?_, ?_⟩⟩
  · rw [lanCtrlEff_cons hr, if_neg (by omega)]
  · rw [lanCtrlEff_cons hq, if_neg (by omega)]

/-! ### Conditions of R269 -/

theorem laneWhy_joined (test : Bool) (h : s.lan.join.isSome = true) : laneWhy s test l = 5 := if_pos h

theorem laneWhy_readmit (h : s.lan.join = none) : laneWhy s false l =
    if !s.lan.lanes[l].retired || !s.dom l || s.inMode [.boot, .safeHold, .lockdown] || decide (3 ≤ retires24 s l) then 5 else 0 :=
  (if_neg (by rw [h]; exact Bool.false_ne_true)).trans (if_neg Bool.false_ne_true)

theorem laneWhy_readmit_ok (h : s.lan.join = none) (hr : s.lan.lanes[l].retired = true) (hd : s.dom l = true)
    (hm : s.inMode [.boot, .safeHold, .lockdown] = false) (h3 : retires24 s l < 3) : laneWhy s false l = 0 := by
  rw [laneWhy_readmit h, hr, hd, hm, decide_eq_false (Nat.not_le.2 h3)]
  rfl

theorem laneWhy_readmit_refused (h : s.lan.join.isSome = true ∨ s.lan.lanes[l].retired = false ∨ s.dom l = false
    ∨ s.inMode [.boot, .safeHold, .lockdown] = true ∨ 3 ≤ retires24 s l) : laneWhy s false l = 5 := by
  by_cases hj : s.lan.join.isSome = true
  · exact laneWhy_joined _ hj
  · rw [laneWhy_readmit (Option.not_isSome_iff_eq_none.1 hj)]
    refine if_pos ?_
    simp only [Bool.or_eq_true, Bool.not_eq_true', decide_eq_true_eq]
    rcases h with h | h | h | h | h
    · exact absurd h hj
    · exact .inl (.inl (.inl h))
    · exact .inl (.inl (.inr h))
    · exact .inl (.inr h)
    · exact .inr h

/-- Some lane is retired, as a test of the lanes in turn. -/
theorem anyRetired_iff (s : State) : ((List.finRange 3).any fun i => s.lan.lanes[i].retired) = true ↔ ∃ i : Fin 3, s.lan.lanes[i].retired = true := by
  simp

theorem laneWhy_test (s : State) (l : Fin 3) : laneWhy s true l = if s.lan.join.isSome = true then 5
    else if ∃ i : Fin 3, s.lan.lanes[i].retired = true then 4 else if s.inMode [.run, .maintain] then 0 else 5 := by
  have hbody : laneWhy s true l = if s.lan.join.isSome = true then 5
      else if ((List.finRange 3).any fun i => s.lan.lanes[i].retired) = true then 4 else if (!s.inMode [.run, .maintain]) = true then 5 else 0 := rfl
  rw [hbody]
  simp only [anyRetired_iff]
  cases s.inMode [.run, .maintain] <;> rfl

/-! ### The answer of a request -/

/-- A request stands. -/
def joinSet (l : Fin 3) (test : Bool) (s : State) : State :=
  { s with lan := { s.lan with join := some ⟨l, test, 0, none, false, true⟩ } }

theorem joinSet_only (l : Fin 3) (test : Bool) (s : State) : OnlyChanges [.lan] s (joinSet l test s) := by simp [onlyChanges_iff, joinSet]

theorem laneRequest_ok {test : Bool} (h : laneWhy s test l = 0) : laneRequest test l s = lanResult 1 l (joinSet l test s) := if_pos h

theorem laneRequest_refused {test : Bool} {why : Nat} (h : laneWhy s test l = why) (hne : why ≠ 0) : laneRequest test l s = lanResult why l s := by
  subst h
  exact if_neg hne

theorem lanResult_result (res lane : Nat) (s : State) (h : res < 8) : (lanResult res lane s).r R.LAN_CSTAT_RESULT = res := by
  refine (rget_rput_apart _ _ (by decide)).trans ((rget_rput_apart _ _ (by decide)).trans ?_)
  exact (rget_rput_same _ _ _ _ _ (by decide)).trans (Nat.mod_eq_of_lt h)

theorem lanResult_lane (res : Nat) (l : Fin 3) (s : State) : (lanResult res l s).r R.LAN_CSTAT_LANE = l.val := by
  refine (rget_rput_apart _ _ (by decide)).trans ((rget_rput_same _ _ _ _ _ (by decide)).trans (Nat.mod_eq_of_lt ?_))
  have := l.isLt
  show l.val < 4
  omega

theorem lanResult_new (res lane : Nat) (s : State) : (lanResult res lane s).r R.LAN_CSTAT_NEW = 1 := rget_rput_same _ _ _ _ _ (by decide)

theorem lanResult_raised (res lane : Nat) (s : State) (c : Src) : (lanResult res lane s).raised c = s.raised c :=
  raised_congr_of_regsBut (l := [0x40018])
    ((((RegsBut.refl _ s.regs).rput (by decide)).rput (by decide)).rput (by decide)) (by decide) c

theorem accepted_answer (l : Fin 3) (test : Bool) (s : State) :
    OnlyChanges [.lan, .regs] s (lanResult 1 l (joinSet l test s))
      ∧ (lanResult 1 l (joinSet l test s)).lan = { s.lan with join := some ⟨l, test, 0, none, false, true⟩ }
      ∧ (lanResult 1 l (joinSet l test s)).r R.LAN_CSTAT_RESULT = 1 ∧ (lanResult 1 l (joinSet l test s)).r R.LAN_CSTAT_LANE = l.val
      ∧ (lanResult 1 l (joinSet l test s)).r R.LAN_CSTAT_NEW = 1 :=
  ⟨((joinSet_only l test s).mono (by decide)).trans ((lanResult_only _ _ _).mono (by decide)), rfl, lanResult_result _ _ _ (by decide),
    lanResult_lane _ _ _, lanResult_new _ _ _⟩

theorem execLaneReadmitReq_eq (h4 : s.lands 4 = true) : execLaneReadmitReq (putBit 0 l.val true) s = .next (laneRequest false l (s.order 6)) :=
  congrArg Host.Outcome.next ((hostWr_lands _ h4).trans (lanCtrlEff_readmit l _))

theorem execLaneTestReq_eq (h4 : s.lands 4 = true) : execLaneTestReq (putBit 0 l.val true) s = .next (laneRequest true l (s.order 6)) :=
  congrArg Host.Outcome.next ((hostWr_lands _ h4).trans (lanCtrlEff_test l _))

/-- In Lockdown the write of LAN_CTRL raises ACCESS and is answered as well (log entry 75). -/
theorem hostWr_lanCtrl_lockdown (eff : State → State) (hr : s.hostReach = true) (hm : s.sys.mode = .lockdown) :
    hostWr 0x40014 eff s = eff (raiseAccess 4 true 0x40014 (s.order 6)) := by
  simp [hostWr, hr, hm]

theorem State.hostReach_aoOk (h : s.hostReach = true) : s.pwr.aoOk = true := by
  simp only [State.hostReach, State.dom, Bool.and_eq_true] at h
  obtain ⟨⟨⟨⟨⟨⟨hao, -⟩, -⟩, -⟩, -⟩, -⟩, -⟩ := h
  exact hao

/-- The device that a Lockdown's ACCESS has been raised in, at a write of LAN_CTRL. -/
def lockedCtrl (s : State) : State := raiseAccess 4 true 0x40014 (s.order 6)

theorem lockedCtrl_mode (s : State) : (lockedCtrl s).sys.mode = s.sys.mode := (raiseAccess_sys 4 true 0x40014 (s.order 6)).mode

theorem execLaneReadmitReq_lockdown (hr : s.hostReach = true) (hm : s.sys.mode = .lockdown) :
    execLaneReadmitReq (putBit 0 l.val true) s = .next (lanResult 5 l (lockedCtrl s)) := by
  have hmode : (lockedCtrl s).inMode [.boot, .safeHold, .lockdown] = true := by
    unfold State.inMode
    rw [lockedCtrl_mode, hm]
    rfl
  exact congrArg Host.Outcome.next ((hostWr_lanCtrl_lockdown _ hr hm).trans ((lanCtrlEff_readmit l _).trans
    (laneRequest_refused (laneWhy_readmit_refused (.inr (.inr (.inr (.inl hmode))))) (by decide))))

/-! ### The automatic request (R274) -/

/-- The automatic request of a lane is taken. -/
def autoTaken (l : Fin 3) (due : Nat) (s : State) : State := (s.at due).lane l fun x => { x with autoDue := none }

theorem execAutoReadmit_eq {due : Nat} (hd : s.lan.lanes[l].autoDue = some due) (ha : s.rb R.LAN_CFG_AUTO = true) (hc : s.comes due = true) :
    execAutoReadmit l s =
      .next (if laneWhy (autoTaken l due s) false l = 0 then laneRequest false l (autoTaken l due s) else autoTaken l due s) := by
  unfold execAutoReadmit
  rw [hd]
  exact congrArg Host.Outcome.next (if_pos (by rw [ha, hc]; rfl))

theorem autoTaken_lane (l : Fin 3) (due : Nat) (s : State) : (autoTaken l due s).lan.lanes[l] = { s.lan.lanes[l] with autoDue := none } :=
  State.lane_self _ _ _

theorem autoTaken_only (l : Fin 3) (due : Nat) (s : State) : OnlyChanges [.tb, .edge, .lan] s (autoTaken l due s) :=
  ((State.at_only s due).mono (by decide)).trans ((State.lane_only _ _ _).mono (by decide))

theorem autoTaken_why {due : Nat} (h : s.lan.join = none) (hr : s.lan.lanes[l].retired = true) (hd : s.dom l = true)
    (hm : s.inMode [.boot, .safeHold, .lockdown] = false) (h3 : retires24 (s.at due) l < 3) : laneWhy (autoTaken l due s) false l = 0 := by
  refine laneWhy_readmit_ok h ?_ hd hm ?_
  · rw [autoTaken_lane]
    exact hr
  · unfold retires24
    rw [autoTaken_lane]
    exact h3

/-- The clause of O39 on the automatic request. -/
theorem autoReadmitClause {due : Nat} (hd : s.lan.lanes[l].autoDue = some due) (ha : s.rb R.LAN_CFG_AUTO = true) (hc : s.comes due = true) :
    ∃ t, exec (.autoReadmit l) s = .next t ∧ OnlyChanges [.tb, .edge, .lan, .regs] s t ∧ t.tb = (s.at due).tb
      ∧ t.lan.lanes[l].autoDue = none
      ∧ (s.lan.join = none → s.lan.lanes[l].retired = true → s.dom l = true → s.inMode [.boot, .safeHold, .lockdown] = false →
          retires24 (s.at due) l < 3 →
          t.lan.join = some ⟨l, false, 0, none, false, true⟩ ∧ t.r R.LAN_CSTAT_RESULT = 1 ∧ t.r R.LAN_CSTAT_LANE = l.val) := by
  have hexec : exec (.autoReadmit l) s = _ := execAutoReadmit_eq hd ha hc
  have hauto : (autoTaken l due s).lan.lanes[l].autoDue = none := by rw [autoTaken_lane]
  by_cases hw : laneWhy (autoTaken l due s) false l = 0
  · obtain ⟨honly, hlan, hres, hlane, -⟩ := accepted_answer l false (autoTaken l due s)
    refine ⟨_, hexec.trans (congrArg _ ((if_pos hw).trans (laneRequest_ok hw))), ((autoTaken_only l due s).mono (by decide)).trans
      (honly.mono (by decide)), honly .tb (by decide), ?_, fun _ _ _ _ _ => ⟨?_, hres, hlane⟩⟩
    · rw [hlan]
      exact hauto
    · rw [hlan]
  · exact ⟨_, hexec.trans (congrArg _ (if_neg hw)), (autoTaken_only l due s).mono (by decide), rfl, hauto,
      fun hj hr hdom hm h3 => absurd (autoTaken_why hj hr hdom hm h3) hw⟩

end Sys2Proof.Machine
end

section
/-! What a lane's own happenings do (R240, R260, R266, R270, R272), and O39. -/

namespace Sys2Proof.Machine

variable {s : State} {l : Fin 3} {f : Frame}

/-! ### Sample frames (R240, R470) -/

theorem sampleGood_of (hg : frameGood f = true) (hl : f.length = 8) : sampleGood f = true := by
  rw [sampleGood, hg, hl]
  rfl

theorem sampleGood_not (h : frameGood f = false ∨ f.length ≠ 8) : sampleGood f = false := by
  rcases h with h | h
  · rw [sampleGood, h, Bool.false_and]
  · rw [sampleGood, beq_false_of_ne h, Bool.and_false]

theorem copyFrame_only (l : Fin 3) (f : Frame) (s : State) : OnlyChanges [.tmr] s (copyFrame l f s) := by
  unfold copyFrame
  split
  · simp [onlyChanges_iff]
  · exact .refl _ s

theorem copyFrame_of_off (h : (s.dom 4 && sampleGood f) = false) : copyFrame l f s = s := if_neg (by rw [h]; exact Bool.false_ne_true)

theorem laneFrame_off (h : s.dom l = false ∨ s.lan.lanes[l].stopped = true) : laneFrame l f s = s := by
  refine if_pos ?_
  rcases h with h | h
  · rw [h]
    rfl
  · rw [h, Bool.or_true]

theorem laneFrame_bad (hd : s.dom l = true) (hs : s.lan.lanes[l].stopped = false) (hg : sampleGood f = false) :
    laneFrame l f s = raise S.FLD_FRAME (0xFD + 256 * l.val) s :=
  (if_neg (by rw [hd, hs]; decide)).trans (if_pos (by rw [hg]; rfl))

/-- The lane keeps its two latest good frames. -/
def frameKept (l : Fin 3) (f : Frame) (s : State) : State := s.lane l fun x => { x with frames := f :: x.frames.take 1 }

theorem laneFrame_good (hd : s.dom l = true) (hs : s.lan.lanes[l].stopped = false) (hg : sampleGood f = true) :
    laneFrame l f s = frameKept l f s :=
  (if_neg (by rw [hd, hs]; decide)).trans (if_neg (by rw [hg]; decide))

/-- The clauses of O39 on sample frames. -/
theorem sampleFrames (s : State) (l : Fin 3) (f : Frame) :
    (s.dom l = true → s.lan.lanes[l].stopped = false → frameGood f = true → f.length = 8 →
      ∃ t, exec (.sampleFrameReceive l f) s = .next t ∧ OnlyChanges [.lan, .tmr] (s.order 4) t ∧ { t.lan with lanes := s.lan.lanes } = s.lan
        ∧ t.lan.lanes[l] = { s.lan.lanes[l] with frames := f :: s.lan.lanes[l].frames.take 1 }
        ∧ (∀ i : Fin 3, i ≠ l → t.lan.lanes[i] = s.lan.lanes[i]) ∧ (s.dom 4 = false → t.tmr = s.tmr))
    ∧ (s.dom l = true → s.lan.lanes[l].stopped = false → (frameGood f = false ∨ f.length ≠ 8) →
      ∃ t, exec (.sampleFrameReceive l f) s = .next t ∧ OnlyChanges raiseParts (s.order 4) t ∧ t.raised S.FLD_FRAME = true)
    ∧ ((s.dom l = false ∨ s.lan.lanes[l].stopped = true) →
      ∃ t, exec (.sampleFrameReceive l f) s = .next t ∧ OnlyChanges [.tmr] (s.order 4) t
        ∧ ((frameGood f = false ∨ f.length ≠ 8 ∨ s.dom 4 = false) → t = s.order 4)) := by
  have hexec : exec (.sampleFrameReceive l f) s = .next (copyFrame l f (laneFrame l f (s.order 4))) := rfl
  refine ⟨fun hd hs hg hl => ?_, fun hd hs hb => ?_, fun h => ?_⟩
  · have hlan : (copyFrame l f (frameKept l f (s.order 4))).lan = (frameKept l f (s.order 4)).lan := copyFrame_only l f _ .lan (by decide)
    refine ⟨_, hexec.trans (congrArg (fun t => Host.Outcome.next (copyFrame l f t)) (laneFrame_good (s := s.order 4) hd hs (sampleGood_of hg hl))),
      ((State.lane_only _ _ _).mono (by decide)).trans ((copyFrame_only l f _).mono (by decide)), ?_, ?_, fun i hi => ?_, fun h4 => ?_⟩
    · rw [hlan]
      rfl
    · rw [hlan]
      exact State.lane_self _ _ _
    · rw [hlan]
      exact State.lane_other _ hi _
    · have h4' : (s.dom 4 && sampleGood f) = false := by rw [h4, Bool.false_and]
      rw [copyFrame_of_off (s := frameKept l f (s.order 4)) h4']
      rfl
  · have hg := sampleGood_not hb
    have hoff : ∀ u : State, (u.dom 4 && sampleGood f) = false := fun u => by rw [hg, Bool.and_false]
    refine ⟨_, hexec.trans (congrArg _ ((copyFrame_of_off (hoff _)).trans (laneFrame_bad hd hs hg))), raise_only _ _ _, raised_raise _ _ ?_⟩
    exact ((Bool.and_eq_true _ _).mp hd).1
  · refine ⟨_, hexec.trans (congrArg (fun t => Host.Outcome.next (copyFrame l f t)) (laneFrame_off (s := s.order 4) h)), copyFrame_only l f _, fun hb => ?_⟩
    refine copyFrame_of_off ?_
    rcases hb with hb | hb | hb
    · rw [sampleGood_not (.inl hb), Bool.and_false]
    · rw [sampleGood_not (.inr hb), Bool.and_false]
    · have hb' : (s.order 4).dom 4 = false := hb
      rw [hb', Bool.false_and]

/-! ### The self-test of a lane (R270, R272) -/

variable {j : Join}

theorem execLaneSelftestDone_pass (hj : s.lan.join = some j) (h1 : j.step = 1) (hs : j.selfDone = false) (hr : reloadOk s = true) :
    execLaneSelftestDone true false s = .next { s with lan := { s.lan with join := some { j with selfDone := true } } } := by
  unfold execLaneSelftestDone
  rw [hj]
  dsimp only
  rw [h1, hs, hr]
  rfl

theorem execLaneSelftestDone_fail {p rf : Bool} (hj : s.lan.join = some j) (h1 : j.step = 1) (hs : j.selfDone = false)
    (h : p = false ∨ rf = true ∨ reloadOk s = false) : execLaneSelftestDone p rf s = .next (joinFail S.LAN_STEST s) := by
  have hnot : (p && !rf && reloadOk s) = false := by
    rcases h with h | h | h
    · rw [h]
      rfl
    · rw [h, Bool.not_true, Bool.and_false, Bool.false_and]
    · rw [h, Bool.and_false]
  unfold execLaneSelftestDone
  rw [hj]
  dsimp only
  rw [h1, hs, hnot]
  rfl

/-- A request is over, with its RESULT. -/
def joinDropped (j : Join) (s : State) : State := lanResult 3 j.lane { s with lan := { s.lan with join := none } }

theorem joinEnd_test (hj : s.lan.join = some j) (ht : j.test = true) (hz : j.zero.isSome = true) :
    joinEnd 8 s = retire j.lane 8 (joinDropped j s) := by
  unfold joinEnd
  rw [hj]
  exact if_pos (by rw [ht, hz]; rfl)

theorem joinEnd_readmit (hj : s.lan.join = some j) (ht : j.test = false) : joinEnd 8 s = joinDropped j s := by
  unfold joinEnd
  rw [hj]
  exact if_neg (by rw [ht]; exact Bool.false_ne_true)

/-- A failed self-test, before its source is raised: a test retires its lane, a re-admission notes the cause. -/
def selftestFailed (j : Join) (s : State) : State :=
  if j.test then retire j.lane 8 (joinDropped j s) else joinDropped j (s.w R.LAN_RETIRE_CAUSE 8 j.lane)

theorem joinFail_stest (hj : s.lan.join = some j) (hz : j.zero.isSome = true) :
    joinFail S.LAN_STEST s = raise S.LAN_STEST 0 (selftestFailed j s) := by
  unfold joinFail selftestFailed
  rw [hj]
  dsimp only
  cases ht : j.test
  · exact congrArg (raise S.LAN_STEST 0) (joinEnd_readmit (s := s.w R.LAN_RETIRE_CAUSE 8 j.lane) hj ht)
  · exact congrArg (raise S.LAN_STEST 0) (joinEnd_test hj ht hz)

theorem retireCause_apart_result (l : Fin 3) : R.LAN_RETIRE_CAUSE.apart l.val 0 R.LAN_CSTAT_RESULT 0 0 = true := by revert l; decide
theorem retireCause_apart_lane (l : Fin 3) : R.LAN_RETIRE_CAUSE.apart l.val 0 R.LAN_CSTAT_LANE 0 0 = true := by revert l; decide

theorem retire_r (l : Fin 3) (cause : Nat) (s : State) {f : RegField} (h : R.LAN_RETIRE_CAUSE.apart l.val 0 f 0 0 = true) :
    (retire l cause s).r f = s.r f := by
  rw [State.r, retire_regs]
  exact rget_rput_apart _ _ h

theorem retire_cause (l : Fin 3) (s : State) : (retire l 8 s).r R.LAN_RETIRE_CAUSE l = 8 := by
  rw [State.r, retire_regs]
  exact rget_rput_same _ _ _ _ _ (by decide)

theorem joinDropped_cause (l : Fin 3) (j : Join) (s : State) : (joinDropped j s).r R.LAN_RETIRE_CAUSE l = s.r R.LAN_RETIRE_CAUSE l := by
  refine (rget_rput_apart _ _ ((by decide : ∀ l : Fin 3, R.LAN_CSTAT_NEW.apart 0 0 R.LAN_RETIRE_CAUSE l.val 0 = true) l)).trans ?_
  refine (rget_rput_apart _ _ ((by decide : ∀ l : Fin 3, R.LAN_CSTAT_LANE.apart 0 0 R.LAN_RETIRE_CAUSE l.val 0 = true) l)).trans ?_
  exact rget_rput_apart _ _ ((by decide : ∀ l : Fin 3, R.LAN_CSTAT_RESULT.apart 0 0 R.LAN_RETIRE_CAUSE l.val 0 = true) l)

theorem joinDropped_only (j : Join) (s : State) : OnlyChanges [.lan, .regs] s (joinDropped j s) := by
  simp [onlyChanges_iff, joinDropped, lanResult]

theorem selftestFailed_only (j : Join) (s : State) : OnlyChanges [.lan, .vpt, .regs, .smp] s (selftestFailed j s) := by
  unfold selftestFailed
  split
  · exact ((joinDropped_only j s).mono (by decide)).trans (retire_only _ _ _)
  · exact ((State.w_only _ _ _ _ _).mono (by decide)).trans ((joinDropped_only j _).mono (by decide))

theorem selftestFailed_r (j : Join) (s : State) : (selftestFailed j s).r R.LAN_CSTAT_RESULT = 3
    ∧ (selftestFailed j s).r R.LAN_CSTAT_LANE = j.lane.val ∧ (selftestFailed j s).r R.LAN_RETIRE_CAUSE j.lane = 8 := by
  unfold selftestFailed
  split
  · rw [retire_r _ _ _ (retireCause_apart_result j.lane), retire_r _ _ _ (retireCause_apart_lane j.lane), retire_cause]
    exact ⟨lanResult_result _ _ _ (by decide), lanResult_lane _ _ _, rfl⟩
  · rw [joinDropped_cause]
    exact ⟨lanResult_result _ _ _ (by decide), lanResult_lane _ _ _, State.r_w_same (by decide)⟩

theorem selftestFailed_join (j : Join) (s : State) : (selftestFailed j s).lan.join = none := by
  unfold selftestFailed
  split <;> rfl

theorem selftestFailed_test (ht : j.test = true) : (selftestFailed j s).lan.lanes[j.lane].retired = true := by
  rw [selftestFailed, if_pos ht, retire_retired, if_pos rfl]

theorem selftestFailed_readmit (ht : j.test = false) : (selftestFailed j s).lan.lanes = s.lan.lanes ∧ (selftestFailed j s).vpt = s.vpt := by
  rw [selftestFailed, if_neg (by rw [ht]; exact Bool.false_ne_true)]
  exact ⟨rfl, rfl⟩

/-- The clause of O39 on a self-test that fails. -/
theorem selftestClause {p rf : Bool} (hj : s.lan.join = some j) (h1 : j.step = 1) (hs : j.selfDone = false)
    (h : p = false ∨ rf = true ∨ reloadOk s = false) (hao : s.pwr.aoOk = true) (hz : j.zero.isSome = true) :
    ∃ t, exec (.laneSelftestDone p rf) s = .next t ∧ OnlyChanges (.lan :: .vpt :: raiseParts) s t ∧ t.lan.join = none
      ∧ t.raised S.LAN_STEST = true ∧ t.r R.LAN_CSTAT_RESULT = 3 ∧ t.r R.LAN_CSTAT_LANE = j.lane.val
      ∧ t.r R.LAN_RETIRE_CAUSE j.lane = 8 ∧ (j.test = true → t.lan.lanes[j.lane].retired = true)
      ∧ (j.test = false → t.lan.lanes = s.lan.lanes ∧ t.vpt = s.vpt) := by
  have honly := selftestFailed_only j s
  obtain ⟨hres, hlane, hcause⟩ := selftestFailed_r j s
  have hlan : (raise S.LAN_STEST 0 (selftestFailed j s)).lan = (selftestFailed j s).lan := raise_only _ _ _ .lan (by decide)
  have hvpt : (raise S.LAN_STEST 0 (selftestFailed j s)).vpt = (selftestFailed j s).vpt := raise_only _ _ _ .vpt (by decide)
  have hup : (selftestFailed j s).blockUp 4 = true := (State.blockUp_congr (honly .pwr (by decide)) 4).trans hao
  refine ⟨_, (execLaneSelftestDone_fail hj h1 hs h).trans (congrArg _ (joinFail_stest hj hz)),
    (honly.mono (by decide)).trans ((raise_only _ _ _).mono (by decide)), ?_, raised_raise _ _ hup, ?_, ?_, ?_, fun ht => ?_, fun ht => ?_⟩
  · rw [hlan, selftestFailed_join]
  · exact (State.r_congr (raise_regs_leaves _ _ _ (raiseLeaves_of rfl))).trans hres
  · exact (State.r_congr (raise_regs_leaves _ _ _ (raiseLeaves_of rfl))).trans hlane
  · refine (State.r_congr (raise_regs_leaves _ _ _ ?_)).trans hcause
    exact (by unfold raiseLeaves; decide : ∀ l : Fin 3, raiseLeaves (R.LAN_RETIRE_CAUSE.off l.val 0)) j.lane
  · rw [hlan]
    exact selftestFailed_test ht
  · rw [hlan, hvpt]
    exact selftestFailed_readmit ht

/-! ### The repair timer and the recurrence (R260, R266) -/

/-- The repair timer has expired. -/
def repairDone (due : Nat) (s : State) : State := { s.at due with lan := { s.lan with repairExpired := true } }

theorem execRepairTimerExpire_eq (hr : s.lan.repairRun = true) (he : s.lan.repairExpired = false) (hm : s.sys.mode ≠ .boot)
    (hc : s.comes (s.lan.boundary + s.keep.repairLeft) = true) :
    execRepairTimerExpire s = .next (raise S.LAN_REPAIR 0 (repairDone (s.lan.boundary + s.keep.repairLeft) s)) :=
  congrArg Host.Outcome.next (if_pos (by rw [hr, he, bne_iff_ne.2 hm, hc]; rfl))

theorem execRepairTimerExpire_again (he : s.lan.repairExpired = true) : execRepairTimerExpire s = .next s :=
  congrArg Host.Outcome.next (if_neg (by rw [he]; simp))

theorem repairDone_only (due : Nat) (s : State) : OnlyChanges [.tb, .edge, .lan] s (repairDone due s) := by
  have h : OnlyChanges [.lan] (s.at due) (repairDone due s) := by simp [onlyChanges_iff, repairDone]
  exact ((State.at_only s due).mono (by decide)).trans (h.mono (by decide))

/-- The recurrence of CMP.XY is forgotten. -/
def recurForgotten (due : Nat) (s : State) : State := { s.at due with keep := { s.keep with recur := false, recurTicks := 0 } }

theorem recurForgotten_only (due : Nat) (s : State) : OnlyChanges [.tb, .edge, .keep] s (recurForgotten due s) := by
  have h : OnlyChanges [.keep] (s.at due) (recurForgotten due s) := by simp [onlyChanges_iff, recurForgotten]
  exact ((State.at_only s due).mono (by decide)).trans (h.mono (by decide))

theorem execRecurClear_eq {due : Nat} (hr : s.keep.recur = true) (hm : s.inMode [.run, .degraded] = true)
    (hd : due = s.lan.boundary + (24 * 360000000000 - s.keep.recurTicks)) (hc : s.comes due = true) :
    execRecurClear s = .next (recurForgotten due s) := by
  subst hd
  exact congrArg Host.Outcome.next (if_pos (by rw [hr, hm]; exact hc))

/-- Settles O39: requests by `laneWhy`, what a lane meets by the lemma of each happening. -/
theorem laneRequestsAndHappenings : Obligations.LaneRequestsAndHappenings := by
  refine ⟨fun s u l hu => ⟨fun h4 hj hr hd hm h3 => ?_, fun h4 hj hr hm => ?_, fun h4 h => ?_, fun h4 h => ?_, fun bits h4 hb => ?_,
      fun hreach hm => ?_, fun due hd ha hc => autoReadmitClause hd ha hc⟩,
    fun s => ⟨fun l f u hu => ?_, fun j hj h1 hs => ⟨fun hr => execLaneSelftestDone_pass hj h1 hs hr,
      fun p rf h hao hz => selftestClause hj h1 hs h hao hz⟩, fun due hr he hm hao hd hc => ?_, fun due hr hm hd hc => ?_⟩⟩
  · subst hu
    have hw : laneWhy (s.order 6) false l = 0 := laneWhy_readmit_ok (by exact hj) (by exact hr) (by exact hd) (by exact hm) h3
    exact ⟨_, (execLaneReadmitReq_eq h4).trans (congrArg _ (laneRequest_ok hw)), accepted_answer l false _⟩
  · subst hu
    have hnone : ¬∃ i : Fin 3, (s.order 6).lan.lanes[i].retired = true := fun ⟨i, hi⟩ => absurd hi (by rw [State.order_lan, hr i]; decide)
    have hw : laneWhy (s.order 6) true l = 0 := by
      have hj' : ¬((s.order 6).lan.join.isSome = true) := by rw [State.order_lan, hj]; decide
      rw [laneWhy_test, if_neg hj', if_neg hnone]
      exact if_pos hm
    exact ⟨_, (execLaneTestReq_eq h4).trans (congrArg _ (laneRequest_ok hw)), accepted_answer l true _⟩
  · subst hu
    have hw : laneWhy (s.order 6) false l = 5 := laneWhy_readmit_refused h
    exact ⟨_, (execLaneReadmitReq_eq h4).trans (congrArg _ (laneRequest_refused hw (by decide))), lanResult_only _ _ _,
      lanResult_result _ _ _ (by decide), lanResult_lane _ _ _⟩
  · subst hu
    have hw : laneWhy (s.order 6) true l = if s.lan.join.isSome = true then 5
        else if ∃ i : Fin 3, s.lan.lanes[i].retired = true then 4 else 5 := by
      rw [laneWhy_test]
      by_cases hj : s.lan.join.isSome = true
      · exact (if_pos hj).trans (if_pos hj).symm
      · refine (if_neg hj).trans (.trans ?_ (if_neg hj).symm)
        by_cases hi : ∃ i : Fin 3, s.lan.lanes[i].retired = true
        · exact (if_pos hi).trans (if_pos hi).symm
        · refine (if_neg hi).trans (.trans (if_neg ?_) (if_neg hi).symm)
          have hm : s.inMode [.run, .maintain] = false := (h.resolve_left hj).resolve_right hi
          exact fun hm' => absurd (hm.symm.trans hm') (by decide)
    have hne : laneWhy (s.order 6) true l ≠ 0 := by rw [hw]; split_ifs <;> decide
    have hlt : laneWhy (s.order 6) true l < 8 := by rw [hw]; split_ifs <;> decide
    exact ⟨_, (execLaneTestReq_eq h4).trans (congrArg _ (laneRequest_refused rfl hne)), lanResult_only _ _ _, lanResult_lane _ _ _,
      (lanResult_result _ _ _ hlt).trans hw⟩
  · subst hu
    obtain ⟨i, hi⟩ := lanCtrlEff_many hb
    exact ⟨lanResult 5 i (s.order 6), congrArg Host.Outcome.next ((hostWr_lands _ h4).trans (hi _).1),
      congrArg Host.Outcome.next ((hostWr_lands _ h4).trans (hi _).2), lanResult_only _ _ _, lanResult_result _ _ _ (by decide)⟩
  · subst hu
    refine ⟨_, execLaneReadmitReq_lockdown hreach hm, (raiseAccess_only _ _ _ _).trans ((lanResult_only _ _ _).mono (by decide)),
      lanResult_result _ _ _ (by decide), ?_⟩
    rw [lanResult_raised]
    exact raised_raiseAccess (State.hostReach_aoOk hreach)
  · subst hu
    exact sampleFrames s l f
  · subst hd
    have hlan : (raise S.LAN_REPAIR 0 (repairDone (s.lan.boundary + s.keep.repairLeft) s)).lan = { s.lan with repairExpired := true } :=
      raise_only _ _ _ .lan (by decide)
    refine ⟨_, execRepairTimerExpire_eq hr he hm hc, ((repairDone_only _ s).mono (by decide)).trans ((raise_only _ _ _).mono (by decide)),
      raised_raise _ _ hao, raise_only _ _ _ .tb (by decide), hlan, execRepairTimerExpire_again ?_⟩
    rw [hlan]
  · exact ⟨_, execRecurClear_eq hr hm hd hc, recurForgotten_only due s, rfl, rfl⟩

end Sys2Proof.Machine
end

section
/-! The field die: its fault queue, and what a change of the commands or the clamps leaves (R369, R376, R384, R601). -/

namespace Sys2Proof.Machine

/-! ### The fault queue (R601) -/

/-- The field die but for its fault queue. -/
def Fld.quiet (f : Fld) : Fld := { f with queue := [], evt := 0, evtCnt := 0 }

theorem show_quiet (f : Fld) : f.show.quiet = f.quiet := by
  unfold Fld.show
  split <;> rfl

theorem show_queue (f : Fld) : f.show.queue = f.queue := by
  unfold Fld.show
  split <;> simp_all

theorem fault_quiet (f : Fld) (c : Src) (pin pin2 : Nat) : (f.fault c pin pin2).quiet = f.quiet := by
  unfold Fld.fault
  refine (show_quiet _).trans ?_
  split <;> rfl

theorem fault_queue (f : Fld) (c : Src) (pin pin2 : Nat) : (f.fault c pin pin2).queue =
    if f.queue.any (fun e => e.code == c.code.setWidth 8 && e.pin == BitVec.ofNat 8 pin) then
      f.queue.map fun e => if e.code == c.code.setWidth 8 && e.pin == BitVec.ofNat 8 pin then { e with pin2 := BitVec.ofNat 8 pin2 } else e
    else f.queue ++ [⟨c.code.setWidth 8, BitVec.ofNat 8 pin, BitVec.ofNat 8 pin2, nextCnt f.evtCnt⟩] := by
  unfold Fld.fault
  refine (show_queue _).trans ?_
  split <;> rfl

/-- A fault that the queue holds stays in it. -/
theorem fault_keeps {f : Fld} {c' : Src} {pin' : Nat} (h : Queued f c' pin') (c : Src) (pin pin2 : Nat) :
    Queued (f.fault c pin pin2) c' pin' := by
  obtain ⟨e, he, hcode, hpin⟩ := h
  unfold Queued
  rw [fault_queue]
  split
  · refine ⟨_, List.mem_map_of_mem he, ?_, ?_⟩
    · split <;> exact hcode
    · split <;> exact hpin
  · exact ⟨e, List.mem_append_left _ he, hcode, hpin⟩

/-- A fault is in the queue once it is found. -/
theorem fault_queued (f : Fld) (c : Src) (pin pin2 : Nat) : Queued (f.fault c pin pin2) c pin := by
  unfold Queued
  rw [fault_queue]
  split
  · rename_i h
    obtain ⟨e, he, hm⟩ := List.any_eq_true.1 h
    obtain ⟨hcode, hpin⟩ := Bool.and_eq_true_iff.1 hm
    refine ⟨_, List.mem_map_of_mem he, ?_, ?_⟩
    · split <;> exact beq_iff_eq.1 hcode
    · split <;> exact beq_iff_eq.1 hpin
  · exact ⟨_, List.mem_append_right _ List.mem_cons_self, rfl, rfl⟩

variable {n : Nat}

theorem faults_quiet (f : Fld) (c : Src) (b : BitVec n) (base pin2 : Nat) : (f.faults c b base pin2).quiet = f.quiet := by
  unfold Fld.faults
  exact List.foldlRecOn (motive := fun g => g.quiet = f.quiet) _ _ rfl fun g h i _ => (fault_quiet g c _ _).trans h

theorem faults_keeps {f : Fld} {c' : Src} {pin' : Nat} (h : Queued f c' pin') (c : Src) (b : BitVec n) (base pin2 : Nat) :
    Queued (f.faults c b base pin2) c' pin' := by
  unfold Fld.faults
  exact List.foldlRecOn (motive := fun g => Queued g c' pin') _ _ h fun g h i _ => fault_keeps h c _ _

/-- Each pin of the bit vector has its fault in the queue. -/
theorem faults_queued (f : Fld) (c : Src) {b : BitVec n} (base pin2 : Nat) {i : Nat} (h : b.getLsbD i = true) :
    Queued (f.faults c b base pin2) c (base + i) := by
  unfold Fld.faults
  obtain ⟨l, r, hlr⟩ := List.append_of_mem ((mem_ones b i).2 ⟨BitVec.lt_of_getLsbD h, h⟩)
  rw [hlr, List.foldl_append, List.foldl_cons]
  exact List.foldlRecOn (motive := fun g => Queued g c (base + i)) _ _ (fault_queued _ _ _ _) fun g h i _ => fault_keeps h c _ _

/-- Two states of the die whose fault queues are the same hold the same faults. -/
theorem queued_congr {f g : Fld} (h : g.queue = f.queue) {c : Src} {pin : Nat} (hq : Queued f c pin) : Queued g c pin := by
  unfold Queued
  rw [h]
  exact hq

/-! ### Frames -/

/-- A frame with its CRC appended is good. -/
theorem frameGood_sealFrame (ws : List Word) : frameGood (sealFrame ws) = true := by
  unfold frameGood sealFrame frameCrc
  simp

/-! ### After a change (R369, R376, R384) -/

/-- The outputs whose expected state a change alters, its pulses being judged. -/
def changedOuts (s : State) (g : Fld) : BitVec 20 := anyLeg (s.fld.expLegs ^^^ g.expLegs) ||| (s.fld.expOn ^^^ g.expOn)

/-- The die with its pulses judged by the commands and the clamps. -/
def watched (f : Fld) : Fld := { f with pulse := f.pulse.map fun (p : Option Pulse) => p.map (pulseWatch f) }

/-- The die after a change: pulses judged, instants noted, timers cleared. -/
def settledFld (s : State) (f : Fld) : Fld :=
  let g := watched f
  { g with
    changeAt := vimap (fun t a => if (changedOuts s g).getLsbD t then s.tb else a) g.changeAt
    rbOnSince := vimap (fun (t : Fin 20) (a : Option Nat) => if (changedOuts s g).getLsbD t then none else a) g.rbOnSince
    rbOffSince := vimap (fun (t : Fin 20) (a : Option Nat) => if (changedOuts s g).getLsbD t then none else a) g.rbOffSince }

/-- A pulse that the change ends is abandoned. -/
def abandonStep (f : Fld) (t : State) (p : Option Pulse) : State :=
  match p with
  | some p => if (pulseWatch f p).abandoned && !p.abandoned then testAbandon p t else t
  | none => t

theorem fldSettle_eq (s : State) (f : Fld) :
    fldSettle s f = f.pulse.toList.foldl (abandonStep f) { s with fld := settledFld s f } := by
  unfold fldSettle
  dsimp only
  congr 1

theorem testAbandon_only (p : Pulse) (s : State) : OnlyChanges [.regs, .lan] s (testAbandon p s) := by simp [onlyChanges_iff, testAbandon]

theorem abandonStep_only (f : Fld) (t : State) (p : Option Pulse) : OnlyChanges [.regs, .lan] t (abandonStep f t p) := by
  unfold abandonStep
  split
  · exact .ite _ (testAbandon_only _ _) (.refl _ t)
  · exact .refl _ t

theorem fldSettle_fld (s : State) (f : Fld) : (fldSettle s f).fld = settledFld s f := by
  rw [fldSettle_eq]
  exact List.foldlRecOn (motive := fun t : State => t.fld = settledFld s f) _ _ rfl
    fun t h p _ => (abandonStep_only f t p .fld (by decide)).trans h

theorem fldSettle_only (s : State) (f : Fld) : OnlyChanges [.fld, .regs, .lan] s (fldSettle s f) := by
  rw [fldSettle_eq]
  refine List.foldlRecOn (motive := fun t : State => OnlyChanges [.fld, .regs, .lan] s t) _ _ ?_
    fun t h p _ => h.trans ((abandonStep_only f t p).mono (by decide))
  simp [onlyChanges_iff]

/-- The lanes keep all but the tests that fall due again. -/
structure KeepsTests (a b : Lan) : Prop where
  lanes : b.lanes = a.lanes
  fldReset : b.fldReset = a.fldReset

theorem fldSettle_keepsTests (s : State) (f : Fld) : KeepsTests s.lan (fldSettle s f).lan := by
  rw [fldSettle_eq]
  refine List.foldlRecOn (motive := fun t : State => KeepsTests s.lan t.lan) _ _ ⟨rfl, rfl⟩ fun t h p _ => ?_
  unfold abandonStep
  split
  · split
    · exact ⟨h.lanes, h.fldReset⟩
    · exact h
  · exact h

/-- A change with no test under way abandons none. -/
theorem fldSettle_idle (s : State) {f : Fld} (h : f.pulse = Vector.replicate 2 none) : fldSettle s f = { s with fld := settledFld s f } := by
  rw [fldSettle_eq, h]
  rfl

/-! ### Expected states and clamps (R367, R369, R381) -/

theorem anyLeg_getLsbD (v : BitVec 60) {i : Nat} (h : i < 20) :
    (anyLeg v).getLsbD i = (v.getLsbD i || v.getLsbD (20 + i) || v.getLsbD (40 + i)) := by
  simp [anyLeg, h]

theorem triple_getLsbD (c : BitVec 20) {i : Nat} (h : i < 20) :
    (c ++ c ++ c).getLsbD i = c.getLsbD i ∧ (c ++ c ++ c).getLsbD (20 + i) = c.getLsbD i ∧ (c ++ c ++ c).getLsbD (40 + i) = c.getLsbD i := by
  refine ⟨?_, ?_, ?_⟩
  · rw [BitVec.getLsbD_append, if_pos h]
  · rw [BitVec.getLsbD_append, if_neg (by omega), BitVec.getLsbD_append, if_pos (by omega), Nat.add_sub_cancel_left]
  · rw [BitVec.getLsbD_append, if_neg (by omega), BitVec.getLsbD_append, if_neg (by omega), Nat.sub_sub, Nat.add_sub_cancel_left]

/-- An output that is clamped is not expected ON. -/
theorem expOn_of_clamped {f : Fld} {i : Nat} (h : f.clamped.getLsbD i = true) : f.expOn.getLsbD i = false := by
  have hi : i < 20 := BitVec.lt_of_getLsbD h
  obtain ⟨h0, h1, h2⟩ := triple_getLsbD f.clamped hi
  have hlegs : (anyLeg f.expLegs).getLsbD i = false := by
    rw [anyLeg_getLsbD _ hi, Fld.expLegs]
    rw [BitVec.getLsbD_and, BitVec.getLsbD_and, BitVec.getLsbD_and, BitVec.getLsbD_not, BitVec.getLsbD_not, BitVec.getLsbD_not,
      h0, h1, h2, h]
    simp
  have hhold : (if f.expired && f.armed then f.holdable &&& ~~~f.clamped else 0).getLsbD i = false := by
    split
    · rw [BitVec.getLsbD_and, BitVec.getLsbD_not, h]
      simp
    · simp
  rw [Fld.expOn, BitVec.getLsbD_or, hlegs, hhold]
  rfl

/-- Outputs that the clamps cover are not expected ON. -/
theorem expOn_and_of_clamped {f : Fld} {m : BitVec 20} (h : ∀ i, m.getLsbD i = true → f.clamped.getLsbD i = true) : f.expOn &&& m = 0 := by
  refine BitVec.eq_of_getLsbD_eq fun i hi => ?_
  rw [BitVec.getLsbD_and]
  cases hm : m.getLsbD i
  · simp
  · rw [expOn_of_clamped (h i hm)]
    simp

/-- A core clamp is one of the clamps. -/
theorem clamped_of_clamp {f : Fld} {i : Nat} (h : f.clamp.getLsbD i = true) : f.clamped.getLsbD i = true := by
  simp [Fld.clamped, h]

/-- The outputs of a group in SAG or MISSING are clamped. -/
theorem clamped_of_sunk {f : Fld} {g : Fin 2} (hg : f.sunk.getLsbD g.val = true) {i : Nat} (h : (grpOuts g).getLsbD i = true) :
    f.clamped.getLsbD i = true := by
  rcases Fin.exists_fin_two.1 ⟨g, rfl⟩ with rfl | rfl
  · have hg' : f.sunk.getLsbD 0 = true := hg
    rw [Fld.clamped, hg']
    simp [h]
  · have hg' : f.sunk.getLsbD 1 = true := hg
    rw [Fld.clamped, hg']
    simp [h]

end Sys2Proof.Machine
end

section
/-! A sample instant of the field die (R351, R352, R355, R358, R359). -/

namespace Sys2Proof.Machine

/-! ### What the judgements of a sample leave -/

/-- The die keeps what a sample has read of its inputs, its settings, and the faults in its queue. -/
structure SampleKeeps (f g : Fld) : Prop where
  snum : g.snum = f.snum
  fpos : g.fpos = f.fpos
  sampleAt : g.sampleAt = f.sampleAt
  x : g.x = f.x
  si : g.si = f.si
  raw : g.raw = f.raw
  links : g.links = f.links
  cfg : g.cfg = f.cfg
  cfgCrc : g.cfgCrc = f.cfgCrc
  cfgNew : g.cfgNew = f.cfgNew
  siOk : ∀ i, f.siOk.getLsbD i = false → g.siOk.getLsbD i = false
  queued : ∀ c pin, Queued f c pin → Queued g c pin

theorem SampleKeeps.refl (f : Fld) : SampleKeeps f f := ⟨rfl, rfl, rfl, rfl, rfl, rfl, rfl, rfl, rfl, rfl, fun _ h => h, fun _ _ h => h⟩

theorem SampleKeeps.trans {f g h : Fld} (a : SampleKeeps f g) (b : SampleKeeps g h) : SampleKeeps f h :=
  ⟨b.snum.trans a.snum, b.fpos.trans a.fpos, b.sampleAt.trans a.sampleAt, b.x.trans a.x, b.si.trans a.si, b.raw.trans a.raw,
    b.links.trans a.links, b.cfg.trans a.cfg, b.cfgCrc.trans a.cfgCrc, b.cfgNew.trans a.cfgNew, fun i hi => b.siOk i (a.siOk i hi),
    fun c pin hq => b.queued c pin (a.queued c pin hq)⟩

/-- A change of the fault queue alone. -/
theorem SampleKeeps.of_quiet {f g : Fld} (h : g.quiet = f.quiet) (hq : ∀ c pin, Queued f c pin → Queued g c pin) : SampleKeeps f g :=
  ⟨(congrArg Fld.snum h :), (congrArg Fld.fpos h :), (congrArg Fld.sampleAt h :), (congrArg Fld.x h :), (congrArg Fld.si h :),
    (congrArg Fld.raw h :), (congrArg Fld.links h :), (congrArg Fld.cfg h :), (congrArg Fld.cfgCrc h :), (congrArg Fld.cfgNew h :),
    fun i hi => (congrArg (fun k : Fld => k.siOk.getLsbD i) h).trans hi, hq⟩

theorem SampleKeeps.fault (f : Fld) (c : Src) (pin pin2 : Nat) : SampleKeeps f (f.fault c pin pin2) :=
  .of_quiet (fault_quiet f c pin pin2) fun _ _ hq => fault_keeps hq c pin pin2

theorem SampleKeeps.faults {n : Nat} (f : Fld) (c : Src) (b : BitVec n) (base pin2 : Nat) : SampleKeeps f (f.faults c b base pin2) :=
  .of_quiet (faults_quiet f c b base pin2) fun _ _ hq => faults_keeps hq c b base pin2

theorem fldInconsAt_keeps (now : Nat) (f : Fld) : SampleKeeps f (fldInconsAt now f) := by
  have h : ∀ v, SampleKeeps f { f with inconsAt := v } := fun v =>
    ⟨rfl, rfl, rfl, rfl, rfl, rfl, rfl, rfl, rfl, rfl, fun _ h => h, fun _ _ h => h⟩
  exact h _

theorem tpJudge_keeps (before : BitVec 32) (f : Fld) : SampleKeeps f (tpJudge before f) := by
  unfold tpJudge
  split
  · exact .refl f
  · refine .trans ?_ ((SampleKeeps.faults _ _ _ _ _).trans (.faults _ _ _ _ _))
    refine ⟨rfl, rfl, rfl, rfl, rfl, rfl, rfl, rfl, rfl, rfl, fun i h => ?_, fun _ _ h => h⟩
    rw [BitVec.getLsbD_and, h, Bool.false_and]

theorem crossJudge_keeps (f : Fld) : SampleKeeps f (crossJudge f) := by
  unfold crossJudge
  refine List.foldlRecOn (motive := fun g => SampleKeeps f g) _ _ (.refl f) fun g h l _ => h.trans ?_
  split
  · exact .refl g
  · refine .trans ?_ (SampleKeeps.faults _ _ _ _ _)
    exact ⟨rfl, rfl, rfl, rfl, rfl, rfl, rfl, rfl, rfl, rfl, fun _ h => h, fun _ _ h => h⟩

theorem rb_keeps (f : Fld) (rb : BitVec 20) : SampleKeeps f { f with rb := rb } :=
  ⟨rfl, rfl, rfl, rfl, rfl, rfl, rfl, rfl, rfl, rfl, fun _ h => h, fun _ _ h => h⟩

theorem fldOutputs_keeps (now : Nat) (io : FieldIn) (f : Fld) : SampleKeeps f (fldOutputs now io f) := by
  unfold fldOutputs
  refine .trans ?_ ((SampleKeeps.faults _ _ _ _ _).trans ((SampleKeeps.faults _ _ _ _ _).trans
    ((SampleKeeps.faults _ _ _ _ _).trans (.faults _ _ _ _ _))))
  exact ⟨rfl, rfl, rfl, rfl, rfl, rfl, rfl, rfl, rfl, rfl, fun _ h => h, fun _ _ h => h⟩

theorem pulseSample_keeps (f : Fld) : SampleKeeps f (pulseSample f) :=
  ⟨rfl, rfl, rfl, rfl, rfl, rfl, rfl, rfl, rfl, rfl, fun _ h => h, fun _ _ h => h⟩

theorem settledFld_keeps (s : State) (f : Fld) : SampleKeeps f (settledFld s f) := by
  have h : ∀ p a b c, SampleKeeps f { f with pulse := p, changeAt := a, rbOnSince := b, rbOffSince := c } := fun p a b c =>
    ⟨rfl, rfl, rfl, rfl, rfl, rfl, rfl, rfl, rfl, rfl, fun _ h => h, fun _ _ h => h⟩
  exact h _ _ _ _

theorem supplyStart_keeps (s : State) (fs : Fin 2 → Nat) (f : Fld) (g : Fin 2) : SampleKeeps f (supplyStart s fs f g) := by
  unfold supplyStart
  split
  · exact .refl f
  · split
    · refine .trans ?_ (SampleKeeps.fault _ _ _ _)
      exact ⟨rfl, rfl, rfl, rfl, rfl, rfl, rfl, rfl, rfl, rfl, fun _ h => h, fun _ _ h => h⟩
    · refine .trans ?_ (SampleKeeps.fault _ _ _ _)
      exact ⟨rfl, rfl, rfl, rfl, rfl, rfl, rfl, rfl, rfl, rfl, fun _ h => h, fun _ _ h => h⟩

/-! ### A new field configuration (R355) -/

/-- The die with a new configuration, before the fault state of the first restarts. -/
def configured (c : List Word) (f : Fld) : Fld := { f with cfg := c, cfgCrc := fieldCrc c, cfgNew := none }

/-- The die whose fault state starts with its first configuration (R602). -/
def faultsRestarted (f : Fld) : Fld :=
  { f with cfgLoaded := true, siOk := 0xFFFFFFFF, siPat := 0, siThr := 0, soOk := 0xFFFFF, wdg := false, tpHeld := 0, queue := [],
           find := Vector.replicate 8 0, findPrev := Vector.replicate 8 0, incons := 0, inconsRun := 0 }

/-- What a sample reads of the die before its inputs. -/
structure LoadKeeps (f g : Fld) : Prop where
  snum : g.snum = f.snum
  fpos : g.fpos = f.fpos
  x : g.x = f.x
  si : g.si = f.si
  raw : g.raw = f.raw
  links : g.links = f.links

theorem fldLoad_eq (s : State) (c : List Word) (fs : Fin 2 → Nat) : fldLoad s c fs = if s.fld.cfgLoaded then fldSettle s (configured c s.fld)
    else fldSettle s ((List.finRange 2).foldl (supplyStart s fs) (faultsRestarted (configured c s.fld))) := rfl

theorem fldLoad_fld (s : State) (c : List Word) (fs : Fin 2 → Nat) : LoadKeeps s.fld (fldLoad s c fs).fld
    ∧ (fldLoad s c fs).fld.cfg = c ∧ (fldLoad s c fs).fld.cfgCrc = fieldCrc c ∧ (fldLoad s c fs).fld.cfgNew = none := by
  have hdone : ∀ f : Fld, LoadKeeps s.fld f → f.cfg = c → f.cfgCrc = fieldCrc c → f.cfgNew = none →
      LoadKeeps s.fld (fldSettle s f).fld ∧ (fldSettle s f).fld.cfg = c ∧ (fldSettle s f).fld.cfgCrc = fieldCrc c
        ∧ (fldSettle s f).fld.cfgNew = none := fun f hk hc hr hn => by
    have hs := settledFld_keeps s f
    rw [fldSettle_fld]
    exact ⟨⟨hs.snum.trans hk.snum, hs.fpos.trans hk.fpos, hs.x.trans hk.x, hs.si.trans hk.si, hs.raw.trans hk.raw, hs.links.trans hk.links⟩,
      hs.cfg.trans hc, hs.cfgCrc.trans hr, hs.cfgNew.trans hn⟩
  rw [fldLoad_eq]
  split
  · exact hdone _ ⟨rfl, rfl, rfl, rfl, rfl, rfl⟩ rfl rfl rfl
  · have hstart := fun f : Fld => List.foldlRecOn (motive := fun g => SampleKeeps f g) (List.finRange 2) (supplyStart s fs) (.refl f)
      fun g h i _ => h.trans (supplyStart_keeps s fs g i)
    obtain ⟨hsnum, hfpos, -, hx, hsi, hraw, hlinks, hcfg, hcrc, hnew, -, -⟩ := hstart (faultsRestarted (configured c s.fld))
    exact hdone _ ⟨hsnum, hfpos, hx, hsi, hraw, hlinks⟩ hcfg hcrc hnew

theorem fldLoad_only (s : State) (c : List Word) (fs : Fin 2 → Nat) : OnlyChanges [.fld, .regs, .lan] s (fldLoad s c fs) :=
  .ite _ (fldSettle_only _ _) (fldSettle_only _ _)

/-! ### The inputs (R358, R359) -/

/-- The filters of one sample. -/
def filtered (f : Fld) (raw : BitVec 32) (i : Fin 32) : Nat × Bool := filtStep (f.filtLim i) (raw.getLsbD i) f.x[i] (f.si.getLsbD i)

/-- Inputs that read on both sides at this sample and at the one before. -/
def inconsTwice (io : FieldIn) (f : Fld) : BitVec 32 := io.atOn &&& io.atOff &&& f.incons

/-- The inputs of one sample, before the faults that it finds. -/
def inputsRead (io : FieldIn) (fv : Word) (f : Fld) : Fld :=
  { f with raw := rawOf io f.raw fv, x := Vector.ofFn fun i => (filtered f (rawOf io f.raw fv) i).1,
           si := (List.finRange 32).foldl (fun b (i : Fin 32) => putBit b i.val (filtered f (rawOf io f.raw fv) i).2) f.si,
           incons := io.atOn &&& io.atOff, inconsRun := inconsTwice io f, siOk := f.siOk &&& ~~~(inconsTwice io f),
           siThr := f.siThr ||| inconsTwice io f }

theorem fldInputs_eq (io : FieldIn) (fv : Word) (f : Fld) :
    fldInputs io fv f = (inputsRead io fv f).faults S.FLD_THR (inconsTwice io f &&& ~~~f.inconsRun) 0 0 := rfl

theorem foldl_putBit {n : Nat} (p : Fin n → Bool) (b : BitVec n) (i : Fin n) :
    ((List.finRange n).foldl (fun b i => putBit b i.val (p i)) b).getLsbD i.val = p i := by
  have hall : ∀ l : List (Fin n), ∀ b : BitVec n, (l.foldl (fun b i => putBit b i.val (p i)) b).getLsbD i.val =
      if i ∈ l then p i else b.getLsbD i.val := fun l => by
    induction l with
    | nil => exact fun b => rfl
    | cons j l ih =>
      intro b
      rw [List.foldl_cons, ih, putBit_getLsbD _ _ _ _ i.isLt]
      by_cases hl : i ∈ l
      · rw [if_pos hl, if_pos (List.mem_cons_of_mem _ hl)]
      · rw [if_neg hl]
        by_cases hj : i = j
        · rw [if_pos (congrArg Fin.val hj), if_pos (by rw [hj]; exact List.mem_cons_self), hj]
        · rw [if_neg fun h => hj (Fin.ext h), if_neg fun h => (List.mem_cons.1 h).elim hj hl]
  rw [hall, if_pos (List.mem_finRange i)]

theorem inputsRead_si (io : FieldIn) (fv : Word) (f : Fld) (i : Fin 32) :
    (inputsRead io fv f).si.getLsbD i.val = (filtered f (rawOf io f.raw fv) i).2 := foldl_putBit _ _ i

theorem inputsRead_x (io : FieldIn) (fv : Word) (f : Fld) (i : Fin 32) :
    (inputsRead io fv f).x[i] = (filtered f (rawOf io f.raw fv) i).1 := by simp [inputsRead]

theorem rawOf_getLsbD (io : FieldIn) (prev : BitVec 32) (fv : Word) {i : Nat} (hi : i < 32) : (rawOf io prev fv).getLsbD i =
    if io.atOn.getLsbD i then (if io.atOff.getLsbD i then fv.getLsbD i else true)
    else (if io.atOff.getLsbD i then false else prev.getLsbD i) := by
  simp only [rawOf, BitVec.getLsbD_or, BitVec.getLsbD_and, BitVec.getLsbD_not, hi, decide_true, Bool.true_and]
  cases io.atOn.getLsbD i <;> cases io.atOff.getLsbD i <;> simp

end Sys2Proof.Machine
end

section
/-! O44: a sample instant. -/

namespace Sys2Proof.Machine

variable {s : State} {a : Nat}

/-- The supplies that a sample reads. -/
def sampleFs (io : FieldIn) (g : Fin 2) : BitVec 16 := if g = 0 then io.fsA else io.fsB

/-- The instants since which the supplies stand high. -/
def highSince (io : FieldIn) (tb : Nat) (f : Fld) : Vector (Option Nat) 2 :=
  vimap (fun g (a : Option Nat) => if 1920 < (sampleFs io g).toNat then some (a.getD tb) else none) f.fsHighAt

/-- The die with its supplies read. -/
def suppliesRead (io : FieldIn) (tb : Nat) (f : Fld) : Fld :=
  { f with fs := Vector.ofFn (sampleFs io), fsHighAt := highSince io tb f,
           fsLong := f.fsLong &&& bvOf 2 fun g => (highSince io tb f).toList.getD g none |>.isSome }

/-- The device at a sample instant. -/
def sampleInstant (s : State) : State :=
  match s.fld.sampleAt with
  | some a => if s.fld.links != 0 then s.at (a + 2500) else s
  | none => s

/-- The device with its field supplies read. -/
def withSupplies (io : FieldIn) (t : State) : State := { t with fld := suppliesRead io t.tb t.fld }

/-- The device at a sample instant that follows another, its supplies read. -/
def sampleOpened (io : FieldIn) (a : Nat) (s : State) : State := withSupplies io (s.at (a + 2500))

/-- A new configuration comes into use. -/
def sampleLoaded (io : FieldIn) (s : State) : State :=
  match s.fld.cfgNew with
  | some c => fldLoad s c (fun g => (sampleFs io g).toNat)
  | none => s

/-- The inputs of the sample, judged with the check whose second sample it is. -/
def sampleInputs (io : FieldIn) (s : State) : Fld :=
  tpJudge s.fld.raw (fldInconsAt s.tb (fldInputs io s.fv { s.fld with sampleAt := some s.tb }))

/-- The outputs of the sample, and the note that off-pulses take of it. -/
def sampleOutputs (io : FieldIn) (now : Nat) (f : Fld) : Fld := pulseSample (fldOutputs now io (crossJudge { f with rb := rbOf f io }))

/-- The device with the sample taken. -/
def sampleTaken (io : FieldIn) (s : State) : State := fldSettle (s.took 1) (sampleOutputs io s.tb (sampleInputs io s))

/-- The sample's frame leaves, and the next one has its number. -/
def sampleSent (s : State) : State :=
  { s with fld := { s.fld with snum := s.fld.snum + 1, fpos := (s.fld.fpos + 1) % 400 }, tx := .sample s.fld.links (sampleFrame s.fld) :: s.tx }

theorem sampleOutputs_keeps (io : FieldIn) (now : Nat) (f : Fld) : SampleKeeps f (sampleOutputs io now f) :=
  (rb_keeps f _).trans ((crossJudge_keeps _).trans ((fldOutputs_keeps now io _).trans (pulseSample_keeps _)))

theorem sampleLoaded_only (io : FieldIn) (s : State) : OnlyChanges [.fld, .regs, .lan] s (sampleLoaded io s) := by
  unfold sampleLoaded
  split
  · exact fldLoad_only _ _ _
  · exact .refl _ s

theorem sampleTaken_only (io : FieldIn) (s : State) : OnlyChanges [.fld, .regs, .lan, .free] s (sampleTaken io s) := by
  have h : OnlyChanges [.free] s (s.took 1) := by simp [onlyChanges_iff, State.took]
  exact (h.mono (by decide)).trans ((fldSettle_only _ _).mono (by decide))

theorem sampleTaken_keeps (io : FieldIn) (s : State) :
    SampleKeeps (inputsRead io s.fv { s.fld with sampleAt := some s.tb }) (sampleTaken io s).fld := by
  rw [sampleTaken, fldSettle_fld]
  refine .trans ?_ ((sampleOutputs_keeps io s.tb _).trans (settledFld_keeps _ _))
  refine .trans ?_ ((fldInconsAt_keeps s.tb _).trans (tpJudge_keeps s.fld.raw _))
  rw [fldInputs_eq]
  exact .faults _ _ _ _ _

theorem sampleOpened_only (io : FieldIn) (a : Nat) (s : State) : OnlyChanges [.tb, .edge, .fld] s (sampleOpened io a s) := by
  have h : ∀ f, OnlyChanges [.fld] (s.at (a + 2500)) { s.at (a + 2500) with fld := f } := fun f => by simp [onlyChanges_iff]
  exact ((State.at_only s _).mono (by decide)).trans ((h _).mono (by decide))

theorem sampleOpened_fld (io : FieldIn) (a : Nat) (s : State) : LoadKeeps s.fld (sampleOpened io a s).fld
    ∧ (sampleOpened io a s).fld.cfg = s.fld.cfg ∧ (sampleOpened io a s).fld.cfgNew = s.fld.cfgNew
    ∧ (sampleOpened io a s).fld.incons = s.fld.incons ∧ (sampleOpened io a s).fld.inconsRun = s.fld.inconsRun := by
  have h : ∀ v w b, LoadKeeps s.fld { s.fld with fs := v, fsHighAt := w, fsLong := b }
      ∧ { s.fld with fs := v, fsHighAt := w, fsLong := b }.cfg = s.fld.cfg
      ∧ { s.fld with fs := v, fsHighAt := w, fsLong := b }.cfgNew = s.fld.cfgNew
      ∧ { s.fld with fs := v, fsHighAt := w, fsLong := b }.incons = s.fld.incons
      ∧ { s.fld with fs := v, fsHighAt := w, fsLong := b }.inconsRun = s.fld.inconsRun := fun v w b =>
    ⟨⟨rfl, rfl, rfl, rfl, rfl, rfl⟩, rfl, rfl, rfl, rfl⟩
  exact h _ _ _

theorem sampleLoaded_fld (io : FieldIn) (s : State) : LoadKeeps s.fld (sampleLoaded io s).fld
    ∧ (sampleLoaded io s).fld.cfg = s.fld.cfgNew.getD s.fld.cfg ∧ (sampleLoaded io s).fld.cfgNew = none
    ∧ (∀ c, s.fld.cfgNew = some c → (sampleLoaded io s).fld.cfgCrc = fieldCrc c)
    ∧ (s.fld.cfgNew = none → (sampleLoaded io s).fld.incons = s.fld.incons ∧ (sampleLoaded io s).fld.inconsRun = s.fld.inconsRun) := by
  unfold sampleLoaded
  cases h : s.fld.cfgNew with
  | none => exact ⟨⟨rfl, rfl, rfl, rfl, rfl, rfl⟩, rfl, h, fun c hc => absurd hc (by simp), fun _ => ⟨rfl, rfl⟩⟩
  | some c =>
    obtain ⟨hk, hcfg, hcrc, hnew⟩ := fldLoad_fld s c fun g => (sampleFs io g).toNat
    exact ⟨hk, hcfg, hnew, fun c' hc => (Option.some.inj hc) ▸ hcrc, fun hn => absurd hn (by simp)⟩

/-- The next sample has the next number and place in the test-pulse frame. -/
def sampleCounted (s : State) : State := { s with fld := { s.fld with snum := s.fld.snum + 1, fpos := (s.fld.fpos + 1) % 400 } }

theorem fieldSampleEff_eq (io : FieldIn) (s : State) : fieldSampleEff io s =
    let t := sampleTaken io (sampleLoaded io (withSupplies io (sampleInstant s)))
    if t.fld.links = 0 then sampleCounted t else sampleSent t := rfl

theorem execFieldSample_eq (io : FieldIn) (hr : s.fldRuns = true) (hl : s.fld.links ≠ 0) (ha : s.fld.sampleAt = some a) :
    execFieldSample io s = .next (sampleSent (sampleTaken io (sampleLoaded io (sampleOpened io a s)))) := by
  have hinst : sampleInstant s = s.at (a + 2500) := by
    unfold sampleInstant
    rw [ha]
    exact if_pos (bne_iff_ne.2 hl)
  have hlinks : (sampleTaken io (sampleLoaded io (sampleOpened io a s))).fld.links = s.fld.links :=
    (sampleTaken_keeps io _).links.trans ((sampleLoaded_fld io _).1.links.trans (sampleOpened_fld io a s).1.links)
  refine congrArg Host.Outcome.next ((if_pos hr).trans ?_)
  rw [fieldSampleEff_eq, hinst]
  exact if_neg fun h => hl (hlinks.symm.trans h)

/-! ### What the sample shows -/

/-- The words of a sample frame. -/
theorem sampleFrame_words (f : Fld) : frameGood (sampleFrame f) = true ∧ (sampleFrame f).length = 8
    ∧ (sampleFrame f).getD 0 0 = BitVec.ofNat 32 (f.snum.toNat + 65536 * f.fpos) ∧ (sampleFrame f).getD 1 0 = f.si
    ∧ (sampleFrame f).getD 2 0 = f.siOk ∧ (sampleFrame f).getD 5 0 = f.cfgCrc ∧ (sampleFrame f).getD 6 0 = f.evt :=
  ⟨frameGood_sealFrame _, rfl, rfl, rfl, rfl, rfl, rfl⟩

/-- The inputs after a sample, from the die before it. -/
theorem sampleTaken_input (io : FieldIn) (s : State) (i : Fin 32) :
    (sampleTaken io s).fld.raw.getLsbD i.val = (rawOf io s.fld.raw s.fv).getLsbD i.val
    ∧ (sampleTaken io s).fld.x[i] = (if (rawOf io s.fld.raw s.fv).getLsbD i.val = true then min (s.fld.x[i] + 1) (s.fld.filtLim i) else s.fld.x[i] - 1)
    ∧ (sampleTaken io s).fld.si.getLsbD i.val = (if (sampleTaken io s).fld.x[i] = 0 then false
        else if (sampleTaken io s).fld.x[i] = s.fld.filtLim i then true else s.fld.si.getLsbD i.val)
    ∧ (∀ j, (inconsTwice io s.fld).getLsbD j = true → (sampleTaken io s).fld.siOk.getLsbD j = false) := by
  have hk := sampleTaken_keeps io s
  have hx : (sampleTaken io s).fld.x[i] = (filtered s.fld (rawOf io s.fld.raw s.fv) i).1 := by
    rw [hk.x]
    exact inputsRead_x io s.fv { s.fld with sampleAt := some s.tb } i
  refine ⟨?_, hx, ?_, fun j hj => hk.siOk j ?_⟩
  · rw [hk.raw]
    rfl
  · rw [hx, hk.si]
    exact inputsRead_si io s.fv { s.fld with sampleAt := some s.tb } i
  · have hj' : (inconsTwice io { s.fld with sampleAt := some s.tb }).getLsbD j = true := hj
    have hlt := BitVec.lt_of_getLsbD hj'
    change (_ &&& ~~~(inconsTwice io { s.fld with sampleAt := some s.tb })).getLsbD j = false
    rw [BitVec.getLsbD_and, BitVec.getLsbD_not, hj']
    simp

theorem sampleTaken_thr (io : FieldIn) {s : State} {i : Nat} (h : (inconsTwice io s.fld).getLsbD i = true)
    (hn : s.fld.inconsRun.getLsbD i = false) : Queued (sampleTaken io s).fld S.FLD_THR i := by
  have hnew : (inconsTwice io s.fld &&& ~~~s.fld.inconsRun).getLsbD i = true := by
    have hlt := BitVec.lt_of_getLsbD h
    rw [BitVec.getLsbD_and, BitVec.getLsbD_not, h, hn]
    simp [hlt]
  have hq : Queued (fldInputs io s.fv { s.fld with sampleAt := some s.tb }) S.FLD_THR (0 + i) := faults_queued _ _ 0 0 hnew
  rw [Nat.zero_add] at hq
  rw [sampleTaken, fldSettle_fld]
  exact (((fldInconsAt_keeps s.tb _).trans (tpJudge_keeps s.fld.raw _)).trans
    ((sampleOutputs_keeps io s.tb _).trans (settledFld_keeps _ _))).queued _ _ hq

/-- Settles O44: the sample reads the supplies, takes a new configuration, and then its inputs and outputs; what is read of the inputs
stays as it is to the end of the instant (`sampleTaken_keeps`). -/
theorem fieldSample : Obligations.FieldSample := by
  intro s io a hr hl ha
  obtain ⟨hopen, hocfg, honew, hoinc, horun⟩ := sampleOpened_fld io a s
  obtain ⟨hload, hcfg, hnew, hcrc, hinc⟩ := sampleLoaded_fld io (sampleOpened io a s)
  have hk := sampleTaken_keeps io (sampleLoaded io (sampleOpened io a s))
  have htb : (sampleTaken io (sampleLoaded io (sampleOpened io a s))).tb = (s.at (a + 2500)).tb :=
    (sampleTaken_only io _ .tb (by decide)).trans (sampleLoaded_only io _ .tb (by decide))
  have hltb : (sampleLoaded io (sampleOpened io a s)).tb = (s.at (a + 2500)).tb := sampleLoaded_only io _ .tb (by decide)
  have htx : (sampleTaken io (sampleLoaded io (sampleOpened io a s))).tx = s.tx :=
    (sampleTaken_only io _ .tx (by decide)).trans (sampleLoaded_only io _ .tx (by decide))
  have honly : OnlyChanges [.tb, .edge, .fld, .regs, .lan, .free] s (sampleTaken io (sampleLoaded io (sampleOpened io a s))) :=
    ((sampleOpened_only io a s).mono (by decide)).trans (((sampleLoaded_only io _).mono (by decide)).trans
      ((sampleTaken_only io _).mono (by decide)))
  have hsent : ∀ t, OnlyChanges [.fld, .tx] t (sampleSent t) := fun t => by simp [onlyChanges_iff, sampleSent]
  have hsnum := hk.snum.trans (hload.snum.trans hopen.snum)
  have hfpos := hk.fpos.trans (hload.fpos.trans hopen.fpos)
  have hlinks := hk.links.trans (hload.links.trans hopen.links)
  obtain ⟨hgood, hlen, hw0, hw1, hw2, hw5, hw6⟩ := sampleFrame_words (sampleTaken io (sampleLoaded io (sampleOpened io a s))).fld
  refine ⟨_, execFieldSample_eq io hr hl ha, (honly.mono (by decide)).trans ((hsent _).mono (by decide)), htb, congrArg (· + 1) hsnum,
    congrArg (fun k => (k + 1) % 400) hfpos, hk.sampleAt.trans (congrArg some (hltb.trans htb.symm)), ⟨_, ?_, hgood, hlen, ?_, hw1, hw2, hw5, hw6⟩,
    hk.cfgNew.trans hnew, hk.cfg.trans (hcfg.trans (by rw [honew, hocfg])), fun c hc => hk.cfgCrc.trans (hcrc c (honew.trans hc)), fun i => ?_⟩
  · rw [← hlinks, ← htx]
    rfl
  · rw [hw0, hsnum, hfpos]
  · obtain ⟨hraw, hx, hsi, hok⟩ := sampleTaken_input io (sampleLoaded io (sampleOpened io a s)) i
    rw [hload.raw, hopen.raw] at hraw hx
    rw [hload.x, hopen.x] at hx
    rw [hload.si, hopen.si] at hsi
    have hbit := rawOf_getLsbD io s.fld.raw (sampleLoaded io (sampleOpened io a s)).fv i.isLt
    have hlim : (sampleLoaded io (sampleOpened io a s)).fld.filtLim i
        = (sampleTaken io (sampleLoaded io (sampleOpened io a s))).fld.filtLim i := by
      unfold Fld.filtLim
      rw [hk.cfg]
      rfl
    refine ⟨fun hon hoff => ?_, fun hon hoff => ?_, fun hon hoff => ?_, fun hon hoff hn hi => ?_, ?_, ?_⟩
    · exact hraw.trans (hbit.trans (by rw [hon, hoff]; rfl))
    · exact hraw.trans (hbit.trans (by rw [hon, hoff]; rfl))
    · exact hraw.trans (hbit.trans (by rw [hon, hoff]; rfl))
    · obtain ⟨hi1, hr1⟩ := hinc (honew.trans hn)
      have htwice : (inconsTwice io (sampleLoaded io (sampleOpened io a s)).fld).getLsbD i.val = true := by
        rw [inconsTwice, BitVec.getLsbD_and, BitVec.getLsbD_and, hon, hoff, hi1, hoinc, hi]
        rfl
      exact ⟨hok _ htwice, fun hrun => queued_congr rfl (sampleTaken_thr io htwice (by rw [hr1, horun]; exact hrun))⟩
    · change (sampleTaken io (sampleLoaded io (sampleOpened io a s))).fld.x[i] = if (sampleTaken io (sampleLoaded io (sampleOpened io a s))).fld.raw.getLsbD i.val = true
        then min (s.fld.x[i] + 1) ((sampleTaken io (sampleLoaded io (sampleOpened io a s))).fld.filtLim i) else s.fld.x[i] - 1
      rw [hx, hraw, hlim]
    · rw [hlim] at hsi
      exact hsi

end Sys2Proof.Machine
end

section
/-! The islands, the watchdog and the settings of the field die (R21, R353-R355, R378-R384, R528). -/

namespace Sys2Proof.Machine

variable {s : State} {l : Fin 3}

/-! ### What a change and a fault leave, field by field -/

theorem settledFld_eq (s : State) (f : Fld) :
    ∃ p a b c, settledFld s f = { f with pulse := p, changeAt := a, rbOnSince := b, rbOffSince := c } := ⟨_, _, _, _, rfl⟩

/-- Anything of the die that its pulses and instants do not decide, through a change. -/
theorem settled_field {α : Type} (X : Fld → α) (hX : ∀ f p a b c, X { f with pulse := p, changeAt := a, rbOnSince := b, rbOffSince := c } = X f)
    (s : State) (f : Fld) : X (fldSettle s f).fld = X f := by
  obtain ⟨p, a, b, c, h⟩ := settledFld_eq s f
  rw [fldSettle_fld, h, hX]

/-- Anything of the die but its fault queue, through a fault. -/
theorem fault_field {α : Type} (X : Fld → α) (hX : ∀ f : Fld, X f.quiet = X f) (f : Fld) (c : Src) (pin pin2 : Nat) :
    X (f.fault c pin pin2) = X f := by rw [← hX, fault_quiet, hX]

theorem settled_clamped (s : State) (f : Fld) : (fldSettle s f).fld.clamped = f.clamped :=
  settled_field Fld.clamped (fun _ _ _ _ _ => rfl) s f

theorem fault_clamped (f : Fld) (c : Src) (pin pin2 : Nat) : (f.fault c pin pin2).clamped = f.clamped :=
  fault_field Fld.clamped (fun _ => rfl) f c pin pin2

theorem settled_queued {f : Fld} {c : Src} {pin : Nat} (s : State) (h : Queued f c pin) : Queued (fldSettle s f).fld c pin :=
  queued_congr (settled_field Fld.queue (fun _ _ _ _ _ => rfl) s f) h

/-! ### Drive frames (R354) -/

/-- The die keeps the commands, numbers and instants of its islands. -/
structure IslandsKeep (f g : Fld) : Prop where
  cmd : g.cmd = f.cmd
  refresh : g.refresh = f.refresh
  accAt : g.accAt = f.accAt

theorem IslandsKeep.refl (f : Fld) : IslandsKeep f f := ⟨rfl, rfl, rfl⟩

theorem IslandsKeep.trans {f g h : Fld} (a : IslandsKeep f g) (b : IslandsKeep g h) : IslandsKeep f h :=
  ⟨b.cmd.trans a.cmd, b.refresh.trans a.refresh, b.accAt.trans a.accAt⟩

theorem show_islands (f : Fld) : IslandsKeep f f.show := by
  unfold Fld.show
  split
  · exact ⟨rfl, rfl, rfl⟩
  · exact .refl f

theorem fault_islands (f : Fld) (c : Src) (pin pin2 : Nat) : IslandsKeep f (f.fault c pin pin2) :=
  ⟨fault_field Fld.cmd (fun _ => rfl) f c pin pin2, fault_field Fld.refresh (fun _ => rfl) f c pin pin2,
    fault_field Fld.accAt (fun _ => rfl) f c pin pin2⟩

theorem ack_islands (f : Fld) : IslandsKeep f f.ack := by
  have hq : ∀ q, IslandsKeep f { f with queue := q } := fun q => ⟨rfl, rfl, rfl⟩
  unfold Fld.ack
  split
  · split
    · exact (hq _).trans (show_islands _)
    · exact .refl f
  · exact .refl f

theorem wdRecover_islands (l : Fin 3) (r : BitVec 16) (f : Fld) : IslandsKeep f (wdRecover l r f) := ⟨rfl, rfl, rfl⟩

theorem ovlRelease_islands (f : Fld) : IslandsKeep f (ovlRelease f) := by
  have h : ∀ c, IslandsKeep f { f with clamp := c } := fun c => ⟨rfl, rfl, rfl⟩
  exact h _

theorem pulseStart_islands (now : Nat) (l : Fin 3) (w r : BitVec 16) (f : Fld) (g : Fin 2) : IslandsKeep f (pulseStart now l w r f g) := by
  have hp : ∀ p, IslandsKeep f { f with pulse := p } := fun p => ⟨rfl, rfl, rfl⟩
  have hs : ∀ q, IslandsKeep f { f with strays := q } := fun q => ⟨rfl, rfl, rfl⟩
  unfold pulseStart
  dsimp only
  split
  · exact .refl f
  · split
    · exact hp _
    · split
      · exact hp _
      · exact hs _

theorem testCompare_islands (r : BitVec 16) (f : Fld) (g : Fin 2) : IslandsKeep f (testCompare r f g) := by
  have hp : ∀ p, IslandsKeep f { f with pulse := p } := fun p => ⟨rfl, rfl, rfl⟩
  have ht : ∀ p t, IslandsKeep f { f with pulse := p, tsync := t } := fun p t => ⟨rfl, rfl, rfl⟩
  unfold testCompare
  dsimp only
  split
  · exact .refl f
  · split
    · exact hp _
    · exact (ht _ _).trans (fault_islands _ _ _ _)

/-- An island takes its frame. -/
def frameTaken (l : Fin 3) (f : Frame) (tb : Nat) (d : Fld) : Fld :=
  { d with cmd := d.cmd.set l (BitVec.ofNat 20 (fw f 1)), refresh := d.refresh.set l (some (BitVec.ofNat 16 (fw f 0))),
           eack := d.eack.set l (BitVec.ofNat 8 (fw f 0 / 65536)), test := d.test.set l (BitVec.ofNat 16 (fw f 2)), accAt := d.accAt.set l (some tb) }

/-- What the core does with an accepted frame, before the change settles. -/
def frameJudged (l : Fin 3) (f : Frame) (tb : Nat) (d : Fld) : Fld :=
  let r := BitVec.ofNat 16 (fw f 0)
  [0, 1].foldl (testCompare r) ([0, 1].foldl (pulseStart tb l (BitVec.ofNat 16 (fw f 2)) r)
    (ovlRelease (wdRecover l r { d with frameAt := some tb, armed := d.armed || d.cfgLoaded })).ack)

theorem driveEff_eq (l : Fin 3) (f : Frame) (s : State) : driveEff l f s =
    if s.fldRuns then fldSettle s (frameJudged l f s.tb (frameTaken l f s.tb s.fld)) else fldSettle s (frameTaken l f s.tb s.fld) := rfl

theorem frameJudged_islands (l : Fin 3) (f : Frame) (tb : Nat) (d : Fld) : IslandsKeep d (frameJudged l f tb d) := by
  have hstart : ∀ d' : Fld, IslandsKeep d d' → IslandsKeep d ([0, 1].foldl (pulseStart tb l (BitVec.ofNat 16 (fw f 2)) (BitVec.ofNat 16 (fw f 0))) d') :=
    fun d' h => (h.trans (pulseStart_islands _ _ _ _ _ 0)).trans (pulseStart_islands _ _ _ _ _ 1)
  have hcompare : ∀ d' : Fld, IslandsKeep d d' → IslandsKeep d ([0, 1].foldl (testCompare (BitVec.ofNat 16 (fw f 0))) d') :=
    fun d' h => (h.trans (testCompare_islands _ _ 0)).trans (testCompare_islands _ _ 1)
  have hseen : ∀ a b, IslandsKeep d { d with frameAt := a, armed := b } := fun a b => ⟨rfl, rfl, rfl⟩
  unfold frameJudged
  exact hcompare _ (hstart _ ((((hseen _ _).trans (wdRecover_islands _ _ _)).trans (ovlRelease_islands _)).trans (ack_islands _)))

/-- The settled islands are those of the die given. -/
theorem settled_islands (s : State) (f : Fld) : IslandsKeep f (fldSettle s f).fld :=
  ⟨settled_field Fld.cmd (fun _ _ _ _ _ => rfl) s f, settled_field Fld.refresh (fun _ _ _ _ _ => rfl) s f,
    settled_field Fld.accAt (fun _ _ _ _ _ => rfl) s f⟩

theorem driveEff_islands (l : Fin 3) (f : Frame) (s : State) : IslandsKeep (frameTaken l f s.tb s.fld) (driveEff l f s).fld := by
  rw [driveEff_eq]
  split
  · exact (frameJudged_islands _ _ _ _).trans (settled_islands _ _)
  · exact settled_islands _ _

theorem driveEff_only (l : Fin 3) (f : Frame) (s : State) : OnlyChanges [.fld, .regs, .lan] s (driveEff l f s) :=
  .ite _ (fldSettle_only _ _) (fldSettle_only _ _)

theorem driveGood {f : Frame} (hg : frameGood f = true) (hl : f.length = 4) : (frameGood f && f.length == 4) = true := by
  rw [hg, hl]
  rfl

theorem execDriveFrameReceive_good {f : Frame} (hk : s.fld.links.getLsbD l.val = true) (hg : frameGood f = true) (hl : f.length = 4) :
    execDriveFrameReceive l f s = .next (if s.fld.refresh[l] = some (BitVec.ofNat 16 (fw f 0)) then s else driveEff l f s) := by
  refine congrArg Host.Outcome.next ((if_neg (by rw [hk]; decide)).trans ((if_neg (by rw [driveGood hg hl]; decide)).trans ?_))
  simp only [beq_iff_eq]

/-- A frame that fails is counted on its link. -/
def frameFailed (l : Fin 3) (s : State) : State :=
  let t := s.add (linkErr l) 1
  if s.fldRuns then { t with fld := t.fld.fault S.FLD_FRAME 0xFD l } else t

theorem execDriveFrameReceive_bad {f : Frame} (hk : s.fld.links.getLsbD l.val = true) (hb : frameGood f = false ∨ f.length ≠ 4) :
    execDriveFrameReceive l f s = .next (frameFailed l s) := by
  have hbad : (frameGood f && f.length == 4) = false := by
    rcases hb with hb | hb
    · rw [hb, Bool.false_and]
    · rw [beq_false_of_ne hb, Bool.and_false]
  exact congrArg Host.Outcome.next ((if_neg (by rw [hk]; decide)).trans (if_pos (by rw [hbad]; rfl)))

theorem frameFailed_spec (l : Fin 3) (s : State) : OnlyChanges [.fld, .regs] s (frameFailed l s) ∧ IslandsKeep s.fld (frameFailed l s).fld
    ∧ (frameFailed l s).r (linkErr l) = satAdd ((linkErr l).hi + 1 - (linkErr l).lo) (s.r (linkErr l)) 1
    ∧ (s.fldRuns = true → Queued (frameFailed l s).fld S.FLD_FRAME 0xFD) := by
  have hr : rget (radd s.regs (linkErr l) 1) (linkErr l) = satAdd ((linkErr l).hi + 1 - (linkErr l).lo) (s.r (linkErr l)) 1 :=
    rget_radd _ _ _ _ _ ((by decide : ∀ l, (linkErr l).hi < 32) l)
  unfold frameFailed
  dsimp only
  split
  · refine ⟨?_, fault_islands _ _ _ _, hr, fun _ => fault_queued _ _ _ _⟩
    simp [onlyChanges_iff, State.add]
  · rename_i h
    exact ⟨by simp [onlyChanges_iff, State.add], .refl _, hr, fun h' => absurd h' h⟩

/-! ### Islands without frames, silent links (R21, R354) -/

/-- An island releases its outputs. -/
def islandReleased (l : Fin 3) (f : Fld) : Fld := { f with cmd := f.cmd.set l 0, accAt := f.accAt.set l none }

theorem execIslandTimeout_eq {a : Nat} (h : s.fld.accAt[l] = some a) : execIslandTimeout l s =
    .next (fldSettle (s.at (a + s.fld.period + s.fld.period / 2)) (islandReleased l s.fld)) := by
  unfold execIslandTimeout
  rw [h]
  rfl

/-- A link's lane stands quiet from now on. -/
def quietSince (tb : Nat) (x : Lane) : Lane := { x with quietAt := some (x.quietAt.getD tb) }

theorem linkSilent_eq (l : Fin 3) (s : State) : linkSilent l s =
    (fldSettle s { islandReleased l s.fld with links := putBit s.fld.links l.val false }).lane l (quietSince s.tb) := rfl

theorem linkSilent_only (l : Fin 3) (s : State) : OnlyChanges [.fld, .regs, .lan] s (linkSilent l s) := by
  rw [linkSilent_eq]
  exact (fldSettle_only _ _).trans ((State.lane_only _ _ _).mono (by decide))

theorem linkSilent_links (l : Fin 3) (s : State) : (linkSilent l s).fld.links.getLsbD l.val = false := by
  have h : (linkSilent l s).fld.links = putBit s.fld.links l.val false := settled_field Fld.links (fun _ _ _ _ _ => rfl) s _
  rw [h]
  exact putBit_getLsbD_self _ _ l.isLt

theorem linkSilent_quiet (l : Fin 3) (s : State) : (linkSilent l s).lan.lanes[l].quietAt.isSome = true := by
  rw [linkSilent_eq, State.lane_self]
  rfl

/-! ### The watchdog (R380, R381, R384) -/

theorem clamped_of_expired {f : Fld} (he : f.expired = true) {i : Nat} (hi : i < 20) (h : f.holdable.getLsbD i = false) :
    f.clamped.getLsbD i = true := by
  rw [Fld.clamped, he, BitVec.getLsbD_or, if_pos rfl, BitVec.getLsbD_not, h]
  simp [hi]

/-- In the expired state only outputs whose safe state is ON are expected ON. -/
theorem expOn_of_expired {f : Fld} (he : f.expired = true) : f.expOn &&& ~~~f.holdable = 0 := by
  refine expOn_and_of_clamped fun i h => ?_
  have hi := BitVec.lt_of_getLsbD h
  refine clamped_of_expired he hi ?_
  rw [BitVec.getLsbD_not] at h
  simpa [hi] using h

/-- The pulses abandoned before all of them end. -/
def pulsesAbandoned (s : State) : State :=
  s.fld.pulse.toList.foldl (fun (t : State) (p : Option Pulse) => match p with
    | some p => if p.abandoned then t else testAbandon p t
    | none => t) s

theorem pulsesAbandoned_only (s : State) : OnlyChanges [.regs, .lan] s (pulsesAbandoned s) := by
  unfold pulsesAbandoned
  refine List.foldlRecOn (motive := fun t : State => OnlyChanges [.regs, .lan] s t) _ _ (.refl _ s) fun t h p _ => h.trans ?_
  split
  · exact .ite _ (.refl _ t) (testAbandon_only _ t)
  · exact .refl _ t

/-- The die with no test under way. -/
def pulsesEnded (f : Fld) : Fld := { f with pulse := Vector.replicate 2 none, strays := [] }

theorem endPulses_eq (s : State) : endPulses s = fldSettle (pulsesAbandoned s) (pulsesEnded s.fld) := by
  have h : endPulses s = fldSettle (pulsesAbandoned s) (pulsesEnded (pulsesAbandoned s).fld) := rfl
  rw [h, pulsesAbandoned_only s .fld (by decide)]

theorem endPulses_only (s : State) : OnlyChanges [.fld, .regs, .lan] s (endPulses s) := by
  rw [endPulses_eq]
  exact ((pulsesAbandoned_only s).mono (by decide)).trans (fldSettle_only _ _)

theorem endPulses_field {α : Type} (X : Fld → α)
    (hX : ∀ f p a b c, X { f with pulse := p, changeAt := a, rbOnSince := b, rbOffSince := c } = X f) (s : State) :
    X (endPulses s).fld = X (pulsesEnded s.fld) := by
  rw [endPulses_eq]
  exact settled_field X hX _ _

theorem endPulses_pulse (s : State) : (endPulses s).fld.pulse = Vector.replicate 2 none := by
  rw [endPulses_eq, fldSettle_fld]
  simp [settledFld, watched, pulsesEnded]

/-- The watchdog's report. -/
def wdgExpired (f : Fld) : Fld := { f with expired := true, wdg := true, recover := 0, accRefresh := none, accLinks := 0 }

/-- The watchdog expires at an instant. -/
def watchdogDone (due : Nat) (s : State) : State := endPulses (fldSettle (s.at due) (wdgExpired s.fld))

theorem execWatchdogExpire_eq {a : Nat} (ha : s.fld.frameAt = some a) (hr : s.fldRuns = true) (harm : s.fld.armed = true)
    (he : s.fld.expired = false) : execWatchdogExpire s = .next (watchdogDone (a + s.fld.wdScans * s.fld.period * 95 / 100) s) := by
  unfold execWatchdogExpire
  rw [ha]
  exact congrArg Host.Outcome.next (if_pos (by rw [hr, harm, he]; rfl))

theorem execWatchdogExpire_again (he : s.fld.expired = true) : execWatchdogExpire s = .next s := by
  unfold execWatchdogExpire
  split
  · exact congrArg Host.Outcome.next (if_neg (by rw [he]; simp))
  · rfl

theorem watchdogDone_only (due : Nat) (s : State) : OnlyChanges [.fld, .regs, .lan] (s.at due) (watchdogDone due s) :=
  (fldSettle_only _ _).trans (endPulses_only _)

theorem watchdogDone_fld (due : Nat) (s : State) : (watchdogDone due s).fld.expired = true ∧ (watchdogDone due s).fld.wdg = true
    ∧ (watchdogDone due s).fld.strays = [] := by
  have hexp : (fldSettle (s.at due) (wdgExpired s.fld)).fld.expired = true := settled_field Fld.expired (fun _ _ _ _ _ => rfl) _ _
  have hwdg : (fldSettle (s.at due) (wdgExpired s.fld)).fld.wdg = true := settled_field Fld.wdg (fun _ _ _ _ _ => rfl) _ _
  exact ⟨(endPulses_field Fld.expired (fun _ _ _ _ _ => rfl) _).trans hexp, (endPulses_field Fld.wdg (fun _ _ _ _ _ => rfl) _).trans hwdg,
    endPulses_field Fld.strays (fun _ _ _ _ _ => rfl) _⟩

/-! ### Field configurations (R355) -/

/-- The configuration frame of a link, where it is good and its link carries symbols. -/
def linkFrame (links : BitVec 3) (frames : Vector (Option Frame) 3) (l : Fin 3) : Option Frame :=
  frames[l].filter fun f => links.getLsbD l && frameGood f && f.length == 87

theorem linkFrame_some {links : BitVec 3} {frames : Vector (Option Frame) 3} {f : Frame} :
    linkFrame links frames l = some f ↔ frames[l] = some f ∧ links.getLsbD l.val = true ∧ frameGood f = true ∧ f.length = 87 := by
  simp [linkFrame, Option.filter_eq_some_iff, and_assoc]

theorem configFrames_eq (links : BitVec 3) (frames : Vector (Option Frame) 3) : configFrames links frames =
    (linkFrame links frames 0).toList ++ (linkFrame links frames 1).toList ++ (linkFrame links frames 2).toList := by
  have h : configFrames links frames = [(0 : Fin 3), 1, 2].filterMap (linkFrame links frames) := rfl
  rw [h]
  cases h0 : linkFrame links frames 0 <;> cases h1 : linkFrame links frames 1 <;> cases h2 : linkFrame links frames 2 <;>
    simp [h0, h1, h2]

/-- Of three frames the vote takes one that two of them are. -/
theorem configVote_two {a b c : Option Frame} {f : Frame} (h : a = some f ∧ b = some f ∨ a = some f ∧ c = some f ∨ b = some f ∧ c = some f) :
    configVote (a.toList ++ b.toList ++ c.toList) = some f.dropLast := by
  unfold configVote
  rcases h with ⟨rfl, rfl⟩ | ⟨rfl, rfl⟩ | ⟨rfl, rfl⟩
  · cases c <;> simp
  · cases b with
    | none => simp
    | some g => by_cases hg : g = f <;> simp [List.filter_cons, hg]
  · cases a with
    | none => simp
    | some g =>
      by_cases hg : g = f
      · simp [hg]
      · simp [hg, Ne.symm hg]

/-- Where no two frames are the same the vote takes none. -/
theorem configVote_nodup {l : List Frame} (h : l.Nodup) : configVote l = none := by
  unfold configVote
  rw [Option.map_eq_none_iff, List.find?_eq_none]
  intro f _
  have hcount := List.nodup_iff_count_le_one.1 h f
  rw [List.count_eq_length_filter] at hcount
  simpa using Nat.lt_succ_of_le hcount

theorem nodup_options {a b c : Option Frame} (hab : ∀ f, a = some f → b ≠ some f) (hac : ∀ f, a = some f → c ≠ some f)
    (hbc : ∀ f, b = some f → c ≠ some f) : (a.toList ++ b.toList ++ c.toList).Nodup := by
  cases a <;> cases b <;> cases c <;> grind [Option.toList]

end Sys2Proof.Machine
end

section
/-! O43: the islands, the watchdog and the field configuration. -/

namespace Sys2Proof.Machine

variable {s : State} {l : Fin 3}

/-! ### Configurations and the field reset frame (R355, R378, R528) -/

theorem execFieldConfigReceive_eq (frames : Vector (Option Frame) 3) (hr : s.fldRuns = true) : execFieldConfigReceive frames s =
    .next (match configVote (configFrames s.fld.links frames) with
      | some c => { s with fld := { s.fld with cfgNew := some c } }
      | none => s) := by
  unfold execFieldConfigReceive
  rw [hr]
  rfl

theorem execFieldConfigReceive_two {frames : Vector (Option Frame) 3} {l m : Fin 3} {f : Frame} (hr : s.fldRuns = true) (hne : l ≠ m)
    (hl : linkFrame s.fld.links frames l = some f) (hm : linkFrame s.fld.links frames m = some f) :
    execFieldConfigReceive frames s = .next { s with fld := { s.fld with cfgNew := some f.dropLast } } := by
  have htwo : ∀ l m : Fin 3, l ≠ m → linkFrame s.fld.links frames l = some f → linkFrame s.fld.links frames m = some f →
      linkFrame s.fld.links frames 0 = some f ∧ linkFrame s.fld.links frames 1 = some f
      ∨ linkFrame s.fld.links frames 0 = some f ∧ linkFrame s.fld.links frames 2 = some f
      ∨ linkFrame s.fld.links frames 1 = some f ∧ linkFrame s.fld.links frames 2 = some f := by
    intro l m
    fin_cases l <;> fin_cases m <;> simp_all
  rw [execFieldConfigReceive_eq frames hr, configFrames_eq, configVote_two (htwo l m hne hl hm)]

theorem execFieldConfigReceive_none {frames : Vector (Option Frame) 3} (hr : s.fldRuns = true)
    (h : ∀ (l m : Fin 3) (f : Frame), l ≠ m → linkFrame s.fld.links frames l = some f → linkFrame s.fld.links frames m ≠ some f) :
    execFieldConfigReceive frames s = .next s := by
  rw [execFieldConfigReceive_eq frames hr, configFrames_eq,
    configVote_nodup (nodup_options (fun f => h 0 1 f (by decide)) (fun f => h 0 2 f (by decide)) (fun f => h 1 2 f (by decide)))]

/-- The die with the clearings of a deliberate reset. -/
def fldCleared (tb : Nat) (f : Fld) : Fld :=
  { f with tpHeld := 0, sag := f.sag &&& ~~~(supplyGood tb f), gone := f.gone &&& ~~~(supplyGood tb f), wdg := false,
           siOk := f.siOk ||| siClean tb f, siPat := f.siPat &&& ~~~(patClean f), siThr := f.siThr &&& ~~~(thrClean tb f),
           soOk := f.soOk ||| soClean f }

/-- The frame of a deliberate reset is taken. -/
def resetTaken (s : State) : State := fldSettle { s with lan := { s.lan with fldReset := false } } (fldCleared s.tb s.fld)

theorem execFieldResetFrame_eq (links : BitVec 3) (hr : s.fldRuns = true) : execFieldResetFrame links s =
    .next (if s.lan.fldReset = true ∧ 2 ≤ popcount (links &&& s.fld.links) then resetTaken s else s) := by
  have h : execFieldResetFrame links s =
      .next (if s.lan.fldReset && s.fldRuns && decide (2 ≤ popcount (links &&& s.fld.links)) then resetTaken s else s) := rfl
  rw [h, hr]
  simp only [Bool.and_true, Bool.and_eq_true, decide_eq_true_eq]

theorem resetTaken_only (s : State) : OnlyChanges [.fld, .regs, .lan] s (resetTaken s) := by
  have h : OnlyChanges [.lan] s { s with lan := { s.lan with fldReset := false } } := by simp [onlyChanges_iff]
  exact (h.mono (by decide)).trans (fldSettle_only _ _)

theorem resetTaken_field {α : Type} (X : Fld → α)
    (hX : ∀ f p a b c, X { f with pulse := p, changeAt := a, rbOnSince := b, rbOffSince := c } = X f) (s : State) :
    X (resetTaken s).fld = X (fldCleared s.tb s.fld) := settled_field X hX _ _

/-- Settles O43: frames by what an island takes of them, the watchdog by `watchdogDone`, configurations by the vote of the links, and
the reset frame by `resetTaken`. -/
theorem islandsAndFieldConfiguration : Obligations.IslandsAndFieldConfiguration := by
  refine ⟨fun s l => ⟨fun f hk hg hl => ⟨fun hne => ?_, fun he => ?_⟩, fun f hk hb => ?_, fun a ha => ?_, fun hk => ?_, fun hd hs => ?_,
      fun a ha hr harm he => ?_⟩,
    fun s hr => ⟨fun frames => ⟨fun l m f hne hl hm hkl hkm hg hlen => ?_, fun h => ?_⟩, fun links => ⟨fun h => ?_, fun hp hf => ?_⟩⟩⟩
  · have hk' := driveEff_islands l f s
    refine ⟨_, (execDriveFrameReceive_good hk hg hl).trans (congrArg _ (if_neg hne)), driveEff_only l f s, hk'.cmd, ?_, ?_⟩
    · rw [hk'.refresh]
      simp [frameTaken]
    · rw [hk'.accAt]
      simp [frameTaken]
  · exact (execDriveFrameReceive_good hk hg hl).trans (congrArg _ (if_pos he))
  · obtain ⟨honly, hisl, hcnt, hq⟩ := frameFailed_spec l s
    exact ⟨_, execDriveFrameReceive_bad hk hb, honly, hisl.cmd, hisl.accAt, hcnt, hq⟩
  · have hisl := settled_islands (s.at (a + s.fld.period + s.fld.period / 2)) (islandReleased l s.fld)
    refine ⟨_, execIslandTimeout_eq ha, ((State.at_only s _).mono (by decide)).trans ((fldSettle_only _ _).mono (by decide)),
      fldSettle_only _ _ .tb (by decide), hisl.cmd, ?_⟩
    rw [hisl.accAt]
    simp [islandReleased]
  · exact ⟨_, congrArg Host.Outcome.next (if_pos hk), linkSilent_only l s, linkSilent_links l s, (settled_islands s _).cmd, linkSilent_quiet l s⟩
  · refine ⟨_, congrArg Host.Outcome.next (if_pos (by rw [hd, hs]; rfl)), ?_, rfl, ?_⟩
    · refine ((State.lane_only s l fun x => { x with quietAt := none }).mono (by decide)).trans ?_
      simp [onlyChanges_iff]
    · exact congrArg Lane.quietAt (State.lane_self s l _)
  · obtain ⟨hexp, hwdg, hstray⟩ := watchdogDone_fld (a + s.fld.wdScans * s.fld.period * 95 / 100) s
    exact ⟨_, execWatchdogExpire_eq ha hr harm he, ((State.at_only s _).mono (by decide)).trans ((watchdogDone_only _ s).mono (by decide)),
      watchdogDone_only _ s .tb (by decide), hexp, hwdg, expOn_of_expired hexp, endPulses_pulse _, hstray, execWatchdogExpire_again hexp⟩
  · exact execFieldConfigReceive_two hr hne (linkFrame_some.2 ⟨hl, hkl, hg, hlen⟩) (linkFrame_some.2 ⟨hm, hkm, hg, hlen⟩)
  · refine execFieldConfigReceive_none hr fun l m f hne hl hm => ?_
    obtain ⟨hfl, hkl, hg, hlen⟩ := linkFrame_some.1 hl
    obtain ⟨hfm, hkm, -, -⟩ := linkFrame_some.1 hm
    rcases h l m f hne hfl hfm with h | h | h | h
    · exact absurd hkl (by rw [h]; decide)
    · exact absurd hkm (by rw [h]; decide)
    · exact absurd hg (by rw [h]; decide)
    · exact h hlen
  · refine (execFieldResetFrame_eq links hr).trans (congrArg _ (if_neg fun ⟨hf, hp⟩ => ?_))
    rcases h with h | h
    · exact Nat.not_le.2 h hp
    · exact absurd hf (by rw [h]; decide)
  · exact ⟨_, (execFieldResetFrame_eq links hr).trans (congrArg _ (if_pos ⟨hf, hp⟩)), resetTaken_only s, (fldSettle_keepsTests _ _).fldReset,
      resetTaken_field Fld.tpHeld (fun _ _ _ _ _ => rfl) s, resetTaken_field Fld.wdg (fun _ _ _ _ _ => rfl) s,
      resetTaken_field Fld.siOk (fun _ _ _ _ _ => rfl) s, resetTaken_field Fld.soOk (fun _ _ _ _ _ => rfl) s,
      resetTaken_field Fld.sag (fun _ _ _ _ _ => rfl) s, resetTaken_field Fld.gone (fun _ _ _ _ _ => rfl) s⟩

end Sys2Proof.Machine
end

section
/-! Off-pulse tests of the field die (R374-R376). -/

namespace Sys2Proof.Machine

variable {s : State} {g : Fin 2} {p : Pulse}

/-! ### What a test shows (R376) -/

/-- The registers of a test's outcome. -/
theorem testStat_r (res : Nat) (p : Pulse) (m : Map Word) (h : res < 4) :
    rget (testStat res p m) R.FLD_TEST_STAT_RESULT = res ∧ rget (testStat res p m) R.FLD_TEST_STAT_TARGET = p.target.val
      ∧ rget (testStat res p m) R.FLD_TEST_STAT_STEP = p.step.toNat ∧ rget (testStat res p m) R.FLD_TEST_STAT_NEW = 1 := by
  refine ⟨?_, ?_, ?_, ?_⟩
  · rw [testStat, rget_rput_apart _ _ rfl, rget_rput_apart _ _ rfl]
    exact (rget_rput_same _ _ _ _ _ (by decide)).trans (Nat.mod_eq_of_lt h)
  · refine (rget_rput_same _ _ _ _ _ (by decide)).trans (Nat.mod_eq_of_lt ?_)
    have := p.target.isLt
    show p.target.val < 32
    omega
  · rw [testStat, rget_rput_apart _ _ rfl]
    exact (rget_rput_same _ _ _ _ _ (by decide)).trans (Nat.mod_eq_of_lt p.step.isLt)
  · rw [testStat, rget_rput_apart _ _ rfl, rget_rput_apart _ _ rfl, rget_rput_apart _ _ rfl]
    exact rget_rput_same _ _ _ _ _ (by decide)

/-- No test is under way once the pulse of a group has ended and the other group has none. -/
theorem pulses_none (v : Vector (Option Pulse) 2) (g : Fin 2) (h : v[1 - g] = none) : v.set g none = Vector.replicate 2 none := by
  refine Vector.ext fun i hi => ?_
  rw [Vector.getElem_replicate, Vector.getElem_set]
  split
  · rfl
  · rename_i hne
    have hi' : (⟨i, hi⟩ : Fin 2) = 1 - g := by
      have : ∀ g i : Fin 2, ¬g.val = i.val → i = 1 - g := by decide
      exact this g ⟨i, hi⟩ hne
    have := congrArg (fun j : Fin 2 => v[j]) hi'
    exact this.trans h

/-- The pulses after a change are those given, judged. -/
theorem settled_pulse (s : State) (f : Fld) (g : Fin 2) : (fldSettle s f).fld.pulse[g] = f.pulse[g].map (pulseWatch f) := by
  rw [fldSettle_fld]
  simp [settledFld, watched]

/-! ### The end of a pulse (R374, R375) -/

/-- The die once a group's pulse has ended. -/
def pulseOver (g : Fin 2) (p : Pulse) (tb : Nat) (f : Fld) : Fld :=
  { f with pulse := f.pulse.set g none, changeAt := f.changeAt.set p.target tb,
           after := f.after.set g (if pulledDown f p = 0 then none else some (p.target, pulledDown f p)) }

/-- The faults that a test found are in the queue. -/
def testFaulted (p : Pulse) (f : Fld) : Fld := (testFaults p).foldl (fun f c => f.fault c (32 + p.target) 0) f

/-- The die after a test that was judged. -/
def testJudged (p : Pulse) (f : Fld) : Fld :=
  { f with soOk := if (testFaults p).contains S.FLD_LEG_ON || (testFaults p).contains S.FLD_STUCK then putBit f.soOk p.target.val false else f.soOk,
           clamp := if (testFaults p).contains S.FLD_OVL then putBit f.clamp p.target.val true else f.clamp }

theorem pulseEnd_eq (g : Fin 2) (p : Pulse) (s : State) : pulseEnd g p s =
    if p.differ then fldSettle { s with regs := testStat 3 p s.regs } (pulseOver g p s.tb s.fld)
    else if p.abandoned then fldSettle s (pulseOver g p s.tb s.fld)
    else if !p.on || !p.sampled then testAbandon p (fldSettle s (pulseOver g p s.tb s.fld))
    else fldSettle { s with regs := testStat (if (testFaults p).isEmpty then 0 else 1) p s.regs }
      (testJudged p (testFaulted p (pulseOver g p s.tb s.fld))) := rfl

theorem pulseEnd_only (g : Fin 2) (p : Pulse) (s : State) : OnlyChanges [.fld, .regs, .lan] s (pulseEnd g p s) := by
  have hr : ∀ r f, OnlyChanges [.fld, .regs, .lan] s (fldSettle { s with regs := r } f) := fun r f => by
    have h : OnlyChanges [.regs] s { s with regs := r } := by simp [onlyChanges_iff]
    exact (h.mono (by decide)).trans (fldSettle_only _ _)
  rw [pulseEnd_eq]
  exact .ite _ (hr _ _) (.ite _ (fldSettle_only _ _) (.ite _ ((fldSettle_only _ _).trans ((testAbandon_only _ _).mono (by decide))) (hr _ _)))

theorem testFaulted_quiet (p : Pulse) (f : Fld) : (testFaulted p f).quiet = f.quiet :=
  List.foldlRecOn (motive := fun g : Fld => g.quiet = f.quiet) _ _ rfl fun g h c _ => (fault_quiet g c _ _).trans h

theorem testFaulted_field {α : Type} (X : Fld → α) (hX : ∀ f : Fld, X f.quiet = X f) (p : Pulse) (f : Fld) : X (testFaulted p f) = X f := by
  rw [← hX, testFaulted_quiet, hX]

/-- Each fault that a test found is in the queue. -/
theorem testFaulted_queued (f : Fld) {c : Src} (hc : c ∈ testFaults p) : Queued (testFaulted p f) c (32 + p.target.val) := by
  unfold testFaulted
  obtain ⟨l, r, hlr⟩ := List.append_of_mem hc
  rw [hlr, List.foldl_append, List.foldl_cons]
  exact List.foldlRecOn (motive := fun g => Queued g c (32 + p.target.val)) _ _ (fault_queued _ _ _ _) fun g h c _ => fault_keeps h c _ _

/-- The strays stay as they are at the end of a pulse, and so does the pulse of the other group while it is none. -/
theorem pulseEnd_fld (g : Fin 2) (p : Pulse) (s : State) :
    (pulseEnd g p s).fld.strays = s.fld.strays ∧ (pulseEnd g p s).fld.pulse[g] = none := by
  have hover : (pulseOver g p s.tb s.fld).strays = s.fld.strays ∧ (pulseOver g p s.tb s.fld).pulse[g] = none := ⟨rfl, by simp [pulseOver]⟩
  have hjudged : (testJudged p (testFaulted p (pulseOver g p s.tb s.fld))).strays = s.fld.strays
      ∧ (testJudged p (testFaulted p (pulseOver g p s.tb s.fld))).pulse[g] = none := by
    refine ⟨testFaulted_field Fld.strays (fun _ => rfl) p _, ?_⟩
    have hp : (testJudged p (testFaulted p (pulseOver g p s.tb s.fld))).pulse = (pulseOver g p s.tb s.fld).pulse :=
      testFaulted_field Fld.pulse (fun _ => rfl) p _
    rw [hp, hover.2]
  have hdone : ∀ (t : State) (f : Fld), f.strays = s.fld.strays ∧ f.pulse[g] = none →
      (fldSettle t f).fld.strays = s.fld.strays ∧ (fldSettle t f).fld.pulse[g] = none := fun t f h => by
    refine ⟨(settled_field Fld.strays (fun _ _ _ _ _ => rfl) t f).trans h.1, ?_⟩
    rw [settled_pulse, h.2]
    rfl
  rw [pulseEnd_eq]
  split
  · exact hdone _ _ hover
  · split
    · exact hdone _ _ hover
    · split
      · exact hdone _ _ hover
      · exact hdone _ _ hjudged

/-- The end of a pulse with no other test under way: what FLD_TEST_STAT and the lanes show (R375, R376). -/
theorem pulseEnd_shows (g : Fin 2) (p : Pulse) {s : State} (h : s.fld.pulse[1 - g] = none) :
    (p.differ = true → (pulseEnd g p s).r R.FLD_TEST_STAT_RESULT = 3)
    ∧ (p.differ = false → p.abandoned = false → (p.on = false ∨ p.sampled = false) →
        (pulseEnd g p s).r R.FLD_TEST_STAT_RESULT = 2 ∧ (pulseEnd g p s).lan.testDue[p.target] = some s.tb
          ∧ (pulseEnd g p s).lan.testStep[p.target] = p.step)
    ∧ (p.differ = false → p.abandoned = false → p.on = true → p.sampled = true →
        (pulseEnd g p s).r R.FLD_TEST_STAT_TARGET = p.target.val ∧ (pulseEnd g p s).r R.FLD_TEST_STAT_STEP = p.step.toNat
        ∧ (pulseEnd g p s).r R.FLD_TEST_STAT_NEW = 1
        ∧ (testFaults p = [] → (pulseEnd g p s).r R.FLD_TEST_STAT_RESULT = 0 ∧ (pulseEnd g p s).fld.soOk = s.fld.soOk
            ∧ (pulseEnd g p s).fld.queue = s.fld.queue)
        ∧ (testFaults p ≠ [] → (pulseEnd g p s).r R.FLD_TEST_STAT_RESULT = 1)
        ∧ ∀ c ∈ testFaults p, Queued (pulseEnd g p s).fld c (32 + p.target.val)
            ∧ (c = S.FLD_LEG_ON ∨ c = S.FLD_STUCK → (pulseEnd g p s).fld.soOk.getLsbD p.target.val = false)) := by
  have hidle : (pulseOver g p s.tb s.fld).pulse = Vector.replicate 2 none := pulses_none _ g h
  have hjidle : (testJudged p (testFaulted p (pulseOver g p s.tb s.fld))).pulse = Vector.replicate 2 none :=
    (testFaulted_field Fld.pulse (fun _ => rfl) p _).trans hidle
  refine ⟨fun hd => ?_, fun hd ha hn => ?_, fun hd ha ho hs => ?_⟩
  · rw [pulseEnd_eq, if_pos hd, fldSettle_idle _ hidle]
    exact (testStat_r 3 p s.regs (by decide)).1
  · have hcond : (!p.on || !p.sampled) = true := by
      rcases hn with hn | hn
      · rw [hn]
        rfl
      · rw [hn, Bool.not_false, Bool.or_true]
    rw [pulseEnd_eq, if_neg (by rw [hd]; decide), if_neg (by rw [ha]; decide), if_pos hcond, fldSettle_idle _ hidle]
    exact ⟨(testStat_r 2 p s.regs (by decide)).1, by simp [testAbandon], by simp [testAbandon]⟩
  · have hcond : ¬((!p.on || !p.sampled) = true) := by rw [ho, hs]; decide
    rw [pulseEnd_eq, if_neg (by rw [hd]; decide), if_neg (by rw [ha]; decide), if_neg hcond, fldSettle_idle _ hjidle]
    have hres : (if (testFaults p).isEmpty then 0 else 1) < 4 := by split <;> decide
    obtain ⟨hresult, htarget, hstep, hnew⟩ := testStat_r _ p s.regs hres
    have hsettled := settledFld_eq { s with regs := testStat (if (testFaults p).isEmpty then 0 else 1) p s.regs }
      (testJudged p (testFaulted p (pulseOver g p s.tb s.fld)))
    obtain ⟨v, a, b, c, hf⟩ := hsettled
    rw [hf]
    refine ⟨htarget, hstep, hnew, fun he => ⟨hresult.trans (by rw [he]; rfl), ?_, ?_⟩, fun hne => hresult.trans ?_, fun c hc => ⟨?_, fun hor => ?_⟩⟩
    · have h0 : testJudged p (testFaulted p (pulseOver g p s.tb s.fld)) = pulseOver g p s.tb s.fld := by
        unfold testJudged testFaulted
        rw [he]
        rfl
      rw [h0]
      rfl
    · have h0 : testFaulted p (pulseOver g p s.tb s.fld) = pulseOver g p s.tb s.fld := by
        unfold testFaulted
        rw [he]
        rfl
      rw [h0]
      rfl
    · rw [if_neg]
      rw [List.isEmpty_iff]
      exact hne
    · exact queued_congr rfl (testFaulted_queued (pulseOver g p s.tb s.fld) hc)
    · have hcont : ((testFaults p).contains S.FLD_LEG_ON || (testFaults p).contains S.FLD_STUCK) = true := by
        rcases hor with rfl | rfl
        · rw [List.contains_iff_mem.2 hc, Bool.true_or]
        · rw [List.contains_iff_mem.2 hc, Bool.or_true]
      have hso : (testJudged p (testFaulted p (pulseOver g p s.tb s.fld))).soOk
          = putBit (testFaulted p (pulseOver g p s.tb s.fld)).soOk p.target.val false := if_pos hcont
      change (testJudged p (testFaulted p (pulseOver g p s.tb s.fld))).soOk.getLsbD p.target.val = false
      rw [hso]
      exact putBit_getLsbD_self _ _ p.target.isLt

/-! ### Tests on which one island acts (R374, R376) -/

/-- The strays of a group that have ended. -/
def straysEnded (g : Fin 2) (s : State) : List Stray :=
  s.fld.strays.filter fun x => x.grp == g && decide (x.at' + s.fld.width x.target * 1000 ≤ s.tb)

/-- The die without the strays that have ended. -/
def straysLeft (g : Fin 2) (s : State) : Fld :=
  { s.fld with strays := s.fld.strays.filter fun x => !(straysEnded g s).contains x,
               changeAt := (straysEnded g s).foldl (fun v x => v.set x.target s.tb) s.fld.changeAt }

theorem strayEnds_eq (g : Fin 2) (s : State) : strayEnds g s = fldSettle s (straysLeft g s) := rfl

theorem strayEnds_field {α : Type} (X : Fld → α) (hX : ∀ f p a b c, X { f with pulse := p, changeAt := a, rbOnSince := b, rbOffSince := c } = X f)
    (g : Fin 2) (s : State) : X (strayEnds g s).fld = X (straysLeft g s) := settled_field X hX _ _

theorem straysLeft_field {α : Type} (X : Fld → α) (hX : ∀ f l a, X { f with strays := l, changeAt := a } = X f) (g : Fin 2) (s : State) :
    X (straysLeft g s) = X s.fld := hX _ _ _

/-- A stray that is left is one there was, and of this group one whose width has not passed. -/
theorem straysLeft_strays (g : Fin 2) (s : State) {x : Stray} (h : x ∈ (straysLeft g s).strays) :
    x ∈ s.fld.strays ∧ (x.grp = g → s.tb < x.at' + s.fld.width x.target.val * 1000) := by
  obtain ⟨hm, hn⟩ := List.mem_filter.1 h
  refine ⟨hm, fun hg => Nat.not_le.1 fun hle => ?_⟩
  have hended : x ∈ straysEnded g s := List.mem_filter.2 ⟨hm, by rw [hg, beq_self_eq_true, decide_eq_true hle]; rfl⟩
  rw [List.contains_iff_mem.2 hended] at hn
  exact absurd hn (by decide)

theorem strayEnds_pulse (g h : Fin 2) (s : State) : (strayEnds g s).fld.pulse[h] = s.fld.pulse[h].map (pulseWatch s.fld) := by
  have hw : pulseWatch (straysLeft g s) = pulseWatch s.fld := by
    have hc : (straysLeft g s).cmdOn = s.fld.cmdOn := straysLeft_field Fld.cmdOn (fun _ _ _ => rfl) g s
    have hk : (straysLeft g s).clamped = s.fld.clamped := straysLeft_field Fld.clamped (fun _ _ _ => rfl) g s
    funext p
    unfold pulseWatch
    rw [hc, hk]
  rw [strayEnds_eq, settled_pulse, hw]
  exact congrArg (fun v : Vector (Option Pulse) 2 => v[h].map (pulseWatch s.fld)) (straysLeft_field Fld.pulse (fun _ _ _ => rfl) g s)

/-- The end of an off-pulse at an instant. -/
def offPulseEnded (g : Fin 2) (e : Nat) (s : State) : State :=
  match (strayEnds g (s.at e)).fld.pulse[g] with
  | some p => if p.at' + s.fld.width p.target * 1000 ≤ e then pulseEnd g p (strayEnds g (s.at e)) else strayEnds g (s.at e)
  | none => strayEnds g (s.at e)

theorem strayEnds_width (g : Fin 2) (e : Nat) (s : State) (i : Nat) : (strayEnds g (s.at e)).fld.width i = s.fld.width i :=
  (strayEnds_field (fun f => f.width i) (fun _ _ _ _ _ => rfl) g (s.at e)).trans
    (straysLeft_field (fun f => f.width i) (fun _ _ _ => rfl) g (s.at e))

theorem execOffPulseEnd_eq {e : Nat} (h : nextPulseEnd g s.fld = some e) : execOffPulseEnd g s = .next (offPulseEnded g e s) := by
  unfold execOffPulseEnd offPulseEnded
  rw [h]
  refine congrArg Host.Outcome.next ?_
  cases hp : (strayEnds g (s.at e)).fld.pulse[g] with
  | none => simp only [hp]
  | some p => simp only [hp, strayEnds_width]

theorem offPulseEnded_of {e : Nat} {p : Pulse} (hp : s.fld.pulse[g] = some p) (he : p.at' + s.fld.width p.target.val * 1000 = e) :
    offPulseEnded g e s = pulseEnd g (pulseWatch s.fld p) (strayEnds g (s.at e)) := by
  have hpulse : (strayEnds g (s.at e)).fld.pulse[g] = some (pulseWatch s.fld p) := by
    rw [strayEnds_pulse]
    exact congrArg (Option.map (pulseWatch s.fld)) hp
  unfold offPulseEnded
  rw [hpulse]
  exact if_pos (Nat.le_of_eq he)

theorem offPulseEnded_only (g : Fin 2) (e : Nat) (s : State) : OnlyChanges [.fld, .regs, .lan] (s.at e) (offPulseEnded g e s) := by
  unfold offPulseEnded
  split
  · exact .ite _ ((fldSettle_only _ _).trans (pulseEnd_only _ _ _)) (fldSettle_only _ _)
  · exact fldSettle_only _ _

theorem offPulseEnded_strays (g : Fin 2) (e : Nat) (s : State) : (offPulseEnded g e s).fld.strays = (straysLeft g (s.at e)).strays := by
  have h : (strayEnds g (s.at e)).fld.strays = (straysLeft g (s.at e)).strays := strayEnds_field Fld.strays (fun _ _ _ _ _ => rfl) g _
  unfold offPulseEnded
  split
  · split
    · exact (pulseEnd_fld _ _ _).1.trans h
    · exact h
  · exact h

end Sys2Proof.Machine
end

section
/-! O45: test pulses, output faults and the field supplies. -/

namespace Sys2Proof.Machine

variable {s : State}

/-! ### Test pulses (R361, R363, R365) -/

section TestPulses
variable {g : Fin 8} {a : Nat}

/-- The generator of the interval pulses. -/
def pulsed (g : Fin 8) (a : Nat) (s : State) : State :=
  { s.at (a + 400) with fld := { s.fld with tpPulse := some (g, (s.at (a + 400)).tb + 1200) } }

theorem tpInterval_of (h : (s.fld.fpos + 399) % 400 = 50 * g.val) : tpInterval s.fld g = true := beq_iff_eq.2 h

theorem tpFree_of (hh : s.fld.tpHeld.getLsbD g.val = false) (hs : s.fld.sunk.getLsbD (g.val / 4) = false) : tpFree s.fld g = true := by
  rw [tpFree, hh, hs]
  rfl

theorem execTpPulse_free (hr : s.fldRuns = true) (ha : s.fld.sampleAt = some a) (hi : tpInterval s.fld g = true) (hf : tpFree s.fld g = true) :
    execTpPulse g s = .next (pulsed g a s) := by
  unfold execTpPulse
  rw [ha]
  exact congrArg Host.Outcome.next (if_pos (by rw [hr, hi, hf]; rfl))

theorem execTpPulse_held (ha : s.fld.sampleAt = some a) (hf : tpFree s.fld g = false) : execTpPulse g s = .next s := by
  unfold execTpPulse
  rw [ha]
  exact congrArg Host.Outcome.next (if_neg (by rw [hf, Bool.and_false]; decide))

theorem execTpCheck_eq (low : BitVec 32) (hr : s.fldRuns = true) (ha : s.fld.sampleAt = some a) (hi : tpInterval s.fld g = true) :
    execTpCheck g low s = .next { s.at (a + 1500) with fld := { s.fld with check := some (g, low) } } := by
  unfold execTpCheck
  rw [ha]
  exact congrArg Host.Outcome.next (if_pos (by rw [hr, hi]; rfl))

theorem tpLow_pulsed (g : Fin 8) (a now : Nat) (s : State) :
    (pulsed g a s).fld.tpLow now g = true ↔ (pulsed g a s).tb ≤ now ∧ now < (pulsed g a s).tb + 1200 := by
  have h : (pulsed g a s).fld.tpLow now g
      = (g == g && decide ((s.at (a + 400)).tb + 1200 ≤ now + 12 * us ∧ now < (s.at (a + 400)).tb + 1200)) := rfl
  have hus : 12 * us = 1200 := rfl
  have htb : (pulsed g a s).tb = (s.at (a + 400)).tb := rfl
  rw [h, htb, beq_self_eq_true, Bool.true_and, decide_eq_true_eq, hus]
  omega

/-- An overloaded generator is held off. -/
def tpHeldOff (g : Fin 8) (f : Fld) : Fld := { f with tpHeld := putBit f.tpHeld g.val true }.fault S.FLD_TP_OVL (64 + g) 0

theorem execTpOvlTimer_eq (hr : s.fldRuns = true) (hf : tpFree s.fld g = true) :
    execTpOvlTimer g s = .next { s with fld := tpHeldOff g s.fld } := congrArg Host.Outcome.next (if_pos (by rw [hr, hf]; rfl))

end TestPulses

theorem fldSet_only (f : Fld) (s : State) : OnlyChanges [.fld] s { s with fld := f } := by simp [onlyChanges_iff]

theorem fldSetAt_only (f : Fld) (due : Nat) (s : State) : OnlyChanges [.tb, .edge, .fld] s { s.at due with fld := f } :=
  ((State.at_only s due).mono (by decide)).trans ((fldSet_only f (s.at due)).mono (by decide))

/-! ### Output timers (R370, R371) -/

section Outputs
variable {o : Fin 20} {g : Fin 2} {a : Nat}

/-- A readback has stayed 1. -/
def stuckHigh (o : Fin 20) (f : Fld) : Fld :=
  { f with soOk := putBit f.soOk o.val false, stuckHeld := putBit f.stuckHeld o.val true }.fault S.FLD_STUCK (32 + o) 0

theorem execStuckTimerExpire_eq (hr : s.fldRuns = true) (ha : s.fld.rbOnSince[o] = some a) (hs : s.fld.stuckHeld.getLsbD o.val = false) :
    execStuckTimerExpire o s = .next { s.at (a + s.fld.toff o.val * ms) with fld := stuckHigh o s.fld } := by
  unfold execStuckTimerExpire
  rw [ha]
  exact congrArg Host.Outcome.next (if_neg (by rw [hs, hr]; decide))

/-- A readback has stayed 0. -/
def outputClamped (o : Fin 20) (f : Fld) : Fld :=
  { f with clamp := putBit f.clamp o.val true, rbOffSince := f.rbOffSince.set o none }.fault S.FLD_OVL (32 + o) 0

theorem execOutputOvlTimer_eq (hr : s.fldRuns = true) (ha : s.fld.rbOffSince[o] = some a) :
    execOutputOvlTimer o s = .next (fldSettle (s.at (a + ms)) (outputClamped o s.fld)) := by
  unfold execOutputOvlTimer
  rw [ha]
  exact congrArg Host.Outcome.next (if_pos hr)

/-- A group overloads. -/
def groupClamped (g : Fin 2) (f : Fld) : Fld := { f with clamp := f.clamp ||| (grpOuts g &&& 0x0FFFF) }.fault S.FLD_GRP_OVL (0xFE + g) 0

theorem execGroupOvlTimer_eq (hr : s.fldRuns = true) (hg : s.pwr.fsOk.getLsbD g.val = true) :
    execGroupOvlTimer g s = .next (fldSettle s (groupClamped g s.fld)) := congrArg Host.Outcome.next (if_pos (by rw [hr, hg]; rfl))

/-- The clamp of a die that has settled after a fault. -/
theorem settled_clamp (t : State) (f : Fld) (c : Src) (pin pin2 : Nat) : (fldSettle t (f.fault c pin pin2)).fld.clamp = f.clamp :=
  (settled_field Fld.clamp (fun _ _ _ _ _ => rfl) t _).trans (fault_field Fld.clamp (fun _ => rfl) f c pin pin2)

/-! ### Supplies (R20, R31, R377) -/

/-- A supply is low. -/
def supplyLow (g : Fin 2) (f : Fld) : Fld := { f with low := putBit f.low g.val true }.fault S.FLD_LOW (0xFE + g) 0

theorem execFsLowEnter_eq (hr : s.fldRuns = true) (hc : s.fld.cfgLoaded = true) (hl : s.fld.low.getLsbD g.val = false) :
    execFsLowEnter g s = .next { s with fld := supplyLow g s.fld } := congrArg Host.Outcome.next (if_pos (by rw [hr, hc, hl]; rfl))

theorem execFsSag_eq (hr : s.fldRuns = true) (hc : s.fld.cfgLoaded = true) (hl : s.fld.sag.getLsbD g.val = false) :
    execFsSag g s = .next (fldSettle s (supplyFault S.FLD_SAG g s.fld)) := congrArg Host.Outcome.next (if_pos (by rw [hr, hc, hl]; rfl))

/-- The AO monitor bit of a supply falls. -/
def supplyGone (g : Fin 2) (s : State) : State := { s with pwr := { s.pwr with fsOk := putBit s.pwr.fsOk g.val false } }

/-- The die without a fault for a supply that has gone. -/
def goneNoted (g : Fin 2) (t : State) : Fld :=
  { t.fld with gone := if t.fld.cfgLoaded && !t.fldRuns then 3 else t.fld.gone, fsHighAt := t.fld.fsHighAt.set g none,
               fsLong := putBit t.fld.fsLong g.val false }

theorem execFsMissing_eq (h : s.pwr.fsOk.getLsbD g.val = true) : execFsMissing g s =
    .next (if (supplyGone g s).fldRuns && s.fld.cfgLoaded && !s.fld.gone.getLsbD g.val then
        fldSettle (supplyGone g s) (supplyFault S.FLD_MISSING g s.fld)
      else fldSettle (supplyGone g s) (goneNoted g (supplyGone g s))) :=
  congrArg Host.Outcome.next (if_neg (by rw [h]; decide))

theorem supplyGone_runs (h : s.pwr.fsOk.getLsbD g.val = true) : (supplyGone g s).fldRuns = s.pwr.fsOk.getLsbD (1 - g).val := by
  have hall : ∀ (v : BitVec 2) (g : Fin 2), v.getLsbD g.val = true → (putBit v g.val false != 0) = v.getLsbD (1 - g).val := by decide
  exact hall s.pwr.fsOk g h

theorem fsMissing_only (g : Fin 2) (s : State) (f : Fld) : OnlyChanges [.pwr, .fld, .regs, .lan] s (fldSettle (supplyGone g s) f) := by
  have h : OnlyChanges [.pwr] s (supplyGone g s) := by simp [onlyChanges_iff, supplyGone]
  exact (h.mono (by decide)).trans ((fldSettle_only _ _).mono (by decide))

theorem supplyFault_sunk (f : Fld) (g : Fin 2) :
    (supplyFault S.FLD_SAG g f).sag = putBit f.sag g.val true ∧ (supplyFault S.FLD_MISSING g f).gone = putBit f.gone g.val true :=
  ⟨fault_field Fld.sag (fun _ => rfl) _ _ _ _, fault_field Fld.gone (fun _ => rfl) _ _ _ _⟩

theorem sunk_of_sag {f : Fld} {i : Nat} (h : f.sag.getLsbD i = true) : f.sunk.getLsbD i = true := by rw [Fld.sunk, BitVec.getLsbD_or, h, Bool.true_or]
theorem sunk_of_gone {f : Fld} {i : Nat} (h : f.gone.getLsbD i = true) : f.sunk.getLsbD i = true := by rw [Fld.sunk, BitVec.getLsbD_or, h, Bool.or_true]

/-- A group in SAG or MISSING has every output OFF. -/
theorem expOn_of_sunk {f : Fld} (h : f.sunk.getLsbD g.val = true) : f.expOn &&& grpOuts g = 0 :=
  expOn_and_of_clamped fun _ => clamped_of_sunk h

/-- With both groups sunk every output is OFF. -/
theorem expOn_of_both {f : Fld} (h : ∀ g : Fin 2, f.sunk.getLsbD g.val = true) : f.expOn = 0 := by
  have hall : ∀ i, (0xFFFFF : BitVec 20).getLsbD i = true → f.clamped.getLsbD i = true := fun i hi => by
    have hlt := BitVec.lt_of_getLsbD hi
    have hg : ∀ i : Fin 20, (grpOuts 0).getLsbD i.val = true ∨ (grpOuts 1).getLsbD i.val = true := by decide
    rcases hg ⟨i, hlt⟩ with hg | hg
    · exact clamped_of_sunk (h 0) hg
    · exact clamped_of_sunk (h 1) hg
  have hmask : f.expOn &&& 0xFFFFF = f.expOn := BitVec.and_allOnes
  rw [← hmask]
  exact expOn_and_of_clamped hall

/-- The clause of O45 on a supply that goes. -/
theorem fsMissingClause (h : s.pwr.fsOk.getLsbD g.val = true) :
    ∃ t, exec (.fsMissing g) s = .next t ∧ OnlyChanges [.pwr, .fld, .regs, .lan] s t
      ∧ t.pwr = { s.pwr with fsOk := putBit s.pwr.fsOk g.val false }
      ∧ (s.fld.cfgLoaded = true → s.pwr.fsOk.getLsbD (1 - g).val = false → t.fld.gone = 3 ∧ t.fld.expOn = 0)
      ∧ (s.fld.cfgLoaded = true → s.pwr.fsOk.getLsbD (1 - g).val = true → t.fld.expOn &&& grpOuts g = 0
          ∧ (s.fld.gone.getLsbD g.val = false →
              t.fld.gone = putBit s.fld.gone g.val true ∧ Queued t.fld S.FLD_MISSING (0xFE + g.val))) := by
  have hexec : exec (.fsMissing g) s = _ := execFsMissing_eq h
  have hruns := supplyGone_runs h
  have hpwr : ∀ f, (fldSettle (supplyGone g s) f).pwr = { s.pwr with fsOk := putBit s.pwr.fsOk g.val false } :=
    fun f => fldSettle_only _ f .pwr (by decide)
  have hgone : ∀ f, (fldSettle (supplyGone g s) f).fld.gone = f.gone := fun f => settled_field Fld.gone (fun _ _ _ _ _ => rfl) _ f
  by_cases hc : ((supplyGone g s).fldRuns && s.fld.cfgLoaded && !s.fld.gone.getLsbD g.val) = true
  · refine ⟨_, hexec.trans (congrArg _ (if_pos hc)), fsMissing_only g s _, hpwr _, fun _ ho => ?_, fun _ _ => ⟨?_, fun _ => ⟨?_, ?_⟩⟩⟩
    · rw [hruns, ho] at hc
      exact absurd hc (by simp)
    · refine expOn_of_sunk (sunk_of_gone ?_)
      rw [hgone, (supplyFault_sunk _ _).2]
      exact putBit_getLsbD_self _ _ g.isLt
    · rw [hgone, (supplyFault_sunk _ _).2]
    · exact settled_queued _ (fault_queued _ _ _ _)
  · refine ⟨_, hexec.trans (congrArg _ (if_neg hc)), fsMissing_only g s _, hpwr _, fun hl ho => ?_, fun hl ho => ⟨?_, fun hn => ?_⟩⟩
    · have hcond : ((supplyGone g s).fld.cfgLoaded && !(supplyGone g s).fldRuns) = true := by
        have hl' : (supplyGone g s).fld.cfgLoaded = true := hl
        rw [hl', hruns, ho]
        rfl
      have h3 : (fldSettle (supplyGone g s) (goneNoted g (supplyGone g s))).fld.gone = 3 := (hgone _).trans (if_pos hcond)
      refine ⟨h3, expOn_of_both fun i => sunk_of_gone ?_⟩
      rw [h3]
      exact (by decide : ∀ i : Fin 2, (3 : BitVec 2).getLsbD i.val = true) i
    · have hg : s.fld.gone.getLsbD g.val = true := by
        refine Bool.of_not_eq_false fun hf => hc ?_
        rw [hruns, ho, hl, hf]
        rfl
      have hcond : ¬(((supplyGone g s).fld.cfgLoaded && !(supplyGone g s).fldRuns) = true) := by
        rw [hruns, ho]
        simp
      refine expOn_of_sunk (sunk_of_gone ?_)
      rw [hgone]
      have hkept : (goneNoted g (supplyGone g s)).gone = s.fld.gone := if_neg hcond
      rw [hkept]
      exact hg
    · refine absurd ?_ hc
      rw [hruns, ho, hl, hn]
      rfl

end Outputs

/-- Settles O45: test pulses by their instants, off-pulse tests by `pulseEnd_shows`, output faults and supplies by the clamps. -/
theorem fieldTestsFaultsAndSupplies : Obligations.FieldTestsFaultsAndSupplies := by
  refine ⟨fun s => ⟨fun g a hr ha hi => ⟨fun hh hs => ?_, fun h => ?_, fun low => execTpCheck_eq low hr ha (tpInterval_of hi)⟩,
      fun g hr hh hs => ?_, fun g e he => ?_⟩,
    fun s => ⟨fun hr => ⟨fun o a ha hs => ?_, fun o a ha => ?_, fun g => ⟨fun hg => ?_, fun hc hl => ?_, ?_, fun hc hl => ?_⟩⟩,
      fun g h => fsMissingClause h, fun g => rfl⟩⟩
  · exact ⟨_, execTpPulse_free hr ha (tpInterval_of hi) (tpFree_of hh hs), rfl, fun now => tpLow_pulsed g a now s⟩
  · refine execTpPulse_held ha ?_
    rcases h with h | h
    · rw [tpFree, h]
      rfl
    · rw [tpFree, h, Bool.not_true, Bool.and_false]
  · exact ⟨_, execTpOvlTimer_eq hr (tpFree_of hh hs), fldSet_only _ s, fault_field Fld.tpHeld (fun _ => rfl) _ _ _ _, fault_queued _ _ _ _⟩
  · have htb : (offPulseEnded g e s).tb = (s.at e).tb := offPulseEnded_only g e s .tb (by decide)
    refine ⟨_, execOffPulseEnd_eq he, ((State.at_only s e).mono (by decide)).trans ((offPulseEnded_only g e s).mono (by decide)), htb,
      fun x hx => ?_, fun p q hp hpe hq => ?_⟩
    · rw [offPulseEnded_strays] at hx
      rw [htb]
      exact straysLeft_strays g (s.at e) hx
    · subst hq
      have hother : s.fld.pulse[1 - g] = none → (strayEnds g (s.at e)).fld.pulse[1 - g] = none := fun hn => by
        rw [strayEnds_pulse]
        exact congrArg (Option.map (pulseWatch s.fld)) hn
      have hso : (strayEnds g (s.at e)).fld.soOk = s.fld.soOk :=
        (strayEnds_field Fld.soOk (fun _ _ _ _ _ => rfl) g _).trans (straysLeft_field Fld.soOk (fun _ _ _ => rfl) g _)
      have hqueue : (strayEnds g (s.at e)).fld.queue = s.fld.queue :=
        (strayEnds_field Fld.queue (fun _ _ _ _ _ => rfl) g _).trans (straysLeft_field Fld.queue (fun _ _ _ => rfl) g _)
      have hstb : (strayEnds g (s.at e)).tb = (s.at e).tb := fldSettle_only _ _ .tb (by decide)
      rw [htb, offPulseEnded_of hp hpe]
      refine ⟨(pulseEnd_fld g (pulseWatch s.fld p) _).2, fun hn => ?_⟩
      have hshow := pulseEnd_shows g (pulseWatch s.fld p) (hother hn)
      rw [hso, hqueue, hstb] at hshow
      exact hshow
  · exact ⟨_, execStuckTimerExpire_eq hr ha hs, fldSetAt_only _ _ s, rfl, fault_field Fld.soOk (fun _ => rfl) _ _ _ _, fault_queued _ _ _ _⟩
  · have hclamp : (fldSettle (s.at (a + ms)) (outputClamped o s.fld)).fld.clamp = putBit s.fld.clamp o.val true := settled_clamp _ _ _ _ _
    refine ⟨_, execOutputOvlTimer_eq hr ha, ((State.at_only s _).mono (by decide)).trans ((fldSettle_only _ _).mono (by decide)),
      fldSettle_only _ _ .tb (by decide), hclamp, expOn_of_clamped (clamped_of_clamp ?_), settled_queued _ (fault_queued _ _ _ _)⟩
    rw [hclamp]
    exact putBit_getLsbD_self _ _ o.isLt
  · have hclamp : (fldSettle s (groupClamped g s.fld)).fld.clamp = s.fld.clamp ||| (grpOuts g &&& 0x0FFFF) := settled_clamp _ _ _ _ _
    refine ⟨_, execGroupOvlTimer_eq hr hg, fldSettle_only _ _, hclamp, expOn_and_of_clamped fun i hi => clamped_of_clamp ?_,
      settled_queued _ (fault_queued _ _ _ _)⟩
    rw [hclamp, BitVec.getLsbD_or, hi, Bool.or_true]
  · exact ⟨_, execFsLowEnter_eq hr hc hl, fldSet_only _ s, fault_field Fld.low (fun _ => rfl) _ _ _ _, fault_field Fld.sag (fun _ => rfl) _ _ _ _,
      fault_queued _ _ _ _⟩
  · exact congrArg Host.Outcome.next (if_pos hr)
  · have hsag : (fldSettle s (supplyFault S.FLD_SAG g s.fld)).fld.sag = putBit s.fld.sag g.val true :=
      (settled_field Fld.sag (fun _ _ _ _ _ => rfl) s _).trans (supplyFault_sunk s.fld g).1
    refine ⟨_, execFsSag_eq hr hc hl, fldSettle_only _ _, hsag, expOn_of_sunk (sunk_of_sag ?_), settled_queued _ (fault_queued _ _ _ _)⟩
    rw [hsag]
    exact putBit_getLsbD_self _ _ g.isLt

end Sys2Proof.Machine
end

section
/-! Phase 4 of a scan: what the network sends, the raisings that act, and the deliberate reset. -/

namespace Sys2Proof.Machine

variable {s t : State}

/-! ### The network's part of phase 4 (R395, R400) -/

/-- The network alone has changed, and whatever had left has left. -/
structure SendsMore (s t : State) : Prop where
  only : OnlyChanges [.net, .keep, .tx] s t
  sent : ∀ e ∈ s.tx, e ∈ t.tx

namespace SendsMore

theorem refl (s : State) : SendsMore s s := ⟨.refl _ s, fun _ h => h⟩

theorem trans {u : State} (h : SendsMore s t) (h' : SendsMore t u) : SendsMore s u :=
  ⟨h.only.trans h'.only, fun e he => h'.sent e (h.sent e he)⟩

theorem of_conn (n : Fin 32) (f : Conn → Conn) (s : State) : SendsMore s (s.conn n f) :=
  ⟨(State.conn_only _ _ _).mono (by decide), fun _ h => h⟩

theorem of_send (l : List Tx) (s : State) : SendsMore s (s.send l) :=
  ⟨by simp [onlyChanges_iff, State.send], fun _ h => List.mem_append_right _ h⟩

theorem of_sendConn (n : Fin 32) (typ : Nat) (pses echo : BitVec 16) (body : List Word) (s : State) :
    SendsMore s (sendConn n typ pses echo body s) := (of_conn n _ s).trans (of_send _ _)

theorem of_openConn (n : Fin 32) (s : State) : SendsMore s (openConn n s) := ⟨by simp [onlyChanges_iff, openConn], fun _ h => h⟩

end SendsMore

/-- A connection sends the CLOSE that it owes. -/
def sendClose (c : Conn) (n : Fin 32) (s : State) : State :=
  match c.close with
  | some r => sendConn n 4 (c.pses.getD 0) (c.lastSeq.getD 0) [BitVec.ofNat 32 r.toNat, 0, 0, 0] s
  | none => s

/-- A connection that closes nothing sends the OPEN_ACK that it owes. -/
def sendAnswer (c : Conn) (n : Fin 32) (s : State) : State :=
  match c.answer with
  | some e => if c.close.isNone then sendConn n 3 (c.pses.getD 0) e (openBody s n) s else s
  | none => s

/-- A connection's OPEN is due at a boundary: the first, or 10 ms after the one before. -/
def openDue (c : Conn) (b : Nat) : Bool := match c.openAt with | some t => decide (t + 10 * ms ≤ b) | none => true

/-- A connection sends OPEN where it is due, and DATA in its cycle. -/
def sendOpenOrData (c : Conn) (n : Fin 32) (s : State) : State :=
  if c.st == .opening && openDue c s.lan.boundary then
    (sendConn n 2 0 0 (openBody s n) s).conn n fun c => { c with openAt := some s.lan.boundary }
  else if c.st == .open && decide (s.lan.scanNo.toNat % (s.r R.NET_CONN_CFG_CYC n + 1) = 0) then
    sendConn n 1 (c.pses.getD 0) (c.lastSeq.getD 0) (payWords s.lan.pay[n]) s
  else s

theorem connSend_eq (s : State) (n : Fin 32) :
    connSend s n = sendOpenOrData s.net.conns[n] n (sendAnswer s.net.conns[n] n (sendClose s.net.conns[n] n s)) := rfl

namespace SendsMore

theorem of_sendClose (c : Conn) (n : Fin 32) (s : State) : SendsMore s (sendClose c n s) := by
  unfold sendClose
  split
  · exact of_sendConn _ _ _ _ _ _
  · exact refl s

theorem of_sendAnswer (c : Conn) (n : Fin 32) (s : State) : SendsMore s (sendAnswer c n s) := by
  unfold sendAnswer
  split
  · split
    · exact of_sendConn _ _ _ _ _ _
    · exact refl s
  · exact refl s

theorem of_sendOpenOrData (c : Conn) (n : Fin 32) (s : State) : SendsMore s (sendOpenOrData c n s) := by
  unfold sendOpenOrData
  split
  · exact (of_sendConn _ _ _ _ _ _).trans (of_conn _ _ _)
  · split
    · exact of_sendConn _ _ _ _ _ _
    · exact refl s

theorem of_connSend (s : State) (n : Fin 32) : SendsMore s (connSend s n) := by
  rw [connSend_eq]
  exact (of_sendClose _ n s).trans ((of_sendAnswer _ n _).trans (of_sendOpenOrData _ n _))

theorem of_connAfter (s : State) (n : Fin 32) : SendsMore s (connAfter s n) := by
  unfold connAfter
  dsimp only
  split
  · split
    · exact of_openConn n s
    · exact of_conn _ _ _
  · exact of_conn _ _ _

theorem foldl {α : Type} {g : State → α → State} (h : ∀ s a, SendsMore s (g s a)) (l : List α) (s : State) : SendsMore s (l.foldl g s) :=
  List.foldlRecOn (motive := SendsMore s) l g (refl s) fun t ht a _ => ht.trans (h t a)

theorem of_netPhase4 (sends : Bool) (s : State) : SendsMore s (netPhase4 sends s) := by
  unfold netPhase4
  cases sends with
  | false => exact foldl of_connAfter _ _
  | true => exact (foldl of_connSend _ _).trans (foldl of_connAfter _ _)

end SendsMore

/-! ### The raisings that act (R497, R515) -/

/-- Groups in Safe-hold once the raisings of the scan have acted. -/
def heldGroups (s : State) : BitVec 16 :=
  (s.sys.acts.filter (·.sev == 2)).foldl (fun (g : BitVec 16) (h : HoldReq) => g ||| h.groups) s.sys.grpHold

/-- The raisings of the scan are taken, with their groups. -/
def actsTaken (s : State) : State := { s with sys := { s.sys with acts := [], grpHold := heldGroups s, pdnHold := false } }

/-- A raising of the scan calls for Lockdown. -/
def locks (s : State) : Bool := s.sys.acts.any fun h => decide (4 ≤ h.sev.toNat)

/-- A raising of the scan, or a power-down, calls for Safe-hold at least. -/
def stops (s : State) : Bool := locks s || s.sys.pdnHold || s.sys.acts.any fun h => decide (3 ≤ h.sev.toNat)

/-- The mode that the raisings enter. -/
def modeTaken (s : State) : State := if locks s then setMode .lockdown (actsTaken s) else enterHold (actsTaken s)

/-- A device stop is counted. -/
def stopCounted (acts : List HoldReq) (t u : State) : State := if u.sys.mode != t.sys.mode && acts.any isStop then u.stat 1 4 1 else u

theorem actHolds_eq (s : State) : actHolds s =
    if s.sys.mode == .lockdown then actsTaken s
    else if stops s then overtaken (stopCounted s.sys.acts (actsTaken s) (modeTaken s)) else actsTaken s := rfl

/-- An agreed end of Boot is forgotten. -/
def bootForgotten (s : State) : State := { s with sys := { s.sys with bootAgreed := false } }

theorem overtaken_eq (s : State) : overtaken s =
    if (overtakeReq (bootForgotten s)).sys.drstScan then
      drstResult 3 7 { overtakeReq (bootForgotten s) with sys := { (overtakeReq (bootForgotten s)).sys with drstScan := false } }
    else overtakeReq (bootForgotten s) := rfl

/-- Mode parts alone have changed, and no group has left or entered Safe-hold. -/
structure KeepsGroups (s t : State) : Prop where
  only : OnlyChanges [.sys, .slot, .regs, .vpt, .smp] s t
  groups : t.sys.grpHold = s.sys.grpHold

namespace KeepsGroups

theorem refl (s : State) : KeepsGroups s s := ⟨.refl _ s, rfl⟩

theorem trans {u : State} (h : KeepsGroups s t) (h' : KeepsGroups t u) : KeepsGroups s u :=
  ⟨h.only.trans h'.only, h'.groups.trans h.groups⟩

theorem of_setMode (m : Mode) (s : State) : KeepsGroups s (setMode m s) := by
  refine ⟨(setMode_only m s).mono (by decide), ?_⟩
  unfold setMode
  dsimp only
  split
  · rfl
  · split
    · rfl
    · split
      · rw [bootExit, slotStart_sys]
      · rfl

theorem of_enterHold (s : State) : KeepsGroups s (enterHold s) := by
  refine ⟨(enterHold_only s).mono (by decide), ?_⟩
  unfold enterHold
  split
  · rfl
  · exact (of_setMode .safeHold _).groups

theorem of_stopCounted (acts : List HoldReq) (t u : State) : KeepsGroups u (stopCounted acts t u) := by
  unfold stopCounted
  split
  · exact ⟨by simp [onlyChanges_iff, State.stat], rfl⟩
  · exact refl u

theorem of_overtakeReq (s : State) : KeepsGroups s (overtakeReq s) := by
  unfold overtakeReq
  split
  · exact ⟨by simp [onlyChanges_iff, reqResult], rfl⟩
  · exact refl s

theorem of_bootForgotten (s : State) : KeepsGroups s (bootForgotten s) := ⟨by simp [onlyChanges_iff, bootForgotten], rfl⟩

theorem of_overtaken (s : State) : KeepsGroups s (overtaken s) := by
  have h : KeepsGroups s (overtakeReq (bootForgotten s)) := (of_bootForgotten s).trans (of_overtakeReq _)
  rw [overtaken_eq]
  split
  · exact h.trans ⟨by simp [onlyChanges_iff, drstResult], rfl⟩
  · exact h

end KeepsGroups

theorem overtaken_mode (s : State) : (overtaken s).sys.mode = s.sys.mode := by
  have h : (overtakeReq (bootForgotten s)).sys.mode = s.sys.mode := by
    unfold overtakeReq
    split <;> rfl
  rw [overtaken_eq]
  split
  · exact h
  · exact h

theorem stopCounted_mode (acts : List HoldReq) (t u : State) : (stopCounted acts t u).sys.mode = u.sys.mode := by
  unfold stopCounted
  split <;> rfl

theorem setMode_mode {m : Mode} (h : bootHeld s = false) : (setMode m s).sys.mode = m := by
  unfold setMode
  dsimp only
  split
  · next he => exact beq_iff_eq.1 he
  · rw [h, if_neg Bool.false_ne_true]
    split
    · exact bootExit_sys_mode _
    · rfl

theorem enterHold_mode (h : bootHeld s = false) (hl : s.sys.mode ≠ .lockdown) : (enterHold s).sys.mode = .safeHold := by
  unfold enterHold
  split
  · next hi =>
    rcases List.mem_cons.1 (List.contains_iff_mem.1 hi) with he | he
    · exact he
    · exact absurd (List.mem_singleton.1 he) hl
  · exact setMode_mode h

/-- With its raisings taken a device has only some of the state of its modes changed. -/
theorem actsTaken_only (s : State) : OnlyChanges [.sys] s (actsTaken s) := by simp [onlyChanges_iff, actsTaken]

theorem actHolds_groups (s : State) : OnlyChanges [.sys, .slot, .regs, .vpt, .smp] s (actHolds s) ∧ (actHolds s).sys.grpHold = heldGroups s := by
  have hm : KeepsGroups (actsTaken s) (modeTaken s) := by
    unfold modeTaken
    split
    · exact .of_setMode _ _
    · exact .of_enterHold _
  have hk : KeepsGroups (actsTaken s) (actHolds s) := by
    rw [actHolds_eq]
    split
    · exact .refl _
    · split
      · exact (hm.trans (.of_stopCounted _ _ _)).trans (.of_overtaken _)
      · exact .refl _
  exact ⟨((actsTaken_only s).mono (by decide)).trans hk.only, hk.groups⟩

theorem actHolds_mode_of_lockdown (h : s.sys.mode = .lockdown) : (actHolds s).sys.mode = .lockdown := by
  rw [actHolds_eq, if_pos (beq_iff_eq.2 h)]
  exact h

theorem actHolds_mode_of_stops (hl : s.sys.mode ≠ .lockdown) (h : stops s = true) : (actHolds s).sys.mode = (modeTaken s).sys.mode := by
  rw [actHolds_eq, if_neg (fun he => hl (beq_iff_eq.1 he)), if_pos h, overtaken_mode, stopCounted_mode]

theorem actHolds_locks (hb : bootHeld s = false) (h : locks s = true) : (actHolds s).sys.mode = .lockdown := by
  by_cases hl : s.sys.mode = .lockdown
  · exact actHolds_mode_of_lockdown hl
  · rw [actHolds_mode_of_stops hl (by rw [stops, h]; rfl), modeTaken, if_pos h]
    exact setMode_mode hb

theorem actHolds_stops (hb : bootHeld s = false) (hl : s.sys.mode ≠ .lockdown) (h : locks s = false) (hs : stops s = true) :
    (actHolds s).sys.mode = .safeHold := by
  rw [actHolds_mode_of_stops hl hs, modeTaken, h, if_neg Bool.false_ne_true]
  exact enterHold_mode hb hl

theorem actHolds_nil (ha : s.sys.acts = []) (hp : s.sys.pdnHold = false) :
    actHolds s = { s with sys := { s.sys with acts := [], pdnHold := false } } := by
  have hg : heldGroups s = s.sys.grpHold := by rw [heldGroups, ha]; rfl
  have hs : stops s = false := by rw [stops, locks, ha, hp]; rfl
  rw [actHolds_eq, hs, if_neg Bool.false_ne_true, ite_self, actsTaken, hg]

theorem foldl_or_groups_keeps (l : List HoldReq) (g : BitVec 16) (i : Nat) (h : g.getLsbD i = true) :
    (l.foldl (fun (g : BitVec 16) (h : HoldReq) => g ||| h.groups) g).getLsbD i = true :=
  List.foldlRecOn (motive := fun b => b.getLsbD i = true) l _ h fun (b : BitVec 16) hb a _ => by rw [BitVec.getLsbD_or, hb, Bool.true_or]

theorem foldl_or_groups_mem {l : List HoldReq} {h : HoldReq} (hm : h ∈ l) (g : BitVec 16) (i : Nat) (hi : h.groups.getLsbD i = true) :
    (l.foldl (fun (g : BitVec 16) (h : HoldReq) => g ||| h.groups) g).getLsbD i = true := by
  induction l generalizing g with
  | nil => cases hm
  | cons a l ih =>
    rw [List.foldl_cons]
    rcases List.mem_cons.1 hm with rfl | hm
    · exact foldl_or_groups_keeps l _ i (by rw [BitVec.getLsbD_or, hi, Bool.or_true])
    · exact ih hm _

/-- A value of whose bits every one stands in another is its own meet with it. -/
theorem and_eq_of_bits {n : Nat} {a b : BitVec n} (h : ∀ i, b.getLsbD i = true → a.getLsbD i = true) : a &&& b = b := by
  refine BitVec.eq_of_getLsbD_eq fun i _ => ?_
  rw [BitVec.getLsbD_and]
  cases hb : b.getLsbD i with
  | false => exact Bool.and_false _
  | true => rw [h i hb]; rfl

theorem heldGroups_old (s : State) : heldGroups s &&& s.sys.grpHold = s.sys.grpHold :=
  and_eq_of_bits fun i h => foldl_or_groups_keeps _ _ i h

theorem heldGroups_new {h : HoldReq} (hm : h ∈ s.sys.acts) (h2 : h.sev = 2) : heldGroups s &&& h.groups = h.groups := by
  have hf : h ∈ s.sys.acts.filter (·.sev == 2) := List.mem_filter.2 ⟨hm, by rw [h2]; rfl⟩
  refine and_eq_of_bits fun i hi => ?_
  unfold heldGroups
  exact foldl_or_groups_mem hf s.sys.grpHold i hi

/-! ### The deliberate reset (R528) -/

theorem actReset_only (s : State) : OnlyChanges [.sys, .lan, .regs] s (actReset s) := by
  unfold actReset
  dsimp only
  split
  · split
    · simp [onlyChanges_iff]
    · simp [onlyChanges_iff, drstResult]
  · simp [onlyChanges_iff]

theorem actReset_none (h : s.sys.drstScan = false) : actReset s = { s with lan := { s.lan with fldReset := false } } := by
  unfold actReset
  rw [h, if_neg Bool.false_ne_true]

theorem actReset_done (h : s.sys.drstScan = true) (hw : drstWhy s = 0) : actReset s =
    { s with lan := { s.lan with fldReset := true }, sys := { s.sys with drstScan := false, drstDone := true, holds := [] } } := by
  unfold actReset
  rw [if_pos h]
  exact if_pos hw

theorem actReset_refused (h : s.sys.drstScan = true) (hw : drstWhy s ≠ 0) : actReset s =
    drstResult 3 (drstWhy s) { s with sys := { s.sys with drstScan := false }, lan := { s.lan with fldReset := false } } := by
  unfold actReset
  rw [if_pos h]
  exact if_neg hw

theorem drstResult_drst (res why : Nat) (s : State) : (drstResult res why s).r R.SYS_REQ_STAT_DRST = res % 8 := by
  rw [State.r, drstResult, rget_rput_apart _ _ rfl, rget_rput_apart _ _ rfl, rget_rput_same _ _ _ _ _ (by decide)]
  rfl

theorem drstResult_why (res why : Nat) (s : State) : (drstResult res why s).r R.SYS_REQ_STAT_DRST_WHY = why % 16 := by
  rw [State.r, drstResult, rget_rput_apart _ _ rfl, rget_rput_same _ _ _ _ _ (by decide)]
  rfl

end Sys2Proof.Machine
end

section
/-! O42: the drive phase. -/

namespace Sys2Proof.Machine

variable {s t : State}

/-! ### What a lane's commands rest on (R251, R253) -/

/-- Everything that the commands and the sluice legs of the lanes rest on is as it was. -/
structure KeepsDrive (s t : State) : Prop where
  pwr : t.pwr = s.pwr
  mode : t.sys.mode = s.sys.mode
  groups : t.sys.grpHold = s.sys.grpHold
  run : t.lan.run = s.lan.run
  join : t.lan.join = s.lan.join
  lanes : t.lan.lanes = s.lan.lanes
  map : t.lan.map = s.lan.map
  image : t.lan.image = s.lan.image
  forceOff : t.lan.forceOff = s.lan.forceOff

namespace KeepsDrive

theorem trans {u : State} (h : KeepsDrive s t) (h' : KeepsDrive t u) : KeepsDrive s u :=
  ⟨h'.pwr.trans h.pwr, h'.mode.trans h.mode, h'.groups.trans h.groups, h'.run.trans h.run, h'.join.trans h.join,
    h'.lanes.trans h.lanes, h'.map.trans h.map, h'.image.trans h.image, h'.forceOff.trans h.forceOff⟩

theorem mapOf (h : KeepsDrive s t) (l : Fin 3) : t.lan.mapOf l = s.lan.mapOf l := by rw [Lan.mapOf, Lan.mapOf, h.lanes, h.map]

theorem dom (h : KeepsDrive s t) (d : Nat) : t.dom d = s.dom d := by rw [State.dom, State.dom, h.pwr]

theorem inService (h : KeepsDrive s t) (l : Fin 3) : t.lan.inService l = s.lan.inService l := by
  rw [Lan.inService, Lan.inService, h.run, h.lanes, h.join]

theorem voters (h : KeepsDrive s t) : voters t = voters s := List.filter_congr fun l _ => h.inService l

theorem drivers (h : KeepsDrive s t) : drivers t = drivers s := by
  unfold Sys2Proof.Machine.drivers
  rw [h.voters]
  exact List.filter_congr fun l _ => by rw [h.lanes, h.dom]

theorem inMode (h : KeepsDrive s t) (l : List Mode) : t.inMode l = s.inMode l := by rw [State.inMode, State.inMode, h.mode]

theorem laneCmds (h : KeepsDrive s t) (l : Fin 3) : laneCmds t l = laneCmds s l := by
  have hh : heldOutputs t = heldOutputs s := by rw [heldOutputs, heldOutputs, h.image, h.groups]
  rw [Sys2Proof.Machine.laneCmds, Sys2Proof.Machine.laneCmds, follows, follows, h.inMode, h.forceOff, h.lanes, hh]

theorem laneLeg (h : KeepsDrive s t) (l : Fin 3) : laneLeg t l = laneLeg s l := by
  rw [Sys2Proof.Machine.laneLeg, Sys2Proof.Machine.laneLeg, h.drivers, h.laneCmds, h.mapOf, h.groups, h.inMode, h.dom]

end KeepsDrive

theorem laneCmds_off (h : follows s = false) (l : Fin 3) : laneCmds s l = 0 := by rw [laneCmds, h]; rfl

theorem follows_false (h : s.lan.forceOff = true ∨ s.inMode [.commission, .run, .maintain, .degraded] = false) : follows s = false := by
  unfold follows
  rcases h with h | h
  · rw [h]
    exact Bool.and_false _
  · rw [h]
    rfl

/-! ### The frames of the lanes (R251, R255, R373) -/

/-- The rotation of the off-pulse tests alone has changed. -/
structure KeepsTestless (s t : State) : Prop where
  drive : KeepsDrive s t
  only : OnlyChanges [.lan] s t
  refresh : t.lan.refresh = s.lan.refresh
  eack : t.lan.eack = s.lan.eack
  fldSend : t.lan.fldSend = s.lan.fldSend
  fldReset : t.lan.fldReset = s.lan.fldReset

namespace KeepsTestless

theorem of_tests (d : Vector (Option Nat) 20) (k : Vector (BitVec 2) 20) (s : State) :
    KeepsTestless s { s with lan := { s.lan with testDue := d, testStep := k } } :=
  ⟨⟨rfl, rfl, rfl, rfl, rfl, rfl, rfl, rfl, rfl⟩, by simp [onlyChanges_iff], rfl, rfl, rfl, rfl⟩

theorem trans {u : State} (h : KeepsTestless s t) (h' : KeepsTestless t u) : KeepsTestless s u :=
  ⟨h.drive.trans h'.drive, h.only.trans h'.only, h'.refresh.trans h.refresh, h'.eack.trans h.eack, h'.fldSend.trans h.fldSend,
    h'.fldReset.trans h.fldReset⟩

theorem laneFrames (h : KeepsTestless s t) (w : Word) (l : Fin 3) : laneFrames t w l = laneFrames s w l := by
  unfold Sys2Proof.Machine.laneFrames
  rw [h.refresh, h.eack, h.fldSend, h.fldReset, h.drive.laneCmds]

end KeepsTestless

theorem testPhase_keeps (cmds : BitVec 21) (s : State) : KeepsTestless s (testPhase cmds s).1 := by
  unfold testPhase
  dsimp only
  refine List.foldlRecOn (motive := KeepsTestless s) _ _ (.of_tests _ s.lan.testStep s) fun t ht g _ => ht.trans ?_
  split
  · exact .of_tests _ _ t
  · exact .of_tests t.lan.testDue t.lan.testStep t

/-- The commands by which the off-pulse tests are chosen: those of the first lane that sends. -/
def firstCmds (s : State) : BitVec 21 := match drivers s with | l :: _ => laneCmds s l | [] => 0

/-- The off-pulse tests are chosen. -/
def tested (s : State) : State := (testPhase (firstCmds s) s).1

/-- A field configuration that waited has left. -/
def cfgSent (s : State) : Lan :=
  match s.lan.fldSend with
  | some c => { s.lan with fldSend := none, fldSent := c, fldCheckFrom := some (s.lan.boundary + 2 * s.period) }
  | none => s.lan

/-- The refresh number advances behind the frames of a scan. -/
def refreshed (s : State) : State := { s with lan := { cfgSent s with refresh := (cfgSent s).refresh + 1 } }

theorem sendDrives_eq (s : State) : sendDrives s =
    refreshed ((tested s).send ((drivers (tested s)).flatMap (laneFrames (tested s) (testPhase (firstCmds s) s).2))) := rfl

theorem refreshed_keeps (s : State) : KeepsDrive s (refreshed s) ∧ (refreshed s).lan.refresh = s.lan.refresh + 1 := by
  unfold refreshed cfgSent
  split
  · exact ⟨⟨rfl, rfl, rfl, rfl, rfl, rfl, rfl, rfl, rfl⟩, rfl⟩
  · exact ⟨⟨rfl, rfl, rfl, rfl, rfl, rfl, rfl, rfl, rfl⟩, rfl⟩

theorem sendDrives_only (s : State) : OnlyChanges [.lan, .tx] s (sendDrives s) := by
  rw [sendDrives_eq]
  generalize (drivers (tested s)).flatMap _ = l
  have ht : OnlyChanges [.lan, .tx] s (tested s) := (testPhase_keeps (firstCmds s) s).only.mono (by decide)
  have hs : OnlyChanges [.lan, .tx] (tested s) ((tested s).send l) := by simp [onlyChanges_iff, State.send]
  have hr : OnlyChanges [.lan, .tx] ((tested s).send l) (refreshed ((tested s).send l)) := by simp [onlyChanges_iff, refreshed]
  exact ht.trans (hs.trans hr)

theorem KeepsDrive.of_send (l : List Tx) (s : State) : KeepsDrive s (s.send l) := ⟨rfl, rfl, rfl, rfl, rfl, rfl, rfl, rfl, rfl⟩

theorem sendDrives_keeps (s : State) : KeepsDrive s (sendDrives s) := by
  rw [sendDrives_eq]
  exact (testPhase_keeps (firstCmds s) s).drive.trans ((KeepsDrive.of_send _ _).trans (refreshed_keeps _).1)

theorem sendDrives_refresh (s : State) : (sendDrives s).lan.refresh = s.lan.refresh + 1 := by
  rw [sendDrives_eq, (refreshed_keeps _).2]
  exact congrArg (· + 1) (testPhase_keeps (firstCmds s) s).refresh

theorem laneFrames_sent {l : Fin 3} (hl : l ∈ drivers s) : ∃ w, ∀ e ∈ laneFrames s w l, e ∈ (sendDrives s).tx := by
  have hk : KeepsTestless s (tested s) := testPhase_keeps (firstCmds s) s
  have hd : l ∈ drivers (tested s) := by rwa [hk.drive.drivers]
  refine ⟨(testPhase (firstCmds s) s).2, fun e he => ?_⟩
  have hf : e ∈ laneFrames (tested s) (testPhase (firstCmds s) s).2 l := by rwa [hk.laneFrames]
  rw [sendDrives_eq]
  exact List.mem_append_left _ (List.mem_reverse.2 (List.mem_flatMap.2 ⟨l, hd, hf⟩))

theorem drive_mem_laneFrames (w : Word) (l : Fin 3) :
    Tx.fdl l (sealFrame [BitVec.ofNat 32 (s.lan.refresh.toNat + 65536 * s.lan.eack.toNat), ((laneCmds s l).extractLsb' 0 20).setWidth 32, w])
      ∈ laneFrames s w l := List.mem_cons_self

theorem config_mem_laneFrames (w : Word) (l : Fin 3) {c : Frame} (h : s.lan.fldSend = some c) :
    Tx.fdlConfig l (sealFrame c) ∈ laneFrames s w l := by
  unfold laneFrames
  rw [h]
  exact List.mem_cons_of_mem _ (List.mem_append_right _ List.mem_cons_self)

theorem reset_mem_laneFrames (w : Word) (l : Fin 3) (h : s.lan.fldReset = true) :
    Tx.fdlReset l (sealFrame [BitVec.ofNat 32 (0xA5 + 65536 * s.lan.refresh.toNat), 0, 0]) ∈ laneFrames s w l := by
  unfold laneFrames
  rw [h]
  exact List.mem_cons_of_mem _ (List.mem_append_left _ List.mem_cons_self)

/-! ### Lines and the end of the scan (R253) -/

theorem driveLines_only (s : State) : OnlyChanges [.vpt, .lan] s (driveLines s) := by simp [onlyChanges_iff, driveLines]

theorem driveLines_legs (s : State) (l : Fin 3) : (driveLines s).vpt.legs.getLsbD l.val = laneLeg s l := by
  unfold driveLines
  rw [setLegs_legs]
  exact foldl_putBit (laneLeg s) 0 l

theorem driveLines_refresh (s : State) : (driveLines s).lan.refresh = s.lan.refresh := by
  unfold driveLines
  generalize vimap _ s.lan.lanes = v
  rfl

/-- The scan's phases are over. -/
def scanOver (s : State) : State := { s with lan := { s.lan with phase := 0 } }

theorem driveEff4_eq (s : State) : driveEff4 s =
    netPhase4 (sendsPayload (driveLines (sendDrives (actReset (actHolds s))))) (scanOver (driveLines (sendDrives (actReset (actHolds s))))) :=
  rfl

/-- What the drive phase does behind the raisings and the deliberate reset. -/
structure Drives (v t : State) : Prop where
  only : OnlyChanges [.lan, .vpt, .tx, .net, .keep] v t
  phase : t.lan.phase = 0
  refresh : t.lan.refresh = v.lan.refresh + 1
  legs : ∀ l : Fin 3, t.vpt.legs.getLsbD l.val = laneLeg v l
  sent : ∀ e ∈ (sendDrives v).tx, e ∈ t.tx

theorem driveEff4_drives (s : State) : Drives (actReset (actHolds s)) (driveEff4 s) := by
  rw [driveEff4_eq]
  generalize actReset (actHolds s) = v
  generalize sendsPayload _ = b
  have hn := SendsMore.of_netPhase4 b (scanOver (driveLines (sendDrives v)))
  have hs : OnlyChanges [.lan] (driveLines (sendDrives v)) (scanOver (driveLines (sendDrives v))) := by simp [onlyChanges_iff, scanOver]
  have hl := driveLines_only (sendDrives v)
  have hlan : (netPhase4 b (scanOver (driveLines (sendDrives v)))).lan = _ := hn.only .lan (by decide)
  refine ⟨?_, ?_, ?_, fun l => ?_, fun e he => hn.sent e ?_⟩
  · exact (((sendDrives_only v).mono (by decide)).trans (hl.mono (by decide))).trans ((hs.mono (by decide)).trans (hn.only.mono (by decide)))
  · rw [hlan]
    rfl
  · rw [hlan]
    exact (driveLines_refresh _).trans (sendDrives_refresh v)
  · rw [(hn.only .vpt (by decide) :), ← (sendDrives_keeps v).laneLeg]
    exact driveLines_legs _ l
  · exact he

/-- The deliberate reset is done: the field reset frame is to leave, and the hold requests are withdrawn. -/
def resetDone (s : State) : State :=
  { s with lan := { s.lan with fldReset := true }, sys := { s.sys with drstScan := false, drstDone := true, holds := [] } }

theorem actReset_eq_resetDone (h : s.sys.drstScan = true) (hw : drstWhy s = 0) : actReset s = resetDone s := actReset_done h hw

theorem actReset_lan (s : State) : ∃ b, (actReset s).lan = { s.lan with fldReset := b } := by
  unfold actReset
  dsimp only
  split
  · split
    · exact ⟨true, rfl⟩
    · exact ⟨false, rfl⟩
  · exact ⟨false, rfl⟩

theorem actReset_sys (s : State) : (actReset s).sys.mode = s.sys.mode ∧ (actReset s).sys.grpHold = s.sys.grpHold := by
  unfold actReset
  dsimp only
  split
  · split
    · exact ⟨rfl, rfl⟩
    · exact ⟨rfl, rfl⟩
  · exact ⟨rfl, rfl⟩

theorem actReset_keeps (s : State) : KeepsDrive s (actReset s) := by
  obtain ⟨b, hb⟩ := actReset_lan s
  obtain ⟨hm, hg⟩ := actReset_sys s
  exact ⟨actReset_only s .pwr (by decide), hm, hg, by rw [hb], by rw [hb], by rw [hb], by rw [hb], by rw [hb], by rw [hb]⟩

/-- The instant of the drive phase. -/
def driveAt (s : State) : State := (s.at (s.lan.boundary + 30 * us + s.win)).order 5

theorem driveAt_only (s : State) : OnlyChanges [.tb, .edge, .osr] s (driveAt s) :=
  ((State.at_only _ _).mono (by decide)).trans ((State.order_only _ _).mono (by decide))

theorem bootHeld_driveAt (s : State) : bootHeld (driveAt s) = bootHeld s := by
  have h : (driveAt s).osr.wiringBad = s.osr.wiringBad ∧ (driveAt s).osr.lock = s.osr.lock ∧ (driveAt s).osr.ringId = s.osr.ringId := by
    unfold driveAt State.order
    dsimp only
    split
    · exact ⟨rfl, rfl, rfl⟩
    · exact ⟨rfl, rfl, rfl⟩
  obtain ⟨hw, hl, hr⟩ := h
  unfold bootHeld State.ringId
  rw [hw, hl, hr]
  rfl

theorem execDrivePhase_eq (hc : s.clocked = true) (hp : s.lan.phase = 3) : execDrivePhase s = .next (driveEff4 (driveAt s)) :=
  congrArg Host.Outcome.next (if_pos (by rw [hc, hp]; rfl))

/-- Every part that the drive phase may change. -/
def driveParts : List Part := [.sys, .slot, .regs, .vpt, .smp, .lan, .tx, .net, .keep]

theorem driveEff4_only (s : State) : OnlyChanges driveParts s (driveEff4 s) :=
  (((actHolds_groups s).1.mono (by decide)).trans ((actReset_only _).mono (by decide))).trans ((driveEff4_drives s).only.mono (by decide))

theorem driveEff4_lan (s : State) : (actReset (actHolds s)).lan.refresh = s.lan.refresh ∧ (actReset (actHolds s)).lan.lanes = s.lan.lanes
    ∧ ∀ l, (actReset (actHolds s)).lan.mapOf l = s.lan.mapOf l := by
  have hl : (actHolds s).lan = s.lan := (actHolds_groups s).1 .lan (by decide)
  obtain ⟨b, hb⟩ := actReset_lan (actHolds s)
  rw [hl] at hb
  rw [hb]
  exact ⟨rfl, rfl, fun _ => rfl⟩

theorem driveEff4_sys (s : State) : (driveEff4 s).sys = (actReset (actHolds s)).sys := (driveEff4_drives s).only .sys (by decide)

theorem driveEff4_mode (s : State) : (driveEff4 s).sys.mode = (actHolds s).sys.mode := by
  rw [driveEff4_sys]
  exact (actReset_sys _).1

theorem driveEff4_groups (s : State) : (driveEff4 s).sys.grpHold = heldGroups s := by
  rw [driveEff4_sys, (actReset_sys _).2]
  exact (actHolds_groups s).2

/-- A leg is open only under the conditions of R253. -/
theorem driveEff4_leg (l : Fin 3) (h : (driveEff4 s).vpt.legs.getLsbD l.val = true) :
    (driveEff4 s).inMode [.run, .degraded] = true ∧ (driveEff4 s).sys.grpHold.getLsbD 0 = false ∧ (s.lan.mapOf l).bit 106 = true
      ∧ s.lan.lanes[l].stopped = false := by
  obtain ⟨-, hlanes, hmap⟩ := driveEff4_lan s
  rw [(driveEff4_drives s).legs, laneLeg] at h
  simp only [Bool.and_eq_true, Bool.not_eq_true'] at h
  obtain ⟨⟨⟨⟨⟨hd, -⟩, hb⟩, hg⟩, hm⟩, -⟩ := h
  rw [State.inMode, driveEff4_sys]
  refine ⟨hm, hg, (hmap l) ▸ hb, ?_⟩
  have hs := (List.mem_filter.1 (List.contains_iff_mem.1 hd)).2
  simp only [Bool.and_eq_true, Bool.not_eq_true'] at hs
  rw [hlanes] at hs
  exact hs.1

/-! ### A scan in which nothing acts -/

/-- No raising acts: nothing is taken. -/
def calm (s : State) : State := { driveAt s with sys := { s.sys with acts := [], pdnHold := false } }

theorem actHolds_driveAt (ha : s.sys.acts = []) (hp : s.sys.pdnHold = false) : actHolds (driveAt s) = calm s := actHolds_nil ha hp

theorem calm_keeps (s : State) : KeepsDrive s (calm s) := ⟨rfl, rfl, rfl, rfl, rfl, rfl, rfl, rfl, rfl⟩

theorem calmReset_keeps (s : State) : KeepsDrive s (actReset (calm s)) := (calm_keeps s).trans (actReset_keeps _)

theorem drstWhy_calm (s : State) : drstWhy (calm s) = drstWhy s := rfl

end Sys2Proof.Machine
end

section
/-! O42: the clauses of the drive phase. -/

namespace Sys2Proof.Machine

variable {s : State}

/-- Where nothing acts, mode, groups, and what the lanes send are those of the state before. -/
theorem calm_sends (ha : s.sys.acts = []) (hp : s.sys.pdnHold = false) :
    (driveEff4 (driveAt s)).sys.mode = s.sys.mode ∧ (driveEff4 (driveAt s)).sys.grpHold = s.sys.grpHold
      ∧ (∀ l ∈ drivers s, (∃ w, Tx.fdl l (sealFrame [BitVec.ofNat 32 (s.lan.refresh.toNat + 65536 * s.lan.eack.toNat),
          ((laneCmds s l).extractLsb' 0 20).setWidth 32, w]) ∈ (driveEff4 (driveAt s)).tx)
          ∧ ∀ c, s.lan.fldSend = some c → Tx.fdlConfig l (sealFrame c) ∈ (driveEff4 (driveAt s)).tx)
      ∧ ∀ l : Fin 3, (driveEff4 (driveAt s)).vpt.legs.getLsbD l.val = laneLeg s l := by
  have hd := driveEff4_drives (driveAt s)
  have hm := driveEff4_mode (driveAt s)
  have hg := (actHolds_groups (driveAt s)).2
  have hgr := driveEff4_groups (driveAt s)
  rw [actHolds_driveAt ha hp] at hd hm hg
  have hk := calmReset_keeps s
  obtain ⟨b, hb⟩ := actReset_lan (calm s)
  refine ⟨hm, hgr.trans hg.symm, fun l hl => ?_, fun l => (hd.legs l).trans (hk.laneLeg l)⟩
  obtain ⟨w, hw⟩ := laneFrames_sent (s := actReset (calm s)) (l := l) (by rwa [hk.drivers])
  refine ⟨⟨w, hd.sent _ (hw _ ?_)⟩, fun c hc => hd.sent _ (hw _ (config_mem_laneFrames w l (by rw [hb]; exact hc)))⟩
  have he := drive_mem_laneFrames (s := actReset (calm s)) w l
  rw [hk.laneCmds, hb] at he
  exact he

/-- A deliberate reset that nothing forbids sends the field reset frame on the link of every lane that drives. -/
theorem calm_reset (ha : s.sys.acts = []) (hp : s.sys.pdnHold = false) (hd : s.sys.drstScan = true) (hw : drstWhy s = 0) :
    (driveEff4 (driveAt s)).sys.drstDone = true
      ∧ ∀ l ∈ drivers s, Tx.fdlReset l (sealFrame [BitVec.ofNat 32 (0xA5 + 65536 * s.lan.refresh.toNat), 0, 0]) ∈ (driveEff4 (driveAt s)).tx := by
  have hdr := driveEff4_drives (driveAt s)
  have hs := driveEff4_sys (driveAt s)
  rw [actHolds_driveAt ha hp] at hdr hs
  have hk := calmReset_keeps s
  have hr : actReset (calm s) = resetDone (calm s) := actReset_eq_resetDone hd ((drstWhy_calm s).trans hw)
  rw [hr] at hdr hs hk
  refine ⟨by rw [hs]; rfl, fun l hl => ?_⟩
  obtain ⟨w, hw⟩ := laneFrames_sent (s := resetDone (calm s)) (l := l) (by rwa [hk.drivers])
  exact hdr.sent _ (hw _ (reset_mem_laneFrames (s := resetDone (calm s)) w l rfl))

/-- A deliberate reset that is refused shows its reason. -/
theorem calm_refused (ha : s.sys.acts = []) (hp : s.sys.pdnHold = false) (hd : s.sys.drstScan = true) (hw : drstWhy s ≠ 0) :
    (driveEff4 (driveAt s)).sys.drstScan = false ∧ (driveEff4 (driveAt s)).r R.SYS_REQ_STAT_DRST = 3
      ∧ (driveEff4 (driveAt s)).r R.SYS_REQ_STAT_DRST_WHY = drstWhy s := by
  have hs := driveEff4_sys (driveAt s)
  have hregs : (driveEff4 (driveAt s)).regs = (actReset (actHolds (driveAt s))).regs := (driveEff4_drives (driveAt s)).only .regs (by decide)
  rw [actHolds_driveAt ha hp] at hs hregs
  have hr := actReset_refused (s := calm s) hd (by rwa [drstWhy_calm])
  rw [drstWhy_calm] at hr
  have hlt : drstWhy s < 16 := by
    unfold drstWhy
    repeat' split
    all_goals decide
  refine ⟨by rw [hs, hr]; rfl, ?_, ?_⟩
  · rw [State.r, hregs, hr]
    exact drstResult_drst _ _ _
  · rw [State.r, hregs, hr]
    exact (drstResult_why _ _ _).trans (Nat.mod_eq_of_lt hlt)

theorem stops_of (h : s.sys.pdnHold = true ∨ ∃ h ∈ s.sys.acts, 3 ≤ h.sev.toNat) : stops s = true := by
  unfold stops
  rcases h with h | ⟨h, hm, h3⟩
  · rw [h, Bool.or_true, Bool.true_or]
  · rw [List.any_eq_true.2 ⟨h, hm, decide_eq_true h3⟩, Bool.or_true]

/-- Settles O42: the raisings act upon the state at the phase's instant, the deliberate reset upon what they leave, and the frames and
legs are those of the lanes' commands then; in a scan in which nothing acts these are the commands of the state before. -/
theorem drivePhase : Obligations.DrivePhase := by
  unfold Obligations.DrivePhase
  rintro s u hc hp rfl
  have ho := driveEff4_only (driveAt s)
  have hu := driveAt_only s
  have hd := driveEff4_drives (driveAt s)
  have hbh := bootHeld_driveAt s
  refine ⟨driveEff4 (driveAt s), execDrivePhase_eq hc hp, hd.phase, ho .tb (by decide), ?_, (ho .nv (by decide)).trans rfl,
    (ho .cis (by decide)).trans rfl, (ho .tkt (by decide)).trans rfl, (ho .fld (by decide)).trans rfl, fun l hl => driveEff4_leg l hl, ?_, ?_, ?_, ?_, ?_, ?_⟩
  · exact hd.refresh.trans (congrArg (· + 1) (driveEff4_lan (driveAt s)).1)
  · intro ha hpd
    obtain ⟨hm, hg, hsent, hlegs⟩ := calm_sends ha hpd
    exact ⟨hm, hg, hsent, fun h l => laneCmds_off (follows_false h) l, hlegs, calm_reset ha hpd, calm_refused ha hpd⟩
  · intro h hm h2
    rw [driveEff4_groups]
    exact heldGroups_new (s := driveAt s) hm h2
  · rw [driveEff4_groups]
    exact heldGroups_old (driveAt s)
  · intro hl
    rw [driveEff4_mode]
    exact actHolds_mode_of_lockdown (s := driveAt s) hl
  · rintro hb ⟨h, hm, h4⟩
    rw [driveEff4_mode]
    exact actHolds_locks (hbh.trans hb) (List.any_eq_true.2 ⟨h, hm, decide_eq_true h4⟩)
  · intro hb hl hlt hst
    rw [driveEff4_mode]
    have hlocks : locks (driveAt s) = false := List.any_eq_false.2 fun h hm => by
      rw [decide_eq_true_eq]
      exact Nat.not_le.2 (hlt h hm)
    refine actHolds_stops (hbh.trans hb) hl hlocks ?_
    refine stops_of (s := driveAt s) ?_
    rcases hst with h | ⟨h, hm, h3⟩
    · exact .inl h
    · exact .inr ⟨h, hm, by rw [h3]; decide⟩

end Sys2Proof.Machine
end

section
/-! What the comparison phase keeps: the words shown, the marks of the recurrence, and what the comparators decided. -/

namespace Sys2Proof.Machine

variable {s t : State}

/-- A register that neither shows the words of the scan or the known answers nor a status. -/
def wordless (o : Nat) : Bool := o != 0x40024 && o != 0x40028 && decide (o % 0x10000 < 0xF000)

/-- The lanes' parts alone have changed; the scan's phase, the recurrence, every status and the registers of the words stand. -/
structure KeepsMarks (s t : State) : Prop where
  only : OnlyChanges laneParts s t
  phase : t.lan.phase = s.lan.phase
  recur : t.keep.recur = s.keep.recur
  recurTicks : t.keep.recurTicks = s.keep.recurTicks
  raised : ∀ c, s.raised c = true → t.raised c = true
  verdictReg : mget t.regs 0x40024 = mget s.regs 0x40024
  answerReg : mget t.regs 0x40028 = mget s.regs 0x40028

namespace KeepsMarks

theorem refl (s : State) : KeepsMarks s s := ⟨.refl _ s, rfl, rfl, rfl, fun _ h => h, rfl, rfl⟩

theorem trans {u : State} (h : KeepsMarks s t) (h' : KeepsMarks t u) : KeepsMarks s u :=
  ⟨h.only.trans h'.only, h'.phase.trans h.phase, h'.recur.trans h.recur, h'.recurTicks.trans h.recurTicks,
    fun c hc => h'.raised c (h.raised c hc), h'.verdictReg.trans h.verdictReg, h'.answerReg.trans h.answerReg⟩

theorem of_regs_eq (ho : OnlyChanges laneParts s t) (hp : t.lan.phase = s.lan.phase) (hk : t.keep = s.keep) (hr : t.regs = s.regs) :
    KeepsMarks s t :=
  ⟨ho, hp, by rw [hk], by rw [hk], fun c h => by rwa [State.raised, hr], by rw [hr], by rw [hr]⟩

theorem of_lan {n : Lan} (h : n.phase = s.lan.phase) : KeepsMarks s { s with lan := n } :=
  of_regs_eq (by simp [onlyChanges_iff, laneParts]) h rfl rfl

/-- A write of a field of another register. -/
theorem of_rput {f : RegField} {v i j : Nat} (h : wordless (f.off i j) = true) : KeepsMarks s { s with regs := rput s.regs f v i j } := by
  simp only [wordless, Bool.and_eq_true, bne_iff_ne, decide_eq_true_eq] at h
  obtain ⟨⟨hv, ha⟩, hf⟩ := h
  refine ⟨by simp [onlyChanges_iff, laneParts, raiseParts], rfl, rfl, rfl, fun c hc => ?_, mget_rput_ne _ _ _ _ _ _ (Ne.symm hv),
    mget_rput_ne _ _ _ _ _ _ (Ne.symm ha)⟩
  rw [raised_congr_of_regsBut (l := [f.off i j]) ((RegsBut.refl _ s.regs).rput (List.mem_singleton.2 rfl))
    (by simpa using hf) c]
  exact hc

end KeepsMarks

/-- A raising leaves the recurrence as it is. -/
theorem raise_recur (c : Src) (d : Nat) (s : State) :
    (raise c d s).keep.recur = s.keep.recur ∧ (raise c d s).keep.recurTicks = s.keep.recurTicks := by
  have h : ∀ (r : Raising) (s : State), (raiseOne r s).keep.recur = s.keep.recur ∧ (raiseOne r s).keep.recurTicks = s.keep.recurTicks := by
    intro r s
    unfold raiseOne raiseRec
    dsimp only
    split
    · exact ⟨rfl, rfl⟩
    · exact ⟨rfl, rfl⟩
  unfold raise raiseWith
  dsimp only
  split
  · exact ⟨(h _ _).1.trans (h _ _).1, (h _ _).2.trans (h _ _).2⟩
  · exact h _ _

theorem KeepsMarks.of_raise (c : Src) (d : Nat) (s : State) : KeepsMarks s (raise c d s) :=
  ⟨(raise_only c d s).mono (by decide), by rw [raise_lan], (raise_recur c d s).1, (raise_recur c d s).2, fun _ h => raised_of_raise h,
    raise_regs_leaves _ _ _ (raiseLeaves_of rfl), raise_regs_leaves _ _ _ (raiseLeaves_of rfl)⟩

/-- With that, what the comparators decided stands. -/
structure KeepsScan (s t : State) : Prop where
  marks : KeepsMarks s t
  verdict : t.lan.verdict = s.lan.verdict
  forceOff : t.lan.forceOff = s.lan.forceOff
  ka : t.lan.ka = s.lan.ka

namespace KeepsScan

theorem refl (s : State) : KeepsScan s s := ⟨.refl s, rfl, rfl, rfl⟩

theorem trans {u : State} (h : KeepsScan s t) (h' : KeepsScan t u) : KeepsScan s u :=
  ⟨h.marks.trans h'.marks, h'.verdict.trans h.verdict, h'.forceOff.trans h.forceOff, h'.ka.trans h.ka⟩

theorem foldl {α : Type} {g : State → α → State} (h : ∀ s a, KeepsScan s (g s a)) (l : List α) (s : State) : KeepsScan s (l.foldl g s) :=
  List.foldlRecOn (motive := KeepsScan s) l g (refl s) fun _ ht a _ => ht.trans (h _ a)

theorem of_raise (c : Src) (d : Nat) (s : State) : KeepsScan s (raise c d s) :=
  ⟨.of_raise c d s, by rw [raise_lan], by rw [raise_lan], by rw [raise_lan]⟩

theorem of_raiseIf (b : Bool) (c : Src) (d : Nat) (s : State) : KeepsScan s (raiseIf b c d s) := by
  cases b
  · exact refl s
  · exact of_raise c d s

theorem of_rput {f : RegField} {v i j : Nat} (h : wordless (f.off i j) = true) : KeepsScan s { s with regs := rput s.regs f v i j } :=
  ⟨.of_rput h, rfl, rfl, rfl⟩

theorem of_stat (k i n : Nat) (s : State) : KeepsScan s (s.stat k i n) :=
  ⟨.of_regs_eq ((State.stat_only s k i n).mono (by decide)) rfl rfl rfl, rfl, rfl, rfl⟩

theorem of_lane (l : Fin 3) (f : Lane → Lane) (s : State) : KeepsScan s (s.lane l f) :=
  ⟨.of_regs_eq ((State.lane_only s l f).mono (by decide)) rfl rfl rfl, rfl, rfl, rfl⟩

theorem of_laneQuiet (l : Fin 3) (s : State) : KeepsScan s (laneQuiet l s) :=
  ⟨.of_regs_eq ((laneQuiet_only l s).mono (by decide)) rfl rfl rfl, rfl, rfl, rfl⟩

theorem of_retire (l : Fin 3) (cause : Nat) (s : State) : KeepsScan s (retire l cause s) := by
  refine ((of_lane l _ s).trans (of_laneQuiet l _)).trans (.trans (of_rput (f := R.LAN_RETIRE_CAUSE) (v := cause) (i := l.val) (j := 0) ?_)
    (of_stat _ _ _ _))
  exact (by decide : ∀ l : Fin 3, wordless (R.LAN_RETIRE_CAUSE.off l.val 0) = true) l

theorem of_lanResult (res lane : Nat) (s : State) : KeepsScan s (lanResult res lane s) :=
  ((of_rput (f := R.LAN_CSTAT_RESULT) (v := res) (i := 0) (j := 0) (by decide)).trans
    (of_rput (f := R.LAN_CSTAT_LANE) (v := lane) (i := 0) (j := 0) (by decide))).trans
    (of_rput (f := R.LAN_CSTAT_NEW) (v := 1) (i := 0) (j := 0) (by decide))

theorem of_joinGone (s : State) : KeepsScan s { s with lan := { s.lan with join := none } } := ⟨.of_lan rfl, rfl, rfl, rfl⟩

theorem of_joinEnd (cause : Nat) (s : State) : KeepsScan s (joinEnd cause s) := by
  unfold joinEnd
  split
  · exact refl s
  · next j _ =>
    have h : KeepsScan s (joinDropped j s) := (of_joinGone s).trans (of_lanResult _ _ _)
    dsimp only
    split
    · exact h.trans (of_retire _ _ _)
    · exact h

theorem of_joinFail (c : Src) (s : State) : KeepsScan s (joinFail c s) := by
  unfold joinFail
  refine .trans (.trans ?_ (of_joinEnd _ _)) (of_raise _ _ _)
  split
  · next j _ =>
    split
    · exact refl s
    · exact of_rput ((by decide : ∀ l : Fin 3, wordless (R.LAN_RETIRE_CAUSE.off l.val 0) = true) j.lane)
  · exact refl s

theorem of_secondFault (cond : Nat) (s : State) : KeepsScan s (secondFault cond s) :=
  .trans (.trans (t := { s with lan := { s.lan with secondNow := putBit s.lan.secondNow cond true } }) ⟨.of_lan rfl, rfl, rfl, rfl⟩
    (of_joinEnd 9 _)) (of_raiseIf _ _ _ _)

theorem of_laneFault (l : Fin 3) (cause : Nat) (c : Option Src) (s : State) : KeepsScan s (laneFault l cause c s) := by
  unfold laneFault
  dsimp only
  split
  · have h : KeepsScan s (match c with | some c => raise c 0 (retire l cause s) | none => retire l cause s) := by
      cases c with
      | none => exact of_retire l cause s
      | some c => exact (of_retire l cause s).trans (of_raise _ _ _)
    split
    · exact h.trans (of_secondFault _ _)
    · exact h
  · exact of_secondFault _ _

theorem of_retireMinority (w : BitVec 8) (l : Fin 3) (s : State) : KeepsScan s (retireMinority w l s) := by
  unfold retireMinority
  dsimp only
  repeat' split
  all_goals exact of_laneFault _ _ _ _

theorem of_blockReport (s : State) (e : Nat × BitVec 8 × Nat) : KeepsScan s (blockReport s e) := by
  unfold blockReport
  refine .trans ?_ (of_raise _ _ _)
  refine .trans (.trans (.trans (.trans (of_rput (f := R.LAN_BLK_FLT_NEW) (v := 1) (i := 0) (j := 0) (by decide))
    (of_rput (f := R.LAN_BLK_FLT_TYPE) (v := e.2.1.toNat) (i := 0) (j := 0) (by decide)))
    (of_rput (f := R.LAN_BLK_FLT_OUT) (v := e.2.2) (i := 0) (j := 0) (by decide)))
    (of_rput (f := R.LAN_BLK_FLT_BLOCK) (v := e.1) (i := 0) (j := 0) (by decide))) ?_
  exact of_rput (f := R.LAN_BLK_CNT_CNT) (i := 0) (j := 0) (by decide)

theorem of_countReactions (im : Image) (cmds : BitVec 21) (s : State) : KeepsScan s (countReactions im cmds s) := by
  unfold countReactions
  split
  · dsimp only
    split
    · exact refl s
    · exact of_stat _ _ _ _
  · exact refl s

end KeepsScan

end Sys2Proof.Machine
end

section
/-! What a verdict does: release, retirement, the end of a request; and the words of the comparators. -/

namespace Sys2Proof.Machine

variable {s t : State}

/-! ### What a verdict releases (R300, R558) -/

/-- The reports of fault outputs and the reaction times that a release brings. -/
def reported (im : Image) (a : Fin 3) (r : LaneResult) (s : State) : State :=
  countReactions im r.cmds ((blockReports im s.lan.outsPrev s.lan.lanes[a].outs).foldl blockReport s)

/-- The payloads that a lane's result carries. -/
def payOf (a : Fin 3) (s t : State) : Vector (BitVec 128) 32 := match s.lan.lanes[a].mid with | some e => e.pay | none => t.lan.pay

/-- What the majority's result leaves in the state of the modes and of the lanes. -/
def followed (a : Fin 3) (r : LaneResult) (s t : State) : State :=
  { t with sys := { t.sys with grpHold := t.sys.grpHold ||| r.holds },
           lan := { t.lan with pay := payOf a s t, cmdPrev := r.cmds, outsPrev := s.lan.lanes[a].outs } }

theorem release_some {im : Image} {a : Fin 3} {r : LaneResult} (hi : s.lan.image = some im) (hr : s.lan.lanes[a].res = some r) :
    release a s = followed a r s (reported im a r s) := by
  unfold release
  rw [hi, hr]
  rfl

theorem reported_keeps (im : Image) (a : Fin 3) (r : LaneResult) (s : State) : KeepsScan s (reported im a r s) :=
  (KeepsScan.foldl KeepsScan.of_blockReport _ s).trans (.of_countReactions _ _ _)

theorem countReactions_lan (im : Image) (cmds : BitVec 21) (s : State) : (countReactions im cmds s).lan = s.lan := by
  unfold countReactions
  split
  · dsimp only
    split
    · rfl
    · rfl
  · rfl

theorem blockReport_lan (s : State) (e : Nat × BitVec 8 × Nat) : (blockReport s e).lan = s.lan := by
  unfold blockReport
  exact raise_lan _ _ _

theorem reported_lan (im : Image) (a : Fin 3) (r : LaneResult) (s : State) : (reported im a r s).lan = s.lan :=
  (countReactions_lan _ _ _).trans
    (foldl_keeps (P := fun t => t.lan = s.lan) (fun t e ht => (blockReport_lan t e).trans ht) _ rfl)

theorem followed_keeps (a : Fin 3) (r : LaneResult) (s t : State) : KeepsScan t (followed a r s t) :=
  ⟨.of_regs_eq (by simp [onlyChanges_iff, laneParts, raiseParts, followed]) rfl rfl rfl, rfl, rfl, rfl⟩

/-- Everything that retirement rests on is as it was. -/
def KeepsPlaces (s t : State) : Prop := t.lan.run = s.lan.run ∧ t.lan.lanes = s.lan.lanes ∧ t.lan.join = s.lan.join

theorem release_keeps (a : Fin 3) (s : State) : KeepsScan s (release a s) ∧ KeepsPlaces s (release a s) := by
  cases hi : s.lan.image with
  | none =>
    have h : release a s = s := by unfold release; rw [hi]
    rw [h]
    exact ⟨.refl s, rfl, rfl, rfl⟩
  | some im =>
    cases hr : s.lan.lanes[a].res with
    | none =>
      have h : release a s = s := by unfold release; rw [hi, hr]
      rw [h]
      exact ⟨.refl s, rfl, rfl, rfl⟩
    | some r =>
      rw [release_some hi hr]
      have hl := reported_lan im a r s
      have hp : KeepsPlaces (reported im a r s) (followed a r s (reported im a r s)) := ⟨rfl, rfl, rfl⟩
      unfold KeepsPlaces at hp ⊢
      rw [hl] at hp
      exact ⟨(reported_keeps im a r s).trans (followed_keeps _ _ _ _), hp⟩

/-- What a verdict of a code releases. -/
def releasedBy (code : Nat) (s : State) : State := match codeMajor s code with | some a => release a s | none => s

theorem releasedBy_keeps (code : Nat) (s : State) : KeepsScan s (releasedBy code s) ∧ KeepsPlaces s (releasedBy code s) := by
  unfold releasedBy
  split
  · exact release_keeps _ s
  · exact ⟨.refl s, rfl, rfl, rfl⟩

/-! ### What a verdict does (R250, R259) -/

/-- What a code does behind the release. -/
def codeActs (w : BitVec 8) (s : State) : State :=
  match w.toNat % 16 with
  | 1 => retireMinority w 0 s
  | 2 => retireMinority w 1 s
  | 3 => retireMinority w 2 s
  | 4 => raise S.LAN_NOMAJ 0 s
  | 5 => secondFault 25 s
  | _ => s

theorem actVerdict_none (h : s.lan.verdict = none) : actVerdict s = s := by
  unfold actVerdict
  rw [h]

theorem actVerdict_some {w : BitVec 8} (h : s.lan.verdict = some w) : actVerdict s = codeActs w (releasedBy (w.toNat % 16) s) := by
  unfold actVerdict
  rw [h]
  rfl

theorem codeActs_keeps (w : BitVec 8) (s : State) : KeepsScan s (codeActs w s) := by
  unfold codeActs
  split
  · exact .of_retireMinority _ _ _
  · exact .of_retireMinority _ _ _
  · exact .of_retireMinority _ _ _
  · exact .of_raise _ _ _
  · exact .of_secondFault _ _
  · exact .refl s

theorem actVerdict_keeps (s : State) : KeepsScan s (actVerdict s) := by
  cases h : s.lan.verdict with
  | none =>
    rw [actVerdict_none h]
    exact .refl s
  | some w =>
    rw [actVerdict_some h]
    exact (releasedBy_keeps _ s).1.trans (codeActs_keeps _ _)

theorem judgeJoin_none (h : s.lan.join = none) : judgeJoin s = s := by
  unfold judgeJoin
  rw [h]

theorem judgeJoin_keeps (s : State) : KeepsScan s (judgeJoin s) := by
  unfold judgeJoin
  split
  · dsimp only
    split
    · split
      · exact .of_joinFail _ _
      · exact .refl s
    · split
      · exact .of_joinFail _ _
      · exact .refl s
  · exact .refl s

/-- Everything that follows the check of the words. -/
def judged (s : State) : State := judgeJoin (actVerdict s)

theorem judged_keeps (s : State) : KeepsScan s (judged s) := (actVerdict_keeps s).trans (judgeJoin_keeps _)

/-! ### The lane in the minority (R259, R264) -/

/-- Three lanes have a place, and no request has begun. -/
structure AllServe (s : State) : Prop where
  count : s.lan.svcCount = 3
  idle : ∀ j, s.lan.join = some j → j.zero = none

theorem allServe_of (h : voters s = [0, 1, 2]) : AllServe s := by
  have hall : ∀ l : Fin 3, s.lan.inService l = true := fun l =>
    (List.mem_filter.1 (by rw [show (List.finRange 3).filter s.lan.inService = [0, 1, 2] from h]; revert l; decide : l ∈ (List.finRange 3).filter s.lan.inService)).2
  refine ⟨?_, fun j hj => ?_⟩
  · unfold Lan.svcCount Lan.svc
    rw [hall, hall, hall]
    rfl
  · have hs := hall j.lane
    unfold Lan.inService at hs
    rw [hj] at hs
    simp only [bne_self_eq_false, Bool.or_false, Bool.and_eq_true, Option.isNone_iff_eq_none] at hs
    exact hs.2

theorem AllServe.of_places (h : AllServe s) (hk : KeepsPlaces s t) : AllServe t := by
  obtain ⟨hrun, hlanes, hjoin⟩ := hk
  refine ⟨?_, fun j hj => h.idle j (hjoin ▸ hj)⟩
  have hs : t.lan.svc = s.lan.svc := by
    unfold Lan.svc Lan.inService
    rw [hrun, hlanes, hjoin]
  rw [Lan.svcCount, hs]
  exact h.count

/-- A request that has not begun ends without a retirement. -/
theorem joinEnd_idle (hz : ∀ j, s.lan.join = some j → j.zero = none) (cause : Nat) :
    (joinEnd cause s).lan.join = none ∧ (joinEnd cause s).lan.lanes = s.lan.lanes := by
  unfold joinEnd
  split
  · next hj => exact ⟨hj, rfl⟩
  · next j hj =>
    rw [hz j hj, Option.isSome_none, Bool.and_false, if_neg Bool.false_ne_true]
    exact ⟨rfl, rfl⟩

theorem secondFault_idle (hz : ∀ j, s.lan.join = some j → j.zero = none) (cond : Nat) :
    (secondFault cond s).lan.join = none ∧ (secondFault cond s).lan.lanes = s.lan.lanes := by
  unfold secondFault
  dsimp only
  rw [raiseIf_lan]
  exact joinEnd_idle (s := { s with lan := { s.lan with secondNow := putBit s.lan.secondNow cond true } }) hz 9

/-- A retirement with its source. -/
def retiredWith (l : Fin 3) (cause : Nat) (c : Option Src) (s : State) : State :=
  match c with | some c => raise c 0 (retire l cause s) | none => retire l cause s

theorem retiredWith_lan (l : Fin 3) (cause : Nat) (c : Option Src) (s : State) : (retiredWith l cause c s).lan = (retire l cause s).lan := by
  cases c with
  | none => rfl
  | some c => exact raise_lan _ _ _

theorem laneFault_three (h : s.lan.svcCount = 3) (l : Fin 3) (cause : Nat) (c : Option Src) :
    laneFault l cause c s = if s.lan.join.isSome then secondFault (8 * l.val + cause) (retiredWith l cause c s) else retiredWith l cause c s :=
  if_pos h

/-- A fault of a lane where three serve retires that lane alone, and no request is left. -/
theorem laneFault_retires (h : AllServe s) (l : Fin 3) (cause : Nat) (c : Option Src) : (laneFault l cause c s).lan.join = none
    ∧ ∀ m : Fin 3, (laneFault l cause c s).lan.lanes[m].retired = if m = l then true else s.lan.lanes[m].retired := by
  have hl := retiredWith_lan l cause c s
  have hjoin : (retiredWith l cause c s).lan.join = s.lan.join := by rw [hl]; rfl
  have hret : ∀ m : Fin 3, (retiredWith l cause c s).lan.lanes[m].retired = if m = l then true else s.lan.lanes[m].retired := fun m => by
    rw [hl]
    exact retire_retired l m cause s
  rw [laneFault_three h.count]
  by_cases hn : s.lan.join.isSome = true
  · rw [if_pos hn]
    obtain ⟨hj, hk⟩ := secondFault_idle (s := retiredWith l cause c s) (fun j hj => h.idle j (hjoin ▸ hj)) (8 * l.val + cause)
    exact ⟨hj, fun m => (congrArg (fun v : Vector Lane 3 => v[m].retired) hk).trans (hret m)⟩
  · rw [if_neg hn]
    exact ⟨hjoin.trans (Option.not_isSome_iff_eq_none.1 hn), hret⟩

theorem retireMinority_laneFault (w : BitVec 8) (l : Fin 3) (s : State) : ∃ cause c, retireMinority w l s = laneFault l cause c s := by
  unfold retireMinority
  dsimp only
  repeat' split
  all_goals exact ⟨_, _, rfl⟩

theorem codeActs_minority {w : BitVec 8} {m : Fin 3} (h : w.toNat % 16 = m.val + 1) (s : State) : codeActs w s = retireMinority w m s := by
  unfold codeActs
  rw [h]
  fin_cases m <;> rfl

/-- The lane in the minority of three is retired, and no other. -/
theorem judged_minority {w : BitVec 8} {m : Fin 3} (hv : s.lan.verdict = some w) (hw : w.toNat % 16 = m.val + 1) (h3 : voters s = [0, 1, 2]) :
    (judged s).lan.lanes[m].retired = true ∧ ∀ l : Fin 3, l ≠ m → (judged s).lan.lanes[l].retired = s.lan.lanes[l].retired := by
  obtain ⟨-, hp⟩ := releasedBy_keeps (w.toNat % 16) s
  obtain ⟨cause, c, hc⟩ := retireMinority_laneFault w m (releasedBy (w.toNat % 16) s)
  have hact : actVerdict s = laneFault m cause c (releasedBy (w.toNat % 16) s) := by rw [actVerdict_some hv, codeActs_minority hw, hc]
  obtain ⟨hj, hr⟩ := laneFault_retires ((allServe_of h3).of_places hp) m cause c
  have hjudged : judged s = laneFault m cause c (releasedBy (w.toNat % 16) s) := by rw [judged, hact, judgeJoin_none hj]
  obtain ⟨-, hlanes, -⟩ := hp
  rw [hjudged]
  refine ⟨(hr m).trans (if_pos rfl), fun l hl => (hr l).trans ((if_neg hl).trans ?_)⟩
  rw [hlanes]

theorem judged_nomaj {w : BitVec 8} (hv : s.lan.verdict = some w) (hw : w.toNat % 16 = 4) (hao : s.pwr.aoOk = true) :
    (judged s).raised S.LAN_NOMAJ = true := by
  have hact : actVerdict s = raise S.LAN_NOMAJ 0 (releasedBy 4 s) := by 
    rw [actVerdict_some hv, codeActs, hw]
    rfl
  refine (judgeJoin_keeps (actVerdict s)).marks.raised _ ?_
  rw [hact]
  exact raised_raise _ _ ((State.blockUp_congr ((releasedBy_keeps 4 s).1.marks.only .pwr (by decide)) 4).trans hao)

/-! ### The words of the comparators (R247, R248) -/

theorem sees_self (blind a : BitVec 192) : sees blind a a = false := by simp [sees]

theorem getLsbD_zero192 (i : Nat) : (0 : BitVec 192).getLsbD i = false := BitVec.getLsbD_zero

/-- The one bit in which the pair of the pattern check differs. -/
theorem getLsbD_oneAt {k i : Nat} (hi : i < 192) : (((1 <<< k : Nat)) : BitVec 192).getLsbD i = decide (i = k) := by
  have h : (((1 <<< k : Nat)) : BitVec 192) = BitVec.ofNat 192 (2 ^ k) := by rw [Nat.one_shiftLeft]; rfl
  rw [h, BitVec.getLsbD_ofNat, decide_eq_true hi, Bool.true_and, Nat.testBit_two_pow]
  exact decide_eq_decide.2 eq_comm

theorem sees_oneAt {k : Nat} (hk : k < 192) (blind : BitVec 192) : sees blind 0 ((1 <<< k : Nat) : BitVec 192) = !blind.getLsbD k := by
  have hbits : ∀ i < 192, (((0 : BitVec 192) ^^^ ((1 <<< k : Nat) : BitVec 192)) &&& ~~~blind).getLsbD i = (decide (i = k) && !blind.getLsbD i) :=
    fun i hi => by
      rw [BitVec.getLsbD_and, BitVec.getLsbD_xor, getLsbD_oneAt hi, BitVec.getLsbD_not, getLsbD_zero192, Bool.false_xor, decide_eq_true hi,
        Bool.true_and]
  unfold sees
  cases hb : blind.getLsbD k with
  | true =>
    refine bne_eq_false_iff_eq.2 (BitVec.eq_of_getLsbD_eq fun i hi => ?_)
    rw [hbits i hi, getLsbD_zero192]
    by_cases he : i = k
    · rw [he, hb, Bool.not_true, Bool.and_false]
    · rw [decide_eq_false he, Bool.false_and]
  | false =>
    refine bne_iff_ne.2 fun he => ?_
    have := hbits k hk
    rw [he, hb, decide_eq_true rfl, getLsbD_zero192] at this
    exact absurd this (by decide)

/-- The pattern check passes where the comparator is not blind in the position of the scan. -/
theorem patternOk_eq (blind : BitVec 192) (n : BitVec 32) : patternOk blind n = !blind.getLsbD (n.toNat % 192) := by
  unfold patternOk
  rw [sees_self, sees_oneAt (Nat.mod_lt _ (by decide))]
  rfl

theorem finding_code (blind : BitVec 192) (s : State) : (finding blind s).code ≤ 5 := by
  unfold finding
  dsimp only
  split
  · split
    · exact Nat.zero_le _
    · split
      · exact Nat.le_of_ble_eq_true rfl
      · split
        · exact Nat.le_of_ble_eq_true rfl
        · split
          · exact Nat.le_of_ble_eq_true rfl
          · exact Nat.le_of_ble_eq_true rfl
  · split
    · exact Nat.zero_le _
    · exact Nat.le_refl _
  · exact Nat.le_of_ble_eq_true rfl

/-- What is found where all three lanes have a place. -/
theorem finding_three (blind : BitVec 192) (h3 : voters s = [0, 1, 2]) : finding blind s = ⟨0, none, some 0⟩
    ∨ finding blind s = ⟨1, some 0, some 1⟩ ∨ finding blind s = ⟨2, some 1, some 0⟩ ∨ finding blind s = ⟨3, some 2, some 0⟩
    ∨ finding blind s = ⟨4, none, none⟩ := by
  unfold finding
  rw [h3]
  dsimp only
  split
  · exact .inl rfl
  · split
    · exact .inr (.inl rfl)
    · split
      · exact .inr (.inr (.inl rfl))
      · split
        · exact .inr (.inr (.inr (.inl rfl)))
        · exact .inr (.inr (.inr (.inr rfl)))

/-- A minority lane has its own code. -/
theorem finding_minor {m : Fin 3} (h3 : voters s = [0, 1, 2]) (h : (finding blind s).minor = some m) : (finding blind s).code = m.val + 1 := by
  rcases finding_three (s := s) blind h3 with he | he | he | he | he <;> rw [he] at h ⊢ <;> cases h <;> rfl

/-- A word of its fields. -/
def wordOf (c : Nat) (p j d a : Bool) : BitVec 8 := BitVec.ofNat 8 (c + 16 * b2n p + 32 * b2n j + 64 * b2n d + 128 * b2n a)

theorem wordOf_fields (c : Nat) (hc : c ≤ 5) (p j d a : Bool) :
    (wordOf c p j d a).toNat % 16 = c ∧ (wordOf c p j d a).getLsbD 4 = p := by
  have h : ∀ c : Fin 6, ∀ p j d a : Bool, (wordOf c.val p j d a).toNat % 16 = c.val ∧ (wordOf c.val p j d a).getLsbD 4 = p := by decide
  exact h ⟨c, by omega⟩ p j d a

theorem verdictWord_code (blind : BitVec 192) (s : State) : (verdictWord blind s).toNat % 16 = (finding blind s).code :=
  (wordOf_fields _ (finding_code blind s) _ _ _ _).1

theorem verdictWord_pattern (blind : BitVec 192) (s : State) : (verdictWord blind s).getLsbD 4 = !blind.getLsbD (s.lan.scanNo.toNat % 192) :=
  (wordOf_fields _ (finding_code blind s) _ _ _ _).2.trans (patternOk_eq _ _)

end Sys2Proof.Machine
end

section
/-! O41: the comparison phase. -/

namespace Sys2Proof.Machine

variable {s t : State}

/-! ### The words are shown and checked (R247-R249, R265-R267) -/

/-- The words of the scan are shown, and its phase is the third. -/
def shown (x y : BitVec 8) (s : State) : State := { s with regs := verdictRegs x y s, lan := { s.lan with phase := 3 } }

/-- The word that a comparator forms; none where it is out of service. -/
def wordFormed (served : Bool) (blind : BitVec 192) (flip : BitVec 8) (s : State) : BitVec 8 :=
  if served then verdictWord blind s ^^^ flip else 0

theorem compareEff_eq (bx by' : BitVec 192) (x y : BitVec 8) (fx fy : Bool) (s : State) : compareEff ⟨[], bx, by', x, y, fx, fy⟩ s =
    judged (checkWords (wordFormed s.lan.cmpX bx x s) (wordFormed s.lan.cmpY by' y s)
      (knownAnswers ⟨[], bx, by', x, y, fx, fy⟩ (shown (wordFormed s.lan.cmpX bx x s) (wordFormed s.lan.cmpY by' y s) s))) := rfl

theorem wordFormed_sound (s : State) : wordFormed true 0 0 s = verdictWord 0 s := BitVec.xor_zero

theorem knownAnswers_none {io : CmpIn} (h : s.lan.ka = none) : knownAnswers io s = s := by
  unfold knownAnswers
  rw [h]

/-- The two words agree, or a single comparator's word stands. -/
def agreed (w : BitVec 8) (s : State) : State := { s with lan := { s.lan with verdict := some w } }

theorem agreed_marks (w : BitVec 8) (s : State) : KeepsMarks s (agreed w s) := .of_lan rfl

/-- The outputs of the scan are OFF. -/
def outputsOff (s : State) : State := { s with lan := { s.lan with forceOff := true } }

/-- Two words that a pair of comparators may act on. -/
def wordsGood (x y : BitVec 8) : Bool := decide (x = y) && x.getLsbD 4 && y.getLsbD 4 && decide (x.toNat % 16 ≤ 5)

theorem checkWords_both (hx : s.lan.cmpX = true) (hy : s.lan.cmpY = true) (x y : BitVec 8) :
    checkWords x y s = if wordsGood x y then agreed x s else comparatorFault s := by
  unfold checkWords
  rw [hx, hy]
  rfl

theorem checkWords_x (hx : s.lan.cmpX = true) (hy : s.lan.cmpY = false) (x y : BitVec 8) :
    checkWords x y s = if (x ^^^ verdictWord 0 s) &&& 0x3F = 0 then agreed x s else raise S.CMP_KAP 0 (outputsOff s) := by
  unfold checkWords
  rw [hx, hy]
  rfl

theorem checkWords_y (hx : s.lan.cmpX = false) (hy : s.lan.cmpY = true) (x y : BitVec 8) :
    checkWords x y s = if (y ^^^ verdictWord 0 s) &&& 0x3F = 0 then agreed y s else raise S.CMP_KAP 0 (outputsOff s) := by
  unfold checkWords
  rw [hx, hy]
  rfl

theorem checkWords_neither (hx : s.lan.cmpX = false) (hy : s.lan.cmpY = false) (x y : BitVec 8) :
    checkWords x y s = secondFault 26 (outputsOff s) := by
  unfold checkWords
  rw [hx, hy]
  rfl

/-- The check of the words keeps the marks, and outputs that are OFF stay so. -/
theorem checkWords_keeps (x y : BitVec 8) (s : State) :
    KeepsMarks s (checkWords x y s) ∧ (s.lan.forceOff = true → (checkWords x y s).lan.forceOff = true) := by
  have hagreed : ∀ w, KeepsMarks s (agreed w s) := fun w => agreed_marks w s
  have hoff : KeepsMarks s (outputsOff s) := .of_lan rfl
  have hone : ∀ w, KeepsMarks s (if (w ^^^ verdictWord 0 s) &&& 0x3F = 0 then agreed w s else raise S.CMP_KAP 0 (outputsOff s))
      ∧ (s.lan.forceOff = true → (if (w ^^^ verdictWord 0 s) &&& 0x3F = 0 then agreed w s else raise S.CMP_KAP 0 (outputsOff s)).lan.forceOff = true) := by
    intro w
    split
    · exact ⟨hagreed w, fun h => h⟩
    · exact ⟨hoff.trans (.of_raise _ _ _), fun _ => by rw [raise_lan]; rfl⟩
  cases hx : s.lan.cmpX <;> cases hy : s.lan.cmpY
  · rw [checkWords_neither hx hy]
    have h := KeepsScan.of_secondFault 26 (outputsOff s)
    exact ⟨hoff.trans h.marks, fun _ => h.forceOff⟩
  · rw [checkWords_y hx hy]
    exact hone y
  · rw [checkWords_x hx hy]
    exact hone x
  · rw [checkWords_both hx hy]
    split
    · exact ⟨hagreed x, fun h => h⟩
    · exact ⟨.of_lan rfl, fun _ => rfl⟩

/-! ### The registers of the words -/

/-- The word register holds the two words and the scan's number. -/
theorem shown_words (x y : BitVec 8) (s : State) : (shown x y s).r R.LAN_VERDICT_X = x.toNat ∧ (shown x y s).r R.LAN_VERDICT_Y = y.toNat
    ∧ (shown x y s).r R.LAN_VERDICT_SCAN = s.lan.scanNo.toNat % 65536 := by
  have hfold : mget (shown x y s).regs 0x40024 = mget (rput (rput (rput s.regs R.LAN_VERDICT_X x.toNat) R.LAN_VERDICT_Y y.toNat)
      R.LAN_VERDICT_SCAN (s.lan.scanNo.toNat % 65536)) 0x40024 := by
    refine List.foldlRecOn (motive := fun m => mget m 0x40024 = _) _ _ rfl fun m hm l _ => ?_
    split
    · rw [mget_rput_ne _ _ _ _ _ _ ((by decide : ∀ l : Fin 3, 0x40024 ≠ R.LAN_DIG_HI_DIG.off l.val 0) l),
        mget_rput_ne _ _ _ _ _ _ ((by decide : ∀ l : Fin 3, 0x40024 ≠ R.LAN_DIG_LO_DIG.off l.val 0) l)]
      exact hm
    · exact hm
  have hr : ∀ f : RegField, f.off 0 0 = 0x40024 → (shown x y s).r f = rget (rput (rput (rput s.regs R.LAN_VERDICT_X x.toNat)
      R.LAN_VERDICT_Y y.toNat) R.LAN_VERDICT_SCAN (s.lan.scanNo.toNat % 65536)) f 0 0 := by
    intro f hf
    rw [State.r, rget, rget, mread, mread, hf, hfold]
  rw [hr _ rfl, hr _ rfl, hr _ rfl]
  refine ⟨?_, ?_, ?_⟩
  · rw [rget_rput_apart _ _ rfl, rget_rput_apart _ _ rfl, rget_rput_same _ _ _ _ _ (by decide)]
    exact Nat.mod_eq_of_lt x.isLt
  · rw [rget_rput_apart _ _ rfl, rget_rput_same _ _ _ _ _ (by decide)]
    exact Nat.mod_eq_of_lt y.isLt
  · rw [rget_rput_same _ _ _ _ _ (by decide)]
    exact Nat.mod_mod _ _

/-! ### The instant of the phase -/

/-- The instant of the comparison phase. -/
def compareAt (s : State) : State := (s.at (s.lan.boundary + 20 * us + s.win)).order 5

theorem compareAt_only (s : State) : OnlyChanges [.tb, .edge, .osr] s (compareAt s) :=
  ((State.at_only _ _).mono (by decide)).trans ((State.order_only _ _).mono (by decide))

theorem execComparePhase_eq (io : CmpIn) (hc : s.clocked = true) (hp : s.lan.phase = 2) :
    execComparePhase io s = .next (compareEff io (compareAt s)) := congrArg Host.Outcome.next (if_pos (by rw [hc, hp]; rfl))

theorem shown_only (x y : BitVec 8) (s : State) : OnlyChanges laneParts s (shown x y s) := by
  simp [onlyChanges_iff, laneParts, raiseParts, shown]

/-! ### The known answers (R265, R266) -/

/-- The known answers are over: what the last one leaves, before CMP.XY. -/
def answersOver (m : Map Word) (s : State) : State :=
  { s with regs := rput m R.LAN_CMP_STAT_KA_DONE 1, lan := { s.lan with ka := none, forceOff := true } }

/-- CMP.XY is raised, and its recurrence is watched. -/
def recurSet (s : State) : State := { raise S.CMP_XY 0 s with keep := { (raise S.CMP_XY 0 s).keep with recur := true, recurTicks := 0 } }

theorem knownAnswers_last (h : s.lan.ka = some 1) : knownAnswers ⟨[], 0, 0, 0, 0, false, false⟩ s = recurSet (answersOver s.regs s) := by
  have hx : (s.lan.cmpX && (false || (0 : BitVec 192) != 0)) = false := Bool.and_false _
  have hy : (s.lan.cmpY && (false || (0 : BitVec 192) != 0)) = false := Bool.and_false _
  unfold knownAnswers
  rw [h]
  dsimp only
  rw [hx, hy]
  rfl

theorem recurSet_lan (s : State) : (recurSet s).lan = s.lan := raise_lan _ _ _

theorem recurSet_answers (m : Map Word) (hao : s.pwr.aoOk = true) : (recurSet (answersOver m s)).raised S.CMP_XY = true
    ∧ (recurSet (answersOver m s)).r R.LAN_CMP_STAT_KA_DONE = 1 ∧ (recurSet (answersOver m s)).lan.forceOff = true := by
  refine ⟨raised_raise (s := answersOver m s) S.CMP_XY 0 hao, ?_, by rw [recurSet_lan]; rfl⟩
  exact (State.r_congr (s := answersOver m s) (raise_regs_leaves _ _ _ (raiseLeaves_of rfl))).trans (rget_rput_same _ _ _ _ _ (by decide))

/-! ### The clauses -/

theorem wordsGood_sound (s : State) : wordsGood (verdictWord 0 s) (verdictWord 0 s) = true := by
  have h4 : (verdictWord 0 s).getLsbD 4 = true := by rw [verdictWord_pattern, getLsbD_zero192]; rfl
  unfold wordsGood
  rw [decide_eq_true rfl, h4, verdictWord_code, decide_eq_true (finding_code 0 s)]
  rfl

/-- Both comparators sound: the verdict is that of the lanes' results. -/
theorem agreedClause (hc : s.clocked = true) (hp : s.lan.phase = 2) (hao : s.pwr.aoOk = true) (hx : s.lan.cmpX = true) (hy : s.lan.cmpY = true)
    (hk : s.lan.ka = none) :
    ∃ t, exec (.comparePhase ⟨[], 0, 0, 0, 0, false, false⟩) s = .next t ∧ t.lan.phase = 3
      ∧ t.tb = (compareAt s).tb ∧ t.lan.verdict = some (verdictWord 0 s)
      ∧ t.r R.LAN_VERDICT_X = (verdictWord 0 s).toNat ∧ t.r R.LAN_VERDICT_Y = (verdictWord 0 s).toNat
      ∧ t.r R.LAN_VERDICT_SCAN = s.lan.scanNo.toNat % 65536
      ∧ (∀ m : Fin 3, voters s = [0, 1, 2] → (finding 0 s).minor = some m →
          t.lan.lanes[m].retired = true ∧ ∀ l : Fin 3, l ≠ m → t.lan.lanes[l].retired = s.lan.lanes[l].retired)
      ∧ (voters s = [0, 1, 2] → (finding 0 s).code = 4 → t.raised S.LAN_NOMAJ = true)
      ∧ t.nv = s.nv ∧ t.cis = s.cis ∧ t.tkt = s.tkt ∧ t.dsc = s.dsc := by
  let w := verdictWord 0 s
  let v := agreed w (shown w w (compareAt s))
  have heff : compareEff ⟨[], 0, 0, 0, 0, false, false⟩ (compareAt s) = judged v := by
    rw [compareEff_eq, (show (compareAt s).lan.cmpX = true from hx), (show (compareAt s).lan.cmpY = true from hy), wordFormed_sound,
      knownAnswers_none (by exact hk), checkWords_both (by exact hx) (by exact hy)]
    exact congrArg judged (if_pos (wordsGood_sound s))
  have hj := judged_keeps v
  have ho : OnlyChanges laneParts (compareAt s) (judged v) :=
    ((shown_only w w _).trans (agreed_marks w _).only).trans hj.marks.only
  obtain ⟨hX, hY, hS⟩ := shown_words w w (compareAt s)
  have hreg : mget (judged v).regs 0x40024 = mget (shown w w (compareAt s)).regs 0x40024 := hj.marks.verdictReg
  refine ⟨judged v, (execComparePhase_eq _ hc hp).trans (congrArg _ heff), hj.marks.phase, ho .tb (by decide), hj.verdict,
    (State.r_congr (by exact hreg)).trans hX, (State.r_congr (by exact hreg)).trans hY, (State.r_congr (by exact hreg)).trans hS,
    fun m h3 hm => ?_, fun h3 h4 => ?_, ho .nv (by decide), ho .cis (by decide), ho .tkt (by decide), ho .dsc (by decide)⟩
  · exact judged_minority (s := v) (w := w) rfl ((verdictWord_code 0 s).trans (finding_minor h3 hm)) h3
  · exact judged_nomaj (s := v) (w := w) rfl ((verdictWord_code 0 s).trans h4) hao

/-- Words that are unequal, or one that fails its pattern, are not acted on. -/
theorem wordsGood_upset {blind : BitVec 192} {x : BitVec 8}
    (h : blind = 0 ∧ x ≠ 0 ∨ blind.getLsbD (s.lan.scanNo.toNat % 192) = true ∧ x = 0) :
    wordsGood (verdictWord blind s ^^^ x) (verdictWord 0 s) = false := by
  unfold wordsGood
  rcases h with ⟨rfl, hx⟩ | ⟨hb, rfl⟩
  · have hne : verdictWord 0 s ^^^ x ≠ verdictWord 0 s := fun he => hx (by
      have := congrArg (verdictWord 0 s ^^^ ·) he
      simpa [← BitVec.xor_assoc] using this)
    rw [decide_eq_false hne]
    rfl
  · have h4 : (verdictWord blind s ^^^ 0).getLsbD 4 = false := by
      have hxor : verdictWord blind s ^^^ 0 = verdictWord blind s := BitVec.xor_zero
      rw [hxor, verdictWord_pattern, hb]
      rfl
    rw [h4, Bool.and_false]
    rfl

theorem unequalClause (hc : s.clocked = true) (hp : s.lan.phase = 2) (hx : s.lan.cmpX = true) (hy : s.lan.cmpY = true) (hk : s.lan.ka = none)
    {blind : BitVec 192} {x : BitVec 8} (hv : s.lan.verdict = none)
    (h : blind = 0 ∧ x ≠ 0 ∨ blind.getLsbD (s.lan.scanNo.toNat % 192) = true ∧ x = 0) :
    ∃ t, exec (.comparePhase ⟨[], blind, 0, x, 0, false, false⟩) s = .next t ∧ t.lan.phase = 3 ∧ t.lan.verdict = none
      ∧ t.lan.forceOff = true ∧ t.lan.ka = some 2 ∧ (s.lan.join = none → t.lan.lanes = s.lan.lanes) := by
  let v := comparatorFault (shown (verdictWord blind s ^^^ x) (verdictWord 0 s) (compareAt s))
  have heff : compareEff ⟨[], blind, 0, x, 0, false, false⟩ (compareAt s) = judged v := by
    rw [compareEff_eq, (show (compareAt s).lan.cmpX = true from hx), (show (compareAt s).lan.cmpY = true from hy), wordFormed_sound,
      knownAnswers_none (by exact hk), checkWords_both (by exact hx) (by exact hy)]
    exact congrArg judged (if_neg fun he => Bool.false_ne_true ((wordsGood_upset h).symm.trans he))
  have hka : v.lan.ka = some 2 := by
    have : v.lan.ka = some (s.lan.ka.getD 2) := rfl
    rw [this, hk]
    rfl
  have hj := judged_keeps v
  refine ⟨judged v, (execComparePhase_eq _ hc hp).trans (congrArg _ heff), hj.marks.phase, hj.verdict.trans hv, hj.forceOff, hj.ka.trans hka,
    fun hjoin => ?_⟩
  rw [judged, actVerdict_none (by exact hv), judgeJoin_none (by exact hjoin)]
  rfl

theorem answersClause (hc : s.clocked = true) (hp : s.lan.phase = 2) (hao : s.pwr.aoOk = true) (hk : s.lan.ka = some 1) :
    ∃ t, exec (.comparePhase ⟨[], 0, 0, 0, 0, false, false⟩) s = .next t ∧ t.raised S.CMP_XY = true
      ∧ t.keep.recur = true ∧ t.keep.recurTicks = 0 ∧ t.lan.forceOff = true ∧ t.r R.LAN_CMP_STAT_KA_DONE = 1 := by
  refine ⟨_, execComparePhase_eq _ hc hp, ?_⟩
  rw [compareEff_eq, knownAnswers_last (by exact hk)]
  generalize wordFormed (compareAt s).lan.cmpX 0 0 (compareAt s) = x
  generalize wordFormed (compareAt s).lan.cmpY 0 0 (compareAt s) = y
  obtain ⟨hr, hd, hf⟩ := recurSet_answers (s := shown x y (compareAt s)) (shown x y (compareAt s)).regs hao
  have hrec : (recurSet (answersOver (shown x y (compareAt s)).regs (shown x y (compareAt s)))).keep.recur = true
      ∧ (recurSet (answersOver (shown x y (compareAt s)).regs (shown x y (compareAt s)))).keep.recurTicks = 0 := ⟨rfl, rfl⟩
  generalize recurSet (answersOver (shown x y (compareAt s)).regs (shown x y (compareAt s))) = v at hr hd hf hrec
  obtain ⟨hm, hoff⟩ := checkWords_keeps x y v
  have hj := judged_keeps (checkWords x y v)
  have hall := hm.trans hj.marks
  exact ⟨hall.raised _ hr, hall.recur.trans hrec.1, hall.recurTicks.trans hrec.2, hj.forceOff.trans (hoff hf),
    (State.r_congr hall.answerReg).trans hd⟩

theorem singleClause (hc : s.clocked = true) (hp : s.lan.phase = 2) (hao : s.pwr.aoOk = true) (hx : s.lan.cmpX = true) (hy : s.lan.cmpY = false)
    (hk : s.lan.ka = none) :
    (∃ t, exec (.comparePhase ⟨[], 0, 0, 0, 0, false, false⟩) s = .next t ∧ t.lan.verdict = some (verdictWord 0 s)
      ∧ t.lan.forceOff = s.lan.forceOff)
    ∧ (∀ x : BitVec 8, x &&& 0x3F ≠ 0 → ∃ t, exec (.comparePhase ⟨[], 0, 0, x, 0, false, false⟩) s = .next t
      ∧ t.lan.verdict = s.lan.verdict ∧ t.raised S.CMP_KAP = true ∧ t.lan.forceOff = true) := by
  have heff : ∀ x : BitVec 8, compareEff ⟨[], 0, 0, x, 0, false, false⟩ (compareAt s) = judged
      (if x &&& 0x3F = 0 then agreed (verdictWord 0 s ^^^ x) (shown (verdictWord 0 s ^^^ x) 0 (compareAt s))
        else raise S.CMP_KAP 0 (outputsOff (shown (verdictWord 0 s ^^^ x) 0 (compareAt s)))) := by
    intro x
    have hxor : (verdictWord 0 s ^^^ x) ^^^ verdictWord 0 s = x := by
      rw [BitVec.xor_comm (verdictWord 0 s) x, BitVec.xor_assoc, BitVec.xor_self, BitVec.xor_zero]
    rw [compareEff_eq, (show (compareAt s).lan.cmpX = true from hx), (show (compareAt s).lan.cmpY = false from hy), knownAnswers_none (by exact hk),
      checkWords_x (by exact hx) (by exact hy)]
    refine congrArg judged ?_
    show (if ((verdictWord 0 s ^^^ x) ^^^ verdictWord 0 s) &&& 0x3F = 0 then _ else _) = _
    rw [hxor]
    rfl
  refine ⟨?_, fun x hne => ?_⟩
  · refine ⟨_, (execComparePhase_eq _ hc hp).trans (congrArg _ ((heff 0).trans (congrArg judged (if_pos rfl)))), ?_, ?_⟩
    · refine (judged_keeps _).verdict.trans ?_
      exact congrArg some BitVec.xor_zero
    · exact (judged_keeps _).forceOff
  · refine ⟨_, (execComparePhase_eq _ hc hp).trans (congrArg _ ((heff x).trans (congrArg judged (if_neg hne)))), ?_, ?_, ?_⟩
    · refine (judged_keeps _).verdict.trans ?_
      rw [raise_lan]
      rfl
    · exact (judged_keeps _).marks.raised _ (raised_raise _ _ hao)
    · refine (judged_keeps _).forceOff.trans ?_
      rw [raise_lan]
      rfl

theorem neitherClause (hc : s.clocked = true) (hp : s.lan.phase = 2) (hao : s.pwr.aoOk = true) (hx : s.lan.cmpX = false) (hy : s.lan.cmpY = false)
    (hk : s.lan.ka = none) (hh : s.lan.secondHeld.getLsbD 26 = false) (hn : s.lan.secondNow.getLsbD 26 = false) :
    ∃ t, exec (.comparePhase ⟨[], 0, 0, 0, 0, false, false⟩) s = .next t ∧ t.lan.verdict = s.lan.verdict
      ∧ t.raised S.LAN_SECOND = true ∧ t.lan.forceOff = true := by
  let v := outputsOff (shown 0 0 (compareAt s))
  have heff : compareEff ⟨[], 0, 0, 0, 0, false, false⟩ (compareAt s) = judged (secondFault 26 v) := by
    rw [compareEff_eq, (show (compareAt s).lan.cmpX = false from hx), (show (compareAt s).lan.cmpY = false from hy), knownAnswers_none (by exact hk),
      checkWords_neither (by exact hx) (by exact hy)]
    rfl
  have hs := KeepsScan.of_secondFault 26 v
  have hj := judged_keeps (secondFault 26 v)
  have hraised : (secondFault 26 v).raised S.LAN_SECOND = true := by
    refine raised_raiseIf ?_ _ _ ?_
    · rw [(show v.lan.secondHeld.getLsbD 26 = false from hh), (show v.lan.secondNow.getLsbD 26 = false from hn)]
      rfl
    · exact (State.blockUp_congr (joinEnd_only 9 _ .pwr (by decide)) 4).trans hao
  exact ⟨_, (execComparePhase_eq _ hc hp).trans (congrArg _ heff), hj.verdict.trans hs.verdict, hj.marks.raised _ hraised,
    hj.forceOff.trans hs.forceOff⟩

/-- Settles O41: what the words decide by `checkWords`, and everything behind it keeps the decision. -/
theorem comparisonPhase : Obligations.ComparisonPhase := by
  unfold Obligations.ComparisonPhase
  rintro s u hc hp hao rfl
  exact ⟨fun hx hy hk => ⟨agreedClause hc hp hao hx hy hk, fun blind x hv h => unequalClause hc hp hx hy hk hv h⟩,
    fun hk => answersClause hc hp hao hk, fun hx hy hk => singleClause hc hp hao hx hy hk,
    fun hx hy hk hh hn => neitherClause hc hp hao hx hy hk hh hn⟩

end Sys2Proof.Machine
end

section
/-! O40: the agreement of the ring's words where a single lane has a place (R242, R434). -/

namespace Sys2Proof.Machine

/-- The word 0 of a safety word from device 1, one hop away, of scan 0. -/
def peerWord0 : Word := BitVec.ofNat 32 (5 + 16 + 256)

/-- A safety word of device 1: its three lanes sent the word 7. -/
def peerFrame : Frame :=
  peerWord0 :: (List.range 3).flatMap fun l => [7, ringCheck peerWord0 7 l]

/-- A device of a ring of two whose lanes scan, of which one alone has a place; the safety word of the other device has arrived. -/
def loneLane : State :=
  { State.reset with
    pwr := { State.reset.pwr with aoOk := true, refOk := true, on := 0x1ff }
    lan := { State.reset.lan with
      run := true
      lanes := Vector.ofFn fun l : Fin 3 => { retired := decide (l ≠ 0) }
      ringIn := [(1, peerFrame)] }
    regs := rput State.reset.regs R.OSR_ID_NDEV 1 }

/-- The minority scans of lane A after a command. -/
def minorityAfter (o : Host.Outcome State Fault Refusal) : Nat :=
  match o with
  | .next t => t.r R.LAN_IN_CNT_MINORITY
  | _ => 0

theorem minorityAfter_loneLane : minorityAfter (exec (.ringAgree ⟨[], 0, 0⟩) loneLane) = 1 := by decide +kernel

/-- Refutes O40: where one lane alone has a place no word is agreed, so its copy of a word that has come differs from the agreed map; the
lane is in a minority, which LAN_IN_CNT counts, though the statement has the agreement change nothing but the lanes and the ring. -/
theorem not_scanOpeningAndEvaluation : ¬ Obligations.ScanOpeningAndEvaluation := by
  unfold Obligations.ScanOpeningAndEvaluation
  rintro ⟨-, -, hring⟩
  obtain ⟨-, hagree, -⟩ := hring loneLane _ (by decide) (by decide)
  obtain ⟨t, hexec, hkeeps⟩ := hagree rfl
  obtain ⟨honly, -⟩ := hkeeps (.inl (by decide))
  have hregs : t.regs = loneLane.regs := honly .regs (by decide)
  have hcount := minorityAfter_loneLane
  rw [hexec, minorityAfter, State.r, hregs] at hcount
  exact absurd hcount (by decide)

end Sys2Proof.Machine
end
